-- ==== Sys2Proof/Word.lean ====
section
/-! DEFINITION. The words and small carriers every block shares: bytes, times, the three channels, the six analog
inputs, the four tiers, and the span of elapsed time a command brings with it. Quantities that the manual counts are `Nat` or `Int`;
bit vectors stand only for what the manual treats as bits (bytes of a line, stored words, masks). -/

namespace Sys2Proof

/-- One byte of a serial line or of a payload. -/
abbrev Byte := BitVec 8

namespace Machine

/-- The three ground-motion channels, in the order that matters everywhere (00_scope.md, Names). -/
inductive Channel where
  | z
  | n
  | e
  deriving DecidableEq, Repr

/-- One value for each of the channels Z, N and E. -/
structure Tri (α : Type) where
  z : α
  n : α
  e : α
  deriving DecidableEq, Repr

def Tri.get {α : Type} (t : Tri α) : Channel → α
  | .z => t.z
  | .n => t.n
  | .e => t.e

def Tri.set {α : Type} (t : Tri α) (c : Channel) (a : α) : Tri α :=
  match c with
  | .z => { t with z := a }
  | .n => { t with n := a }
  | .e => { t with e := a }

def Tri.replicate {α : Type} (a : α) : Tri α := ⟨a, a, a⟩

/-- The channels in the order Z, N, E. -/
def channels : List Channel := [.z, .n, .e]

/-- A time of day: seconds since the station epoch and nanoseconds within the second (00_scope.md, Quantities). -/
structure Time where
  sec : Nat
  ns : Nat
  deriving DecidableEq, Repr

/-- The four tiers of PT, from the highest (09_power, 9.1). -/
inductive Tier where
  | full
  | conserve
  | survive
  | hibernate
  deriving DecidableEq, Repr

end Machine

/-- One value for each analog input AIN0 to AIN5 (07_battery, 7.1). -/
structure Six (α : Type) where
  vbat : α
  ibat : α
  tbat : α
  tenc : α
  vsrc : α
  ihtr : α
  deriving DecidableEq, Repr

/-- How much each crystal has run since the command before: cycles of the 40 MHz main crystal and ticks of the 32,768 Hz
watch crystal. Every command brings one, so that a command happens at an instant (assumption log, entry 1). -/
structure Elapsed where
  main : Nat
  watch : Nat
  deriving DecidableEq, Repr

/-- One bit of the page array (256 pages of 512 storage words of 72 bits) that an outside upset has turned over. -/
structure Upset where
  page : Fin 256
  word : Fin 512
  bit : Fin 72
  deriving DecidableEq, Repr

/-- The raw values of one conversion of the six inputs; the converter has 12 bits, so each is 0 to 4,095 (7.1). -/
abbrev RawScan := Six (Fin 4096)

end Sys2Proof
end

