-- ==== Sys2Proof/Syntax.lean ====
section
/-! DEFINITION. The commands of the block: one constructor for each row of spec/opcode_table.json, in the table's order.
Every command brings the time elapsed since the one before it (`d`); a command of a serial line brings the bytes that
arrive, a command that reads an input line brings the level it finds there, and a request of the station link brings
nothing more, since its payload already stands in the link's pending list (log entries 1 to 3). -/

namespace Sys2Proof

inductive Instr where
  /-- POWER_ON_RESET (R23, R184): supply comes up; `raw` is what the start-up scan converts. -/
  | powerOnReset (d : Elapsed) (raw : RawScan)
  /-- PIN_RESET (R24, R185): RESET low; `raw` is what the start-up scan converts. -/
  | pinReset (d : Elapsed) (raw : RawScan)
  /-- REFP_PULSE (R4): rising edge on REFP. -/
  | refpPulse (d : Elapsed)
  /-- LABEL_RECORD (R3): bytes arriving on RL_RX without an over-long gap. -/
  | labelRecord (d : Elapsed) (bytes : List Byte)
  /-- LABEL_GAP_TIMEOUT (R3). -/
  | labelGapTimeout (d : Elapsed)
  /-- REFERENCE_LOSS (R10). -/
  | referenceLoss (d : Elapsed)
  /-- WHOLE_SECOND (R2, R11, R12). -/
  | wholeSecond (d : Elapsed)
  /-- WATCH_WHOLE_SECOND (R12). -/
  | watchWholeSecond (d : Elapsed)
  /-- SAMPLE_STROBE (R15). -/
  | sampleStrobe (d : Elapsed)
  /-- DIGITIZER_FRAME (R25, R28): bytes arriving on DL_RX without an over-long gap. -/
  | digitizerFrame (d : Elapsed) (bytes : List Byte)
  /-- DIGITIZER_GAP_TIMEOUT (R25). -/
  | digitizerGapTimeout (d : Elapsed)
  /-- FILTER_PASS (R36, R46): one pass of the oldest waiting delivery. -/
  | filterPass (d : Elapsed)
  /-- AUXTRIG_EDGE (R64): an edge on AUXTRIG, rising or falling. -/
  | auxtrigEdge (d : Elapsed) (rising : Bool)
  /-- PATROL_READ (R90): `upsets` are the bits of the array that have turned over since the last read of it. -/
  | patrolRead (d : Elapsed) (upsets : List Upset)
  /-- RAIL_WINDOW_MARK (R124). -/
  | railWindowMark (d : Elapsed)
  /-- UPLINK_DECISION (R122). -/
  | uplinkDecision (d : Elapsed)
  /-- ISSUE_INSTANT (R123): `mbf` is the level of MBF. -/
  | issueInstant (d : Elapsed) (mbf : Bool)
  /-- TRANSMIT_SENT (R127). -/
  | transmitSent (d : Elapsed)
  /-- TAKEN (R127): the bytes of a TAKEN modem frame with this handle and body arrive on UL_RX. -/
  | taken (d : Elapsed) (handle : Byte) (body : List Byte)
  /-- REFUSED (R127): the bytes of a REFUSED modem frame arrive. -/
  | refused (d : Elapsed) (handle : Byte) (body : List Byte)
  /-- DONE (R128): the bytes of a DONE modem frame arrive; its body is the result byte. -/
  | done (d : Elapsed) (handle : Byte) (body : List Byte)
  /-- MODEM_FRAME_DISCARD (R126, R203): any other bytes arriving on UL_RX. -/
  | modemFrameDiscard (d : Elapsed) (bytes : List Byte)
  /-- MODEM_GAP_TIMEOUT (R126). -/
  | modemGapTimeout (d : Elapsed)
  /-- AWAIT_TAKEN_TIMEOUT (R127). -/
  | awaitTakenTimeout (d : Elapsed)
  /-- AWAIT_DONE_TIMEOUT (R128). -/
  | awaitDoneTimeout (d : Elapsed)
  /-- HOUSEKEEPING_SCAN (R138): `raw` is what the scan converts. -/
  | housekeepingScan (d : Elapsed) (raw : RawScan)
  /-- HEATER_DEFER_DEADLINE (R162). -/
  | heaterDeferDeadline (d : Elapsed)
  /-- LAST_GASP_LIMIT (R174). -/
  | lastGaspLimit (d : Elapsed)
  /-- SETTLE_END (R18, R176). -/
  | settleEnd (d : Elapsed)
  /-- GRACE_DEADLINE (R177). -/
  | graceDeadline (d : Elapsed)
  /-- DOZE_DEADLINE (R178). -/
  | dozeDeadline (d : Elapsed)
  /-- CYCLE_END (R181). -/
  | cycleEnd (d : Elapsed)
  /-- HOST_SILENCE_EXPIRY (R181). -/
  | hostSilenceExpiry (d : Elapsed)
  /-- LINK_FRAME (R186, R187): bytes arriving on HL_RX, each with a good stop bit, without an over-long gap. -/
  | linkFrame (d : Elapsed) (bytes : List Byte)
  /-- LINK_GAP_TIMEOUT (R186). -/
  | linkGapTimeout (d : Elapsed)
  /-- REPLY_START (R190): `hrdy` is the level of HRDY. -/
  | replyStart (d : Elapsed) (hrdy : Bool)
  /-- REPLY_COMPLETE (R190). -/
  | replyComplete (d : Elapsed)
  /-- UNKNOWN_KIND (R189): the next request is of a kind the controller does not know. -/
  | unknownKind (d : Elapsed)
  | ident (d : Elapsed)
  | status (d : Elapsed)
  | attnRead (d : Elapsed)
  | attnMask (d : Elapsed)
  /-- RESTART with scope LINK (R197). -/
  | restartLink (d : Elapsed)
  /-- RESTART with scope DETECTION (R70). -/
  | restartDetection (d : Elapsed)
  | settingsSave (d : Elapsed)
  /-- SETTINGS_SAVE_COMPLETE (R200): `agrees` says whether the read-back agrees with the snapshot. -/
  | settingsSaveComplete (d : Elapsed) (agrees : Bool)
  | settingsDefaults (d : Elapsed)
  | timeGet (d : Elapsed)
  | timeSet (d : Elapsed)
  | clockReport (d : Elapsed)
  | driftRead (d : Elapsed)
  | driftClear (d : Elapsed)
  | filterLoad (d : Elapsed)
  | filterSwap (d : Elapsed)
  | channelGet (d : Elapsed)
  | clipClear (d : Elapsed)
  | detectSet (d : Elapsed)
  | detectArm (d : Elapsed)
  | eventForce (d : Elapsed)
  | storeSet (d : Elapsed)
  | storeReport (d : Elapsed)
  | eventList (d : Elapsed)
  | eventGet (d : Elapsed)
  /-- WAVE_READ (R106): `upsets` as for PATROL_READ. -/
  | waveRead (d : Elapsed) (upsets : List Upset)
  | eventPin (d : Elapsed)
  | eventUnpin (d : Elapsed)
  | eventRelease (d : Elapsed)
  | eventDelete (d : Elapsed)
  | alertPost (d : Elapsed)
  | alertList (d : Elapsed)
  | alertCancel (d : Elapsed)
  | resultsRead (d : Elapsed)
  | uplinkSet (d : Elapsed)
  | powerGet (d : Elapsed)
  /-- BATTERY SET with part LIMITS (R149, R150). -/
  | batterySetLimits (d : Elapsed)
  /-- BATTERY SET with part CALIBRATION. -/
  | batterySetCalibration (d : Elapsed)
  /-- BATTERY SET with part TABLE. -/
  | batterySetTable (d : Elapsed)
  | heaterSet (d : Elapsed)
  | heaterFaultClear (d : Elapsed)
  | tierSet (d : Elapsed)
  | hostSleep (d : Elapsed)
  /-- LINK_FRAME_DISCARD (R186): one byte arrives on HL_RX; `stopLow` says that its stop bit was low. -/
  | linkFrameDiscard (d : Elapsed) (byte : Byte) (stopLow : Bool)
  /-- DIGITIZER_FRAMING_ERROR (R25): a byte with a low stop bit on DL_RX. -/
  | digitizerFramingError (d : Elapsed)
  /-- MODEM_FRAMING_ERROR (R126): a byte with a low stop bit on UL_RX. -/
  | modemFramingError (d : Elapsed)
  /-- SUPPLY_LOSS (R201). -/
  | supplyLoss (d : Elapsed)
  deriving DecidableEq, Repr

end Sys2Proof
end

