-- ==== Sys2Proof/WellFormed.lean ====
section
/-! DEFINITION. Which commands can be sent. Most operands cannot be ill-formed because their types admit only what the lines can
carry (a raw value below 4,096, an address inside the page array); what is left is the length of a modem frame's body. -/

namespace Sys2Proof

/-- The body of a modem frame has 0 to 48 bytes (11.6); its length byte could not stand for a longer one. -/
def modemBodyFits (body : List Byte) : Bool := body.length ≤ 48

/-- A command that one of the lines can carry. -/
def Instr.wellFormed : Instr → Bool
  | .taken _ _ body => modemBodyFits body
  | .refused _ _ body => modemBodyFits body
  | .done _ _ body => modemBodyFits body
  | _ => true

end Sys2Proof
end

