-- ==== Sys2Proof/Decode.lean ====
section
/-! DEFINITION. The decoder of command words. spec/opcode_table.json gives no row any bits ("fields": [] throughout, and no
"fixed"), so no word spells a command. The frames of the serial lines are decoded by the block's own receivers
(Machine/TimeBase.lean, SampleOps.lean, UplinkOps.lean and LinkOps.lean). -/

namespace Sys2Proof

/-- The command a word of the opcode table spells: none, since the table gives no row an encoding. -/
def decodeTableWord (_nbits _w : Nat) : Option Instr := none

end Sys2Proof
end

