-- ==== Sys2Proof/Config.lean ====
section
/-! DEFINITION. What an implementation fixes and what the manual leaves open: constants without a body. Nothing in Lean
can evaluate them, so a claim that holds, holds whatever they are. -/

namespace Sys2Proof

/-- How the check of a storage word comes out (R87). -/
inductive EccClass where
  | clean
  | single
  | uncorrectable
  deriving DecidableEq, Repr, Inhabited

/-- What the check bits of a storage word with more than two errors show: nothing wrong, one bit taken to be wrong, or an
uncorrectable word. -/
inductive EccVerdict where
  | clean
  | single (bit : Fin 72)
  | uncorrectable
  deriving DecidableEq, Repr, Inhabited

/-- What the code's check of a storage word answers: its class and the two halves it returns. -/
structure EccAnswer where
  cls : EccClass
  first : BitVec 32
  second : BitVec 32
  deriving DecidableEq, Repr, Inhabited

namespace Config

/-- The 32-bit serial of the device, "fixed for each device at manufacture" (R195). Log entry 8. -/
opaque serial : BitVec 32

/-- A value the manual does not state; the n-th use of a free value reads `freeValue n`. Log entry 7. -/
opaque freeValue : Nat → Nat

/-- What a seconds count of 4,294,967,296 or more, which the manual's range excludes, reads as. Log entry 6. -/
opaque secondsPastEnd : Nat → Nat

/-- What the check makes of a storage word with more than two bits in error: "classed by what its check bits show" (R87),
and the code is not given. The arguments are the two halves as written and the pattern of bits in error. Log entry 9. -/
opaque eccManyErrors : BitVec 32 → BitVec 32 → BitVec 72 → EccVerdict

end Config

end Sys2Proof
end

