-- ==== Sys2Proof/Machine/Types.lean ====
section
/-! DEFINITION. The types of the thirteen blocks' state, block by block, in the manual's own shape (spec/00_scope.md,
Functional blocks). Types only: what happens to them stands in the files beside this one. -/

namespace Sys2Proof.Machine

/-! ## Time base (spec/01) -/

/-- The five grades (1.7). -/
inductive Grade where
  | unset
  | tracking
  | locked
  | hold
  | free
  deriving DecidableEq, Repr

/-- The clock TB runs on: the main clock, the watch clock, or the watch clock during the settle before the return to the
main clock, with the end of the settle on the running count of watch ticks (R17, R18). -/
inductive ClockInUse where
  | main
  | watch
  | settle (due : Nat)
  deriving DecidableEq, Repr

/-- The watch-time counter: a whole second and 0 to 32,767 ticks (R2). -/
structure WatchCounter where
  sec : Nat
  ticks : Nat
  deriving DecidableEq, Repr

/-- The counters that elapsed time moves. `time` and `frac` are disciplined time, `frac` in billionths of a nanosecond
(R1); `watch` is the watch-time counter (R2); `mainRun` and `watchRun` are the running counts of main-crystal cycles and
watch ticks against which every timer of the blocks is kept (log entry 4). -/
structure Clocks where
  time : Time
  frac : Nat
  watch : WatchCounter
  mainRun : Nat
  watchRun : Nat
  deriving DecidableEq, Repr

/-- The held label (R3). -/
structure Label where
  sec : Nat
  valid : Bool
  arrival : Time
  deriving DecidableEq, Repr

/-- One bin of the drift table (R13): v in ppb, n from 0 to 65,535. -/
structure DriftBin where
  v : Int
  n : Nat
  deriving DecidableEq, Repr

abbrev DriftTable := Vector DriftBin 16

structure TimeBase where
  clock : ClockInUse
  grade : Grade
  u : Nat
  integral : Int
  steer : Int
  drift : DriftTable
  /-- the bytes of a label record in progress; empty while the receiver waits for a start byte -/
  labelRx : List Byte
  label : Option Label
  /-- the time recorded for the last accepted pulse (R7, R8) -/
  lastPulse : Option Time
  /-- θ of the last used pulse (R6) -/
  lastTheta : Option Int
  /-- the disciplined time at which the loss timer last restarted; none while it does not run (R10) -/
  lossTimer : Option Time
  goodRun : Nat
  rejectRun : Nat
  usedCount : Nat
  rejectedCount : Nat
  outOfWindowCount : Nat
  unlabelledCount : Nat
  stepCount : Nat
  lastStrobe : Option Time
  /-- the time to which the last step, TIME SET or return from the watch clock has moved disciplined time: the next strobe is at
  a boundary after it (R16), and an instant before it that the move has carried time past is not reached (R122) -/
  movedTo : Option Time
  strobeSeq : Nat
  stepPending : Bool
  freeRecovery : Bool
  deriving DecidableEq, Repr

/-! ## Sample interface and filter engine (spec/02) -/

/-- A sample word (R31). -/
structure SampleWord where
  value : Int
  gap : Bool
  ovr : Bool
  step : Bool
  heat : Bool
  pad : Bool
  deriving DecidableEq, Repr

/-- An open acquisition window (R26). -/
structure Window where
  time : Time
  seq : Nat
  step : Bool
  deriving DecidableEq, Repr

structure SampleInterface where
  /-- the bytes of a digitizer frame in progress -/
  rx : List Byte
  window : Option Window
  aligned : Bool
  offset : Nat
  mismatchRun : Nat
  held : Tri Int
  stepCarry : Bool
  heatMark : Bool
  goodCount : Nat
  missingCount : Nat
  crcGapCount : Nat
  seqGapCount : Nat
  unexpectedCount : Nat
  alignCount : Nat
  deriving DecidableEq, Repr

inductive BankName where
  | a
  | b
  deriving DecidableEq, Repr

/-- One channel's filter context (R35). A bank is its coefficients c[0] to c[n−1]; its tap count is their number. -/
structure FilterContext where
  active : BankName
  swapPending : Bool
  bankA : List Int
  bankB : List Int
  delay : Vector Int 32
  w : Fin 32
  y : Int
  sat : Bool
  clip : Bool
  passes : Nat
  deriving DecidableEq, Repr

/-- A delivery waiting for the datapath, with the channels still to pass (R33, R38). -/
structure Delivery where
  time : Time
  items : List (Channel × SampleWord)
  deriving DecidableEq, Repr

structure FilterEngine where
  ctx : Tri FilterContext
  waiting : List Delivery
  deriving DecidableEq, Repr

/-! ## Trigger unit (spec/03) -/

inductive ChannelState where
  | disabled
  | warmup
  | quiet
  | triggered
  deriving DecidableEq, Repr

inductive DetectorState where
  | disarmed
  | idle
  | open
  | post
  deriving DecidableEq, Repr

/-- The last characteristic value of a channel (R46 step 3). -/
structure LastCf where
  cf : Nat
  time : Time
  delivery : Nat
  deriving DecidableEq, Repr

/-- The trigger fields that CHANNEL GET reports, as saved at the end of the channel's last completed pass (R42, R46). -/
structure TriggerReport where
  sta : Int
  lta : Int
  state : ChannelState
  onTime : Option Time
  warmCount : Nat
  deriving DecidableEq, Repr

structure TriggerChannel where
  sta : Int
  lta : Int
  state : ChannelState
  onTime : Option Time
  onDelivery : Option Nat
  warmCount : Nat
  startPending : Bool
  last : Option LastCf
  saved : TriggerReport
  deriving DecidableEq, Repr

inductive AuxEdge where
  | off
  | rise
  | fall
  | both
  deriving DecidableEq, Repr

/-- The twelve detection parameters (3.6). -/
structure DetectParams where
  ks : Nat
  kl : Nat
  onRatio : Nat
  offRatio : Nat
  ltaFloor : Nat
  vote : Nat
  pre : Nat
  post : Nat
  cap : Nat
  strongLevel : Nat
  quietWindow : Nat
  auxEdge : AuxEdge
  deriving DecidableEq, Repr

structure TriggerUnit where
  chans : Tri TriggerChannel
  armed : Bool
  det : DetectorState
  current : Option Nat
  onset : Time
  onsetDelivery : Nat
  postEnd : Nat
  auxPending : Bool
  /-- the quiet-window end, a delivery number; none when no window is set or the window has passed -/
  quietEnd : Option Nat
  delivery : Nat
  lastSeen : Option Time
  params : DetectParams
  deriving DecidableEq, Repr

/-! ## Waveform store (spec/04) -/

abbrev PageId := Fin 256

/-- A page's state with its owner (R73, R74). -/
inductive PageState where
  | free
  | ring (c : Channel)
  | event (num : Nat) (c : Channel)
  | faultySet
  deriving DecidableEq, Repr

structure Page where
  state : PageState
  filling : Bool
  first : Option Time
  count : Nat
  correctable : Nat
  faulty : Bool
  deriving DecidableEq, Repr

/-- A storage word: the two halves as WS wrote them, and the pattern of its 72 stored bits that are in error since (bits 0
to 31 the first half, 32 to 63 the second, 64 to 71 the check bits). Log entry 9. -/
structure StorageWord where
  first : BitVec 32
  second : BitVec 32
  err : BitVec 72
  deriving DecidableEq, Repr

inductive Route where
  | off
  | ring
  | starved
  | event (num : Nat)
  | stopped
  deriving DecidableEq, Repr

/-- One channel's part of WS: its route, its ring's completed pages (oldest first), the filling page of its route, its
pair buffer and its dropped-sample count. -/
structure StoreChannel where
  route : Route
  ring : List PageId
  filling : Option PageId
  pair : Option (BitVec 32)
  dropped : Nat
  deriving DecidableEq, Repr

/-- The page lists of one event, a filling page included as the last of its list. -/
structure EventPages where
  num : Nat
  lists : Tri (List PageId)
  deriving DecidableEq, Repr

/-- The page array as pairs of a storage-word address (page · 512 + word) and the word there, in canonical form. -/
abbrev PageArray := List (Nat × StorageWord)

structure WaveStore where
  array : PageArray
  pages : Vector Page 256
  chans : Tri StoreChannel
  events : List EventPages
  cursor : Option PageId
  /-- the expiry of the patrol timer on the running count of main-crystal cycles; none while it does not run -/
  patrolDue : Option Nat
  interval : Nat
  scrub : Bool
  uncorrectable : Nat
  deriving DecidableEq, Repr

/-! ## Event table (spec/05) -/

inductive RecordState where
  | open
  | post
  | closed
  deriving DecidableEq, Repr

/-- The alert state of a record, and the outcome of a result (R94, R130). -/
inductive AlertState where
  | none
  | queued
  | inFlight
  | sent
  | failed
  | displaced
  | cancelled
  deriving DecidableEq, Repr

/-- The six alert classes, highest first (6.1). -/
inductive AlertClass where
  | q1
  | q2
  | pwr
  | time
  | host
  | soh
  deriving DecidableEq, Repr

/-- The nine flags of a record (R95). -/
structure EventFlags where
  strong : Bool
  merged : Bool
  truncated : Bool
  timeStepped : Bool
  incomplete : Bool
  reclaimed : Bool
  damaged : Bool
  external : Bool
  heaterSwitched : Bool
  deriving DecidableEq, Repr

/-- A peak part (R61). -/
structure Peak where
  peak : Nat
  time : Option Time
  deriving DecidableEq, Repr

/-- An event record (R94). Its waveform extents are read from WS's page lists (R82). -/
structure EventRecord where
  number : Nat
  state : RecordState
  onset : Time
  grade : Grade
  u : Nat
  tier : Tier
  endTime : Option Time
  trigger : Tri Bool
  peaks : Tri (Option Peak)
  flags : EventFlags
  hostPin : Bool
  released : Bool
  alert : AlertState
  alertClass : Option AlertClass
  deriving DecidableEq, Repr

/-- The records in creation order, the event number counter and the host pin count. -/
structure EventTable where
  records : List EventRecord
  counter : Nat
  pins : Nat
  deriving DecidableEq, Repr

/-! ## Alert scheduler (spec/06) -/

inductive Subject where
  | event (num : Nat)
  | tier (t : Tier)
  | grade (g : Grade)
  | none
  deriving DecidableEq, Repr

/-- An entry of the alert queue (R112). The queue is a list in creation order, so an entry's place in the list is its
creation order. -/
structure Entry where
  id : Nat
  cls : AlertClass
  subject : Subject
  created : Time
  text : List Byte
  inFlight : Bool
  attempts : Nat
  deriving DecidableEq, Repr

/-- The stage of an attempt, the two waits with their ends on the running count of main-crystal cycles (R127, R128). -/
inductive Stage where
  | sending
  | awaitTaken (due : Nat)
  | awaitDone (due : Nat)
  deriving DecidableEq, Repr

/-- The attempt in flight (R125). `frame` is the uplink frame it belongs to, `sent` the TRANSMIT on UL_TX while SENDING. -/
structure Attempt where
  id : Nat
  handle : Nat
  stage : Stage
  upgrade : Bool
  followOn : Option Subject
  frame : Nat
  sent : List Byte
  deriving DecidableEq, Repr

/-- An entry of the recent-results list (R130). -/
structure Result where
  id : Nat
  cls : AlertClass
  subject : Subject
  outcome : AlertState
  attempts : Nat
  time : Time
  deriving DecidableEq, Repr

/-- The last uplink frame decided, with its slot, its issue instant and whether that instant has been taken (R122, R123). -/
structure Decided where
  frame : Nat
  slot : Nat
  issue : Time
  taken : Bool
  deriving DecidableEq, Repr

/-- The modem receiver (R126): hunting, after a first sync byte, or inside a frame with the bytes from the kind on. -/
inductive ModemRx where
  | hunt
  | sync
  | frame (got : List Byte)
  deriving DecidableEq, Repr

structure UplinkParams where
  ownSlot : Nat
  stationId : Nat
  sohInterval : Nat
  deriving DecidableEq, Repr

structure AlertScheduler where
  queue : List Entry
  attempt : Option Attempt
  /-- the recent-results list, oldest first -/
  results : List Result
  outcomeCount : Nat
  idCounter : Nat
  handleCounter : Nat
  rx : ModemRx
  decided : Option Decided
  /-- the open rail windows, each by the number of its uplink frame -/
  windows : List Nat
  lastSoh : Option Nat
  params : UplinkParams
  attemptsStarted : Nat
  mbfSkips : Nat
  strayCount : Nat
  deriving DecidableEq, Repr

/-! ## Housekeeping monitor and charge accounting (spec/07) -/

/-- A reading (R140). -/
structure Reading where
  value : Option Int
  valid : Bool
  run : Nat
  deriving DecidableEq, Repr

/-- The offset and gain of one input (R139). -/
structure Calibration where
  offset : Nat
  gain : Nat
  deriving DecidableEq, Repr

structure Housekeeping where
  readings : Six Reading
  cal : Six Calibration
  /-- the expiry of the scan timer on the running count of watch ticks -/
  scanDue : Nat
  /-- the scan interval in force, in seconds -/
  interval : Nat
  scanCount : Nat
  deriving DecidableEq, Repr

/-- The eight limits of 7.5. -/
structure BatteryLimits where
  capacityMah : Nat
  eff : Nat
  vFull : Nat
  iTaper : Nat
  vEmpty : Nat
  vSrcMin : Nat
  chgTmin : Int
  chgTmax : Int
  deriving DecidableEq, Repr

/-- A point of the open-circuit table (7.4). -/
structure OcPoint where
  mv : Nat
  soc : Nat
  deriving DecidableEq, Repr

abbrev OcTable := Vector OcPoint 8

structure ChargeUnit where
  q : Int
  soc : Nat
  limits : BatteryLimits
  table : OcTable
  fullRun : Nat
  emptyRun : Nat
  fullLatch : Bool
  estimated : Bool
  estimateMark : Bool
  uncounted : Nat
  lastFull : Option Time
  lastEmpty : Option Time
  chargeOn : Bool
  deriving DecidableEq, Repr

/-! ## Heater controller (spec/08) -/

inductive HeaterState where
  | off
  | onSrc
  | onBat
  | fault
  deriving DecidableEq, Repr

/-- The pending-change record (R161); the deadline is on the running count of watch ticks. -/
structure PendingChange where
  wanted : HeaterState
  since : Time
  deadline : Nat
  deriving DecidableEq, Repr

structure HeaterParams where
  heatOn : Int
  heatOff : Int
  damageLow : Int
  overheat : Int
  reserve : Nat
  deferLimit : Nat
  deriving DecidableEq, Repr

structure Heater where
  state : HeaterState
  demand : Bool
  coldGuard : Bool
  change : Option PendingChange
  lowRun : Nat
  faults : Nat
  lastSwitch : Option Time
  target : HeaterState
  params : HeaterParams
  deriving DecidableEq, Repr

/-! ## Power tier controller (spec/09) -/

/-- The host rail's state with its deadline on the running count of watch ticks (9.5); a DOZING deadline is not yet set
until the HOST SLEEP reply has gone (R178). -/
inductive HostRail where
  | on
  | dozing (deadline : Option Nat)
  | asleep
  | cycling (deadline : Nat)
  | grace (deadline : Nat)
  | shed
  deriving DecidableEq, Repr

inductive WakeCause where
  | time
  | attention
  | tier
  deriving DecidableEq, Repr

structure TierParams where
  conserveBelow : Nat
  surviveBelow : Nat
  hibernateBelow : Nat
  hysteresis : Nat
  vCut : Nat
  silenceLimit : Nat
  deriving DecidableEq, Repr

structure PowerTier where
  tier : Tier
  tierTime : Time
  params : TierParams
  host : HostRail
  /-- the sleep record: the wake time in seconds, present or absent -/
  wakeTime : Option Nat
  /-- the running count of watch ticks at which the silence timer was last 0; none while it is stopped -/
  silenceFrom : Option Nat
  lastWake : Option WakeCause
  powerCycles : Nat
  enSens : Bool
  enModem : Bool
  /-- the running count of main-crystal cycles at which EN_MODEM last went on -/
  modemOnAt : Nat
  /-- the last-gasp record: idle (none), or holding until this running count of watch ticks -/
  gasp : Option Nat
  exitMark : Bool
  deriving DecidableEq, Repr

/-! ## Station link (spec/10) -/

/-- The eight attention flags in their fixed order (10.3). -/
inductive AttnFlag where
  | eventOpened
  | eventClosed
  | alertResult
  | timeGrade
  | powerTier
  | store
  | clip
  | linkOverrun
  deriving DecidableEq, Repr

/-- The station-link receiver's six states, each with the part of the frame it has taken (R186). -/
inductive LinkRx where
  | hunt
  | sync
  | length
  | head (len : Byte) (tag : Option Byte)
  | body (len tag kind : Byte) (got : List Byte)
  | check (len tag kind : Byte) (payload : List Byte) (hi : Option Byte)
  deriving DecidableEq, Repr

/-- What the end of a request's reply brings about besides the request leaving the list: nothing, the start of the DOZING
deadline (R178), or the second step of RESTART with scope LINK (R197). -/
inductive AtReplyEnd where
  | nothing
  | startDoze
  | emptyList
  deriving DecidableEq, Repr

/-- Where a pending request stands: not executed, executing (SETTINGS SAVE), or executed with its reply's payload. -/
inductive Progress where
  | waiting
  | executing
  | executed (reply : List Byte)
  deriving DecidableEq, Repr

structure Request where
  tag : Byte
  kind : Byte
  payload : List Byte
  progress : Progress
  atEnd : AtReplyEnd
  deriving DecidableEq, Repr

structure StationLink where
  rx : LinkRx
  list : List Request
  /-- the execution mark: a SETTINGS SAVE runs (R188) -/
  executing : Bool
  /-- the reply frame being sent, if any -/
  tx : Option (List Byte)
  barrier : Bool
  flags : BitVec 8
  lineMask : BitVec 8
  wakeMask : BitVec 8
  takenCount : Nat
  discardCount : Nat
  overrunCount : Nat
  deriving DecidableEq, Repr

/-! ## Settings memory (spec/11) -/

structure StoreParams where
  interval : Nat
  scrub : Bool
  deriving DecidableEq, Repr

/-- The groups of the settings image (11.1). -/
structure Settings where
  uplink : UplinkParams
  detect : DetectParams
  filters : Tri (List Int)
  limits : BatteryLimits
  cal : Six Calibration
  table : OcTable
  heater : HeaterParams
  tier : TierParams
  store : StoreParams
  drift : DriftTable
  deriving DecidableEq, Repr

/-- The image is `some` contents while valid and `none` while invalid; `writing` is the snapshot of a save in progress. -/
structure SettingsMemory where
  image : Option Settings
  writing : Option Settings
  defaultFlag : Bool
  deriving DecidableEq, Repr

/-! ## External input lines (spec/00, External lines) -/

/-- The input lines whose level some event reads, each as it was at the last event that brought its level. -/
structure Lines where
  hrdy : Bool
  mbf : Bool
  auxtrig : Bool
  ain : RawScan
  deriving DecidableEq, Repr

end Sys2Proof.Machine
end

