-- ==== Sys2Proof/Machine/Defaults.lean ====
section
/-! DEFINITION. The defaults of every settings group (11.3) and the values of the blocks' state after reset where the
manual gives a whole block's reset in one rule. -/

namespace Sys2Proof.Machine

/-- 11.3, uplink. -/
def defaultUplink : UplinkParams := ⟨1, 0, 24⟩

/-- 3.6 and 11.3, detection. -/
def defaultDetect : DetectParams :=
  { ks := 6, kl := 12, onRatio := 64, offRatio := 24, ltaFloor := 50, vote := 2, pre := 30, post := 30, cap := 600,
    strongLevel := 2000000, quietWindow := 3, auxEdge := .off }

/-- 11.3, filters: 1 tap with c[0] = 32,767. -/
def defaultBank : List Int := [32767]

/-- 7.5 and 11.3, battery limits. -/
def defaultLimits : BatteryLimits :=
  { capacityMah := 20000, eff := 248, vFull := 14400, iTaper := 200, vEmpty := 11800, vSrcMin := 13000, chgTmin := 0,
    chgTmax := 450 }

/-- 7.5, default offsets and gains. -/
def defaultCalibration : Six Calibration :=
  { vbat := ⟨0, 16384⟩, ibat := ⟨2048, 20000⟩, tbat := ⟨1536, 2048⟩, tenc := ⟨1536, 2048⟩, vsrc := ⟨0, 24576⟩,
    ihtr := ⟨0, 8192⟩ }

/-- 7.4, the default open-circuit points. -/
def defaultTable : OcTable :=
  #v[⟨11800, 0⟩, ⟨12000, 100⟩, ⟨12100, 200⟩, ⟨12250, 400⟩, ⟨12400, 600⟩, ⟨12550, 800⟩, ⟨12650, 900⟩, ⟨12750, 1000⟩]

/-- 8.6 and 11.3, heater. -/
def defaultHeater : HeaterParams :=
  { heatOn := 20, heatOff := 60, damageLow := -200, overheat := 400, reserve := 300, deferLimit := 120 }

/-- 9.7 and 11.3, tier. -/
def defaultTier : TierParams :=
  { conserveBelow := 400, surviveBelow := 200, hibernateBelow := 80, hysteresis := 30, vCut := 11500, silenceLimit := 600 }

/-- 4.6, 4.7 and 11.3, store. -/
def defaultStore : StoreParams := ⟨4, true⟩

/-- An empty drift table (R13). -/
def emptyDrift : DriftTable := Vector.replicate 16 ⟨0, 0⟩

/-- The settings every block takes when the image is invalid (R199, 11.3). -/
def defaultSettings : Settings :=
  { uplink := defaultUplink, detect := defaultDetect, filters := .replicate defaultBank, limits := defaultLimits,
    cal := defaultCalibration, table := defaultTable, heater := defaultHeater, tier := defaultTier, store := defaultStore,
    drift := emptyDrift }

/-- SI after either reset (R44). -/
def resetSample : SampleInterface :=
  { rx := [], window := none, aligned := false, offset := 0, mismatchRun := 0, held := .replicate 0, stepCarry := false,
    heatMark := false, goodCount := 0, missingCount := 0, crcGapCount := 0, seqGapCount := 0, unexpectedCount := 0,
    alignCount := 0 }

/-- One filter context after either reset, its bank A from the settings (R45). -/
def resetContext (bankA : List Int) : FilterContext :=
  { active := .a, swapPending := false, bankA := bankA, bankB := defaultBank, delay := Vector.replicate 32 0, w := 0, y := 0,
    sat := false, clip := false, passes := 0 }

/-- FE after either reset (R45). -/
def resetFilter (banks : Tri (List Int)) : FilterEngine :=
  { ctx := ⟨resetContext banks.z, resetContext banks.n, resetContext banks.e⟩, waiting := [] }

/-- One trigger channel after either reset: WARMUP with its start pending, or DISABLED (R71). Before its first pass it
reports its reset values. -/
def resetTriggerChannel (enabled : Bool) : TriggerChannel :=
  let st : ChannelState := if enabled then .warmup else .disabled
  { sta := 0, lta := 0, state := st, onTime := none, onDelivery := none, warmCount := 0, startPending := enabled, last := none,
    saved := ⟨0, 0, st, none, 0⟩ }

/-- A page in the free set right after reset (R93). -/
def freePage : Page := ⟨.free, false, none, 0, 0, false⟩

/-- A WS channel with no ring and nothing stored (R93, before its ring need). -/
def emptyStoreChannel : StoreChannel := ⟨.off, [], none, none, 0⟩

/-- An event record's flags, all clear (R95). -/
def noEventFlags : EventFlags := ⟨false, false, false, false, false, false, false, false, false⟩

/-- A reading with no value (R152). -/
def noReading : Reading := ⟨none, false, 0⟩

/-- The six readings with no value (R152). -/
def noReadings : Six Reading := ⟨noReading, noReading, noReading, noReading, noReading, noReading⟩

/-- The default of both masks: EVENT_OPENED, ALERT_RESULT, TIME_GRADE and POWER_TIER (R194). -/
def defaultMask : BitVec 8 := 0x1D

/-- SL after either reset (R198). -/
def resetLink : StationLink :=
  { rx := .hunt, list := [], executing := false, tx := none, barrier := false, flags := 0, lineMask := defaultMask,
    wakeMask := defaultMask, takenCount := 0, discardCount := 0, overrunCount := 0 }

/-- ET after either reset (R111). -/
def resetEvents : EventTable := ⟨[], 1, 0⟩

/-- HC after power-on (R167). -/
def resetHeater (p : HeaterParams) : Heater :=
  { state := .off, demand := false, coldGuard := false, change := none, lowRun := 0, faults := 0, lastSwitch := none,
    target := .off, params := p }

end Sys2Proof.Machine
end

