-- ==== Sys2Proof/Machine/State.lean ====
section
/-! DEFINITION. The whole state of the block, the reasons a command could stop, and the state right after power-on reset. -/

namespace Sys2Proof.Machine

/-- The state of the controller: the thirteen blocks of spec/00_scope.md, the clocks elapsed time moves, the input lines,
whether the supply is up, and the queue of commands that wait for the model's step. -/
structure State where
  /-- the supply is up (SUPPLY_LOSS clears it, POWER_ON_RESET sets it) -/
  powered : Bool
  clk : Clocks
  /-- TB -/
  tb : TimeBase
  /-- SI -/
  si : SampleInterface
  /-- FE -/
  fe : FilterEngine
  /-- TU -/
  tu : TriggerUnit
  /-- WS -/
  ws : WaveStore
  /-- ET -/
  et : EventTable
  /-- AS -/
  al : AlertScheduler
  /-- HM -/
  hm : Housekeeping
  /-- CA -/
  ca : ChargeUnit
  /-- HC -/
  hc : Heater
  /-- PT -/
  pt : PowerTier
  /-- SL -/
  sl : StationLink
  /-- SM -/
  sm : SettingsMemory
  lines : Lines
  /-- the model's own field: how many free values (`Config.freeValue`) have been used (log entry 7) -/
  freeCount : Nat
  /-- the commands that wait, first in, first out -/
  pending : List Instr
  deriving DecidableEq, Repr

/-- The block raises no fault: no rule of the manual stops it. Nobody raises one, so the type has no constructor (safe). -/
inductive Fault where
  deriving DecidableEq, Repr

/-- Why a command has no meaning in the model. -/
inductive Refusal where
  /-- Raised by `exec` for a command whose meaning is not written. Safe: the model stops where the block goes on. No arm
  answers it. -/
  | notModelled (mnemonic : String)
  deriving DecidableEq, Repr

/-- What a meaning answers. -/
abbrev Out := Host.Outcome State Fault Refusal

/-- The state right after POWER_ON_RESET with a settings memory that was never written and all six analog inputs out of range
at the start-up scan (log entry 5): CA then starts from half the capacity (R147), which gives the tier FULL. -/
def State.reset : State where
  powered := true
  clk := { time := ⟨0, 0⟩, frac := 0, watch := ⟨0, 0⟩, mainRun := 0, watchRun := 0 }
  tb :=
    { clock := .main, grade := .unset, u := 4294967295, integral := 0, steer := 0, drift := emptyDrift, labelRx := [],
      label := none, lastPulse := none, lastTheta := none, lossTimer := none, goodRun := 0, rejectRun := 0, usedCount := 0,
      rejectedCount := 0, outOfWindowCount := 0, unlabelledCount := 0, stepCount := 0, lastStrobe := none, movedTo := none, strobeSeq := 0,
      stepPending := false, freeRecovery := false }
  si := resetSample
  fe := resetFilter (.replicate defaultBank)
  tu :=
    { chans := .replicate (resetTriggerChannel true), armed := true, det := .idle, current := none, onset := ⟨0, 0⟩,
      onsetDelivery := 0, postEnd := 0, auxPending := false, quietEnd := none, delivery := 0, lastSeen := none,
      params := defaultDetect }
  ws :=
    { array := [],
      pages := ((Vector.replicate 256 freePage).set 0 { freePage with state := .ring .z, filling := true }
        |>.set 1 { freePage with state := .ring .n, filling := true }
        |>.set 2 { freePage with state := .ring .e, filling := true }),
      chans :=
        { z := ⟨.ring, [], some 0, none, 0⟩, n := ⟨.ring, [], some 1, none, 0⟩, e := ⟨.ring, [], some 2, none, 0⟩ },
      events := [], cursor := none, patrolDue := some 160000000, interval := 4, scrub := true, uncorrectable := 0 }
  et := resetEvents
  al :=
    { queue := [⟨1, .pwr, .tier .full, ⟨0, 0⟩, [], false, 0⟩], attempt := none, results := [], outcomeCount := 0,
      idCounter := 2, handleCounter := 0, rx := .hunt, decided := none, windows := [], lastSoh := some 0,
      params := defaultUplink, attemptsStarted := 0, mbfSkips := 0, strayCount := 0 }
  hm :=
    { readings := ⟨⟨none, false, 1⟩, ⟨none, false, 1⟩, ⟨none, false, 1⟩, ⟨none, false, 1⟩, ⟨none, false, 1⟩, ⟨none, false, 1⟩⟩,
      cal := defaultCalibration, scanDue := 32768, interval := 1, scanCount := 1 }
  ca :=
    { q := 36000000, soc := 500, limits := defaultLimits, table := defaultTable, fullRun := 0, emptyRun := 0,
      fullLatch := false, estimated := true, estimateMark := true, uncounted := 0, lastFull := none, lastEmpty := none,
      chargeOn := false }
  hc := resetHeater defaultHeater
  pt :=
    { tier := .full, tierTime := ⟨0, 0⟩, params := defaultTier, host := .on, wakeTime := none, silenceFrom := some 0,
      lastWake := none, powerCycles := 0, enSens := true, enModem := true, modemOnAt := 0, gasp := none, exitMark := false }
  sl := resetLink
  sm := { image := none, writing := none, defaultFlag := true }
  lines := { hrdy := false, mbf := false, auxtrig := false, ain := ⟨0, 0, 0, 0, 0, 0⟩ }
  freeCount := 0
  pending := []

end Sys2Proof.Machine
end

