-- ==== Sys2Proof/Machine/Ops.lean ====
section
/-! DEFINITION. The shared operations: updates of one block, the clocks and elapsed time, the frame every meaning has
(`timed`), the page array's memory, and the small arithmetic of counters and clamps. -/

namespace Sys2Proof.Machine

/-! ## Updates of one block -/

def State.modClk (s : State) (f : Clocks → Clocks) : State := { s with clk := f s.clk }
def State.modTb (s : State) (f : TimeBase → TimeBase) : State := { s with tb := f s.tb }
def State.modSi (s : State) (f : SampleInterface → SampleInterface) : State := { s with si := f s.si }
def State.modFe (s : State) (f : FilterEngine → FilterEngine) : State := { s with fe := f s.fe }
def State.modTu (s : State) (f : TriggerUnit → TriggerUnit) : State := { s with tu := f s.tu }
def State.modWs (s : State) (f : WaveStore → WaveStore) : State := { s with ws := f s.ws }
def State.modEt (s : State) (f : EventTable → EventTable) : State := { s with et := f s.et }
def State.modAl (s : State) (f : AlertScheduler → AlertScheduler) : State := { s with al := f s.al }
def State.modHm (s : State) (f : Housekeeping → Housekeeping) : State := { s with hm := f s.hm }
def State.modCa (s : State) (f : ChargeUnit → ChargeUnit) : State := { s with ca := f s.ca }
def State.modHc (s : State) (f : Heater → Heater) : State := { s with hc := f s.hc }
def State.modPt (s : State) (f : PowerTier → PowerTier) : State := { s with pt := f s.pt }
def State.modSl (s : State) (f : StationLink → StationLink) : State := { s with sl := f s.sl }
def State.modSm (s : State) (f : SettingsMemory → SettingsMemory) : State := { s with sm := f s.sm }
def State.modLines (s : State) (f : Lines → Lines) : State := { s with lines := f s.lines }

/-! ## Arithmetic of counters and limits (00_scope.md, Numbers and arithmetic) -/

/-- The largest value of a 32-bit quantity. -/
def max32 : Nat := 4294967295

/-- Increment of a 32-bit wrapping count. -/
def inc32 (n : Nat) : Nat := (n + 1) % 4294967296

/-- "Saturating": a counter stays at its upper limit. -/
def satInc (limit n : Nat) : Nat := min limit (n + 1)

/-- clamp(x, a, b) for a quantity that cannot be negative. -/
def clampNat (x a b : Nat) : Nat := max a (min x b)

/-- clamp(x, a, b). -/
def clampInt (x a b : Int) : Int := max a (min x b)

/-- A seconds count, 0 to 4,294,967,295; what a larger one reads as is left open (log entry 6). -/
def secondsCount (n : Nat) : Nat := if n < 4294967296 then n else Config.secondsPastEnd n % 4294967296

/-! ## Times -/

def nsPerSec : Nat := 1000000000

/-- A time as nanoseconds since the station epoch. -/
def Time.toNs (t : Time) : Nat := t.sec * nsPerSec + t.ns

/-- The time that lies a number of nanoseconds after the station epoch. -/
def timeOfNs (n : Nat) : Time := ⟨secondsCount (n / nsPerSec), n % nsPerSec⟩

/-- Watch ticks in one second. -/
def ticksPerSec : Nat := 32768

/-- Main-crystal cycles in one second. -/
def cyclesPerSec : Nat := 40000000

/-- Time read from the watch-time counter: its second and floor(ticks · 1,000,000,000 / 32,768) ns (R2). -/
def WatchCounter.toTime (w : WatchCounter) : Time := ⟨w.sec, w.ticks * nsPerSec / ticksPerSec⟩

/-- Disciplined time after a number of main-crystal cycles: 25 ns · (1 + s · 10⁻⁹) each, counted exactly in billionths of
a nanosecond (R1). -/
def Clocks.runMain (c : Clocks) (steer : Int) (cycles : Nat) : Clocks :=
  let parts := c.frac + 25 * cycles * (1000000000 + steer).toNat
  { c with time := timeOfNs (c.time.toNs + parts / 1000000000), frac := parts % 1000000000, mainRun := c.mainRun + cycles }

/-- The watch-time counter after a number of watch ticks (R2). -/
def Clocks.runWatch (c : Clocks) (ticks : Nat) : Clocks :=
  let total := c.watch.ticks + ticks
  { c with
    watch := ⟨secondsCount (c.watch.sec + total / ticksPerSec), total % ticksPerSec⟩
    watchRun := c.watchRun + ticks }

/-- The clocks after time has passed. The main crystal moves disciplined time only while TB runs on the main clock; the watch
crystal never stops (R1, R2). -/
def Clocks.elapse (c : Clocks) (mainRuns : Bool) (steer : Int) (d : Elapsed) : Clocks :=
  (if mainRuns then c.runMain steer d.main else c).runWatch d.watch

/-- The main clock runs: TB is on it. During the settle it does not count as running (R18, log entry 25). -/
def State.mainRuns (s : State) : Bool := s.tb.clock = .main

/-- The state after time has passed with nothing happening. -/
def State.elapse (s : State) (d : Elapsed) : State := s.modClk fun c => c.elapse s.mainRuns s.tb.steer d

/-- Station time: disciplined time, or the watch time while TB runs on the watch clock or settles (R2, R17, R18). -/
def State.now (s : State) : Time := if s.tb.clock = .main then s.clk.time else s.clk.watch.toTime

/-- Sets disciplined time outright: a step, a TIME SET, or a load from the watch-time counter (R1). -/
def State.setTime (s : State) (t : Time) : State := s.modClk fun c => { c with time := t, frac := 0 }

/-! ## The frame of every meaning -/

/-- A command that comes after `d`: time passes, then `f` happens. A device without supply does nothing (R201). -/
def timed (d : Elapsed) (s : State) (f : State → State) : Out :=
  if s.powered then .next (f (s.elapse d)) else .next s

/-- `f`, if the main clock runs; a main-domain event does not arise otherwise. -/
def whileMain (f : State → State) (s : State) : State := if s.mainRuns then f s else s

/-- An instant of disciplined time has just been reached: the count of 25 ns units has come to it or stands on the first
unit past it (log entry 4). A unit of steered time is 25 ns and a fraction, so the count stands at most 25 ns past. -/
def reachedNs (instant now : Nat) : Bool := instant ≤ now && now ≤ instant + 25

/-- A step, a TIME SET or the return from the watch clock has carried time past the instant: it lies before the time to which
disciplined time was last moved. Time that stands at the instant has reached it (R16, R122). -/
def State.carriedPast (s : State) (instant : Nat) : Bool :=
  match s.tb.movedTo with
  | some p => instant < p.toNs && s.now.toNs != instant
  | none => false

/-- An instant of disciplined time has just been reached by time's own advance, and not carried past. -/
def State.reached (s : State) (instant : Nat) : Bool := reachedNs instant s.now.toNs && !s.carriedPast instant

/-! ## Tiers and enabled channels -/

/-- The channels a tier enables (R33, R49). -/
def enabledIn (t : Tier) (c : Channel) : Bool :=
  match t, c with
  | .full, _ => true
  | .conserve, _ => true
  | .survive, .z => true
  | .survive, _ => false
  | .hibernate, _ => false

/-- The enabled channels in the order Z, N, E. -/
def enabledChannels (t : Tier) : List Channel := channels.filter (enabledIn t)

/-- The place of a tier, FULL highest. -/
def Tier.rank : Tier → Nat
  | .full => 3
  | .conserve => 2
  | .survive => 1
  | .hibernate => 0

/-! ## The page array's memory (R72) -/

/-- A storage word nothing has written and nothing has upset. An unlisted address of the page array reads as this; no read
of the store ever reaches a word that its owner has not written (log entry 10). -/
def blankWord : StorageWord := ⟨0, 0, 0⟩

def readWord : PageArray → Nat → StorageWord
  | [], _ => blankWord
  | (b, w) :: rest, a => if a = b then w else readWord rest a

/-- Writes one storage word and keeps the canonical form: addresses strictly rising, no entry equal to `blankWord`. -/
def writeWord : PageArray → Nat → StorageWord → PageArray
  | [], a, v => if v = blankWord then [] else [(a, v)]
  | (b, w) :: rest, a, v =>
    if a < b then (if v = blankWord then (b, w) :: rest else (a, v) :: (b, w) :: rest)
    else if a = b then (if v = blankWord then rest else (a, v) :: rest)
    else (b, w) :: writeWord rest a v

/-- The canonical form, from a least address on. -/
def wfFrom : Nat → PageArray → Bool
  | _, [] => true
  | lo, (a, v) :: rest => lo ≤ a && v != blankWord && wfFrom (a + 1) rest

/-- The page array has its canonical form. -/
def PageArray.wf (m : PageArray) : Bool := wfFrom 0 m

/-- The address of storage word `w` of page `p`. -/
def wordAddress (p : PageId) (w : Nat) : Nat := p.val * 512 + w

/-- One outside upset turns one stored bit over. -/
def applyUpset (m : PageArray) (x : Upset) : PageArray :=
  let a := wordAddress x.page x.word.val
  let old := readWord m a
  writeWord m a { old with err := old.err ^^^ (1#72 <<< x.bit.val) }

def applyUpsets (s : State) (xs : List Upset) : State :=
  s.modWs fun w => { w with array := xs.foldl applyUpset w.array }

/-! ## Free values -/

/-- The next free value, and the state that has used it (log entry 7). -/
def State.takeFree (s : State) : Nat × State := (Config.freeValue s.freeCount, { s with freeCount := s.freeCount + 1 })

end Sys2Proof.Machine
end

