-- ==== Sys2Proof/Machine/HostRail.lean ====
section
/-! DEFINITION. The host rail: EN_HOST, its off and on events, and the wake of a sleeping or dozing host (9.5, R179, R180,
R191). -/

namespace Sys2Proof.Machine

/-- EN_HOST: the rail is on in ON, DOZING and GRACE (9.5). -/
def HostRail.isOn : HostRail → Bool
  | .on => true
  | .dozing _ => true
  | .grace _ => true
  | .asleep => false
  | .cycling _ => false
  | .shed => false

/-- A host-rail off event: the silence timer stops, the transmitter stops, the receiver returns to HUNT, the pending list
is emptied and the restart barrier clears. The execution mark of a SETTINGS SAVE stays until its completion (R180, R191). -/
def hostRailOff (s : State) : State :=
  (s.modPt fun p => { p with silenceFrom := none }).modSl fun l =>
    { l with rx := .hunt, list := [], tx := none, barrier := false }

/-- A host-rail on event: the silence timer starts from 0, and the receiver starts in HUNT with the list empty (R180, R191). -/
def hostRailOn (s : State) : State :=
  (s.modPt fun p => { p with silenceFrom := some s.clk.watchRun }).modSl fun l => { l with rx := .hunt, list := [] }

/-- Puts the host rail into a state, with the rail event of each change of EN_HOST. From GRACE to ON EN_HOST does not change, so there is
no on event (R180, log entry 39). -/
def setHostRail (h : HostRail) (s : State) : State :=
  let s1 := s.modPt fun p => { p with host := h }
  if s.pt.host.isOn && !h.isOn then hostRailOff s1
  else if !s.pt.host.isOn && h.isOn then hostRailOn s1
  else s1

/-- A wake source. In ASLEEP and DOZING the rail's state becomes ON, the sleep record is cleared and the cause recorded; in
every other state it has no effect (R179). -/
def wakeHost (cause : WakeCause) (s : State) : State :=
  match s.pt.host with
  | .asleep | .dozing _ => setHostRail .on (s.modPt fun p => { p with wakeTime := none, lastWake := some cause })
  | .on | .cycling _ | .grace _ | .shed => s

/-- The wake source TIME: the present seconds count is at or past the wake time held in the sleep record (R179). -/
def wakeAtTime (s : State) : State :=
  match s.pt.wakeTime with
  | some w => if w ≤ s.now.sec then wakeHost .time s else s
  | none => s

/-- The whole seconds the silence timer has counted; 0 while it is stopped (R181). -/
def silenceSeconds (s : State) : Nat :=
  match s.pt.silenceFrom with
  | some t => (s.clk.watchRun - t) / ticksPerSec
  | none => 0

end Sys2Proof.Machine
end

