-- ==== Sys2Proof/Machine/Flags.lean ====
section
/-! DEFINITION. Every flag of the block: the eight attention flags with ATTN and the wake mask (R192), and the nine flags
and other marks of an event record (R95). -/

namespace Sys2Proof.Machine

/-- The bit of an attention flag and of its place in both masks (R204). -/
def AttnFlag.bit : AttnFlag → BitVec 8
  | .eventOpened => 0x01
  | .eventClosed => 0x02
  | .alertResult => 0x04
  | .timeGrade => 0x08
  | .powerTier => 0x10
  | .store => 0x20
  | .clip => 0x40
  | .linkOverrun => 0x80

/-- A block raises a flag: it is set whatever the masks say, and a raise whose bit stands in the wake mask is an ATTENTION
wake source, whether the flag was set already or not (R192). -/
def raise (f : AttnFlag) (s : State) : State :=
  let s1 := s.modSl fun l => { l with flags := l.flags ||| f.bit }
  if s.sl.wakeMask &&& f.bit = 0 then s1 else wakeHost .attention s1

/-- ATTN is high while some flag is set whose bit is set in the line mask (R192). -/
def State.attn (s : State) : Bool := s.sl.flags &&& s.sl.lineMask != 0

/-- Changes the record that holds a number. -/
def updRecord (num : Nat) (f : EventRecord → EventRecord) (s : State) : State :=
  s.modEt fun t => { t with records := t.records.map fun r => if r.number = num then f r else r }

/-- The record that holds a number. -/
def State.record (s : State) (num : Nat) : Option EventRecord := s.et.records.find? fun r => r.number = num

/-- Sets flags of the record that holds a number (R95). -/
def setEventFlag (num : Nat) (f : EventFlags → EventFlags) (s : State) : State :=
  updRecord num (fun r => { r with flags := f r.flags }) s

/-- Sets flags of the current event, if there is one: its record is OPEN or POST (R94, R95). -/
def setCurrentFlag (f : EventFlags → EventFlags) (s : State) : State :=
  match s.tu.current with
  | some n => setEventFlag n f s
  | none => s

/-- A record is pinned when it is OPEN or POST, when its alert is QUEUED or IN_FLIGHT, or when its host pin is set (R100). -/
def EventRecord.pinned (r : EventRecord) : Bool :=
  r.state != .closed || r.alert = .queued || r.alert = .inFlight || r.hostPin

end Sys2Proof.Machine
end

