-- ==== Sys2Proof/Machine/Operands.lean ====
section
/-! DEFINITION. How fields stand in payloads and frames: fields of 1 to 4 bytes, most significant byte first, signed ones in
two's complement, times and absent values (R204), the codes of every item, and the check codes (R203). -/

namespace Sys2Proof.Machine

/-! ## Reading fields -/

/-- An unsigned field, most significant byte first. -/
def be (bytes : List Byte) : Nat := bytes.foldl (fun acc b => acc * 256 + b.toNat) 0

/-- A signed field in two's complement. -/
def beSigned (bytes : List Byte) : Int :=
  let n := be bytes
  let m := 256 ^ bytes.length
  if 2 * n < m then (n : Int) else (n : Int) - (m : Int)

/-- The bytes of a payload from an offset on. -/
def slice (p : List Byte) (off len : Nat) : List Byte := (p.drop off).take len

/-- An unsigned field of a payload. -/
def getU (p : List Byte) (off len : Nat) : Nat := be (slice p off len)

/-- A signed field of a payload. -/
def getS (p : List Byte) (off len : Nat) : Int := beSigned (slice p off len)

/-! ## Writing fields -/

/-- An unsigned quantity in `len` bytes. -/
def putU : Nat → Nat → List Byte
  | 0, _ => []
  | k + 1, v => putU k (v / 256) ++ [BitVec.ofNat 8 v]

/-- A signed quantity in `len` bytes of two's complement. -/
def putS (len : Nat) (v : Int) : List Byte := putU len (v % (256 ^ len : Nat)).toNat

/-- A mark, or an on/off setting: 0 or 1 (R204). -/
def putMark (b : Bool) : List Byte := [if b then 1 else 0]

/-- A time: seconds, then nanoseconds, 4 bytes each (R204). -/
def putTime (t : Time) : List Byte := putU 4 t.sec ++ putU 4 t.ns

/-- A time that may be absent: nanoseconds 0xFFFFFFFF and seconds 0 when it is (R204). -/
def putTimeOpt : Option Time → List Byte
  | some t => putTime t
  | none => putU 4 0 ++ putU 4 0xFFFFFFFF

/-- A quantity that may be absent: a presence byte, then its bytes, 0 when it is absent (R204). -/
def putUOpt (len : Nat) : Option Nat → List Byte
  | some v => [1] ++ putU len v
  | none => [0] ++ putU len 0

def putSOpt (len : Nat) : Option Int → List Byte
  | some v => [1] ++ putS len v
  | none => [0] ++ putU len 0

/-- One field for each channel, in the order Z, N, E. -/
def putTri {α : Type} (t : Tri α) (f : α → List Byte) : List Byte := f t.z ++ f t.n ++ f t.e

/-- One field for each input, AIN0 to AIN5. -/
def putSix {α : Type} (t : Six α) (f : α → List Byte) : List Byte :=
  f t.vbat ++ f t.ibat ++ f t.tbat ++ f t.tenc ++ f t.vsrc ++ f t.ihtr

/-! ## Codes (R204) -/

def Channel.code : Channel → Byte
  | .z => 0
  | .n => 1
  | .e => 2

def channelOfCode (b : Byte) : Option Channel :=
  if b = 0 then some .z else if b = 1 then some .n else if b = 2 then some .e else none

def Grade.code : Grade → Byte
  | .unset => 0
  | .tracking => 1
  | .locked => 2
  | .hold => 3
  | .free => 4

def Tier.code : Tier → Byte
  | .full => 0
  | .conserve => 1
  | .survive => 2
  | .hibernate => 3

def AlertClass.code : AlertClass → Byte
  | .q1 => 1
  | .q2 => 2
  | .pwr => 3
  | .time => 4
  | .host => 5
  | .soh => 6

def alertClassOptCode : Option AlertClass → Byte
  | some c => c.code
  | none => 0

def AlertState.code : AlertState → Byte
  | .none => 0
  | .queued => 1
  | .inFlight => 2
  | .sent => 3
  | .failed => 4
  | .displaced => 5
  | .cancelled => 6

def RecordState.code : RecordState → Byte
  | .open => 0
  | .post => 1
  | .closed => 2

def HeaterState.code : HeaterState → Byte
  | .off => 0
  | .onSrc => 1
  | .onBat => 2
  | .fault => 3

def AuxEdge.code : AuxEdge → Byte
  | .off => 0
  | .rise => 1
  | .fall => 2
  | .both => 3

def auxEdgeOfCode (b : Byte) : Option AuxEdge :=
  if b = 0 then some .off else if b = 1 then some .rise else if b = 2 then some .fall else if b = 3 then some .both else none

/-- The codes of an on/off setting: off 0, on 1. -/
def onOffOfCode (b : Byte) : Option Bool := if b = 0 then some false else if b = 1 then some true else none

def DetectorState.code : DetectorState → Byte
  | .disarmed => 0
  | .idle => 1
  | .open => 2
  | .post => 3

def ChannelState.code : ChannelState → Byte
  | .disabled => 0
  | .warmup => 1
  | .quiet => 2
  | .triggered => 3

def BankName.code : BankName → Byte
  | .a => 0
  | .b => 1

def Route.code : Route → Byte
  | .off => 0
  | .ring => 1
  | .starved => 2
  | .event _ => 3
  | .stopped => 4

/-- Clock in use: main 0, watch 1; during the settle time is still the watch time (R18). -/
def ClockInUse.code : ClockInUse → Byte
  | .main => 0
  | .watch => 1
  | .settle _ => 1

def Stage.code : Stage → Byte
  | .sending => 0
  | .awaitTaken _ => 1
  | .awaitDone _ => 2

def HostRail.code : HostRail → Byte
  | .on => 0
  | .dozing _ => 1
  | .asleep => 2
  | .cycling _ => 3
  | .grace _ => 4
  | .shed => 5

def WakeCause.code : WakeCause → Byte
  | .time => 0
  | .attention => 1
  | .tier => 2

/-- A trigger set: bit 0 for Z, bit 1 for N, bit 2 for E. -/
def triggerSetByte (t : Tri Bool) : Byte :=
  (if t.z then 1 else 0) ||| (if t.n then 2 else 0) ||| (if t.e then 4 else 0)

/-- The nine event flags as two bytes, bit 0 STRONG to bit 8 HEATER_SWITCHED. -/
def EventFlags.toNat (f : EventFlags) : Nat :=
  f.strong.toNat + 2 * f.merged.toNat + 4 * f.truncated.toNat + 8 * f.timeStepped.toNat + 16 * f.incomplete.toNat +
    32 * f.reclaimed.toNat + 64 * f.damaged.toNat + 128 * f.external.toNat + 256 * f.heaterSwitched.toNat

/-- A subject, in the width its class gives it: an event number 4 bytes, a tier or a grade 1, none 0 (11.5). -/
def Subject.bytes : Subject → List Byte
  | .event n => putU 4 n
  | .tier t => [t.code]
  | .grade g => [g.code]
  | .none => []

/-! ## Status codes (R189, R204) -/

def stOk : Byte := 0x00
def stClamped : Byte := 0x01
def stUnknownKind : Byte := 0x02
def stBadLength : Byte := 0x03
def stOutOfRange : Byte := 0x04
def stWrongState : Byte := 0x05
def stNotFound : Byte := 0x06
def stDeniedTier : Byte := 0x07
def stFull : Byte := 0x08
def stNvError : Byte := 0x09

/-! ## Sample words (11.4) -/

/-- A sample word as it stands in the store: the sample in bits 0 to 23, GAP 24, OVR 25, STEP 26, HEAT 27, PAD 28. -/
def SampleWord.bits (w : SampleWord) : BitVec 32 :=
  (0#3 ++ BitVec.ofBool w.pad ++ BitVec.ofBool w.heat ++ BitVec.ofBool w.step ++ BitVec.ofBool w.ovr ++ BitVec.ofBool w.gap ++
    BitVec.ofInt 24 w.value : BitVec 32)

/-- The filler that completes a half-filled pair: PAD set, value 0, the other flags clear (R31). -/
def padWord : SampleWord := ⟨0, false, false, false, false, true⟩

/-- BAD, bit 31 of a word in a WAVE READ reply. -/
def badMark : BitVec 32 := 0x80000000

/-! ## Check codes (R203) -/

/-- One bit of a CRC, most significant bit first. -/
def crcBit {n : Nat} (poly c : BitVec n) : BitVec n := if c.msb then (c <<< 1) ^^^ poly else c <<< 1

/-- Eight bits of a CRC. -/
def crcByteShift {n : Nat} (poly c : BitVec n) : BitVec n :=
  crcBit poly (crcBit poly (crcBit poly (crcBit poly (crcBit poly (crcBit poly (crcBit poly (crcBit poly c)))))))

/-- CRC-16, polynomial 0x1021, initial value 0xFFFF: station link and modem frames. -/
def crc16 (bytes : List Byte) : BitVec 16 :=
  bytes.foldl (fun (c : BitVec 16) (b : Byte) => crcByteShift (0x1021 : BitVec 16) (c ^^^ (b.setWidth 16 <<< (8 : Nat)))) 0xFFFF

/-- CRC-8 with a polynomial and an initial value. -/
def crc8 (poly init : BitVec 8) (bytes : List Byte) : BitVec 8 :=
  bytes.foldl (fun (c : BitVec 8) (b : Byte) => crcByteShift poly (c ^^^ b)) init

/-- CRC-8 of the digitizer frame: polynomial 0x07, initial value 0x00. -/
def crcDigitizer (bytes : List Byte) : Byte := crc8 0x07 0x00 bytes

/-- CRC-8 of the label record: polynomial 0x31, initial value 0xFF. -/
def crcLabel (bytes : List Byte) : Byte := crc8 0x31 0xFF bytes

/-- The two bytes of a CRC-16, most significant first. -/
def crc16Bytes (bytes : List Byte) : List Byte :=
  let c := crc16 bytes
  [(c >>> (8 : Nat)).setWidth 8, c.setWidth 8]

/-! ## Request kinds (11.4) -/

def kIdent : Byte := 0x01
def kStatus : Byte := 0x02
def kAttnRead : Byte := 0x03
def kAttnMask : Byte := 0x04
def kRestart : Byte := 0x05
def kSettingsSave : Byte := 0x08
def kSettingsDefaults : Byte := 0x09
def kTimeGet : Byte := 0x10
def kTimeSet : Byte := 0x11
def kClockReport : Byte := 0x12
def kDriftRead : Byte := 0x13
def kDriftClear : Byte := 0x14
def kFilterLoad : Byte := 0x20
def kFilterSwap : Byte := 0x21
def kChannelGet : Byte := 0x22
def kClipClear : Byte := 0x23
def kDetectSet : Byte := 0x28
def kDetectArm : Byte := 0x29
def kEventForce : Byte := 0x2A
def kStoreSet : Byte := 0x30
def kStoreReport : Byte := 0x31
def kEventList : Byte := 0x38
def kEventGet : Byte := 0x39
def kWaveRead : Byte := 0x3A
def kEventPin : Byte := 0x3B
def kEventUnpin : Byte := 0x3C
def kEventRelease : Byte := 0x3D
def kEventDelete : Byte := 0x3E
def kAlertPost : Byte := 0x40
def kAlertList : Byte := 0x41
def kAlertCancel : Byte := 0x42
def kResultsRead : Byte := 0x43
def kUplinkSet : Byte := 0x44
def kPowerGet : Byte := 0x48
def kBatterySet : Byte := 0x49
def kHeaterSet : Byte := 0x50
def kHeaterFaultClear : Byte := 0x51
def kTierSet : Byte := 0x58
def kHostSleep : Byte := 0x59

/-- The kind code list; any other kind is unknown (R189). -/
def knownKinds : List Byte :=
  [kIdent, kStatus, kAttnRead, kAttnMask, kRestart, kSettingsSave, kSettingsDefaults, kTimeGet, kTimeSet, kClockReport,
    kDriftRead, kDriftClear, kFilterLoad, kFilterSwap, kChannelGet, kClipClear, kDetectSet, kDetectArm, kEventForce, kStoreSet,
    kStoreReport, kEventList, kEventGet, kWaveRead, kEventPin, kEventUnpin, kEventRelease, kEventDelete, kAlertPost,
    kAlertList, kAlertCancel, kResultsRead, kUplinkSet, kPowerGet, kBatterySet, kHeaterSet, kHeaterFaultClear, kTierSet,
    kHostSleep]

end Sys2Proof.Machine
end

