-- ==== Sys2Proof/Machine/LinkOps.lean ====
section
/-! DEFINITION. The shared operations of the station link: the frame receiver, the pending list, the execution of the next
request and its reply, and the transmitter (spec/10). -/

namespace Sys2Proof.Machine

/-! ## Receiving (R186, R187) -/

/-- The sync bytes of a station link frame (11.4). -/
def linkSync1 : Byte := 0xC3
def linkSync2 : Byte := 0x3C

/-- The longest payload (R186). -/
def maxPayload : Nat := 240

/-- The most requests the list holds (R187). -/
def maxRequests : Nat := 4

/-- The receiver is outside HUNT. -/
def LinkRx.busy : LinkRx → Bool
  | .hunt => false
  | .sync | .length | .head _ _ | .body _ _ _ _ | .check _ _ _ _ _ => true

/-- The receiver takes bytes: the host rail is on and the main clock runs (R186). -/
def linkTakesBytes (s : State) : Bool := s.pt.host.isOn && s.mainRuns

/-- A frame is discarded and the receiver returns to HUNT (R186). -/
def discardLinkFrame (s : State) : State :=
  s.modSl fun l => { l with rx := .hunt, discardCount := inc32 l.discardCount }

/-- A discarding event, which counts only while the receiver is outside HUNT (R186). -/
def discardIfBusy (s : State) : State := if s.sl.rx.busy then discardLinkFrame s else s

/-- A valid frame is taken by the pending list: it joins a list of fewer than 4, and is an overrun otherwise (R187). -/
def takeFrame (tag kind : Byte) (payload : List Byte) (s : State) : State :=
  if s.sl.list.length < maxRequests then
    s.modSl fun l =>
      { l with list := l.list ++ [⟨tag, kind, payload, .waiting, .nothing⟩], takenCount := inc32 l.takenCount }
  else raise .linkOverrun (s.modSl fun l => { l with overrunCount := inc32 l.overrunCount })

/-- A valid frame completes: the silence timer is set to 0 whatever becomes of it, and the list takes it (R181, R186). -/
def validFrame (tag kind : Byte) (payload : List Byte) (s : State) : State :=
  takeFrame tag kind payload
    ((s.modSl fun l => { l with rx := .hunt }).modPt fun p => { p with silenceFrom := some s.clk.watchRun })

/-- The receiver's state after its head: CHECK at once for an empty payload (R186). -/
def afterHead (len tag kind : Byte) : LinkRx := if len = 0 then .check len tag kind [] none else .body len tag kind []

/-- The receiver takes one byte (R186). -/
def linkByte (s : State) (b : Byte) : State :=
  let go (r : LinkRx) : State := s.modSl fun l => { l with rx := r }
  match s.sl.rx with
  | .hunt => if b = linkSync1 then go .sync else s
  | .sync => if b = linkSync2 then go .length else if b = linkSync1 then s else go .hunt
  | .length => if b.toNat ≤ maxPayload then go (.head b none) else discardLinkFrame s
  | .head len none => go (.head len (some b))
  | .head len (some tag) => go (afterHead len tag b)
  | .body len tag kind got =>
    let p := got ++ [b]
    if p.length = len.toNat then go (.check len tag kind p none) else go (.body len tag kind p)
  | .check len tag kind payload none => go (.check len tag kind payload (some b))
  | .check len tag kind payload (some hi) =>
    if [hi, b] = crc16Bytes ([len, tag, kind] ++ payload) then validFrame tag kind payload s else discardLinkFrame s

/-! ## Executing (R188, R189) -/

/-- The request that executes next: the first not executed, if the restart barrier is clear and no SETTINGS SAVE runs (R188). -/
def nextRequest (s : State) : Option Request :=
  if s.sl.barrier || s.sl.executing then none else s.sl.list.find? fun r => r.progress = .waiting

/-- The first waiting request of a list moves on. -/
def moveFirst (p : Progress) (e : AtReplyEnd) : List Request → List Request
  | [] => []
  | r :: rest => if r.progress = .waiting then { r with progress := p, atEnd := e } :: rest else r :: moveFirst p e rest

/-- The request that executes has been executed with a reply (R188). -/
def answer (reply : List Byte) (e : AtReplyEnd) (s : State) : State :=
  s.modSl fun l => { l with list := moveFirst (.executed reply) e l.list }

/-- Executes the next request if `mine` says that it is one of this command's, with what its reply's end brings about. `f`
answers the reply's payload and the state after the request. -/
def serveWith (mine : Request → Bool) (f : List Byte → State → (List Byte × AtReplyEnd) × State) (s : State) : State :=
  match nextRequest s with
  | some r =>
    if mine r then
      let x := f r.payload s
      answer x.1.1 x.1.2 x.2
    else s
  | none => s

/-- Executes the next request if it is of a kind (log entry 3). -/
def serve (kind : Byte) (f : List Byte → State → List Byte × State) (s : State) : State :=
  serveWith (fun r => r.kind = kind) (fun p s => (((f p s).1, .nothing), (f p s).2)) s

/-- A request whose payload has not the length of its fields is refused with BAD_LENGTH (R189). -/
def withLength (n : Nat) (f : List Byte → State → List Byte × State) (p : List Byte) (s : State) : List Byte × State :=
  if p.length = n then f p s else ([stBadLength], s)

/-- A request that only reads: it replies OK with fields composed from the state (R188). -/
def readOnly (f : State → List Byte) (_p : List Byte) (s : State) : List Byte × State := (stOk :: f s, s)

/-- A payload names a code in its first byte. -/
def namesCode (code : Byte) (p : List Byte) : Bool := p.head? = some code

/-- A row that serves one scope or part of a kind executes the requests that name it, and those that name none of the kind's
codes, which every row of the kind refuses alike (log entry 3). -/
def namesOrNone (code : Byte) (codes : List Byte) (p : List Byte) : Bool :=
  namesCode code p || !(codes.any fun c => namesCode c p)

/-! ## Replying (R189, R190) -/

/-- The sync and content bytes of a frame: what comes before its CRC. -/
def linkFrameBytes (tag kind : Byte) (payload : List Byte) : List Byte :=
  let body := [BitVec.ofNat 8 payload.length, tag, kind] ++ payload
  [linkSync1, linkSync2] ++ body ++ crc16Bytes body

/-- The reply frame of a request: its tag, its kind with the top bit set, and its reply's payload (R189). -/
def replyFrame (r : Request) (reply : List Byte) : List Byte := linkFrameBytes r.tag (r.kind ||| 0x80) reply

/-- The transmitter starts the oldest request's reply when it is idle, the request has executed and HRDY is high (R190). -/
def startReply (hrdy : Bool) (s : State) : State :=
  match s.sl.tx, s.sl.list with
  | none, r :: _ =>
    match r.progress with
    | .executed reply => if hrdy then s.modSl fun l => { l with tx := some (replyFrame r reply) } else s
    | .waiting | .executing => s
  | _, _ => s

/-- The time from the end of the HOST SLEEP reply to the DOZING deadline, in watch ticks (R178). -/
def dozeTicks : Nat := 5 * 32768

/-- What the end of a reply brings about (R178, R197). -/
def atReplyEnd (e : AtReplyEnd) (s : State) : State :=
  match e with
  | .nothing => s
  | .startDoze =>
    match s.pt.host with
    | .dozing _ => s.modPt fun p => { p with host := .dozing (some (s.clk.watchRun + dozeTicks)) }
    | .on | .asleep | .cycling _ | .grace _ | .shed => s
  | .emptyList => s.modSl fun l => { l with list := [], barrier := false }

/-- The last byte of a reply has gone: the request leaves the list (R190). -/
def completeReply (s : State) : State :=
  match s.sl.tx, s.sl.list with
  | some _, r :: rest => atReplyEnd r.atEnd (s.modSl fun l => { l with tx := none, list := rest })
  | _, _ => s

end Sys2Proof.Machine
end

