-- ==== Sys2Proof/Machine/AlertOps.lean ====
section
/-! DEFINITION. The alert queue: its order, admission, creation with displacement, coalescing, outcomes, the quake alerts of
events, and the modem rail demand (6.1, 6.2, 6.5, R124). -/

namespace Sys2Proof.Machine

/-! ## Order and admission -/

/-- The priority number of a class, 1 highest (6.1). A class is below another when its number is larger. -/
def AlertClass.priority : AlertClass → Nat
  | .q1 => 1
  | .q2 => 2
  | .pwr => 3
  | .time => 4
  | .host => 5
  | .soh => 6

/-- The classes from the highest to the lowest. -/
def alertClasses : List AlertClass := [.q1, .q2, .pwr, .time, .host, .soh]

/-- The quake classes. -/
def AlertClass.isQuake : AlertClass → Bool
  | .q1 | .q2 => true
  | .pwr | .time | .host | .soh => false

/-- Queue order: by class, and within a class by creation order, oldest first (R113). -/
def queueOrder (q : List Entry) : List Entry := alertClasses.flatMap fun c => q.filter fun e => e.cls = c

/-- Admission by the tier (R120). -/
def tierAdmits (t : Tier) (e : Entry) : Bool :=
  match t with
  | .full => true
  | .conserve => e.cls != .soh
  | .survive => e.cls = .q1 || e.cls = .pwr
  | .hibernate => e.cls = .pwr && e.subject = .tier .hibernate

/-- Admission by the grade (R120). -/
def gradeAdmits (g : Grade) (c : AlertClass) : Bool := g != .unset || c = .q1 || c = .pwr

/-- A QUEUED entry that both the tier and the grade admit (R120). -/
def selectable (s : State) (e : Entry) : Bool :=
  !e.inFlight && tierAdmits s.pt.tier e && gradeAdmits s.tb.grade e.cls

/-- The head selectable entry (R113). -/
def headSelectable (s : State) : Option Entry := (queueOrder s.al.queue).find? (selectable s)

/-! ## Records and results -/

/-- Writes the alert state and class of the event a quake entry speaks for (R119). -/
def writeAlert (subj : Subject) (st : AlertState) (c : AlertClass) (s : State) : State :=
  match subj with
  | .event n => updRecord n (fun r => { r with alert := st, alertClass := some c }) s
  | .tier _ | .grade _ | .none => s

/-- Changes the queue entry that holds an id. -/
def updEntry (id : Nat) (f : Entry → Entry) (s : State) : State :=
  s.modAl fun a => { a with queue := a.queue.map fun e => if e.id = id then f e else e }

/-- The recent-results list with a new result: the oldest is dropped from 9 (R130 step 2). -/
def addResult (results : List Result) (r : Result) : List Result :=
  let all := results ++ [r]
  if all.length > 8 then all.drop 1 else all

/-- An outcome (R130). `write` says whether the event record is written; it is not where a new Q1 entry for the same event
is created in the same step (R119, R129). -/
def outcome (e : Entry) (o : AlertState) (write : Bool) (s : State) : State :=
  let s1 := s.modAl fun a =>
    { a with
      queue := a.queue.filter fun x => x.id != e.id
      results := addResult a.results ⟨e.id, e.cls, e.subject, o, e.attempts, s.now⟩
      outcomeCount := inc32 a.outcomeCount }
  let s2 := if write then writeAlert e.subject o e.cls s1 else s1
  raise .alertResult s2

/-! ## Creation -/

/-- The next value of the alert id counter: one on, from 65,535 back to 1, past every id held in the queue (R114). -/
def nextAlertId (held : List Nat) : Nat → Nat → Nat
  | 0, n => n
  | fuel + 1, n =>
    let m := if n ≥ 65535 then 1 else n + 1
    if held.contains m then nextAlertId held fuel m else m

/-- The entry a new alert of class `c` displaces from a full queue: the oldest QUEUED entry of the lowest class present
among the QUEUED entries, if that class is below `c` (R115). -/
def displaceable (q : List Entry) (c : AlertClass) : Option Entry :=
  let queued := q.filter fun e => !e.inFlight
  match alertClasses.reverse.find? fun k => queued.any fun e => e.cls = k with
  | some low => if c.priority < low.priority then queued.find? fun e => e.cls = low else none
  | none => none

/-- A new entry joins the queue; a quake entry's record is written QUEUED (R115, R119). -/
def joinQueue (e : Entry) (s : State) : State :=
  writeAlert e.subject .queued e.cls (s.modAl fun a => { a with queue := a.queue ++ [e] })

/-- The entry a new alert takes: the id counter's value and the present station time (R112, R114). In HIBERNATE 6.2 calls the created
time the watch time, and R112 station time, which is disciplined time while the last gasp keeps TB on the main clock (R173); an entry
created in the gasp takes disciplined time: DESIGN CHOICE (log entry 42). -/
def newEntry (s : State) (c : AlertClass) (subj : Subject) (text : List Byte) : Entry :=
  ⟨s.al.idCounter, c, subj, s.now, text, false, 0⟩

/-- A new alert of class `c` would enter the queue (R115). -/
def wouldEnter (s : State) (c : AlertClass) : Bool := s.al.queue.length < 16 || (displaceable s.al.queue c).isSome

/-- Creates an entry, displacing another or being displaced itself when the queue is full (R115). The id counter advances past the
ids held before the creation, that of an entry it displaces among them (R114, log entry 35). -/
def createEntry (c : AlertClass) (subj : Subject) (text : List Byte) (s : State) : State :=
  let e := newEntry s c subj text
  let s1 := s.modAl fun a => { a with idCounter := nextAlertId (a.queue.map Entry.id) 17 a.idCounter }
  if s.al.queue.length < 16 then joinQueue e s1
  else match displaceable s.al.queue c with
    | some v => joinQueue e (outcome v .displaced true s1)
    | none => outcome e .displaced true s1

/-- Offers a PWR, TIME or SOH alert: coalesced with the entry of its class if the queue holds one, created otherwise (R115,
R116). -/
def offerAlert (c : AlertClass) (subj : Subject) (s : State) : State :=
  match s.al.queue.find? fun e => e.cls = c with
  | some e =>
    if e.inFlight then s.modAl fun a => { a with attempt := a.attempt.map fun t => { t with followOn := some subj } }
    else updEntry e.id (fun x => { x with subject := subj }) s
  | none => createEntry c subj [] s

/-! ## Quake alerts -/

def Tri.anySet (t : Tri Bool) : Bool := t.z || t.n || t.e

/-- The event's quake alert at its opening, or when its trigger set has become non-empty: an entry is created if the
trigger set is not empty and the record's alert state is NONE, Q1 if the event is STRONG and Q2 otherwise (R117). -/
def quakeAlert (num : Nat) (s : State) : State :=
  match s.record num with
  | some r =>
    if r.trigger.anySet && r.alert = .none then createEntry (if r.flags.strong then .q1 else .q2) (.event num) [] s else s
  | none => s

/-- The report that an event has become STRONG (R118). -/
def strongReport (num : Nat) (s : State) : State :=
  match s.al.queue.find? fun e => e.subject = .event num with
  | some e =>
    if e.cls = .q1 then s
    else if e.inFlight then s.modAl fun a => { a with attempt := a.attempt.map fun t => { t with upgrade := true } }
    else writeAlert (.event num) .queued .q1 (updEntry e.id (fun x => { x with cls := .q1 }) s)
  | none =>
    match s.record num with
    | some r => if r.alert = .none then s else createEntry .q1 (.event num) [] s
    | none => s

/-! ## SOH boundaries -/

/-- The latest SOH boundary at or before a seconds count, none while the interval is 0 (R121). -/
def latestSoh (interval sec : Nat) : Option Nat :=
  if interval = 0 then none else some (sec / (interval * 3600) * (interval * 3600))

/-- The comparison made at each whole second of station time and after each step (R121). -/
def sohCheck (s : State) : State :=
  match s.al.lastSoh with
  | some last =>
    if s.al.params.sohInterval ≠ 0 ∧ last + s.al.params.sohInterval * 3600 ≤ s.now.sec then
      (offerAlert .soh .none s).modAl fun a => { a with lastSoh := latestSoh a.params.sohInterval s.now.sec }
    else s
  | none => s

/-! ## Modem rail demand (R124, R172) -/

/-- The level EN_MODEM is driven to: on in FULL, on in CONSERVE and SURVIVE while a rail window is open or an attempt is in
flight, and on in HIBERNATE while the last gasp holds. -/
def modemDemand (s : State) : Bool :=
  match s.pt.tier with
  | .full => true
  | .conserve | .survive => !s.al.windows.isEmpty || s.al.attempt.isSome
  | .hibernate => s.pt.gasp.isSome

/-- EN_MODEM follows the demand; its time on counts from the moment it last went on (R124, R172). -/
def syncModem (s : State) : State :=
  s.modPt fun p =>
    if modemDemand s then
      if p.enModem then p else { p with enModem := true, modemOnAt := s.clk.mainRun }
    else { p with enModem := false }

/-! ## Rail windows -/

/-- The start of an uplink frame in seconds (R122). -/
def frameStart (frame : Nat) : Nat := frame * 60

/-- A frame's decision instant: frame start + 100 ms (R122), in nanoseconds since the epoch. -/
def decisionNs (frame : Nat) : Nat := frameStart frame * nsPerSec + 100000000

def openWindow (frame : Nat) (s : State) : State :=
  s.modAl fun a => { a with windows := if a.windows.contains frame then a.windows else a.windows ++ [frame] }

def closeWindow (frame : Nat) (s : State) : State :=
  s.modAl fun a => { a with windows := a.windows.filter fun f => f != frame }

/-- The frame has been decided and its issue instant has not been taken. -/
def awaitsIssue (a : AlertScheduler) (frame : Nat) : Option Time :=
  match a.decided with
  | some d => if d.frame = frame && !d.taken then some d.issue else none
  | none => none

/-- The attempt in flight belongs to the frame. -/
def holdsAttempt (a : AlertScheduler) (frame : Nat) : Bool :=
  match a.attempt with
  | some x => x.frame = frame
  | none => false

/-- The frame has no issue instant ahead and no attempt in flight, so its window ends at its decision instant (R124). -/
def noIssueAhead (a : AlertScheduler) (frame : Nat) : Bool := (awaitsIssue a frame).isNone && !holdsAttempt a frame

/-- A frame whose number is not above the last decided is not decided any more (R122). -/
def decidedUpTo (a : AlertScheduler) (frame : Nat) : Bool :=
  match a.decided with
  | some d => frame ≤ d.frame
  | none => false

/-- A step from `old` to `now` has carried time past the issue instant of a frame that awaits it, or past the decision instant of a
frame that has no issue instant ahead, before it was reached (R122 to R124). After a step back, a frame that is decided and still
awaits its issue instant is not passed by a step over its decision instant alone: DESIGN CHOICE (log entry 34). -/
def passedFrame (old now : Nat) (a : AlertScheduler) (frame : Nat) : Bool :=
  match awaitsIssue a frame with
  | some t => old < t.toNs && t.toNs < now
  | none => noIssueAhead a frame && old < decisionNs frame && decisionNs frame < now

/-- After a step of time from `old`: the windows of the frames it has passed close (R124), the attempt in flight keeping that of its
frame to its end; and a decided frame that has lost its issue instant so makes no attempt, also if time comes back to it (R123,
log entry 34). -/
def closePassedWindows (old : Nat) (s : State) : State :=
  let passed := passedFrame old s.now.toNs s.al
  s.modAl fun a =>
    { a with
      windows := a.windows.filter fun f => !passed f
      decided := a.decided.map fun x => if passed x.frame then { x with taken := true } else x }

end Sys2Proof.Machine
end

