-- ==== Sys2Proof/Machine/TimeOps.lean ====
section
/-! DEFINITION. The shared operations of the time base: grade changes, the growth of u, the drift table, what a step of time
brings about outside TB, and the transfer to the watch clock (R11 to R14, R17). -/

namespace Sys2Proof.Machine

/-! ## Readings of the housekeeping monitor that other blocks use (R140) -/

/-- The value of a reading while it is valid. -/
def Reading.val (r : Reading) : Option Int := if r.valid then r.value else none

/-! ## Grades -/

/-- A change of grade (R14): TIME_GRADE is raised; leaving LOCKED sets the rejection run to 0 (R9); the free-recovery mark is
set when FREE gives way to TRACKING and cleared at LOCKED; HOLD to FREE, and LOCKED with the mark set, offer a TIME alert whose
subject is the new grade. -/
def changeGrade (g : Grade) (s : State) : State :=
  let old := s.tb.grade
  if old = g then s
  else
    let s1 := s.modTb fun t =>
      { t with
        grade := g
        rejectRun := if old = .locked then 0 else t.rejectRun
        freeRecovery := if old = .free ∧ g = .tracking then true else if g = .locked then false else t.freeRecovery }
    let s2 := raise .timeGrade s1
    if (old = .hold ∧ g = .free) ∨ (g = .locked ∧ s.tb.freeRecovery) then offerAlert .time (.grade g) s2 else s2

/-- The limit on u above which HOLD becomes FREE (R12). -/
def freeLimit : Nat := 10000000

/-- u grows by `g` at a whole second in HOLD or FREE, saturating, and HOLD becomes FREE above the limit (R12). -/
def growU (g : Nat) (s : State) : State :=
  if s.tb.grade = .hold ∨ s.tb.grade = .free then
    let s1 := s.modTb fun t => { t with u := min max32 (t.u + g) }
    if s1.tb.grade = .hold ∧ s1.tb.u > freeLimit then changeGrade .free s1 else s1
  else s

/-! ## The drift table (R13) -/

/-- The bin of a temperature in tenths of a degree: clamp(floor((TENC + 400)/50), 0, 15). -/
def driftBinOf (t : Int) : Fin 16 := Fin.ofNat 16 (clampInt ((t + 400) / 50) 0 15).toNat

/-- The bin of the latest TENC, none while TENC is invalid. -/
def currentBin (s : State) : Option (Fin 16) := s.hm.readings.tenc.val.map driftBinOf

/-- The bin of the latest TENC, if it is populated: n ≥ 64 (R11). -/
def populatedBin (s : State) : Option DriftBin :=
  match currentBin s with
  | some i => if 64 ≤ (s.tb.drift.get i).n then some (s.tb.drift.get i) else none
  | none => none

/-- One learning step of a bin towards s_int = −floor(I/128) (R13). -/
def learnBin (integral : Int) (b : DriftBin) : DriftBin :=
  let target := -(integral / 128)
  { v := if b.n = 0 then target else b.v + (target - b.v) / 16, n := satInc 65535 b.n }

/-- The drift table learns from the loop integral, if TENC is valid (R13). -/
def learnDrift (s : State) : State :=
  match currentBin s with
  | some i => s.modTb fun t => { t with drift := t.drift.set i.val (learnBin t.integral (t.drift.get i)) i.isLt }
  | none => s

/-! ## Steps of time -/

/-- What a step of time brings about outside TB, with `old` the time before it: the rail windows it carries time past close
(R124), SOH boundaries are compared (R121), a held wake time is compared (R179), and EN_MODEM follows its demand. -/
def afterStep (old : Nat) (s : State) : State :=
  syncModem (wakeAtTime (sohCheck (closePassedWindows old s)))

/-- A step or a TIME SET marks the next samples STEP and the event in progress TIME_STEPPED (R7, R21). -/
def markStep (s : State) : State :=
  setCurrentFlag (fun f => { f with timeStepped := true }) (s.modTb fun t => { t with stepPending := true })

/-! ## The watch clock -/

/-- The transfer to the watch clock (R17): the watch-time counter becomes station time, TRACKING and LOCKED become HOLD, and
every open rail window closes as the main clock stops (R124). -/
def toWatchClock (s : State) : State :=
  let s1 := (s.modTb fun t => { t with clock := .watch }).modAl fun a => { a with windows := [] }
  if s1.tb.grade = .tracking ∨ s1.tb.grade = .locked then changeGrade .hold s1 else s1

end Sys2Proof.Machine
end

