-- ==== Sys2Proof/Machine/BatteryOps.lean ====
section
/-! DEFINITION. The shared operations of the housekeeping monitor and the charge accounting unit: readings, the charge count,
resynchronisation, the voltage estimate and the charge switch (spec/07, R138 to R150). -/

namespace Sys2Proof.Machine

/-! ## Readings (R139, R140) -/

/-- The calibrated value of an in-range raw value, limited to the range of its quantity (R139). -/
def calibrate (c : Calibration) (lo hi : Int) (raw : Nat) : Int :=
  clampInt (((raw : Int) - c.offset) * c.gain / 4096) lo hi

/-- A raw value is a measurement: not an end of the converter's range (7.1). -/
def inRange (raw : Nat) : Bool := 0 < raw && raw < 4095

/-- The out-of-range run at which a reading turns invalid (R140). -/
def invalidRun : Nat := 3

/-- A reading after a scan (R140). -/
def scanReading (c : Calibration) (lo hi : Int) (raw : Nat) (r : Reading) : Reading :=
  if inRange raw then ⟨some (calibrate c lo hi raw), true, 0⟩
  else
    let run := satInc invalidRun r.run
    ⟨r.value, r.valid && run < invalidRun, run⟩

/-- The six readings after a scan, each in the range of its quantity (7.1). -/
def scanReadings (cal : Six Calibration) (raw : RawScan) (r : Six Reading) : Six Reading :=
  { vbat := scanReading cal.vbat 0 65535 raw.vbat.val r.vbat
    ibat := scanReading cal.ibat (-32768) 32767 raw.ibat.val r.ibat
    tbat := scanReading cal.tbat (-600) 1000 raw.tbat.val r.tbat
    tenc := scanReading cal.tenc (-600) 1000 raw.tenc.val r.tenc
    vsrc := scanReading cal.vsrc 0 65535 raw.vsrc.val r.vsrc
    ihtr := scanReading cal.ihtr (-32768) 32767 raw.ihtr.val r.ihtr }

/-- HM's work of a scan up to the hand-over to CA: the readings and the scan count (R138 to R141). -/
def takeScan (raw : RawScan) (s : State) : State :=
  (s.modLines fun l => { l with ain := raw }).modHm fun h =>
    { h with readings := scanReadings h.cal raw h.readings, scanCount := inc32 h.scanCount }

/-! ## The charge count and SoC (R142, R143) -/

/-- The capacity in mA·s. -/
def BatteryLimits.capacity (l : BatteryLimits) : Nat := l.capacityMah * 3600

/-- The SoC below which the full latch clears (R144). -/
def latchClears : Nat := 950

/-- A new q, with SoC recomputed and the full-latch test (R143, R144). -/
def ChargeUnit.withCharge (c : ChargeUnit) (q : Int) : ChargeUnit :=
  let soc := (q * 1000 / (c.limits.capacity : Int)).toNat
  { c with q := q, soc := soc, fullLatch := c.fullLatch && latchClears ≤ soc }

/-- q after counting a current over Δt seconds, before the clamp (R142 steps 2 and 3). -/
def countedCharge (l : BatteryLimits) (q i : Int) (dt : Nat) : Int :=
  if 0 < i then q + i * dt * l.eff / 256 else q + i * dt

/-- The counting of one scan (R142). -/
def countCharge (ibat : Option Int) (dt : Nat) (c : ChargeUnit) : ChargeUnit :=
  match ibat with
  | none => { c with uncounted := inc32 c.uncounted }
  | some i => c.withCharge (clampInt (countedCharge c.limits c.q i dt) 0 (c.limits.capacity : Int))

/-- A changed capacity: q is limited to it, SoC recomputed, and the estimated flag set (R150, R154). -/
def ChargeUnit.newCapacity (c : ChargeUnit) : ChargeUnit :=
  { c.withCharge (min c.q (c.limits.capacity : Int)) with estimated := true }

/-! ## The voltage estimate (R146, R147) -/

/-- The estimate from the points that follow one whose voltage is not above V. -/
def interpolate (p : OcPoint) : List OcPoint → Int → Int
  | [], _ => p.soc
  | x :: rest, v =>
    if v < x.mv then (p.soc : Int) + (v - p.mv) * ((x.soc : Int) - p.soc) / ((x.mv : Int) - p.mv) else interpolate x rest v

/-- The estimated SoC of a resting voltage (R146). -/
def estimateSoc (t : OcTable) (v : Int) : Int :=
  let p := t.get 0
  if v ≤ p.mv then p.soc else interpolate p (t.toList.drop 1) v

/-- The voltage estimate: q from the estimated SoC, and the estimated flag (R146). -/
def voltageEstimate (v : Int) (c : ChargeUnit) : ChargeUnit :=
  { c.withCharge (estimateSoc c.table v * (c.limits.capacity : Int) / 1000) with estimated := true, estimateMark := false }

/-- CA at the start-up scan after power-on (R146, R147, R153). -/
def startCharge (vbat : Option Int) (c : ChargeUnit) : ChargeUnit :=
  match vbat with
  | some v => voltageEstimate v c
  | none => { c.withCharge ((c.limits.capacity / 2 : Nat) : Int) with estimated := true, estimateMark := true }

/-! ## Resynchronisation (R144, R145) -/

def fullScans : Nat := 60
def emptyScans : Nat := 10

/-- A scan shows a charging battery tapering at full voltage (R144). -/
def showsFull (l : BatteryLimits) (vbat ibat : Option Int) : Bool :=
  match vbat, ibat with
  | some v, some i => (l.vFull : Int) ≤ v && 0 < i && i ≤ l.iTaper
  | _, _ => false

/-- A scan shows a battery at its empty voltage (R145). -/
def showsEmpty (l : BatteryLimits) (vbat : Option Int) : Bool :=
  match vbat with
  | some v => v ≤ l.vEmpty
  | none => false

/-- The full run of a scan, and the full resync at its 60th (R144). The time of the resync is held without the grade it was taken
under, as at `emptyStep` (DESIGN CHOICE, log entry 45). -/
def fullStep (now : Time) (shows : Bool) (c : ChargeUnit) : ChargeUnit :=
  if !shows then { c with fullRun := 0 }
  else if fullScans ≤ c.fullRun + 1 then
    { c with
      q := (c.limits.capacity : Int), soc := 1000, fullLatch := true, estimated := false, lastFull := some now, fullRun := 0 }
  else { c with fullRun := c.fullRun + 1 }

/-- The empty run of a scan, and the empty resync at its 10th (R145). R145 takes the time of a resync "with the grade the time base
holds at that moment"; that the words tell how good the time is, and that no grade is held or reported beside it, is the model's
choice (DESIGN CHOICE, log entry 45). -/
def emptyStep (now : Time) (shows : Bool) (c : ChargeUnit) : ChargeUnit :=
  if !shows then { c with emptyRun := 0 }
  else if emptyScans ≤ c.emptyRun + 1 then
    { c with q := 0, soc := 0, fullLatch := false, estimated := false, lastEmpty := some now, emptyRun := 0 }
  else { c with emptyRun := c.emptyRun + 1 }

/-! ## The charge switch (R148) -/

/-- The charge switch is on. -/
def chargeAllowed (c : ChargeUnit) (r : Six Reading) : Bool :=
  (match r.vsrc.val with
    | some v => (c.limits.vSrcMin : Int) ≤ v
    | none => false) &&
  (match r.tbat.val with
    | some t => c.limits.chgTmin ≤ t && t ≤ c.limits.chgTmax
    | none => false) && !c.fullLatch

/-- CA evaluates the charge switch with the readings of the last scan (R148, R150). -/
def evalChargeSwitch (s : State) : State := s.modCa fun c => { c with chargeOn := chargeAllowed c s.hm.readings }

/-! ## CA's work of one scan (R141) -/

/-- The charge step of a scan after the start-up scan: the pending estimate in place of the counting, or the counting (R142,
R147). -/
def chargeStep (dt : Nat) (r : Six Reading) (c : ChargeUnit) : ChargeUnit :=
  if c.estimateMark then
    match r.vbat.val with
    | some v => voltageEstimate v c
    | none => countCharge r.ibat.val dt c
  else countCharge r.ibat.val dt c

/-- The two resync runs of a scan (R144, R145). -/
def resyncStep (now : Time) (r : Six Reading) (c : ChargeUnit) : ChargeUnit :=
  emptyStep now (showsEmpty c.limits r.vbat.val) (fullStep now (showsFull c.limits r.vbat.val r.ibat.val) c)

/-- CA's work for a scan, with the charge step given: charge, runs, and last the switch (R141, R148). -/
def chargeWork (charge : ChargeUnit → ChargeUnit) (s : State) : State :=
  evalChargeSwitch (s.modCa fun c => resyncStep s.now s.hm.readings (charge c))

/-! ## The scan interval (R138) -/

/-- The interval the tier gives, in seconds. -/
def scanInterval (t : Tier) : Nat := if t = .hibernate then 60 else 1

/-- The end of a scan's work: the interval to the next scan, from the expiry `due` of the timer (R138). -/
def endScan (due : Nat) (s : State) : State :=
  let k := scanInterval s.pt.tier
  s.modHm fun h => { h with interval := k, scanDue := due + k * ticksPerSec }

end Sys2Proof.Machine
end

