-- ==== Sys2Proof/Machine/HeaterOps.lean ====
section
/-! DEFINITION. The heater controller's decision: control temperature, demands, target, class of the change, deferral, and the
switching instant (spec/08, R155 to R165). -/

namespace Sys2Proof.Machine

/-! ## Deliveries as a measure of time (3.1) -/

/-- Delivery number `a` is greater than `b`, by their difference modulo 2^32 (R46). -/
def deliveryAfter (a b : Nat) : Bool :=
  let k := (a + 4294967296 - b % 4294967296) % 4294967296
  0 < k && k < 2147483648

/-- A delivery number a number of deliveries ahead, 32-bit and wrapping (R46). -/
def deliveryPlus (a k : Nat) : Nat := (a + k) % 4294967296

/-- The quiet window starts: its end is quiet_window · 100 deliveries ahead; 0 sets none (R53). -/
def startQuiet (s : State) : State :=
  s.modTu fun t =>
    if t.params.quietWindow = 0 then t
    else { t with quietEnd := some (deliveryPlus t.delivery (t.params.quietWindow * 100)) }

/-! ## Temperature, demands and target -/

/-- The control temperature Tc: TBAT if valid, else TENC if valid, else none (R155). -/
def controlTemp (s : State) : Option Int :=
  match s.hm.readings.tbat.val with
  | some t => some t
  | none => s.hm.readings.tenc.val

/-- The width of the cold guard's band above damage_low, 5.0 °C (R156). -/
def guardBand : Int := 50

/-- The thermostat demand and the cold guard after a decision (R156). -/
def updateDemands (p : HeaterParams) (tc : Option Int) (demand guard : Bool) : Bool × Bool :=
  match tc with
  | none => (false, false)
  | some t =>
    if t ≤ p.damageLow then (true, true)
    else if t < p.damageLow + guardBand then (if t ≤ p.heatOn then true else demand, guard)
    else if t ≤ p.heatOn then (true, false)
    else if t < p.heatOff then (demand, false)
    else (false, false)

/-- The heater demand: a demand or the cold guard, and Tc below overheat (R156). Without a Tc both are off. -/
def heaterDemand (p : HeaterParams) (tc : Option Int) (demand guard : Bool) : Bool :=
  (demand || guard) && (match tc with
    | some t => t < p.overheat
    | none => false)

/-- The charging source is available: VSRC valid and at least v_src_min (R157). -/
def sourceAvailable (s : State) : Bool :=
  match s.hm.readings.vsrc.val with
  | some v => (s.ca.limits.vSrcMin : Int) ≤ v
  | none => false

/-- Battery heat is permitted (R157). -/
def batteryHeatPermitted (s : State) (guard : Bool) : Bool :=
  match s.pt.tier with
  | .full => true
  | .conserve => s.hc.params.reserve ≤ s.ca.soc || guard
  | .survive => guard
  | .hibernate => false

/-- The target state (R157). -/
def heaterTarget (s : State) (demand guard : Bool) : HeaterState :=
  if !demand then .off else if sourceAvailable s then .onSrc else if batteryHeatPermitted s guard then .onBat else .off

/-- A change from state `st` to a different target is immediate, and not a thermostat change (R160). -/
def isImmediate (p : HeaterParams) (st target : HeaterState) (tc : Option Int) (demand guard : Bool) : Bool :=
  match st, target with
  | .off, _ => guard
  | _, .off =>
    demand || (match tc with
      | none => true
      | some t => p.overheat ≤ t)
  | _, _ => true

/-! ## The switching instant (R163) -/

/-- The heater switches: the instant is recorded, the low-current run set to 0, and, while the main clock runs, TU starts the
quiet window, SI sets its heat mark and the current event gets HEATER_SWITCHED (R163). In the settle the main clock does not count
as running (log entry 25). -/
def switchHeater (st : HeaterState) (s : State) : State :=
  let s1 := s.modHc fun h => { h with state := st, lastSwitch := some s.now, lowRun := 0 }
  if s.mainRuns then
    setCurrentFlag (fun f => { f with heaterSwitched := true })
      ((startQuiet s1).modSi fun i => { i with heatMark := true })
  else s1

/-- EN_HEAT_SRC (R158). -/
def State.enHeatSrc (s : State) : Bool := s.hc.state = .onSrc

/-- EN_HEAT_BAT (R158). -/
def State.enHeatBat (s : State) : Bool := s.hc.state = .onBat

/-! ## The decision (R159 to R162) -/

/-- The detector is OPEN or POST. -/
def eventInProgress (s : State) : Bool := s.tu.det = .open || s.tu.det = .post

/-- Defers a thermostat change: a new record, or a newer wanted state in the record held (R161). -/
def deferChange (target : HeaterState) (s : State) : State :=
  s.modHc fun h =>
    { h with
      change :=
        match h.change with
        | some r => some { r with wanted := target }
        | none => some ⟨target, s.now, s.clk.watchRun + h.params.deferLimit * ticksPerSec⟩ }

/-- One decision of HC. `atDeadline` says that the pending-change record's deadline has expired, so that a thermostat change
is applied although an event is in progress (R159 to R162). In FAULT the demands and the target are updated and nothing is
applied (R165). -/
def heaterDecide (atDeadline : Bool) (s : State) : State :=
  let tc := controlTemp s
  let dem := updateDemands s.hc.params tc s.hc.demand s.hc.coldGuard
  let want := heaterDemand s.hc.params tc dem.1 dem.2
  let target := heaterTarget s want dem.2
  let s1 := s.modHc fun h => { h with demand := dem.1, coldGuard := dem.2, target := target }
  if s.hc.state = .fault then s1
  else if target = s.hc.state then s1.modHc fun h => { h with change := none }
  else if isImmediate s.hc.params s.hc.state target tc want dem.2 || !eventInProgress s || s.hc.params.deferLimit = 0 ||
      atDeadline then
    (switchHeater target s1).modHc fun h => { h with change := none }
  else deferChange target s1

/-! ## The low-current test (R164) -/

/-- The heater enters FAULT: both switches go off as a switching instant, the record is cleared and the fault counted. -/
def enterFault (s : State) : State :=
  (switchHeater .fault s).modHc fun h => { h with change := none, faults := satInc 255 h.faults, lowRun := 0 }

/-- The least heater current of a working element, mA (R164). -/
def minHeaterCurrent : Int := 100

/-- The low-current test of one scan (R164). -/
def lowCurrentTest (s : State) : State :=
  if s.hc.state = .onSrc ∨ s.hc.state = .onBat then
    let low := match s.hm.readings.ihtr.val with
      | some i => decide (i < minHeaterCurrent)
      | none => true
    if low then
      if s.hc.lowRun + 1 ≥ 3 then enterFault s else s.modHc fun h => { h with lowRun := h.lowRun + 1 }
    else s.modHc fun h => { h with lowRun := 0 }
  else s.modHc fun h => { h with lowRun := 0 }

end Sys2Proof.Machine
end

