-- ==== Sys2Proof/Machine/StoreOps.lean ====
section
/-! DEFINITION. The shared operations of the waveform store and of the event table's victim order: pages, page needs,
reclaim, rings, handover, close, removal, and the checked reading of storage words (spec/04, R97 to R102). -/

namespace Sys2Proof.Machine

/-! ## Pages -/

def WaveStore.page (w : WaveStore) (p : PageId) : Page := w.pages.get p

def WaveStore.modPage (w : WaveStore) (p : PageId) (f : Page → Page) : WaveStore :=
  { w with pages := w.pages.set p.val (f (w.page p)) p.isLt }

def WaveStore.chan (w : WaveStore) (c : Channel) : StoreChannel := w.chans.get c

def WaveStore.modChan (w : WaveStore) (c : Channel) (f : StoreChannel → StoreChannel) : WaveStore :=
  { w with chans := w.chans.set c (f (w.chan c)) }

/-- All page numbers in rising order. -/
def allPages : List PageId := List.finRange 256

/-- The number of pages that satisfy a test. -/
def WaveStore.countPages (w : WaveStore) (test : Page → Bool) : Nat := allPages.countP fun p => test (w.page p)

/-- The lowest-numbered page of the free set (R77). -/
def WaveStore.lowestFree (w : WaveStore) : Option PageId := allPages.find? fun p => (w.page p).state = .free

/-- A page leaves its owner: unmarked into the free set, marked into the faulty set (R74). -/
def WaveStore.release (w : WaveStore) (p : PageId) : WaveStore :=
  w.modPage p fun g =>
    if g.faulty then { g with state := .faultySet, filling := false }
    else { g with state := .free, filling := false, first := none, count := 0 }

def WaveStore.releaseAll (w : WaveStore) (ps : List PageId) : WaveStore := ps.foldl WaveStore.release w

/-- A page is taken for an owner: filling, with no first sample time and a sample count of 0 (R77). -/
def WaveStore.allocate (w : WaveStore) (p : PageId) (owner : PageState) : WaveStore :=
  w.modPage p fun g => { g with state := owner, filling := true, first := none, count := 0 }

/-- The page list of one channel of one event. -/
def WaveStore.eventList (w : WaveStore) (num : Nat) (c : Channel) : List PageId :=
  match w.events.find? fun x => x.num = num with
  | some x => x.lists.get c
  | none => []

/-- Every page of every list of an event. -/
def WaveStore.eventPages (w : WaveStore) (num : Nat) : List PageId := channels.flatMap fun c => w.eventList num c

/-- The event has an entry among the page lists. An event without one has empty lists. -/
def WaveStore.hasLists (w : WaveStore) (num : Nat) : Bool := w.events.any fun x => x.num = num

/-- A page joins the end of an event's list for a channel. -/
def WaveStore.appendPage (w : WaveStore) (num : Nat) (c : Channel) (p : PageId) : WaveStore :=
  let events := if w.hasLists num then w.events else w.events ++ [⟨num, .replicate []⟩]
  { w with
    events := events.map fun x => if x.num = num then { x with lists := x.lists.set c (x.lists.get c ++ [p]) } else x }

/-- ring_depth = floor(pre · 100/1,024) + 1 (R76). -/
def ringDepth (pre : Nat) : Nat := pre * 100 / 1024 + 1

/-! ## Closing the filling page (R72, R75) -/

/-- A first half that waits in the pair buffer is written with a PAD word as its second half (R72). -/
def WaveStore.flushPair (w : WaveStore) (c : Channel) : WaveStore :=
  match (w.chan c).filling, (w.chan c).pair with
  | some p, some h =>
    { w with array := writeWord w.array (wordAddress p ((w.page p).count / 2)) ⟨h, padWord.bits, 0⟩ }
  | _, _ => w

/-- Closes the route's filling page: the waiting half is written, the page stops filling, and a ring's page becomes the newest
completed page of the ring (R75, R76). An event's page stays in its list. -/
def WaveStore.closeFilling (w : WaveStore) (c : Channel) : WaveStore :=
  match (w.chan c).filling with
  | some p =>
    ((w.flushPair c).modPage p fun g => { g with filling := false }).modChan c fun ch =>
      { ch with filling := none, pair := none, ring := if ch.route = .ring then ch.ring ++ [p] else ch.ring }
  | none => w

/-! ## Victims and reclaim (R79, R101) -/

/-- The unpinned records: the released first, then the others, each in creation order (R101). -/
def victimOrder (t : EventTable) : List EventRecord :=
  (t.records.filter fun r => !r.pinned && r.released) ++ (t.records.filter fun r => !r.pinned && !r.released)

/-- The event holds at least one page. -/
def WaveStore.holdsPage (w : WaveStore) (num : Nat) : Bool := !(w.eventPages num).isEmpty

/-- A channel's filling page closes if it is one of these pages (R74). -/
def WaveStore.closeIfIn (ps : List PageId) (w : WaveStore) (c : Channel) : WaveStore :=
  if (w.chan c).filling.any ps.contains then w.closeFilling c else w

/-- All pages of an event leave it, and its lists are gone (R79, R85). A page that leaves while it fills closes first: its waiting
half is written with PAD and its pair buffer is empty (R74). -/
def WaveStore.dropEvent (w : WaveStore) (num : Nat) : WaveStore :=
  let ps := w.eventPages num
  let closed := channels.foldl (WaveStore.closeIfIn ps) w
  { closed.releaseAll ps with events := w.events.filter fun x => x.num != num }

/-- Reclaim of one record: it keeps its place and gets WAVEFORM_RECLAIMED (R79). -/
def reclaim (num : Nat) (s : State) : State :=
  setEventFlag num (fun f => { f with reclaimed := true }) (s.modWs fun w => w.dropEvent num)

/-- Reclaims the records of the victim order that hold a page, one at a time, until the free set holds a page (R78). -/
def reclaimUntilFree (s : State) : State :=
  ((victimOrder s.et).map EventRecord.number).foldl
    (fun s n => if s.ws.lowestFree.isSome || !s.ws.holdsPage n then s else reclaim n s) s

/-! ## Page needs (R77, R78) -/

/-- The oldest completed page leaves a ring that holds more completed pages than ring_depth (R78 step 1). -/
def dropOldest (c : Channel) (w : WaveStore) : WaveStore :=
  match (w.chan c).ring with
  | p :: rest => (w.release p).modChan c fun ch => { ch with ring := rest }
  | [] => w

/-- A ring need. It answers with the route RING and a fresh filling page, or with the route STARVED, whose entry raises
STORE (R78, R84). Step 1 compares the ring with the ring_depth of the present pre, also right after pre was lowered (log entry 38). -/
def ringNeed (c : Channel) (s : State) : State :=
  let s1 :=
    if s.ws.lowestFree.isNone && ringDepth s.tu.params.pre < (s.ws.chan c).ring.length then s.modWs (dropOldest c) else s
  let s2 := if s1.ws.lowestFree.isNone then reclaimUntilFree s1 else s1
  match s2.ws.lowestFree with
  | some p => s2.modWs fun w => (w.allocate p (.ring c)).modChan c fun ch => { ch with route := .ring, filling := some p }
  | none =>
    let s3 := s2.modWs fun w => w.modChan c fun ch => { ch with route := .starved, filling := none }
    if (s.ws.chan c).route = .starved then s3 else raise .store s3

/-- An event need. It answers with a fresh filling page at the end of the event's list, or with the route STOPPED, the
record INCOMPLETE and STORE raised (R78). -/
def eventNeed (num : Nat) (c : Channel) (s : State) : State :=
  let s2 := if s.ws.lowestFree.isNone then reclaimUntilFree s else s
  match s2.ws.lowestFree with
  | some p =>
    s2.modWs fun w =>
      ((w.allocate p (.event num c)).appendPage num c p).modChan c fun ch => { ch with filling := some p }
  | none =>
    raise .store
      (setEventFlag num (fun f => { f with incomplete := true })
        (s2.modWs fun w => w.modChan c fun ch => { ch with route := .stopped, filling := none }))

/-- The oldest completed pages leave a ring until it holds ring_depth of them (R76). -/
def trimRing (c : Channel) (s : State) : State :=
  let ring := (s.ws.chan c).ring
  let k := ring.length - ringDepth s.tu.params.pre
  s.modWs fun w => (w.releaseAll (ring.take k)).modChan c fun ch => { ch with ring := ring.drop k }

/-- The completion step of a route whose filling page has just closed: the next page is allocated, and a ring gives up what
lies beyond ring_depth (R76, R83). -/
def completionStep (c : Channel) (s : State) : State :=
  match (s.ws.chan c).route with
  | .ring => trimRing c (ringNeed c s)
  | .event num => eventNeed num c s
  | .off | .starved | .stopped => s

/-! ## Storing a sample word (R75) -/

/-- The samples of a full page. -/
def pageSamples : Nat := 1024

/-- The spacing of samples: 10 ms. -/
def sampleNs : Nat := 10000000

/-- A word for a route that drops it (R75). -/
def dropWord (c : Channel) (s : State) : State :=
  s.modWs fun w => w.modChan c fun ch => { ch with dropped := inc32 ch.dropped }

/-- Writes a word into the route's filling page: into the pair buffer, or with the waiting half into the array; a page of
1,024 samples closes and the route makes its completion step (R72, R75). -/
def putWord (c : Channel) (word : BitVec 32) (t : Time) (s : State) : State :=
  match (s.ws.chan c).filling with
  | some p =>
    let n := (s.ws.page p).count
    let s1 := s.modWs fun w =>
      match (w.chan c).pair with
      | some h =>
        { w with array := writeWord w.array (wordAddress p (n / 2)) ⟨h, word, 0⟩ }.modChan c fun ch => { ch with pair := none }
      | none => w.modChan c fun ch => { ch with pair := some word }
    let s2 := s1.modWs fun w =>
      w.modPage p fun g => { g with first := if g.count = 0 then some t else g.first, count := g.count + 1 }
    if n + 1 = pageSamples then completionStep c (s2.modWs fun w => w.closeFilling c) else s2
  | none => s

/-- The filling page must close before a word of this time: it holds a sample and the word does not follow its last by
10 ms, or it carries the faulty mark (R75). -/
def mustClose (w : WaveStore) (c : Channel) (t : Time) : Bool :=
  match (w.chan c).filling with
  | some p =>
    let g := w.page p
    g.faulty ||
      (match g.first with
        | some f => 1 ≤ g.count && t.toNs != f.toNs + sampleNs * g.count
        | none => false)
  | none => false

/-- WS takes one sample word of a channel (R75). -/
def storeWord (c : Channel) (word : BitVec 32) (t : Time) (s : State) : State :=
  match (s.ws.chan c).route with
  | .off => s
  | .stopped => dropWord c s
  | .starved =>
    let s1 := ringNeed c s
    if (s1.ws.chan c).route = .ring then putWord c word t s1 else dropWord c s1
  | .ring | .event _ =>
    let s1 := if mustClose s.ws c t then completionStep c (s.modWs fun w => w.closeFilling c) else s
    let s2 :=
      if (s1.ws.chan c).filling.isSome then s1
      else match (s1.ws.chan c).route with
        | .ring => ringNeed c s1
        | .event num => eventNeed num c s1
        | .off | .starved | .stopped => s1
    if (s2.ws.chan c).filling.isSome then putWord c word t s2 else dropWord c s2

/-! ## Channels leaving and joining the enabled set (R80) -/

/-- A channel leaves the enabled set: a ring is given up, an event's list ends with its filling page closed, and the route
becomes OFF. -/
def storeLeave (c : Channel) (w : WaveStore) : WaveStore :=
  let w1 := w.closeFilling c
  match (w.chan c).route with
  | .ring | .starved =>
    (w1.releaseAll (w1.chan c).ring).modChan c fun ch => { ch with route := .off, ring := [], filling := none, pair := none }
  | .event _ | .stopped | .off => w1.modChan c fun ch => { ch with route := .off }

/-- A channel joins the enabled set: an empty ring, and a ring need at once. -/
def storeJoin (c : Channel) (s : State) : State :=
  ringNeed c (s.modWs fun w => w.modChan c fun ch => { ch with route := .ring, ring := [], filling := none, pair := none })

/-! ## Handover, close and removal -/

/-- The last sample time of a page, in nanoseconds: its first sample time plus 10 ms times one less than its count (R81). -/
def lastSampleNs (g : Page) : Option Nat := g.first.map fun f => f.toNs + sampleNs * (g.count - 1)

/-- A completed ring page passes to the event: its last sample lies at or after onset − pre (R81). -/
def passesHandover (w : WaveStore) (onset : Time) (pre : Nat) (p : PageId) : Bool :=
  match lastSampleNs (w.page p) with
  | some t => onset.toNs ≤ t + pre * nsPerSec
  | none => false

/-- The handover of one channel's ring to a new event (R81). Only a ring's filling page passes; a route that holds none has nothing
but its completed pages to give. -/
def handoverChannel (num : Nat) (onset : Time) (c : Channel) (s0 : State) : State :=
  let s := s0.modWs fun w => if (w.chan c).route = .ring then w else w.closeFilling c
  let ch := s.ws.chan c
  let passing := (ch.ring.filter (passesHandover s.ws onset s.tu.params.pre)) ++ ch.filling.toList
  let leaving := ch.ring.filter fun p => !passesHandover s.ws onset s.tu.params.pre p
  let s1 := s.modWs fun w =>
    let w1 := w.releaseAll leaving
    let w2 := passing.foldl (fun w p => (w.modPage p fun g => { g with state := .event num c }).appendPage num c p) w1
    w2.modChan c fun x => { x with route := .event num, ring := [] }
  if passing.any fun p => (s.ws.page p).faulty then setEventFlag num (fun f => { f with damaged := true }) s1 else s1

/-- The handover at an event's opening, for the enabled channels in the order Z, N, E (R81). The new event's lists are empty until a
page joins them. -/
def handover (num : Nat) (onset : Time) (s : State) : State :=
  (enabledChannels s.pt.tier).foldl (fun s c => handoverChannel num onset c s) s

/-- The close of the open event for one channel (R84). -/
def storeCloseChannel (c : Channel) (s : State) : State :=
  match (s.ws.chan c).route with
  | .event _ | .stopped => storeJoin c (s.modWs fun w => w.closeFilling c)
  | .ring | .starved | .off => s

/-- The close of the open event (R84). The words of the delivery whose start closes it are in WS by then: DESIGN CHOICE
(log entry 41). -/
def storeClose (s : State) : State := channels.foldl (fun s c => storeCloseChannel c s) s

/-- A record leaves the table: its pages leave the event (R85, R102). -/
def removeRecord (num : Nat) (s : State) : State :=
  (s.modEt fun t =>
    { t with
      records := t.records.filter fun r => r.number != num
      pins := if t.records.any fun r => r.number = num && r.hostPin then t.pins - 1 else t.pins }).modWs fun w => w.dropEvent num

/-! ## Extents (R82) -/

/-- The waveform extent of one channel of one event: first sample time, sample count, page count. -/
structure Extent where
  first : Option Time
  samples : Nat
  pages : Nat
  deriving DecidableEq, Repr

def WaveStore.extent (w : WaveStore) (num : Nat) (c : Channel) : Option Extent :=
  match w.eventList num c with
  | [] => none
  | p :: rest =>
    some ⟨(w.page p).first, ((p :: rest).map fun x => (w.page x).count).sum, rest.length + 1⟩

/-! ## The error-correcting code (R87, R88) -/

/-- The number of stored bits in error. -/
def errorWeight (e : BitVec 72) : Nat := (List.range 72).countP fun i => e.getLsbD i

/-- The first half as it physically stands, errors included. -/
def StorageWord.rawFirst (w : StorageWord) : BitVec 32 := w.first ^^^ w.err.extractLsb' 0 32

/-- The second half as it physically stands. -/
def StorageWord.rawSecond (w : StorageWord) : BitVec 32 := w.second ^^^ w.err.extractLsb' 32 32

/-- The word with one of its 72 stored bits turned over. -/
def StorageWord.flip (w : StorageWord) (bit : Fin 72) : StorageWord := { w with err := w.err ^^^ (1#72 <<< bit.val) }

/-- The check of a storage word: clean without error, corrected with one bit in error, uncorrectable with two. With more errors the
class, and the bit a correction turns over, depend on the code, which is not given; the halves returned are those of the class (R87,
log entry 9). -/
def eccCheck (w : StorageWord) : EccAnswer :=
  match errorWeight w.err with
  | 0 => ⟨.clean, w.first, w.second⟩
  | 1 => ⟨.single, w.first, w.second⟩
  | 2 => ⟨.uncorrectable, w.rawFirst, w.rawSecond⟩
  | _ =>
    match Config.eccManyErrors w.first w.second w.err with
    | .clean => ⟨.clean, w.rawFirst, w.rawSecond⟩
    | .single bit => ⟨.single, (w.flip bit).rawFirst, (w.flip bit).rawSecond⟩
    | .uncorrectable => ⟨.uncorrectable, w.rawFirst, w.rawSecond⟩

/-- One storage word is read through the code, with the counting, write-back and marking of R87 and R88. -/
def readStorage (p : PageId) (i : Nat) (s : State) : EccAnswer × State :=
  let a := wordAddress p i
  let r := eccCheck (readWord s.ws.array a)
  match r.cls with
  | .clean => (r, s)
  | .single =>
    (r, s.modWs fun w =>
      let w1 := w.modPage p fun g => { g with correctable := satInc 255 g.correctable }
      if w.scrub then { w1 with array := writeWord w1.array a ⟨r.first, r.second, 0⟩ } else w1)
  | .uncorrectable =>
    let s1 := s.modWs fun w =>
      { w.modPage p fun g => { g with faulty := true } with uncorrectable := inc32 w.uncorrectable }
    let s2 := match (s.ws.page p).state with
      | .event num _ => setEventFlag num (fun f => { f with damaged := true }) s1
      | .ring _ | .free | .faultySet => s1
    (r, raise .store s2)

end Sys2Proof.Machine
end

