-- ==== Sys2Proof/Machine/TriggerOps.lean ====
section
/-! DEFINITION. The shared operations of the trigger unit and the event table: creating a record, the vote, opening and
closing an event, peaks and STRONG, warm-up, and the work of one pass (spec/03, R94 to R99). -/

namespace Sys2Proof.Machine

def TriggerUnit.chan (t : TriggerUnit) (c : Channel) : TriggerChannel := t.chans.get c

def TriggerUnit.modChan (t : TriggerUnit) (c : Channel) (f : TriggerChannel → TriggerChannel) : TriggerUnit :=
  { t with chans := t.chans.set c (f (t.chan c)) }

def updChannel (c : Channel) (f : TriggerChannel → TriggerChannel) (s : State) : State := s.modTu fun t => t.modChan c f

/-- One value made for each channel. -/
def Tri.ofFn {α : Type} (f : Channel → α) : Tri α := ⟨f .z, f .n, f .e⟩

/-! ## Creating a record (R97, R98) -/

/-- The next value of the event number counter: one on, from 4,294,967,295 back to 1, past every number held (R97). -/
def nextEventNumber (held : List Nat) : Nat → Nat → Nat
  | 0, n => n
  | fuel + 1, n =>
    let m := if n ≥ max32 then 1 else n + 1
    if held.contains m then nextEventNumber held fuel m else m

/-- A new record in the state OPEN (R94 at creation). -/
def newRecord (s : State) (num : Nat) (onset : Time) (trigger : Tri Bool) (peaks : Tri (Option Peak)) (flags : EventFlags) :
    EventRecord :=
  { number := num, state := .open, onset := onset, grade := s.tb.grade, u := s.tb.u, tier := s.pt.tier, endTime := none,
    trigger := trigger, peaks := peaks, flags := flags, hostPin := false, released := false, alert := .none,
    alertClass := none }

/-- Room for one more record: with 64 records, the first of the victim order leaves (R98 step 1). -/
def makeRoom (s : State) : State :=
  if s.et.records.length < 64 then s
  else match victimOrder s.et with
    | r :: _ => removeRecord r.number s
    | [] => s

/-- A record joins the end of the creation order under the counter's number (R97, R98). -/
def createRecord (onset : Time) (trigger : Tri Bool) (peaks : Tri (Option Peak)) (flags : EventFlags) (s : State) : State :=
  (makeRoom s).modEt fun t =>
    let num := s.et.counter
    { t with
      records := t.records ++ [newRecord s num onset trigger peaks flags]
      counter := nextEventNumber (num :: t.records.map EventRecord.number) 66 num }

/-! ## The vote (R55) -/

/-- The number of enabled channels. -/
def enabledCount (s : State) : Nat := (enabledChannels s.pt.tier).length

/-- The number of TRIGGERED channels. -/
def triggeredCount (s : State) : Nat := (channels.filter fun c => (s.tu.chan c).state = .triggered).length

/-- The vote is met: at least the effective vote, the smaller of V and the number of enabled channels (R55). -/
def voteMet (s : State) : Bool := min s.tu.params.vote (enabledCount s) ≤ triggeredCount s

/-! ## Opening an event (R57, R65) -/

/-- The peak part of an enabled channel at an opening: seeded with the pass it has already made in this delivery (R57 step 2). -/
def seedPeak (s : State) (c : Channel) : Option Peak :=
  if enabledIn s.pt.tier c then
    match (s.tu.chan c).last with
    | some l => if l.delivery = s.tu.delivery ∧ 0 < l.cf then some ⟨l.cf, some l.time⟩ else some ⟨0, none⟩
    | none => some ⟨0, none⟩
  else none

/-- A peak part has reached strong_level. -/
def peakStrong (level : Nat) (p : Option Peak) : Bool :=
  match p with
  | some x => level ≤ x.peak
  | none => false

/-- The peak parts of an opening. -/
def seedPeaks (s : State) : Tri (Option Peak) := Tri.ofFn (seedPeak s)

/-- The flags of a record at its opening: STRONG if a seeded peak reaches strong_level, EXTERNAL as told (R57, R65). -/
def openingFlags (s : State) (external : Bool) : EventFlags :=
  let p := seedPeaks s
  let l := s.tu.params.strongLevel
  { noEventFlags with strong := peakStrong l p.z || peakStrong l p.n || peakStrong l p.e, external := external }

/-- An event opens: its record with its peak parts, the handover, the quake alert and EVENT_OPENED, in this order (R57, R65). -/
def openEvent (onset : Time) (onsetDelivery : Nat) (trigger : Tri Bool) (external : Bool) (s : State) : State :=
  let num := s.et.counter
  let s1 := createRecord onset trigger (seedPeaks s) (openingFlags s external) s
  let s2 := s1.modTu fun t =>
    { t with det := .open, current := some num, onset := onset, onsetDelivery := onsetDelivery }
  raise .eventOpened (quakeAlert num (handover num onset s2))

/-- The TRIGGERED channel with the earliest on-time (R57). -/
def earliestOn (s : State) : Option (Time × Nat) :=
  channels.foldl
    (fun best c =>
      let ch := s.tu.chan c
      match ch.onTime, ch.onDelivery with
      | some t, some d =>
        if ch.state = .triggered then
          match best with
          | some b => if t.toNs < b.1.toNs then some (t, d) else best
          | none => some (t, d)
        else best
      | _, _ => best)
    none

/-- The event opens by vote (R57). -/
def openByVote (s : State) : State :=
  match earliestOn s with
  | some (t, d) => openEvent t d (Tri.ofFn fun c => (s.tu.chan c).state = .triggered) false s
  | none => s

/-- The detector becomes POST: the record's state and the post-window end follow (R58). -/
def toPost (s : State) : State :=
  let s1 := s.modTu fun t => { t with det := .post, postEnd := deliveryPlus t.delivery (t.params.post * 100) }
  match s.tu.current with
  | some n => updRecord n (fun r => { r with state := .post }) s1
  | none => s1

/-- The vote is met again in POST: the event is OPEN again, with MERGED (R58). -/
def reopen (s : State) : State :=
  let s1 := s.modTu fun t => { t with det := .open }
  match s.tu.current with
  | some n => updRecord n (fun r => { r with state := .open, flags := { r.flags with merged := true } }) s1
  | none => s1

/-- The evaluation of the vote (R55). It is not made while DISARMED or with no channel enabled. -/
def evalVote (s : State) : State :=
  if enabledCount s = 0 then s
  else match s.tu.det with
    | .disarmed => s
    | .idle => if voteMet s then openByVote s else s
    | .open => if voteMet s then s else toPost s
    | .post => if voteMet s then reopen s else s

/-- The external event of the aux-pending mark: empty trigger set, EXTERNAL, and straight to POST (R65). Which channels the set takes
later is told at `joinTriggerSet` (log entry 43). -/
def openExternal (s : State) : State :=
  match s.tu.lastSeen with
  | some t => toPost (openEvent t s.tu.delivery (.replicate false) true s)
  | none => s

/-! ## Closing an event (R58 to R60) -/

/-- The current event closes, and the detector takes the state `final`. Its record gets its end time and CLOSED, WS ends its
page lists, EVENT_CLOSED is raised, and HC decides, since the detector has left OPEN or POST (R58, R159). -/
def closeEvent (endTime : Option Time) (truncated : Bool) (final : DetectorState) (s : State) : State :=
  let s1 := match s.tu.current with
    | some n =>
      updRecord n
        (fun r =>
          { r with state := .closed, endTime := endTime, flags := { r.flags with truncated := r.flags.truncated || truncated } })
        s
    | none => s
  let s2 := (storeClose s1).modTu fun t => { t with det := final, current := none }
  heaterDecide false (raise .eventClosed s2)

/-- Every TRIGGERED channel is re-baselined: its lta becomes its sta and its state QUIET (R59). -/
def rebaseline (s : State) : State :=
  s.modTu fun t =>
    { t with chans := Tri.ofFn fun c =>
        let ch := t.chan c
        if ch.state = .triggered then { ch with lta := ch.sta, state := .quiet } else ch }

/-- The close with TRUNCATED by disarm, RESTART or HIBERNATE, if an event is in progress (R60). -/
def truncateEvent (final : DetectorState) (s : State) : State :=
  if eventInProgress s then closeEvent s.tu.lastSeen true final s else s

/-! ## Peaks and STRONG (R61, R62) -/

/-- The channel's peak part takes a larger cf with its sample time (R61); a peak that so reaches strong_level makes the event
STRONG, which is reported to AS once (R62). -/
def takePeak (c : Channel) (cf : Nat) (t : Time) (s : State) : State :=
  match s.tu.current with
  | some n =>
    match s.record n with
    | some r =>
      match r.peaks.get c with
      | some p =>
        if p.peak < cf then
          let s1 := updRecord n (fun r => { r with peaks := r.peaks.set c (some ⟨cf, some t⟩) }) s
          if s.tu.params.strongLevel ≤ cf ∧ !r.flags.strong then
            strongReport n (setEventFlag n (fun f => { f with strong := true }) s1)
          else s1
        else s
      | none => s
    | none => s
  | none => s

/-- A channel that becomes TRIGGERED joins the trigger set of the event in progress; AS is told when the set was empty until
then (R58, R94). R65 says of an external event that the trigger set fills when the vote is met; a channel that was TRIGGERED before
the opening does not become so any more, and does not join: DESIGN CHOICE (log entry 43). -/
def joinTriggerSet (c : Channel) (s : State) : State :=
  match s.tu.current with
  | some n =>
    let wasEmpty := match s.record n with
      | some r => !r.trigger.anySet
      | none => false
    let s1 := updRecord n (fun r => { r with trigger := r.trigger.set c true }) s
    if wasEmpty then quakeAlert n s1 else s1
  | none => s

/-! ## Channel states (R49, R50) -/

/-- Entry to WARMUP (R50). -/
def enterWarmup (ch : TriggerChannel) : TriggerChannel := { ch with state := .warmup, startPending := true, warmCount := 0 }

/-! ## The work of one pass (R46 to R52) -/

/-- The characteristic function of a filter output (R47). -/
def charValue (y : Int) : Nat := min y.natAbs 8388607

/-- One average's step towards cf_s, a floored division by 2^k (R48). -/
def avgStep (avg cfs : Int) (k : Nat) : Int := avg + (cfs - avg) / 2 ^ k

/-- The ON threshold, doubled up to 255 inside the quiet window (R51, R53). -/
def onThreshold (t : TriggerUnit) : Nat := if t.quietEnd.isSome then min 255 (2 * t.params.onRatio) else t.params.onRatio

/-- The ON test (R51). -/
def onTest (t : TriggerUnit) (sta lta : Int) : Bool :=
  lta * onThreshold t ≤ sta * 16 && (t.params.ltaFloor : Int) * 256 ≤ lta

/-- The OFF test (R52). -/
def offTest (p : DetectParams) (sta lta : Int) : Bool := sta * 16 < lta * p.offRatio

/-- Steps 3 to 5 of a pass on the channel's own fields: the averages, and the test of the channel's state (R46, R48, R50 to
R52). -/
def channelPass (t : TriggerUnit) (cf : Nat) (time : Time) (ch : TriggerChannel) : TriggerChannel :=
  let cfs : Int := cf * 256
  let ch0 := { ch with last := some ⟨cf, time, t.delivery⟩ }
  match ch.state with
  | .disabled => ch0
  | .warmup =>
    let ch1 :=
      if ch.startPending then { ch0 with sta := cfs, lta := cfs, startPending := false, warmCount := 1 }
      else
        { ch0 with
          sta := avgStep ch.sta cfs t.params.ks, lta := avgStep ch.lta cfs t.params.kl, warmCount := ch.warmCount + 1 }
    if 2 ^ t.params.kl ≤ ch1.warmCount then { ch1 with state := .quiet } else ch1
  | .quiet =>
    let sta := avgStep ch.sta cfs t.params.ks
    let lta := avgStep ch.lta cfs t.params.kl
    let ch1 := { ch0 with sta := sta, lta := lta }
    if onTest t sta lta then { ch1 with state := .triggered, onTime := some time, onDelivery := some t.delivery } else ch1
  | .triggered =>
    let sta := avgStep ch.sta cfs t.params.ks
    let ch1 := { ch0 with sta := sta }
    if offTest t.params sta ch.lta then { ch1 with state := .quiet } else ch1

/-- The delivery-start step (R56). `prev` is the sample time of the last delivery before this one. -/
def deliveryStart (prev : Option Time) (s : State) : State :=
  let postOver := s.tu.det = .post && deliveryAfter s.tu.delivery s.tu.postEnd
  let capReached :=
    eventInProgress s && s.tu.params.cap * 100 ≤ (s.tu.delivery + 4294967296 - s.tu.onsetDelivery) % 4294967296
  let s1 :=
    if postOver then closeEvent prev false .idle s
    else if capReached then closeEvent prev true .idle (rebaseline s)
    else s
  if s1.tu.auxPending then
    let s2 := s1.modTu fun t => { t with auxPending := false }
    if s1.tu.det = .idle then openExternal s2 else s2
  else s1

/-- A pass whose sample time is later than the last seen begins a delivery (R46 step 1); a quiet window whose end the new
delivery number has passed is over (R53). -/
def beginDelivery (t : Time) (s : State) : State :=
  let later := match s.tu.lastSeen with
    | some l => decide (l.toNs < t.toNs)
    | none => true
  if later then
    let prev := s.tu.lastSeen
    deliveryStart prev
      (s.modTu fun u =>
        let d := deliveryPlus u.delivery 1
        { u with
          delivery := d
          lastSeen := some t
          quietEnd := match u.quietEnd with
            | some e => if deliveryAfter d e then none else some e
            | none => none })
  else s

/-- The fields CHANNEL GET reports are saved at the end of the channel's pass (R46). -/
def saveReport (ch : TriggerChannel) : TriggerChannel :=
  { ch with saved := ⟨ch.sta, ch.lta, ch.state, ch.onTime, ch.warmCount⟩ }

/-- TU's work for one pass, in the order of R46. A channel joins the trigger set at the pass that makes it TRIGGERED, and no other
channel at the pass that meets the vote: DESIGN CHOICE (log entry 43). -/
def triggerPass (c : Channel) (y : Int) (t : Time) (restart : Bool) (s : State) : State :=
  let s1 := beginDelivery t s
  let s2 := if restart then updChannel c enterWarmup s1 else s1
  let cf := charValue y
  let s3 := updChannel c (channelPass s2.tu cf t) s2
  let s4 :=
    if (s2.tu.chan c).state != .triggered && (s3.tu.chan c).state = .triggered && eventInProgress s3 then joinTriggerSet c s3
    else s3
  let s5 := evalVote s4
  let s6 := if eventInProgress s5 then takePeak c cf t s5 else s5
  updChannel c saveReport s6

end Sys2Proof.Machine
end

