-- ==== Sys2Proof/Machine/SampleOps.lean ====
section
/-! DEFINITION. The shared operations of the sample interface and the filter engine: frames, windows, deliveries, the filter
pass, and channels that leave or join the enabled set (spec/02). -/

namespace Sys2Proof.Machine

/-! ## The digitizer frame (11.6) -/

/-- The start byte of a digitizer frame. -/
def digitizerStart : Byte := 0x5A

/-- The bytes of a digitizer frame. -/
def digitizerLength : Nat := 13

/-- The frame number. -/
def frameNumber (f : List Byte) : Nat := getU f 1 1

/-- The three samples of a frame. -/
def frameSamples (f : List Byte) : Tri Int := ⟨getS f 2 3, getS f 5 3, getS f 8 3⟩

/-- The three overrange bits of a frame; the other bits of its status byte are ignored (R203). -/
def frameOverranges (f : List Byte) : Tri Bool :=
  let b : Byte := f.getD 11 0
  ⟨b.getLsbD 0, b.getLsbD 1, b.getLsbD 2⟩

/-- The CRC-8 over the frame number, the samples and the status byte checks. -/
def frameCrcGood (f : List Byte) : Bool := crcDigitizer (slice f 1 11) = f.getD 12 0

/-! ## Deliveries (R32, R33) -/

/-- The sample word of a channel from a window closed as a gap: the held value, marked GAP (R30, R31). -/
def gapWords (i : SampleInterface) (step heat : Bool) (c : Channel) : SampleWord :=
  ⟨i.held.get c, true, false, step, heat, false⟩

/-- The sample word of a channel from a good frame (R31). -/
def goodWords (f : List Byte) (step heat : Bool) (c : Channel) : SampleWord :=
  ⟨(frameSamples f).get c, false, (frameOverranges f).get c, step, heat, false⟩

/-- A delivery joins the deliveries that wait for the datapath (R38). -/
def enqueueDelivery (t : Time) (items : List (Channel × SampleWord)) (s : State) : State :=
  if items.isEmpty then s else s.modFe fun e => { e with waiting := e.waiting ++ [⟨t, items⟩] }

/-- One delivery: each channel the tier enables gets its word, WS first and then FE, in the order Z, N, E. The words carry STEP
from the window or the step-carry mark and HEAT from the heat mark, and both marks clear (R32, R33). R84 lets a word of the delivery
whose start closes an event reach WS before the close or after it; WS takes the words of every delivery here, ahead of its passes,
and so always before: DESIGN CHOICE (log entry 41). -/
def deliver (w : Window) (word : Bool → Bool → Channel → SampleWord) (s : State) : State :=
  let words := word (w.step || s.si.stepCarry) s.si.heatMark
  let s1 := s.modSi fun i => { i with stepCarry := false, heatMark := false }
  let cs := enabledChannels s.pt.tier
  enqueueDelivery w.time (cs.map fun c => (c, words c)) (cs.foldl (fun s c => storeWord c (words c).bits w.time s) s1)

/-- A window closed as a gap delivers the held values (R28, R29). -/
def deliverGap (w : Window) (s : State) : State := deliver w (gapWords s.si) s

/-! ## The window logic (R26 to R29) -/

/-- The run of sequence gaps at which SI gives up its alignment (R28). -/
def mismatchLimit : Nat := 8

/-- A sequence gap: the count, and the run, which at 8 returns SI to ALIGN with its run at 0 (R27, R28). -/
def noteSequenceGap (i : SampleInterface) : SampleInterface :=
  let run := i.mismatchRun + 1
  if mismatchLimit ≤ run then
    { i with window := none, seqGapCount := inc32 i.seqGapCount, aligned := false, mismatchRun := 0 }
  else { i with window := none, seqGapCount := inc32 i.seqGapCount, mismatchRun := run }

/-- A good decision: the window closes, the held values are the frame's, and in ALIGN the offset is taken and the state
becomes ALIGNED (R27, R28, R30). -/
def noteGood (f : List Byte) (w : Window) (i : SampleInterface) : SampleInterface :=
  let i1 := { i with window := none, goodCount := inc32 i.goodCount, mismatchRun := 0, held := frameSamples f }
  if i.aligned then i1
  else
    { i1 with
      aligned := true, offset := (frameNumber f + 256 - w.seq % 256) % 256, alignCount := inc32 i.alignCount }

/-- The decision on a complete frame (R28). -/
def decideFrame (f : List Byte) (s : State) : State :=
  match s.si.window with
  | none => s.modSi fun i => { i with unexpectedCount := inc32 i.unexpectedCount }
  | some w =>
    if !frameCrcGood f then
      deliverGap w (s.modSi fun i => { i with window := none, crcGapCount := inc32 i.crcGapCount })
    else if s.si.aligned && frameNumber f != (w.seq + s.si.offset) % 256 then deliverGap w (s.modSi noteSequenceGap)
    else deliver w (goodWords f) (s.modSi (noteGood f w))

/-- The frame receiver takes one byte (R25). -/
def digitizerByte (s : State) (b : Byte) : State :=
  if s.si.rx.isEmpty then (if b = digitizerStart then s.modSi fun i => { i with rx := [b] } else s)
  else
    let f := s.si.rx ++ [b]
    if f.length = digitizerLength then decideFrame f (s.modSi fun i => { i with rx := [] })
    else s.modSi fun i => { i with rx := f }

/-- The frame in progress is discarded (R25). -/
def dropDigitizerFrame (s : State) : State := s.modSi fun i => { i with rx := [] }

/-- A strobe handed to SI: a window still open closes as a missing gap, and the strobe's window opens (R26, R29). -/
def siStrobe (b : Time) (seq : Nat) (step : Bool) (s : State) : State :=
  let s1 := match s.si.window with
    | some w => deliverGap w (s.modSi fun i => { i with window := none, missingCount := inc32 i.missingCount })
    | none => s
  s1.modSi fun i => { i with window := some ⟨b, seq, step⟩ }

/-- The sensor rail goes off: the window is abandoned, its STEP mark carried over, the frame in progress discarded, and SI
enters ALIGN (R25, R27, R29, R171). -/
def siRailOff (s : State) : State :=
  s.modSi fun i =>
    { i with
      rx := [], window := none, aligned := false, mismatchRun := 0
      stepCarry := match i.window with
        | some w => i.stepCarry || w.step
        | none => i.stepCarry }

/-! ## The strobe generator (R15, R16) -/

/-- A boundary lies after a time, if there is one. -/
def laterThan (b : Nat) (t : Option Time) : Bool :=
  match t with
  | some x => decide (x.toNs < b)
  | none => true

/-- The 10 ms boundary that disciplined time has just reached, if it is issued as a strobe: it lies after the last strobe (R15) and
after the time to which time was last moved (R16). -/
def strobeBoundary (s : State) : Option Time :=
  let b := s.now.toNs / sampleNs * sampleNs
  if s.mainRuns && s.pt.enSens && reachedNs b s.now.toNs && laterThan b s.tb.lastStrobe && laterThan b s.tb.movedTo then
    some (timeOfNs b)
  else none

/-- TB issues the strobe of a boundary (R15). -/
def issueStrobe (b : Time) (s : State) : State :=
  let seq := (s.tb.strobeSeq + 1) % 256
  siStrobe b seq s.tb.stepPending
    (s.modTb fun t => { t with strobeSeq := seq, lastStrobe := some b, stepPending := false })

/-! ## Filter contexts (R35 to R41) -/

def BankName.other : BankName → BankName
  | .a => .b
  | .b => .a

def FilterContext.bank (f : FilterContext) : BankName → List Int
  | .a => f.bankA
  | .b => f.bankB

/-- The coefficients that filter. -/
def FilterContext.activeBank (f : FilterContext) : List Int := f.bank f.active

/-- A load into the inactive bank (R40). -/
def FilterContext.loadInactive (f : FilterContext) (cs : List Int) : FilterContext :=
  match f.active with
  | .a => { f with bankB := cs }
  | .b => { f with bankA := cs }

/-- The inactive bank becomes active and swap pending clears (R36 step 1, R39, R41). -/
def FilterContext.swap (f : FilterContext) : FilterContext := { f with active := f.active.other, swapPending := false }

/-- The sum of c[k] · x[(i − k) mod 32] (R36 step 3). -/
def firSum (x : Vector Int 32) : Fin 32 → List Int → Int
  | _, [] => 0
  | i, c :: cs => c * x.get i + firSum x (i + 31) cs

/-- The largest and the smallest sample (00_scope.md, Quantities). -/
def sampleMax : Int := 8388607
def sampleMin : Int := -8388608

/-- The rounded accumulator, before saturation (R36 step 4). -/
def roundAcc (acc : Int) : Int := (acc + 16384) / 32768

/-- One pass of a context on the input `v` (R36 steps 1 to 6, R37). -/
def FilterContext.pass (v : Int) (f : FilterContext) : FilterContext :=
  let f0 := if f.swapPending then f.swap else f
  let delay := f0.delay.set f0.w.val v f0.w.isLt
  let r := roundAcc (firSum delay f0.w f0.activeBank)
  let sat := r < sampleMin || sampleMax < r
  { f0 with
    delay := delay, w := f0.w + 1, y := clampInt r sampleMin sampleMax, sat := sat, clip := f0.clip || sat
    passes := inc32 f0.passes }

def modContext (c : Channel) (f : FilterContext → FilterContext) (s : State) : State :=
  s.modFe fun e => { e with ctx := e.ctx.set c (f (e.ctx.get c)) }

/-- One pass on a channel: the context, the CLIP flag at a rise from clear, and the hand-over to TU with the restart mark
(R36, R37). -/
def channelFilterPass (c : Channel) (v : Int) (t : Time) (s : State) : State :=
  let old := s.fe.ctx.get c
  let new := old.pass v
  let s1 := modContext c (fun _ => new) s
  let s2 := if new.clip && !old.clip then raise .clip s1 else s1
  triggerPass c new.y t old.swapPending s2

/-- The next pass of the oldest waiting delivery (R38). -/
def nextFilterPass (s : State) : State :=
  match s.fe.waiting with
  | [] => s
  | ⟨_, []⟩ :: rest => s.modFe fun e => { e with waiting := rest }
  | ⟨t, (c, w) :: items⟩ :: rest =>
    channelFilterPass c w.value t
      (s.modFe fun e => { e with waiting := if items.isEmpty then rest else ⟨t, items⟩ :: rest })

/-- A channel's items leave the waiting deliveries. -/
def dropItems (c : Channel) (ds : List Delivery) : List Delivery :=
  (ds.map fun d => { d with items := d.items.filter fun x => x.1 != c }).filter fun d => !d.items.isEmpty

/-- FE at a channel becoming disabled: a pending swap takes effect, and no further pass runs for the channel (R39). -/
def feDisable (c : Channel) (s : State) : State :=
  (modContext c (fun f => if f.swapPending then f.swap else f) s).modFe fun e => { e with waiting := dropItems c e.waiting }

/-- FE at a channel becoming enabled (R39). -/
def feEnable (c : Channel) (s : State) : State :=
  modContext c (fun f => { f with delay := Vector.replicate 32 0, w := 0, y := 0, sat := false }) s

end Sys2Proof.Machine
end

