-- ==== Sys2Proof/Machine/Store.lean ====
section
/-! DEFINITION. Meanings: the waveform store (spec/04). -/

namespace Sys2Proof.Machine

/-! ## The patrol (R89, R90) -/

/-- The patrol timer runs: the interval is not 0 and the tier is FULL or CONSERVE (R89). -/
def patrolRuns (interval : Nat) (t : Tier) : Bool := interval != 0 && (t = .full || t = .conserve)

/-- The patrol timer starts afresh from the full interval, or stands still (R89). -/
def freshPatrol (s : State) : State :=
  s.modWs fun w =>
    { w with
      patrolDue := if patrolRuns w.interval s.pt.tier then some (s.clk.mainRun + w.interval * cyclesPerSec) else none }

/-- A page in the state RING or EVENT. -/
def PageState.occupied : PageState → Bool
  | .ring _ => true
  | .event _ _ => true
  | .free => false
  | .faultySet => false

/-- The page a patrol read chooses: the lowest occupied page above the cursor, or else the lowest overall (R90). -/
def patrolPage (w : WaveStore) : Option PageId :=
  let occupied := allPages.filter fun p => (w.page p).state.occupied
  match w.cursor with
  | none => occupied.head?
  | some c =>
    match occupied.find? fun p => c < p with
    | some p => some p
    | none => occupied.head?

/-- The storage words of a page that have been written: a first half that waits in the pair buffer is not yet one (R72, R90). -/
def writtenWords (g : Page) : Nat := if g.filling then g.count / 2 else (g.count + 1) / 2

/-- Every written storage word of a page is read through the code (R90). -/
def readPage (p : PageId) (s : State) : State :=
  (List.range (writtenWords (s.ws.page p))).foldl (fun s i => (readStorage p i s).2) s

/-- One patrol read (R90). -/
def patrolRead (s : State) : State :=
  match patrolPage s.ws with
  | some p => (readPage p s).modWs fun w => { w with cursor := some p }
  | none => s

/-- The patrol timer has expired. -/
def patrolExpired (s : State) : Bool :=
  s.mainRuns && (match s.ws.patrolDue with
    | some t => t ≤ s.clk.mainRun
    | none => false)

/-- PATROL_READ (R89, R90). -/
def execPatrolRead (d : Elapsed) (upsets : List Upset) (s : State) : Out :=
  timed d s fun s =>
    let s1 := applyUpsets s upsets
    if patrolExpired s1 then freshPatrol (patrolRead s1) else s1

/-! ## Requests (R91, R92) -/

/-- New store parameters, with the patrol timer started afresh (R91). -/
def setStore (interval : Nat) (scrub : Bool) (s : State) : State :=
  freshPatrol (s.modWs fun w => { w with interval := interval, scrub := scrub })

/-- The status of STORE SET and the state after it (R91). -/
def storeSetStatus (p : List Byte) (s : State) : Byte × State :=
  if p.length ≠ 2 then (stBadLength, s)
  else
    match onOffOfCode (p.getD 1 0) with
    | none => (stOutOfRange, s)
    | some scrub =>
      let asked := getU p 0 1
      (if 60 < asked then stClamped else stOk, setStore (min asked 60) scrub s)

/-- STORE SET: the reply, taken or refused, carries the two values in force after it (R91 and the procedure of keeping a configuration,
log entry 20). -/
def storeSet (p : List Byte) (s : State) : List Byte × State :=
  let x := storeSetStatus p s
  (x.1 :: (putU 1 x.2.ws.interval ++ putMark x.2.ws.scrub), x.2)

def execStoreSet (d : Elapsed) (s : State) : Out := timed d s (serve kStoreSet storeSet)

/-- The pages of a channel's ring, its filling page included (R76). -/
def ringPages (ch : StoreChannel) : Nat :=
  ch.ring.length + (if ch.route = .ring && ch.filling.isSome then 1 else 0)

/-- STORE REPORT's fields (R92). The widths of the ring page counts and the other counts whose range no rule states are the model's
(log entry 20). -/
def storeFields (s : State) : List Byte :=
  let w := s.ws
  putU 2 (w.countPages fun g => g.state = .free) ++
    putU 2 (w.countPages fun g => match g.state with | .ring _ => true | _ => false) ++
    putU 2 (w.countPages fun g => match g.state with | .event _ _ => true | _ => false) ++
    putU 2 (w.countPages fun g => g.state = .faultySet) ++
    putU 2 (w.countPages fun g => g.state.occupied && g.faulty) ++
    putTri w.chans (fun ch => [ch.route.code] ++ putU 2 (ringPages ch) ++ putU 4 ch.dropped) ++
    putU 1 (channels.countP fun c => (w.chan c).route = .starved) ++
    putU 1 (ringDepth s.tu.params.pre) ++
    putU 2 ((allPages.map fun p => (w.page p).correctable).sum) ++
    putU 4 w.uncorrectable ++
    putU 1 w.interval ++ putMark w.scrub ++ putUOpt 1 (w.cursor.map Fin.val)

def execStoreReport (d : Elapsed) (s : State) : Out := timed d s (serve kStoreReport (withLength 0 (readOnly storeFields)))

end Sys2Proof.Machine
end

