-- ==== Sys2Proof/Machine/PowerOps.lean ====
section
/-! DEFINITION. The shared operations of the power tier controller: the evaluation of the tier, the tier change with what every
block does at it, the last gasp, and the exit from HIBERNATE (spec/09). -/

namespace Sys2Proof.Machine

/-! ## Evaluation (R168, R169) -/

/-- The band of a SoC (R168). -/
def bandOf (p : TierParams) (soc : Nat) : Tier :=
  if p.conserveBelow ≤ soc then .full
  else if p.surviveBelow ≤ soc then .conserve
  else if p.hibernateBelow ≤ soc then .survive
  else .hibernate

/-- The highest tier whose lower threshold plus hysteresis is at most the SoC, HIBERNATE standing for none (R168, R169). -/
def riseTo (p : TierParams) (soc : Nat) : Tier :=
  if p.conserveBelow + p.hysteresis ≤ soc then .full
  else if p.surviveBelow + p.hysteresis ≤ soc then .conserve
  else if p.hibernateBelow + p.hysteresis ≤ soc then .survive
  else .hibernate

/-- The tier of an evaluation outside HIBERNATE (R168). -/
def evaluatedTier (p : TierParams) (soc : Nat) (t : Tier) : Tier :=
  if (bandOf p soc).rank < t.rank then bandOf p soc
  else if t.rank < (riseTo p soc).rank then riseTo p soc
  else t

/-- VBAT is valid and at most v_cut (R169). -/
def cutForced (s : State) : Bool :=
  match s.hm.readings.vbat.val with
  | some v => v ≤ s.pt.params.vCut
  | none => false

/-- The exit condition of HIBERNATE (R169). -/
def exitMet (s : State) : Bool := s.pt.params.hibernateBelow + s.pt.params.hysteresis ≤ s.ca.soc && !cutForced s

/-- The tier that follows HIBERNATE: SURVIVE at least (R169). -/
def exitTier (s : State) : Tier :=
  match riseTo s.pt.params s.ca.soc with
  | .hibernate => .survive
  | t => t

/-! ## The host rail at a tier change (R177) -/

/-- Watch ticks of the grace, of the power-off of CYCLING, of the last gasp's limit and of the settle. -/
def graceTicks : Nat := 30 * 32768
def cycleTicks : Nat := 10 * 32768
def gaspTicks : Nat := 3932160
def settleTicks : Nat := 4096

/-- The host rail enters a state by a tier change, which clears the sleep record (R177). -/
def railByTier (h : HostRail) (s : State) : State := setHostRail h (s.modPt fun p => { p with wakeTime := none })

/-- The deadline of a grace that begins now in a dozing host: the dozing deadline if that is earlier (R177). -/
def graceFromDoze (start : Nat) : Option Nat → Nat
  | some t => min t (start + graceTicks)
  | none => start + graceTicks

/-- The host rail at a tier change, by the table of R177. -/
def hostRailForTier (old new : Tier) (s : State) : State :=
  match new with
  | .survive =>
    if old = .full ∨ old = .conserve then
      match s.pt.host with
      | .on => railByTier (.grace (s.clk.watchRun + graceTicks)) s
      | .dozing t => railByTier (.grace (graceFromDoze s.clk.watchRun t)) s
      | .asleep | .cycling _ => railByTier .shed s
      | .grace _ | .shed => s
    else s
  | .hibernate => railByTier .shed s
  | .full | .conserve =>
    if old = .survive ∨ old = .hibernate then
      match s.pt.host with
      | .grace _ | .shed => railByTier .on s
      | .on | .dozing _ | .asleep | .cycling _ => s
    else if old = .conserve ∧ new = .full then wakeHost .tier s
    else s

/-! ## The enabled set at a tier change (R33, R39, R49, R61, R80) -/

/-- A channel leaves the enabled set: TU, FE and WS. -/
def channelLeaves (c : Channel) (s : State) : State :=
  (feDisable c (updChannel c (fun ch => { ch with state := .disabled }) s)).modWs (storeLeave c)

/-- The peak part of a channel that joins during an event (R61). -/
def addPeakPart (c : Channel) (s : State) : State :=
  match s.tu.current with
  | some n =>
    updRecord n (fun r => if (r.peaks.get c).isNone then { r with peaks := r.peaks.set c (some ⟨0, none⟩) } else r) s
  | none => s

/-- A channel joins the enabled set: TU, FE and WS. -/
def channelJoins (c : Channel) (s : State) : State :=
  storeJoin c (feEnable c (addPeakPart c (updChannel c enterWarmup s)))

/-- One channel at a change of tier. -/
def channelAtTier (old new : Tier) (s : State) (c : Channel) : State :=
  if enabledIn old c && !enabledIn new c then channelLeaves c s
  else if !enabledIn old c && enabledIn new c then channelJoins c s
  else s

/-- The enabled set follows the tier, in the order Z, N, E; if it has changed TU evaluates the vote (R49, R55, R63, R80). -/
def applyEnabled (old new : Tier) (s : State) : State :=
  let s1 := channels.foldl (channelAtTier old new) s
  if enabledChannels old = enabledChannels new then s1 else evalVote s1

/-! ## The last gasp (R174) -/

/-- The last-gasp entry is in the queue (R120, R131). -/
def gaspEntryQueued (s : State) : Bool := s.al.queue.any fun e => e.cls = .pwr && e.subject = .tier .hibernate

/-- The last gasp ends: the record idle, EN_MODEM off, and the transfer to the watch clock (R174). -/
def endGasp (s : State) : State := toWatchClock (syncModem (s.modPt fun p => { p with gasp := none }))

/-- The last gasp ends at the first moment at which no attempt is in flight, no save is in progress, and its entry has gone or
its limit has run out (R174). -/
def gaspCheck (s : State) : State :=
  match s.pt.gasp with
  | some limit =>
    if s.al.attempt.isNone && s.sm.writing.isNone && (!gaspEntryQueued s || limit ≤ s.clk.watchRun) then endGasp s else s
  | none => s

/-! ## The tier change (R170, R171, R173) -/

/-- At entry to CONSERVE or SURVIVE from FULL with a selectable entry, the window of the current uplink frame opens if its
decision instant or its issue instant still lies ahead, and otherwise the next frame's (R124). -/
def entryWindow (s : State) : State :=
  if (headSelectable s).isSome then
    let f := s.now.sec / 60
    if s.now.toNs < decisionNs f || (awaitsIssue s.al f).isSome then openWindow f s else openWindow (f + 1) s
  else s

/-- The sensor rail follows the tier (R171). -/
def sensorForTier (t : Tier) (s : State) : State :=
  if t = .hibernate then (if s.pt.enSens then siRailOff (s.modPt fun p => { p with enSens := false }) else s)
  else s.modPt fun p => { p with enSens := true }

/-- The detector at a tier change: closed with TRUNCATED and DISARMED on the way into HIBERNATE, IDLE again on the way out while
armed (R54, R60). -/
def detectorForTier (old new : Tier) (s : State) : State :=
  if new = .hibernate then (truncateEvent .disarmed s).modTu fun t => { t with det := .disarmed, auxPending := false }
  else if old = .hibernate then s.modTu fun t => { t with det := if t.armed then .idle else .disarmed }
  else s

/-- The patrol at a tier change (R89). -/
def patrolForTier (old new : Tier) (s : State) : State :=
  if (old = .full ∨ old = .conserve) ∧ (new = .full ∨ new = .conserve) then s else freshPatrol s

/-- What only the entry to HIBERNATE does, after the heater's decision: the quiet window is cleared and the last gasp starts
(R53, R173). -/
def enterHibernate (s : State) : State :=
  (s.modTu fun t => { t with quietEnd := none }).modPt fun p => { p with gasp := some (s.clk.watchRun + gaspTicks) }

/-- The start of a tier change: tier and time, host rail, POWER_TIER unless at start-up, and the PWR alert (R170, R177). -/
def announceTier (startUp : Bool) (new : Tier) (s : State) : State :=
  let s1 := hostRailForTier s.pt.tier new (s.modPt fun p => { p with tier := new, tierTime := s.now })
  offerAlert .pwr (.tier new) (if startUp then s1 else raise .powerTier s1)

/-- A tier change with what every block does at it (R170 to R173, R177). -/
def tierChange (startUp : Bool) (new : Tier) (s : State) : State :=
  let old := s.pt.tier
  let s1 := sensorForTier new (announceTier startUp new s)
  let s2 := patrolForTier old new (applyEnabled old new (detectorForTier old new s1))
  let s3 := heaterDecide false s2
  let s4 := if old = .full ∧ (new = .conserve ∨ new = .survive) then entryWindow s3 else s3
  let s5 := if new = .hibernate then enterHibernate s4 else s4
  gaspCheck (syncModem s5)

/-! ## PT's part of a scan (R168, R169, R175, R176) -/

/-- PT orders the return to the main clock (R18, R176). -/
def beginExit (s : State) : State :=
  (s.modPt fun p => { p with exitMark := true }).modTb fun t => { t with clock := .settle (s.clk.watchRun + settleTicks) }

/-- A scan in HIBERNATE: an exit during the last gasp completes at once, and from the watch clock it begins (R169, R175, R176). -/
def hibernateScan (startUp : Bool) (s : State) : State :=
  if exitMet s then
    if s.pt.gasp.isSome then tierChange startUp (exitTier s) (s.modPt fun p => { p with gasp := none })
    else if s.tb.clock = .watch && !s.pt.exitMark then beginExit s
    else s
  else s

/-- PT's evaluation at a scan. -/
def tierScan (startUp : Bool) (s : State) : State :=
  if s.pt.tier = .hibernate then hibernateScan startUp s
  else
    let new := if cutForced s then .hibernate else evaluatedTier s.pt.params s.ca.soc s.pt.tier
    if new = s.pt.tier then s else tierChange startUp new s

/-! ## The end of the settle (R18, R176) -/

/-- TB loads disciplined time from the watch-time counter, forgets the history from before, and takes HOLD or FREE by u (R18). -/
def returnToMain (s : State) : State :=
  let old := s.now.toNs
  let s1 := (s.setTime s.clk.watch.toTime).modTb fun t =>
    { t with
      clock := .main, labelRx := [], label := none, lastPulse := none, lossTimer := none, goodRun := 0, rejectRun := 0
      movedTo := some s.clk.watch.toTime }
  let s2 :=
    if s1.tb.grade = .unset then s1
    else if s1.tb.u ≤ freeLimit then changeGrade .hold s1
    else changeGrade .free s1
  afterStep old s2

/-- The exit completes if its condition still holds with the last scan, and is given up otherwise (R176). -/
def completeExit (s : State) : State :=
  let s1 := returnToMain s
  let s2 := s1.modPt fun p => { p with exitMark := false }
  if s1.pt.exitMark && exitMet s2 then tierChange false (exitTier s2) s2 else toWatchClock s2

end Sys2Proof.Machine
end

