-- ==== Sys2Proof/Machine/Battery.lean ====
section
/-! DEFINITION. Meanings: the housekeeping scan and the battery requests (spec/07). -/

namespace Sys2Proof.Machine

/-! ## The housekeeping scan (R138 to R145, R159, R164, R168) -/

/-- A scan: HM's readings, CA's work, the low-current test, PT's evaluation, HC's decision, and the interval to the next. -/
def scan (raw : RawScan) (s : State) : State :=
  let s1 := takeScan raw s
  let s2 := chargeWork (chargeStep s.hm.interval s1.hm.readings) s1
  endScan s.hm.scanDue (heaterDecide false (tierScan false (lowCurrentTest s2)))

/-- HOUSEKEEPING_SCAN, at the expiry of the scan timer (R138). -/
def execHousekeepingScan (d : Elapsed) (raw : RawScan) (s : State) : Out :=
  timed d s fun s => if s.hm.scanDue ≤ s.clk.watchRun then scan raw s else s

/-! ## BATTERY SET (R149, R150) -/

/-- The part codes (R204). -/
def partLimits : Byte := 0
def partCalibration : Byte := 1
def partTable : Byte := 2
def batteryParts : List Byte := [partLimits, partCalibration, partTable]

/-- The eight limits, after the part code. The two temperatures are read signed and every other limit unsigned, i_taper among them;
the wire does not say which (R149, R204, log entry 36). -/
def limitFields (p : List Byte) : BatteryLimits :=
  { capacityMah := getU p 1 2, eff := getU p 3 2, vFull := getU p 5 2, iTaper := getU p 7 2, vEmpty := getU p 9 2,
    vSrcMin := getU p 11 2, chgTmin := getS p 13 2, chgTmax := getS p 15 2 }

/-- Each limit limited to its own range (7.5). -/
def clampLimits (x : BatteryLimits) : BatteryLimits :=
  { capacityMah := clampNat x.capacityMah 100 60000, eff := clampNat x.eff 200 256, vFull := clampNat x.vFull 12000 16000
    iTaper := clampNat x.iTaper 1 2000, vEmpty := clampNat x.vEmpty 10000 13000, vSrcMin := clampNat x.vSrcMin 10000 20000
    chgTmin := clampInt x.chgTmin (-300) 200, chgTmax := clampInt x.chgTmax 0 600 }

/-- The cross-conditions of LIMITS (R149 step 4). -/
def limitsConsistent (x : BatteryLimits) : Bool := x.vEmpty < x.vFull && x.chgTmin < x.chgTmax

/-- New limits: a changed capacity limits q and sets the estimated flag, and the charge switch is evaluated at once, whichever limit
has changed (R150, log entry 36). -/
def setLimits (x : BatteryLimits) (s : State) : State :=
  evalChargeSwitch (s.modCa fun c =>
    let c1 := { c with limits := x }
    if x.capacityMah = c.limits.capacityMah then c1 else c1.newCapacity)

/-- The part LIMITS in a reply. -/
def limitBytes (x : BatteryLimits) : List Byte :=
  putU 2 x.capacityMah ++ putU 2 x.eff ++ putU 2 x.vFull ++ putU 2 x.iTaper ++ putU 2 x.vEmpty ++
    putU 2 x.vSrcMin ++ putS 2 x.chgTmin ++ putS 2 x.chgTmax

/-- The status of BATTERY SET with part LIMITS and the state after it (R149). -/
def limitsStatus (p : List Byte) (s : State) : Byte × State :=
  if p.length ≠ 17 then (stBadLength, s)
  else
    let asked := limitFields p
    let x := clampLimits asked
    if !limitsConsistent x then (stOutOfRange, s) else (if x = asked then stOk else stClamped, setLimits x s)

/-- An offset and a gain, at an offset of the payload. -/
def calibrationAt (p : List Byte) (off : Nat) : Calibration := ⟨getU p off 2, getU p (off + 2) 2⟩

/-- The six offsets and gains, after the part code. -/
def calibrationFields (p : List Byte) : Six Calibration :=
  { vbat := calibrationAt p 1, ibat := calibrationAt p 5, tbat := calibrationAt p 9, tenc := calibrationAt p 13
    vsrc := calibrationAt p 17, ihtr := calibrationAt p 21 }

/-- An offset and a gain limited to their ranges (7.5). -/
def clampCalibration (x : Calibration) : Calibration := ⟨clampNat x.offset 0 4095, clampNat x.gain 1 65535⟩

def clampCalibrations (x : Six Calibration) : Six Calibration :=
  { vbat := clampCalibration x.vbat, ibat := clampCalibration x.ibat, tbat := clampCalibration x.tbat
    tenc := clampCalibration x.tenc, vsrc := clampCalibration x.vsrc, ihtr := clampCalibration x.ihtr }

/-- The new offsets and gains apply from the next scan (R150). -/
def setCalibration (x : Six Calibration) (s : State) : State := s.modHm fun h => { h with cal := x }

/-- The part CALIBRATION in a reply. -/
def calibrationBytes (x : Six Calibration) : List Byte :=
  putSix x (fun c => putU 2 c.offset ++ putU 2 c.gain)

/-- The status of BATTERY SET with part CALIBRATION and the state after it (R149). -/
def calibrationStatus (p : List Byte) (s : State) : Byte × State :=
  if p.length ≠ 25 then (stBadLength, s)
  else
    let asked := calibrationFields p
    let x := clampCalibrations asked
    (if x = asked then stOk else stClamped, setCalibration x s)

/-- A point of the table, the n-th after the part code. -/
def pointAt (p : List Byte) (n : Nat) : OcPoint := ⟨getU p (1 + 4 * n) 2, getU p (3 + 4 * n) 2⟩

/-- The eight points, after the part code. -/
def tableFields (p : List Byte) : OcTable :=
  #v[pointAt p 0, pointAt p 1, pointAt p 2, pointAt p 3, pointAt p 4, pointAt p 5, pointAt p 6, pointAt p 7]

/-- Each point limited to its ranges (R149 step 3). -/
def clampTable (x : OcTable) : OcTable := x.map fun p => ⟨clampNat p.mv 0 65535, clampNat p.soc 0 1000⟩

/-- Voltages strictly rise and SoC values do not fall (R149 step 4). -/
def pointsConsistent : List OcPoint → Bool
  | a :: b :: rest => a.mv < b.mv && a.soc ≤ b.soc && pointsConsistent (b :: rest)
  | _ => true

/-- The new points apply to the next voltage estimate (R150). -/
def setTable (x : OcTable) (s : State) : State := s.modCa fun c => { c with table := x }

/-- The part TABLE in a reply. -/
def tableBytes (x : OcTable) : List Byte := x.toList.flatMap fun p => putU 2 p.mv ++ putU 2 p.soc

/-- The status of BATTERY SET with part TABLE and the state after it (R149). -/
def tableStatus (p : List Byte) (s : State) : Byte × State :=
  if p.length ≠ 33 then (stBadLength, s)
  else
    let asked := tableFields p
    let x := clampTable asked
    if !pointsConsistent x.toList then (stOutOfRange, s) else (if x = asked then stOk else stClamped, setTable x s)

/-- BATTERY SET for one part: the reply, taken or refused, carries the values of the part in force after it; a payload that names
no part is refused with OUT_OF_RANGE (R149). -/
def batterySet (part : Byte) (status : List Byte → State → Byte × State) (values : State → List Byte) (p : List Byte)
    (s : State) : List Byte × State :=
  if p = [] then ([stBadLength], s)
  else if namesCode part p then ((status p s).1 :: values (status p s).2, (status p s).2)
  else ([stOutOfRange], s)

/-- Executes the next request if it is a BATTERY SET of a part (log entry 3). -/
def serveBattery (part : Byte) (f : List Byte → State → List Byte × State) (s : State) : State :=
  serveWith (fun r => r.kind = kBatterySet && namesOrNone part batteryParts r.payload)
    (fun p s => (((f p s).1, .nothing), (f p s).2)) s

def execBatterySetLimits (d : Elapsed) (s : State) : Out :=
  timed d s (serveBattery partLimits (batterySet partLimits limitsStatus fun s => limitBytes s.ca.limits))

def execBatterySetCalibration (d : Elapsed) (s : State) : Out :=
  timed d s (serveBattery partCalibration (batterySet partCalibration calibrationStatus fun s => calibrationBytes s.hm.cal))

def execBatterySetTable (d : Elapsed) (s : State) : Out :=
  timed d s (serveBattery partTable (batterySet partTable tableStatus fun s => tableBytes s.ca.table))

end Sys2Proof.Machine
end

