-- ==== Sys2Proof/Machine/Events.lean ====
section
/-! DEFINITION. Meanings: the requests of the event table (spec/05). -/

namespace Sys2Proof.Machine

/-! ## EVENT LIST (R104, 11.4) -/

/-- The largest peak of a record with its channel, the first of equals in the order Z, N, E; none if no peak exceeds 0. -/
def largestPeak (r : EventRecord) : Option (Nat × Channel) :=
  channels.foldl
    (fun best c =>
      match r.peaks.get c with
      | some p =>
        match best with
        | some b => if b.1 < p.peak then some (p.peak, c) else best
        | none => if 0 < p.peak then some (p.peak, c) else none
      | none => best)
    none

/-- Byte 21 of a summary: host pin, released, pinned, and the extents present. -/
def summaryMarks (w : WaveStore) (r : EventRecord) : Byte :=
  (if r.hostPin then 1 else 0) ||| (if r.released then 2 else 0) ||| (if r.pinned then 4 else 0) |||
    (if (w.extent r.number .z).isSome then 8 else 0) ||| (if (w.extent r.number .n).isSome then 16 else 0) |||
    (if (w.extent r.number .e).isSome then 32 else 0)

/-- The 24 bytes of one summary (11.4). -/
def summaryBytes (w : WaveStore) (r : EventRecord) : List Byte :=
  putU 4 r.number ++ [r.state.code] ++ putTime r.onset ++ [r.grade.code, triggerSetByte r.trigger] ++ putU 2 r.flags.toNat ++
    (match largestPeak r with
      | some (p, c) => putU 3 p ++ [c.code]
      | none => putU 3 0 ++ [0xFF]) ++
    [summaryMarks w r, r.alert.code, alertClassOptCode r.alertClass]

/-- The most summaries of one reply. -/
def maxSummaries : Nat := 8

/-- The records from the first whose number is at least the starting number on (R104). -/
def recordsFrom (t : EventTable) (start : Nat) : List EventRecord := t.records.dropWhile fun r => r.number < start

/-- EVENT LIST (R104). -/
def eventList (p : List Byte) (s : State) : List Byte × State :=
  let from_ := recordsFrom s.et (getU p 0 4)
  let listed := from_.take maxSummaries
  ([stOk] ++ putU 1 s.et.records.length ++ putU 1 s.et.pins ++ putU 4 s.et.counter ++
      putU 4 ((s.et.records.head?.map EventRecord.number).getD 0) ++ putMark (maxSummaries < from_.length) ++
      putU 1 listed.length ++ listed.flatMap (summaryBytes s.ws), s)

def execEventList (d : Elapsed) (s : State) : Out := timed d s (serve kEventList (withLength 4 eventList))

/-! ## EVENT GET (R105) -/

/-- A request that names a record by its number in its first four bytes (R103). -/
def withRecord (f : EventRecord → State → List Byte × State) (p : List Byte) (s : State) : List Byte × State :=
  match s.record (getU p 0 4) with
  | some r => f r s
  | none => ([stNotFound], s)

/-- A peak part, with its presence byte (R105). R204 makes the bytes of an absent quantity 0, and marks an absent time by nanoseconds
0xFFFFFFFF; of an absent peak part the peak is sent as 0 and the peak time as an absent time: DESIGN CHOICE (log entry 28). -/
def peakBytes : Option Peak → List Byte
  | some k => [1] ++ putU 3 k.peak ++ putTimeOpt k.time
  | none => [0] ++ putU 3 0 ++ putTimeOpt none

/-- An extent that is present. -/
def extentBytes : Option Extent → List Byte
  | some x => putTimeOpt x.first ++ putU 3 x.samples ++ putU 2 x.pages
  | none => []

/-- The whole record (R94, R105). -/
def recordBytes (w : WaveStore) (r : EventRecord) : List Byte :=
  putU 4 r.number ++ [r.state.code] ++ putTime r.onset ++ [r.grade.code] ++ putU 4 r.u ++ [r.tier.code] ++
    putTimeOpt r.endTime ++ [triggerSetByte r.trigger] ++ putTri r.peaks peakBytes ++ putU 2 r.flags.toNat ++
    putTri (⟨w.extent r.number .z, w.extent r.number .n, w.extent r.number .e⟩ : Tri (Option Extent))
      (fun x => putMark x.isSome) ++
    putMark r.hostPin ++ putMark r.released ++ [r.alert.code, alertClassOptCode r.alertClass] ++ putMark r.pinned ++
    putTri (⟨w.extent r.number .z, w.extent r.number .n, w.extent r.number .e⟩ : Tri (Option Extent)) extentBytes

/-- EVENT GET (R105). -/
def eventGet (r : EventRecord) (s : State) : List Byte × State := (stOk :: recordBytes s.ws r, s)

def execEventGet (d : Elapsed) (s : State) : Out := timed d s (serve kEventGet (withLength 4 (withRecord eventGet)))

/-! ## WAVE READ (R86, R106) -/

/-- Where a sample of an extent stands: its page, its place in the page, and its sample time in ns. -/
structure SamplePlace where
  page : PageId
  index : Nat
  ns : Nat
  deriving DecidableEq, Repr

/-- The samples of one page in order. -/
def pagePlaces (w : WaveStore) (p : PageId) : List SamplePlace :=
  match (w.page p).first with
  | some t => (List.range (w.page p).count).map fun i => ⟨p, i, t.toNs + sampleNs * i⟩
  | none => []

/-- The samples of one channel of one event, counted from 0 across the pages of its list in order; PAD words are no samples
(R86). -/
def extentPlaces (w : WaveStore) (num : Nat) (c : Channel) : List SamplePlace := (w.eventList num c).flatMap (pagePlaces w)

/-- The longest run of places from the first on whose times follow by 10 ms (R106). -/
def consecutiveRun : List SamplePlace → List SamplePlace
  | [] => []
  | a :: rest =>
    match rest with
    | [] => [a]
    | b :: _ => if b.ns = a.ns + sampleNs then a :: consecutiveRun rest else [a]

/-- The places one WAVE READ gathers (R106). -/
def gatheredPlaces (w : WaveStore) (num : Nat) (c : Channel) (offset count : Nat) : List SamplePlace :=
  consecutiveRun (((extentPlaces w num c).drop offset).take count)

/-- The waiting first half of a pair, if the place is that half (R86). -/
def waitingHalf (w : WaveStore) (c : Channel) (x : SamplePlace) : Option (BitVec 32) :=
  if (w.chan c).filling = some x.page && x.index + 1 = (w.page x.page).count then (w.chan c).pair else none

/-- What a gathering read carries along: the words so far, the storage word checked last, and the state. -/
structure Gather where
  words : List (BitVec 32)
  last : Option (PageId × Nat × EccAnswer)
  state : State

/-- The word of one half of a checked storage word, marked BAD if it is uncorrectable (R87). -/
def halfOf (a : EccAnswer) (index : Nat) : BitVec 32 :=
  let h := if index % 2 = 0 then a.first else a.second
  if a.cls = .uncorrectable then h ||| badMark else h

/-- One place is read. A storage word that the place before it has checked is not checked again (R86). -/
def gatherOne (c : Channel) (g : Gather) (x : SamplePlace) : Gather :=
  match waitingHalf g.state.ws c x with
  | some h => { g with words := g.words ++ [h] }
  | none =>
    let seen := match g.last with
      | some (p, i, a) => if p = x.page ∧ i = x.index / 2 then some a else none
      | none => none
    match seen with
    | some a => { g with words := g.words ++ [halfOf a x.index] }
    | none =>
      let r := readStorage x.page (x.index / 2) g.state
      ⟨g.words ++ [halfOf r.1 x.index], some (x.page, x.index / 2, r.1), r.2⟩

/-- The service of R86 to a WAVE READ that is taken. -/
def waveWords (num : Nat) (c : Channel) (offset count : Nat) (s : State) : List Byte × State :=
  let places := gatheredPlaces s.ws num c offset count
  let g := places.foldl (gatherOne c) ⟨[], none, s⟩
  let samples := (extentPlaces s.ws num c).length
  ([stOk] ++ putU 4 offset ++ putU 1 g.words.length ++ putTimeOpt (places.head?.map fun x => timeOfNs x.ns) ++
      putMark (0 < places.length && offset + places.length < samples) ++ g.words.flatMap fun h => putU 4 h.toNat, g.state)

/-- The most words of one reply. -/
def maxWords : Nat := 56

/-- WAVE READ's checks (R103, R106): the ranges, the record, and the extent of the channel. -/
def waveRead (p : List Byte) (s : State) : List Byte × State :=
  let count := getU p 9 1
  match channelOfCode (p.getD 4 0) with
  | none => ([stOutOfRange], s)
  | some c =>
    if count = 0 ∨ maxWords < count then ([stOutOfRange], s)
    else
      match s.record (getU p 0 4) with
      | none => ([stNotFound], s)
      | some r =>
        if (s.ws.extent r.number c).isNone then ([stNotFound], s) else waveWords r.number c (getU p 5 4) count s

/-- WAVE READ (R106), after the outside upsets that the read may meet. -/
def execWaveRead (d : Elapsed) (upsets : List Upset) (s : State) : Out :=
  timed d s fun s => serve kWaveRead (withLength 10 waveRead) (applyUpsets s upsets)

/-! ## Pins, release, delete (R107 to R110) -/

/-- The most host pins (R107). -/
def maxPins : Nat := 16

/-- EVENT PIN (R107). -/
def eventPin (r : EventRecord) (s : State) : List Byte × State :=
  if r.hostPin then (stOk :: putU 1 s.et.pins, s)
  else if s.et.pins < maxPins then
    let s1 := (updRecord r.number (fun r => { r with hostPin := true }) s).modEt fun t => { t with pins := t.pins + 1 }
    (stOk :: putU 1 s1.et.pins, s1)
  else (stFull :: putU 1 s.et.pins, s)

def execEventPin (d : Elapsed) (s : State) : Out := timed d s (serve kEventPin (withLength 4 (withRecord eventPin)))

/-- EVENT UNPIN (R108). -/
def eventUnpin (r : EventRecord) (s : State) : List Byte × State :=
  if r.hostPin then
    let s1 := (updRecord r.number (fun r => { r with hostPin := false }) s).modEt fun t => { t with pins := t.pins - 1 }
    (stOk :: putU 1 s1.et.pins, s1)
  else (stOk :: putU 1 s.et.pins, s)

def execEventUnpin (d : Elapsed) (s : State) : Out := timed d s (serve kEventUnpin (withLength 4 (withRecord eventUnpin)))

/-- EVENT RELEASE (R109). -/
def eventRelease (r : EventRecord) (s : State) : List Byte × State :=
  if r.state = .closed then ([stOk], updRecord r.number (fun r => { r with released := true }) s) else ([stWrongState], s)

def execEventRelease (d : Elapsed) (s : State) : Out :=
  timed d s (serve kEventRelease (withLength 4 (withRecord eventRelease)))

/-- EVENT DELETE (R110). -/
def eventDelete (r : EventRecord) (s : State) : List Byte × State :=
  if r.pinned then ([stWrongState, r.alert.code] ++ putMark r.hostPin, s) else ([stOk], removeRecord r.number s)

def execEventDelete (d : Elapsed) (s : State) : Out := timed d s (serve kEventDelete (withLength 4 (withRecord eventDelete)))

end Sys2Proof.Machine
end

