-- ==== Sys2Proof/Machine/Heat.lean ====
section
/-! DEFINITION. Meanings: the heater controller (spec/08). -/

namespace Sys2Proof.Machine

/-- The pending change's deadline has expired (R161, R162). -/
def deferExpired (s : State) : Bool :=
  match s.hc.change with
  | some c => c.deadline ≤ s.clk.watchRun
  | none => false

/-- HEATER_DEFER_DEADLINE: HC decides, and a thermostat change found is applied at once (R162). -/
def execHeaterDeferDeadline (d : Elapsed) (s : State) : Out :=
  timed d s fun s => if deferExpired s then heaterDecide true s else s

/-! ## HEATER SET (R166) -/

/-- The six values as the payload carries them. The four temperatures are read signed, overheat among them, whose range is positive;
the wire does not say which (R166, R204, log entry 36). -/
def heaterFields (p : List Byte) : HeaterParams :=
  { heatOn := getS p 0 2, heatOff := getS p 2 2, damageLow := getS p 4 2, overheat := getS p 6 2, reserve := getU p 8 2,
    deferLimit := getU p 10 2 }

/-- Each value limited to its own range (8.6). -/
def clampHeater (x : HeaterParams) : HeaterParams :=
  { heatOn := clampInt x.heatOn (-400) 400, heatOff := clampInt x.heatOff (-350) 500
    damageLow := clampInt x.damageLow (-500) 0, overheat := clampInt x.overheat 100 800
    reserve := clampNat x.reserve 0 1000, deferLimit := clampNat x.deferLimit 0 300 }

/-- The cross-conditions of R166 step 3. -/
def heaterConsistent (x : HeaterParams) : Bool :=
  x.damageLow + guardBand ≤ x.heatOn && x.heatOn < x.heatOff && x.heatOff < x.overheat

/-- The six values in a reply. -/
def heaterBytes (x : HeaterParams) : List Byte :=
  putS 2 x.heatOn ++ putS 2 x.heatOff ++ putS 2 x.damageLow ++ putS 2 x.overheat ++ putU 2 x.reserve ++ putU 2 x.deferLimit

/-- All six values are replaced at once, and HC decides with the readings of the last scan (R166). -/
def setHeater (x : HeaterParams) (s : State) : State := heaterDecide false (s.modHc fun h => { h with params := x })

/-- The status of HEATER SET and the state after it (R166). -/
def heaterSetStatus (p : List Byte) (s : State) : Byte × State :=
  if p.length ≠ 12 then (stBadLength, s)
  else
    let asked := heaterFields p
    let x := clampHeater asked
    if !heaterConsistent x then (stOutOfRange, s) else (if x = asked then stOk else stClamped, setHeater x s)

/-- HEATER SET: the reply, taken or refused, carries the values in force after it (R166). -/
def heaterSet (p : List Byte) (s : State) : List Byte × State :=
  let x := heaterSetStatus p s
  (x.1 :: heaterBytes x.2.hc.params, x.2)

def execHeaterSet (d : Elapsed) (s : State) : Out := timed d s (serve kHeaterSet heaterSet)

/-- HEATER FAULT CLEAR (R165). -/
def heaterFaultClear (_p : List Byte) (s : State) : List Byte × State :=
  if s.hc.state = .fault then ([stOk], heaterDecide false (s.modHc fun h => { h with state := .off })) else ([stWrongState], s)

def execHeaterFaultClear (d : Elapsed) (s : State) : Out :=
  timed d s (serve kHeaterFaultClear (withLength 0 heaterFaultClear))

end Sys2Proof.Machine
end

