-- ==== Sys2Proof/Machine/Trigger.lean ====
section
/-! DEFINITION. Meanings: the trigger unit (spec/03). -/

namespace Sys2Proof.Machine

/-! ## The auxiliary trigger (R64) -/

/-- The aux edge parameter takes an edge. -/
def AuxEdge.takes (e : AuxEdge) (rising : Bool) : Bool :=
  match e with
  | .off => false
  | .rise => rising
  | .fall => !rising
  | .both => true

/-- The current event receives EXTERNAL (R64, R66). -/
def markExternal (s : State) : State := setCurrentFlag (fun f => { f with external := true }) s

/-- An edge of the kind set, by the detector state (R64). -/
def takeAuxEdge (s : State) : State :=
  match s.tu.det with
  | .disarmed => s
  | .idle => s.modTu fun t => { t with auxPending := true }
  | .open | .post => markExternal s

/-- AUXTRIG_EDGE (R64). -/
def execAuxtrigEdge (d : Elapsed) (rising : Bool) (s : State) : Out :=
  timed d s fun s =>
    let s1 := s.modLines fun l => { l with auxtrig := rising }
    if s.tu.params.auxEdge.takes rising then takeAuxEdge s1 else s1

/-! ## DETECT SET (R67, R68) -/

/-- The twelve values as the payload carries them, with an aux edge already decoded. -/
def detectFields (p : List Byte) (aux : AuxEdge) : DetectParams :=
  { ks := getU p 0 1, kl := getU p 1 1, onRatio := getU p 2 1, offRatio := getU p 3 1, ltaFloor := getU p 4 2,
    vote := getU p 6 1, pre := getU p 7 1, post := getU p 8 1, cap := getU p 9 2, strongLevel := getU p 11 3,
    quietWindow := getU p 14 1, auxEdge := aux }

/-- Each numeric value limited to its own range (3.6, R67 step 3). -/
def clampDetect (x : DetectParams) : DetectParams :=
  { x with
    ks := clampNat x.ks 2 8, kl := clampNat x.kl 8 14, onRatio := clampNat x.onRatio 16 255
    offRatio := clampNat x.offRatio 16 255, ltaFloor := clampNat x.ltaFloor 0 65535, vote := clampNat x.vote 1 3
    pre := clampNat x.pre 0 30, post := clampNat x.post 0 60, cap := clampNat x.cap 60 1800
    strongLevel := clampNat x.strongLevel 1 8388607, quietWindow := clampNat x.quietWindow 0 10 }

/-- The cross-conditions of R67 step 4. -/
def detectConsistent (x : DetectParams) : Bool := x.ks + 3 ≤ x.kl && x.offRatio < x.onRatio

/-- The twelve values in a reply. -/
def detectBytes (x : DetectParams) : List Byte :=
  putU 1 x.ks ++ putU 1 x.kl ++ putU 1 x.onRatio ++ putU 1 x.offRatio ++ putU 2 x.ltaFloor ++ putU 1 x.vote ++ putU 1 x.pre ++
    putU 1 x.post ++ putU 2 x.cap ++ putU 3 x.strongLevel ++ putU 1 x.quietWindow ++ [x.auxEdge.code]

/-- All twelve values are replaced at once (R67). -/
def setDetect (x : DetectParams) (s : State) : State := s.modTu fun t => { t with params := x }

/-- The status of DETECT SET and the state after it (R67). -/
def detectSetStatus (p : List Byte) (s : State) : Byte × State :=
  if p.length ≠ 16 then (stBadLength, s)
  else
    match auxEdgeOfCode (p.getD 15 0) with
    | none => (stOutOfRange, s)
    | some aux =>
      let asked := detectFields p aux
      let x := clampDetect asked
      if !detectConsistent x then (stOutOfRange, s)
      else if eventInProgress s && (x.ks != s.tu.params.ks || x.kl != s.tu.params.kl) then (stWrongState, s)
      else (if x = asked then stOk else stClamped, setDetect x s)

/-- DETECT SET: the reply, taken or refused, carries the values in force after it (R67). -/
def detectSet (p : List Byte) (s : State) : List Byte × State :=
  let x := detectSetStatus p s
  (x.1 :: detectBytes x.2.tu.params, x.2)

def execDetectSet (d : Elapsed) (s : State) : Out := timed d s (serve kDetectSet detectSet)

/-! ## DETECT ARM, EVENT FORCE, RESTART (R66, R69, R70) -/

/-- The detector becomes DISARMED: an event closes with TRUNCATED, and the aux-pending mark clears (R54, R69). -/
def disarm (s : State) : State :=
  (truncateEvent .disarmed s).modTu fun t => { t with det := .disarmed, auxPending := false }

/-- The armed setting goes on: a DISARMED detector becomes IDLE unless the tier is HIBERNATE (R69). -/
def arm (s : State) : State :=
  s.modTu fun t =>
    { t with armed := true, det := if t.det = .disarmed ∧ s.pt.tier ≠ .hibernate then .idle else t.det }

/-- DETECT ARM (R69). -/
def detectArm (p : List Byte) (s : State) : List Byte × State :=
  match onOffOfCode (p.getD 0 0) with
  | none => ([stOutOfRange], s)
  | some on =>
    let s1 := if on then arm s else (disarm s).modTu fun t => { t with armed := false }
    ([stOk, s1.tu.det.code], s1)

def execDetectArm (d : Elapsed) (s : State) : Out := timed d s (serve kDetectArm (withLength 1 detectArm))

/-- EVENT FORCE (R66). -/
def eventForce (_p : List Byte) (s : State) : List Byte × State :=
  match s.tu.det with
  | .disarmed => ([stWrongState], s)
  | .idle => ([stOk], s.modTu fun t => { t with auxPending := true })
  | .open | .post => (stOk :: putU 4 (s.tu.current.getD 0), markExternal s)

def execEventForce (d : Elapsed) (s : State) : Out := timed d s (serve kEventForce (withLength 0 eventForce))

/-- Every enabled channel enters WARMUP (R70 step 3). -/
def warmEnabled (s : State) : State :=
  (enabledChannels s.pt.tier).foldl (fun s c => updChannel c enterWarmup s) s

/-- The restart of the detection chain (R70). -/
def restartDetection (s : State) : State :=
  warmEnabled ((truncateEvent .idle s).modTu fun t => { t with auxPending := false })

/-- The scope codes of RESTART (R204). -/
def scopeLink : Byte := 0
def scopeDetection : Byte := 1
def scopes : List Byte := [scopeLink, scopeDetection]

/-- RESTART with scope DETECTION (R70, R197). -/
def restartDetectionRequest (p : List Byte) (s : State) : List Byte × State :=
  if namesCode scopeDetection p then ([stOk], restartDetection s) else ([stOutOfRange], s)

def execRestartDetection (d : Elapsed) (s : State) : Out :=
  timed d s
    (serveWith (fun r => r.kind = kRestart && namesOrNone scopeDetection scopes r.payload) fun p s =>
      let x := withLength 1 restartDetectionRequest p s
      ((x.1, .nothing), x.2))

end Sys2Proof.Machine
end

