-- ==== Sys2Proof/Machine/Link.lean ====
section
/-! DEFINITION. Meanings: the station link (spec/10). -/

namespace Sys2Proof.Machine

/-! ## The receiver and the transmitter (R186, R187, R190) -/

/-- LINK_FRAME: the receiver takes the bytes one after the other (R186, R187). -/
def execLinkFrame (d : Elapsed) (bytes : List Byte) (s : State) : Out :=
  timed d s fun s => if linkTakesBytes s then bytes.foldl linkByte s else s

/-- LINK_GAP_TIMEOUT (R186). -/
def execLinkGapTimeout (d : Elapsed) (s : State) : Out :=
  timed d s fun s => if linkTakesBytes s then discardIfBusy s else s

/-- LINK_FRAME_DISCARD: a byte whose stop bit is low discards the frame in progress; a byte with a good stop bit is taken, and
discards it where R186 says so. -/
def execLinkFrameDiscard (d : Elapsed) (byte : Byte) (stopLow : Bool) (s : State) : Out :=
  timed d s fun s => if linkTakesBytes s then (if stopLow then discardIfBusy s else linkByte s byte) else s

/-- REPLY_START, with the level of HRDY (R190). -/
def execReplyStart (d : Elapsed) (hrdy : Bool) (s : State) : Out :=
  timed d s fun s => startReply hrdy (s.modLines fun l => { l with hrdy := hrdy })

/-- REPLY_COMPLETE (R190, R178, R197). -/
def execReplyComplete (d : Elapsed) (s : State) : Out := timed d s completeReply

/-! ## Requests (R189, R193 to R197) -/

/-- UNKNOWN_KIND: the reply carries the status alone (R189). -/
def execUnknownKind (d : Elapsed) (s : State) : Out :=
  timed d s (serveWith (fun r => !knownKinds.contains r.kind) fun _ s => (([stUnknownKind], .nothing), s))

/-- IDENT's fields: vendor, part, revision, serial (R195). -/
def identFields (_s : State) : List Byte := putU 2 0x2A71 ++ putU 2 0x0062 ++ putU 1 1 ++ putU 4 Config.serial.toNat

def execIdent (d : Elapsed) (s : State) : Out := timed d s (serve kIdent (withLength 0 (readOnly identFields)))

/-- STATUS's fields (R196). -/
def statusFields (s : State) : List Byte :=
  putTime s.now ++ [s.tb.grade.code] ++ putU 4 s.tb.u ++ [s.pt.tier.code] ++ putU 2 s.ca.soc ++ [s.tu.det.code] ++
    [(s.tu.chan .z).state.code, (s.tu.chan .n).state.code, (s.tu.chan .e).state.code] ++ putU 1 s.al.queue.length ++
    putU 2 (s.ws.countPages fun g => g.state = .free) ++ [s.hc.state.code] ++ putMark s.sm.defaultFlag ++ [s.sl.flags] ++
    putU 4 s.sl.takenCount ++ putU 4 s.sl.discardCount ++ putU 4 s.sl.overrunCount

def execStatus (d : Elapsed) (s : State) : Out := timed d s (serve kStatus (withLength 0 (readOnly statusFields)))

/-- ATTN READ: the flags and both masks, and the flags cleared (R193). -/
def attnRead (_p : List Byte) (s : State) : List Byte × State :=
  ([stOk, s.sl.flags, s.sl.lineMask, s.sl.wakeMask], s.modSl fun l => { l with flags := 0 })

def execAttnRead (d : Elapsed) (s : State) : Out := timed d s (serve kAttnRead (withLength 0 attnRead))

/-- ATTN MASK: both masks take the new values (R194). -/
def attnMask (p : List Byte) (s : State) : List Byte × State :=
  ([stOk, p.getD 0 0, p.getD 1 0], s.modSl fun l => { l with lineMask := p.getD 0 0, wakeMask := p.getD 1 0 })

def execAttnMask (d : Elapsed) (s : State) : Out := timed d s (serve kAttnMask (withLength 2 attnMask))

/-- RESTART with scope LINK at its execution: the flags are cleared and the restart barrier is set; the list is emptied at the end of
the reply (R197). -/
def restartLink (p : List Byte) (s : State) : (List Byte × AtReplyEnd) × State :=
  if p.length ≠ 1 then (([stBadLength], .nothing), s)
  else if namesCode scopeLink p then (([stOk], .emptyList), s.modSl fun l => { l with flags := 0, barrier := true })
  else (([stOutOfRange], .nothing), s)

def execRestartLink (d : Elapsed) (s : State) : Out :=
  timed d s (serveWith (fun r => r.kind = kRestart && namesOrNone scopeLink scopes r.payload) restartLink)

end Sys2Proof.Machine
end

