-- ==== Sys2Proof/Machine/Power.lean ====
section
/-! DEFINITION. Meanings: the power tier controller and POWER GET (spec/09, R151, R165). -/

namespace Sys2Proof.Machine

/-! ## Ends of timers -/

/-- LAST_GASP_LIMIT (R174). -/
def execLastGaspLimit (d : Elapsed) (s : State) : Out := timed d s gaspCheck

/-- The settle has ended (R18). -/
def settleOver (s : State) : Bool :=
  match s.tb.clock with
  | .settle due => due ≤ s.clk.watchRun
  | .main | .watch => false

/-- SETTLE_END (R18, R176). -/
def execSettleEnd (d : Elapsed) (s : State) : Out := timed d s fun s => if settleOver s then completeExit s else s

/-- The GRACE deadline has passed: the state becomes SHED (R177). -/
def endGrace (s : State) : State :=
  match s.pt.host with
  | .grace due => if due ≤ s.clk.watchRun then setHostRail .shed s else s
  | .on | .dozing _ | .asleep | .cycling _ | .shed => s

/-- GRACE_DEADLINE (R177). -/
def execGraceDeadline (d : Elapsed) (s : State) : Out := timed d s endGrace

/-- The DOZING deadline has passed: the state becomes ASLEEP (R178). -/
def endDoze (s : State) : State :=
  match s.pt.host with
  | .dozing (some due) => if due ≤ s.clk.watchRun then setHostRail .asleep s else s
  | .dozing none | .on | .asleep | .cycling _ | .grace _ | .shed => s

/-- DOZE_DEADLINE (R178). -/
def execDozeDeadline (d : Elapsed) (s : State) : Out := timed d s endDoze

/-- The 10 s of CYCLING have passed: the state becomes ON (R181). -/
def endCycle (s : State) : State :=
  match s.pt.host with
  | .cycling due => if due ≤ s.clk.watchRun then setHostRail .on s else s
  | .on | .dozing _ | .asleep | .grace _ | .shed => s

/-- CYCLE_END (R181). -/
def execCycleEnd (d : Elapsed) (s : State) : Out := timed d s endCycle

/-- The silence timer has reached silence_limit (R181). -/
def silenceExpired (s : State) : Bool :=
  s.pt.params.silenceLimit != 0 && s.pt.silenceFrom.isSome && s.pt.params.silenceLimit ≤ silenceSeconds s

/-- One more power cycle (R181). -/
def countCycle (s : State) : State := s.modPt fun p => { p with powerCycles := satInc 65535 p.powerCycles }

/-- Supervision acts by the host rail state (R181). -/
def supervise (s : State) : State :=
  match s.pt.host with
  | .on | .dozing _ =>
    countCycle (setHostRail (.cycling (s.clk.watchRun + cycleTicks)) (s.modPt fun p => { p with wakeTime := none }))
  | .grace _ => countCycle (setHostRail .shed s)
  | .asleep | .cycling _ | .shed => s

/-- HOST_SILENCE_EXPIRY (R181). -/
def execHostSilenceExpiry (d : Elapsed) (s : State) : Out :=
  timed d s fun s => if silenceExpired s then supervise s else s

/-! ## TIER SET (R183) -/

/-- The six values as the payload carries them. -/
def tierFields (p : List Byte) : TierParams :=
  { conserveBelow := getU p 0 2, surviveBelow := getU p 2 2, hibernateBelow := getU p 4 2, hysteresis := getU p 6 1
    vCut := getU p 7 2, silenceLimit := getU p 9 2 }

/-- A silence_limit limited to its range: 0, or 60 to 3,600 (R183 step 2). -/
def clampSilence (x : Nat) : Nat := if x = 0 then 0 else clampNat x 60 3600

/-- Each value limited to its own range (9.7). -/
def clampTier (x : TierParams) : TierParams :=
  { conserveBelow := clampNat x.conserveBelow 100 950, surviveBelow := clampNat x.surviveBelow 50 900
    hibernateBelow := clampNat x.hibernateBelow 20 500, hysteresis := clampNat x.hysteresis 10 100
    vCut := clampNat x.vCut 10000 12500, silenceLimit := clampSilence x.silenceLimit }

/-- The cross-conditions of R183 step 3. -/
def tierConsistent (x : TierParams) : Bool :=
  x.hibernateBelow < x.surviveBelow && x.surviveBelow < x.conserveBelow && x.conserveBelow + x.hysteresis ≤ 1000

/-- The six values in a reply. -/
def tierBytes (x : TierParams) : List Byte :=
  putU 2 x.conserveBelow ++ putU 2 x.surviveBelow ++ putU 2 x.hibernateBelow ++ putU 1 x.hysteresis ++ putU 2 x.vCut ++
    putU 2 x.silenceLimit

/-- All six values are replaced at once (R183). -/
def setTier (x : TierParams) (s : State) : State := s.modPt fun p => { p with params := x }

/-- The status of TIER SET and the state after it (R183). -/
def tierSetStatus (p : List Byte) (s : State) : Byte × State :=
  if p.length ≠ 11 then (stBadLength, s)
  else
    let asked := tierFields p
    let x := clampTier asked
    if !tierConsistent x then (stOutOfRange, s) else (if x = asked then stOk else stClamped, setTier x s)

/-- TIER SET: the reply, taken or refused, carries the values in force after it (R183). -/
def tierSet (p : List Byte) (s : State) : List Byte × State :=
  let x := tierSetStatus p s
  (x.1 :: tierBytes x.2.pt.params, x.2)

def execTierSet (d : Elapsed) (s : State) : Out := timed d s (serve kTierSet tierSet)

/-! ## HOST SLEEP (R178) -/

/-- A HOST SLEEP is taken: the sleep record, and DOZING with its deadline not yet set; the deadline of an earlier HOST SLEEP is no
longer started by its reply. -/
def takeSleep (wake : Option Nat) (s : State) : State :=
  (s.modPt fun p => { p with wakeTime := wake, host := .dozing none }).modSl fun l =>
    { l with list := l.list.map fun r => if r.atEnd = .startDoze then { r with atEnd := .nothing } else r }

/-- HOST SLEEP (R178): the reply, what its end brings about, and the state. -/
def hostSleep (p : List Byte) (s : State) : (List Byte × AtReplyEnd) × State :=
  if p.length ≠ 5 then (([stBadLength], .nothing), s)
  else if s.pt.tier = .survive ∨ s.pt.tier = .hibernate then (([stOk], .nothing), s)
  else
    match onOffOfCode (p.getD 0 0) with
    | none => (([stOutOfRange], .nothing), s)
    | some present =>
      if present && getU p 1 4 ≤ s.now.sec then (([stOutOfRange], .nothing), s)
      else
        match s.pt.host with
        | .on | .dozing _ => (([stOk], .startDoze), takeSleep (if present then some (getU p 1 4) else none) s)
        | .asleep | .cycling _ | .grace _ | .shed => (([stOk], .nothing), s)

def execHostSleep (d : Elapsed) (s : State) : Out := timed d s (serveWith (fun r => r.kind = kHostSleep) hostSleep)

/-! ## POWER GET (R151, R165, R182) -/

/-- One reading: its value or the mark that it has none, its validity, and its out-of-range run. -/
def readingBytes (r : Reading) : List Byte := putSOpt 2 r.value ++ putMark r.valid ++ putU 1 r.run

/-- The whole seconds left to a deadline on the running count of watch ticks. -/
def secondsLeft (s : State) (due : Nat) : Nat := (due - s.clk.watchRun) / ticksPerSec

/-- The deadline of the host rail's state, where it has one. -/
def HostRail.deadline : HostRail → Option Nat
  | .dozing t => t
  | .cycling t => some t
  | .grace t => some t
  | .on | .asleep | .shed => none

/-- HM's and CA's part of POWER GET (R151). -/
def batteryFields (s : State) : List Byte :=
  putSix s.hm.readings readingBytes ++ putU 4 s.ca.q.toNat ++ putU 4 s.ca.limits.capacity ++ putU 2 s.ca.soc ++
    putMark s.ca.fullLatch ++ putMark s.ca.estimated ++ putMark s.ca.estimateMark ++ putU 1 s.ca.fullRun ++
    putU 1 s.ca.emptyRun ++ putU 4 s.ca.uncounted ++ putU 4 s.hm.scanCount ++ putTimeOpt s.ca.lastFull ++
    putTimeOpt s.ca.lastEmpty ++ putU 1 s.hm.interval ++ putMark s.ca.chargeOn

/-- The last-gasp record with the seconds left to its limit. -/
def gaspBytes (s : State) : List Byte := putMark s.pt.gasp.isSome ++ putUOpt 1 (s.pt.gasp.map (secondsLeft s))

/-- A code that may be absent, with its presence byte. -/
def putCodeOpt (c : Option Byte) : List Byte := putUOpt 1 (c.map BitVec.toNat)

/-- PT's part of POWER GET (R182). -/
def railFields (s : State) : List Byte :=
  [s.pt.tier.code] ++ putTime s.pt.tierTime ++ [s.pt.host.code] ++ putMark s.pt.host.isOn ++
    putUOpt 1 (s.pt.host.deadline.map (secondsLeft s)) ++ putUOpt 4 s.pt.wakeTime ++ putCodeOpt (s.pt.lastWake.map WakeCause.code) ++
    putU 4 (silenceSeconds s) ++ putU 2 s.pt.params.silenceLimit ++ putU 2 s.pt.powerCycles ++ putMark s.pt.enSens ++
    putMark s.pt.enModem ++ gaspBytes s ++ putMark s.pt.exitMark

/-- The source of Tc: TBAT 0, TENC 1. -/
def tempSource (s : State) : Byte := if s.hm.readings.tbat.val.isSome then 0 else 1

/-- The pending-change record with its presence byte (R165). Of an absent one the wanted state and the seconds are sent as 0 and the
time as an absent time: DESIGN CHOICE (log entry 28). -/
def changeBytes (s : State) : Option PendingChange → List Byte
  | some c => [1, c.wanted.code] ++ putTime c.since ++ putU 2 (secondsLeft s c.deadline)
  | none => [0, 0] ++ putTimeOpt none ++ putU 2 0

/-- HC's part of POWER GET (R165). -/
def heatFields (s : State) : List Byte :=
  [s.hc.state.code] ++ putSOpt 2 (controlTemp s) ++ [if (controlTemp s).isSome then tempSource s else 0] ++
    putMark s.hc.demand ++ putMark s.hc.coldGuard ++ [s.hc.target.code] ++ changeBytes s s.hc.change ++ putU 1 s.hc.lowRun ++
    putU 1 s.hc.faults ++ putTimeOpt s.hc.lastSwitch

/-- POWER GET's fields. -/
def powerFields (s : State) : List Byte := batteryFields s ++ railFields s ++ heatFields s

def execPowerGet (d : Elapsed) (s : State) : Out := timed d s (serve kPowerGet (withLength 0 (readOnly powerFields)))

end Sys2Proof.Machine
end

