-- ==== Sys2Proof/Machine/Sample.lean ====
section
/-! DEFINITION. Meanings: the sample interface and the filter engine (spec/02). -/

namespace Sys2Proof.Machine

/-! ## Events -/

/-- SAMPLE_STROBE (R15, R16, R26, R29). -/
def execSampleStrobe (d : Elapsed) (s : State) : Out :=
  timed d s fun s =>
    match strobeBoundary s with
    | some b => issueStrobe b s
    | none => s

/-- SI takes bytes: the main clock runs and the digitizer has its rail (R171). -/
def siListens (s : State) : Bool := s.mainRuns && s.pt.enSens

/-- DIGITIZER_FRAME: the receiver takes the bytes one after the other (R25, R28). -/
def execDigitizerFrame (d : Elapsed) (bytes : List Byte) (s : State) : Out :=
  timed d s fun s => if siListens s then bytes.foldl digitizerByte s else s

/-- DIGITIZER_GAP_TIMEOUT (R25). -/
def execDigitizerGapTimeout (d : Elapsed) (s : State) : Out :=
  timed d s fun s => if siListens s then dropDigitizerFrame s else s

/-- DIGITIZER_FRAMING_ERROR (R25). -/
def execDigitizerFramingError (d : Elapsed) (s : State) : Out :=
  timed d s fun s => if siListens s then dropDigitizerFrame s else s

/-- FILTER_PASS (R36 to R38, R46). -/
def execFilterPass (d : Elapsed) (s : State) : Out := timed d s (whileMain nextFilterPass)

/-! ## Requests -/

/-- The coefficients of a FILTER LOAD payload, which follow its channel and its tap count. -/
def coefficients : Nat → List Byte → List Int
  | 0, _ => []
  | n + 1, p => getS p 0 2 :: coefficients n (p.drop 2)

/-- FILTER LOAD's checks on a channel that exists, with what follows it in the payload, and its effect (R40). -/
def loadChannel (c : Channel) (rest : List Byte) (s : State) : List Byte × State :=
  match rest with
  | [] => ([stBadLength], s)
  | taps :: cs =>
    let n := taps.toNat
    if n = 0 ∨ 32 < n then ([stOutOfRange], s)
    else if cs.length ≠ 2 * n then ([stBadLength], s)
    else if (s.fe.ctx.get c).swapPending then ([stWrongState], s)
    else ([stOk], modContext c (fun f => f.loadInactive (coefficients n cs)) s)

/-- FILTER LOAD (R40). Its checks are made in their order on the fields the payload holds; a payload that ends before its channel or
before its tap count is a bad length (log entry 30). -/
def filterLoad (p : List Byte) (s : State) : List Byte × State :=
  match p with
  | [] => ([stBadLength], s)
  | ch :: rest =>
    match channelOfCode ch with
    | none => ([stOutOfRange], s)
    | some c => loadChannel c rest s

def execFilterLoad (d : Elapsed) (s : State) : Out := timed d s (serve kFilterLoad filterLoad)

/-- A request that names a channel in one byte. -/
def withChannel (f : Channel → State → List Byte × State) (p : List Byte) (s : State) : List Byte × State :=
  match channelOfCode (p.getD 0 0) with
  | some c => f c s
  | none => ([stOutOfRange], s)

/-- FILTER SWAP (R41). -/
def filterSwap (c : Channel) (s : State) : List Byte × State :=
  if (s.fe.ctx.get c).swapPending then ([stWrongState], s)
  else if enabledIn s.pt.tier c then ([stOk], modContext c (fun f => { f with swapPending := true }) s)
  else ([stOk], modContext c FilterContext.swap s)

def execFilterSwap (d : Elapsed) (s : State) : Out := timed d s (serve kFilterSwap (withLength 1 (withChannel filterSwap)))

/-- The part SUMMARY (R42). -/
def channelSummary (s : State) (c : Channel) : List Byte :=
  let f := s.fe.ctx.get c
  let t := (s.tu.chan c).saved
  putU 4 f.passes ++ [f.active.code] ++ putMark f.swapPending ++ putU 1 f.bankA.length ++ putU 1 f.bankB.length ++
    putS 3 f.y ++ putMark f.sat ++ putMark f.clip ++ putS 3 (s.si.held.get c) ++
    putS 4 t.sta ++ putS 4 t.lta ++ [t.state.code] ++ putTimeOpt t.onTime ++ putU 2 t.warmCount ++
    putMark s.si.aligned ++ putU 1 s.si.offset ++ putU 1 s.si.mismatchRun ++
    putU 4 s.si.goodCount ++ putU 4 s.si.missingCount ++ putU 4 s.si.crcGapCount ++ putU 4 s.si.seqGapCount ++
    putU 4 s.si.unexpectedCount ++ putU 4 s.si.alignCount

/-- One bank: its tap count and its coefficients. -/
def bankBytes (b : List Int) : List Byte := putU 1 b.length ++ b.flatMap (putS 2)

/-- The part BANKS (R42). -/
def channelBanks (s : State) (c : Channel) : List Byte :=
  let f := s.fe.ctx.get c
  putU 4 f.passes ++ bankBytes f.bankA ++ bankBytes f.bankB

/-- The part DELAY (R42). -/
def channelDelay (s : State) (c : Channel) : List Byte :=
  let f := s.fe.ctx.get c
  putU 4 f.passes ++ putU 1 f.w.val ++ f.delay.toList.flatMap (putS 3)

/-- CHANNEL GET (R42). -/
def channelGet (p : List Byte) (s : State) : List Byte × State :=
  match channelOfCode (p.getD 0 0) with
  | none => ([stOutOfRange], s)
  | some c =>
    let part := p.getD 1 0
    if part = 0 then (stOk :: channelSummary s c, s)
    else if part = 1 then (stOk :: channelBanks s c, s)
    else if part = 2 then (stOk :: channelDelay s c, s)
    else ([stOutOfRange], s)

def execChannelGet (d : Elapsed) (s : State) : Out := timed d s (serve kChannelGet (withLength 2 channelGet))

/-- CLIP CLEAR (R43). -/
def clipClear (c : Channel) (s : State) : List Byte × State :=
  ([stOk], modContext c (fun f => { f with clip := false }) s)

def execClipClear (d : Elapsed) (s : State) : Out := timed d s (serve kClipClear (withLength 1 (withChannel clipClear)))

end Sys2Proof.Machine
end

