-- ==== Sys2Proof/Machine/UplinkOps.lean ====
section
/-! DEFINITION. The shared operations of the uplink: the schedule of frames, the payload, an attempt from its start to its end,
and the modem receiver (spec/06, 6.3 to 6.5). -/

namespace Sys2Proof.Machine

/-! ## The schedule (R122 to R124) -/

/-- The limit on u for the own slot, ns (R122). -/
def ownSlotLimit : Nat := 400000000

/-- The own slot may be used: the grade is TRACKING, LOCKED or HOLD and u is at most 400,000,000 ns (R122, R123). -/
def ownSlotAllowed (t : TimeBase) : Bool :=
  (t.grade = .tracking || t.grade = .locked || t.grade = .hold) && t.u ≤ ownSlotLimit

/-- The decision of a frame: its slot and its issue instant (R122). -/
def decideFrameSlot (s : State) (frame : Nat) : Decided :=
  if ownSlotAllowed s.tb then
    ⟨frame, s.al.params.ownSlot,
      timeOfNs ((frameStart frame + 2 * s.al.params.ownSlot) * nsPerSec + max 50000000 s.tb.u), false⟩
  else ⟨frame, 0, timeOfNs (decisionNs frame), false⟩

/-- The decision instant of the current uplink frame has been reached. A step that carries time past it skips it (R122). -/
def atDecision (s : State) : Bool := s.mainRuns && s.reached (decisionNs (s.now.sec / 60))

/-- The decision instant of a frame: a frame above the last decided is decided, and a frame that has no issue instant ahead, and no
attempt in flight, closes its window (R122, R124). That the last decided frame closes it here again after a backward step, its issue
instant being taken, is the model's choice (log entry 34). -/
def decideUplink (s : State) : State :=
  let f := s.now.sec / 60
  if decidedUpTo s.al f then (if noIssueAhead s.al f then syncModem (closeWindow f s) else s)
  else s.modAl fun a => { a with decided := some (decideFrameSlot s f) }

/-- The rail-window mark of the frame after the current one has been reached: 5 s before its decision instant (R124). -/
def atRailMark (s : State) : Bool := s.mainRuns && s.reached (decisionNs (s.now.sec / 60 + 1) - 5000000000)

/-- The rail-window mark in CONSERVE and SURVIVE (R124). -/
def railMark (s : State) : State :=
  if (s.pt.tier = .conserve || s.pt.tier = .survive) && (headSelectable s).isSome then
    syncModem (openWindow (s.now.sec / 60 + 1) s)
  else s

/-! ## The payload (R125, 11.5) -/

/-- The value of a reading in a payload: as it stands, valid or not (R140); the bytes of a value that is absent are 0 (R204, log
entry 12). -/
def Reading.reported (r : Reading) : Int := r.value.getD 0

/-- Byte 15 of a quake body: STRONG, EXTERNAL, MERGED, TRUNCATED. -/
def quakeFlags (f : EventFlags) : Nat :=
  f.strong.toNat + 2 * f.external.toNat + 4 * f.merged.toNat + 8 * f.truncated.toNat

/-- A peak in a payload, 0 for a channel without a peak part. -/
def peakValue (p : Option Peak) : Nat :=
  match p with
  | some k => k.peak
  | none => 0

/-- The body of a quake alert, from its record. -/
def quakeBody (s : State) (subj : Subject) : List Byte :=
  match subj with
  | .event n =>
    match s.record n with
    | some r =>
      putTime r.onset ++ [r.grade.code] ++ putU 4 r.u ++ [r.tier.code] ++ putU 1 (quakeFlags r.flags) ++
        putTri r.peaks (fun p => putU 3 (peakValue p))
    | none => []
  | .tier _ | .grade _ | .none => []

/-- The body of an alert's class (11.5). -/
def alertBody (s : State) (e : Entry) : List Byte :=
  match e.cls with
  | .q1 | .q2 => quakeBody s e.subject
  | .pwr => putU 2 s.ca.soc ++ putS 2 (s.hm.readings.vbat.reported) ++ putTime s.now
  | .time => putU 4 s.tb.u ++ putTime s.now
  | .host => e.text
  | .soh =>
    putTime s.now ++ putU 2 s.ca.soc ++ [s.pt.tier.code] ++ putS 2 (s.hm.readings.tbat.reported) ++
      putS 2 (s.hm.readings.tenc.reported) ++
      putU 1 (s.hm.readings.tbat.valid.toNat + 2 * s.hm.readings.tenc.valid.toNat) ++ [s.hc.state.code, s.tb.grade.code] ++
      putU 4 s.tb.u ++ putU 1 s.al.queue.length

/-- The payload of TRANSMIT: head, subject, body (11.5). -/
def alertPayload (s : State) (e : Entry) : List Byte :=
  putU 2 s.al.params.stationId ++ putU 2 e.id ++ putU 1 (e.cls.priority * 16 + (e.attempts + 1)) ++ e.subject.bytes ++
    alertBody s e

/-! ## Modem frames (R126, 11.6) -/

def modemSync1 : Byte := 0xA5
def modemSync2 : Byte := 0x5A
def modemTransmit : Byte := 0x01
def modemTaken : Byte := 0x02
def modemRefused : Byte := 0x03
def modemDone : Byte := 0x04

/-- A modem frame as it stands on the line. -/
def modemFrame (kind handle : Byte) (body : List Byte) : List Byte :=
  let part := [kind, handle, BitVec.ofNat 8 body.length] ++ body
  [modemSync1, modemSync2] ++ part ++ crc16Bytes part

/-! ## An attempt (R123, R125) -/

/-- EN_MODEM has been on for 3 s of main-clock time without interruption (R123, R172). -/
def modemWarm (s : State) : Bool := s.pt.enModem && s.pt.modemOnAt + 3 * cyclesPerSec ≤ s.clk.mainRun

/-- Starts an attempt for an entry in an uplink frame (R125). The payload is composed from the state with the entry IN_FLIGHT. -/
def startAttempt (frame : Nat) (e : Entry) (s : State) : State :=
  let h := s.al.handleCounter
  let s1 := writeAlert e.subject .inFlight e.cls (updEntry e.id (fun x => { x with inFlight := true }) s)
  let sent := modemFrame modemTransmit (BitVec.ofNat 8 h) (alertPayload s1 e)
  s1.modAl fun a =>
    { a with
      attempt := some ⟨e.id, h, .sending, false, none, frame, sent⟩
      handleCounter := (h + 1) % 256
      attemptsStarted := inc32 a.attemptsStarted }

/-- The frame whose issue instant has been reached, if it awaits it: an instant taken, or carried past by a forward step, is not
taken again after a backward step (R123, log entry 34). -/
def issueFrame (s : State) : Option Decided :=
  match s.al.decided with
  | some x => if s.mainRuns && !x.taken && reachedNs x.issue.toNs s.now.toNs then some x else none
  | none => none

/-- The checks of an issue instant in their order, and the attempt when all pass. A frame without an attempt closes its window
(R123, R124). -/
def issueChecks (x : Decided) (mbf : Bool) (s : State) : State :=
  if x.slot ≠ 0 ∧ ¬ownSlotAllowed s.tb then closeWindow x.frame s
  else if s.al.attempt.isSome then closeWindow x.frame s
  else if !modemWarm s then closeWindow x.frame s
  else if mbf then closeWindow x.frame (s.modAl fun a => { a with mbfSkips := inc32 a.mbfSkips })
  else match headSelectable s with
    | some e => startAttempt x.frame e s
    | none => closeWindow x.frame s

/-- An issue instant: it is marked taken, and the checks are made (R123). -/
def takeIssue (x : Decided) (mbf : Bool) (s : State) : State :=
  syncModem (issueChecks x mbf (s.modAl fun a => { a with decided := some { x with taken := true } }))

/-! ## The end of an attempt (R129) -/

/-- The most failed attempts of an entry. -/
def maxAttempts : Nat := 3

/-- The entry after its attempt: no longer IN_FLIGHT, with a failure counted. -/
def afterAttempt (ok : Bool) (e : Entry) : Entry :=
  { e with inFlight := false, attempts := if ok then e.attempts else e.attempts + 1 }

/-- The entry leaves the queue at its attempt's end, with the upgrade mark's new Q1 entry (R129). -/
def leaveQueue (ok upgrade : Bool) (e : Entry) (s : State) : State :=
  let s1 := outcome e (if ok then .sent else .failed) (!upgrade) s
  if upgrade then createEntry .q1 e.subject [] s1 else s1

/-- The entry returns to the queue, upgraded if its attempt was marked so (R129). -/
def returnToQueue (upgrade : Bool) (e : Entry) (s : State) : State :=
  let c := if upgrade then .q1 else e.cls
  writeAlert e.subject .queued c (updEntry e.id (fun x => { x with cls := c }) s)

/-- The follow-on subject held by the attempt (R129). -/
def followOn (left : Bool) (e : Entry) (f : Option Subject) (s : State) : State :=
  match f with
  | some subj => if left then offerAlert e.cls subj s else updEntry e.id (fun x => { x with subject := subj }) s
  | none => s

/-- The attempt's entry is dealt with (R129). -/
def settleEntry (ok : Bool) (a : Attempt) (e0 : Entry) (s : State) : State :=
  let e := afterAttempt ok e0
  let left := ok || maxAttempts ≤ e.attempts
  let s1 := updEntry e.id (fun _ => e) s
  let s2 := if left then leaveQueue ok a.upgrade e s1 else returnToQueue a.upgrade e s1
  followOn left e a.followOn s2

/-- An attempt ends (R129): its entry, its marks, the rail window of its frame, the rail demand, and a last gasp that waited for it
(R174). -/
def endAttempt (ok : Bool) (s : State) : State :=
  match s.al.attempt with
  | some a =>
    let s1 := s.modAl fun x => { x with attempt := none }
    let s2 := match s1.al.queue.find? fun e => e.id = a.id with
      | some e => settleEntry ok a e s1
      | none => s1
    gaspCheck (syncModem (closeWindow a.frame s2))
  | none => s

/-! ## The stages (R126 to R128) -/

/-- The 200 ms and the 10 s of the two waits, in main-crystal cycles. -/
def takenWait : Nat := 8000000
def doneWait : Nat := 400000000

def setStage (st : Stage) (s : State) : State :=
  s.modAl fun a => { a with attempt := a.attempt.map fun x => { x with stage := st } }

/-- The TRANSMIT has gone, and AS does not keep it (R125). -/
def dropSent (s : State) : State := s.modAl fun a => { a with attempt := a.attempt.map fun x => { x with sent := [] } }

/-- A stray frame is counted (R126). -/
def strayFrame (s : State) : State := s.modAl fun a => { a with strayCount := inc32 a.strayCount }

/-- A modem frame with a good CRC: taken by the stage that awaits it, or stray (R126 to R128, R203). -/
def takeModemFrame (kind handle : Byte) (body : List Byte) (s : State) : State :=
  match s.al.attempt with
  | some a =>
    if handle.toNat = a.handle then
      match a.stage with
      | .sending => strayFrame s
      | .awaitTaken _ =>
        if kind = modemTaken ∧ body = [] then setStage (.awaitDone (s.clk.mainRun + doneWait)) s
        else if kind = modemRefused ∧ body = [] then endAttempt false s
        else strayFrame s
      | .awaitDone _ =>
        if kind = modemDone ∧ body = [0] then endAttempt true s
        else if kind = modemDone ∧ body = [1] then endAttempt false s
        else strayFrame s
    else strayFrame s
  | none => strayFrame s

/-- The longest body (11.6). -/
def maxBody : Nat := 48

/-- A complete frame, from its kind on: without effect unless its CRC checks (R126). -/
def completeModemFrame (f : List Byte) (s : State) : State :=
  let part := f.take (f.length - 2)
  if f.drop (f.length - 2) = crc16Bytes part then takeModemFrame (f.getD 0 0) (f.getD 1 0) (part.drop 3) s else s

/-- The modem receiver takes one byte (R126, R203). -/
def modemByte (s : State) (b : Byte) : State :=
  let go (r : ModemRx) : State := s.modAl fun a => { a with rx := r }
  match s.al.rx with
  | .hunt => if b = modemSync1 then go .sync else s
  | .sync => if b = modemSync2 then go (.frame []) else if b = modemSync1 then s else go .hunt
  | .frame got =>
    let f := got ++ [b]
    if f.length = 3 ∧ maxBody < b.toNat then go .hunt
    else if 3 ≤ f.length ∧ f.length = getU f 2 1 + 5 then completeModemFrame f (go .hunt)
    else go (.frame f)

/-- UL_RX carries something the receiver can take: the main clock runs and the modem rail is on (R126). -/
def modemListens (s : State) : Bool := s.mainRuns && s.pt.enModem

/-- One byte on UL_RX, received if UL_RX carries it when it arrives: an answer before it may have had the modem rail switched off or
the main clock stopped (R126, R129, R174). -/
def modemReceives (s : State) (b : Byte) : State := if modemListens s then modemByte s b else s

/-- The bytes of one or more frames arrive (R126). -/
def receiveModem (bytes : List Byte) (s : State) : State := bytes.foldl modemReceives s

/-- The frame in progress is discarded (R126). -/
def dropModemFrame (s : State) : State := s.modAl fun a => { a with rx := .hunt }

end Sys2Proof.Machine
end

