-- ==== Sys2Proof/Machine/Uplink.lean ====
section
/-! DEFINITION. Meanings: alerts and the uplink (spec/06). -/

namespace Sys2Proof.Machine

/-! ## Events -/

/-- RAIL_WINDOW_MARK (R124). -/
def execRailWindowMark (d : Elapsed) (s : State) : Out := timed d s fun s => if atRailMark s then railMark s else s

/-- UPLINK_DECISION (R122). -/
def execUplinkDecision (d : Elapsed) (s : State) : Out := timed d s fun s => if atDecision s then decideUplink s else s

/-- ISSUE_INSTANT (R123). -/
def execIssueInstant (d : Elapsed) (mbf : Bool) (s : State) : Out :=
  timed d s fun s =>
    let s1 := s.modLines fun l => { l with mbf := mbf }
    match issueFrame s1 with
    | some x => takeIssue x mbf s1
    | none => s1

/-- TRANSMIT_SENT: the stop bit of the TRANSMIT's last byte, after which its payload is not kept, and the wait for TAKEN (R125,
R127). -/
def transmitSent (s : State) : State :=
  match s.al.attempt with
  | some a => if a.stage = .sending then dropSent (setStage (.awaitTaken (s.clk.mainRun + takenWait)) s) else s
  | none => s

def execTransmitSent (d : Elapsed) (s : State) : Out := timed d s (whileMain transmitSent)

/-- TAKEN (R126, R127). -/
def execTaken (d : Elapsed) (handle : Byte) (body : List Byte) (s : State) : Out :=
  timed d s (receiveModem (modemFrame modemTaken handle body))

/-- REFUSED (R126, R127). -/
def execRefused (d : Elapsed) (handle : Byte) (body : List Byte) (s : State) : Out :=
  timed d s (receiveModem (modemFrame modemRefused handle body))

/-- DONE (R126, R128). -/
def execDone (d : Elapsed) (handle : Byte) (body : List Byte) (s : State) : Out :=
  timed d s (receiveModem (modemFrame modemDone handle body))

/-- MODEM_FRAME_DISCARD: bytes that are no answer to the attempt (R126, R203). -/
def execModemFrameDiscard (d : Elapsed) (bytes : List Byte) (s : State) : Out := timed d s (receiveModem bytes)

/-- MODEM_GAP_TIMEOUT: the receiver works as long as the main clock runs, and a frame that the rail's going off has cut ends by
its gap like any other (R126). -/
def execModemGapTimeout (d : Elapsed) (s : State) : Out := timed d s (whileMain dropModemFrame)

/-- MODEM_FRAMING_ERROR: a byte with a low stop bit, which reaches the receiver while the modem rail is on (R126). -/
def execModemFramingError (d : Elapsed) (s : State) : Out :=
  timed d s fun s => if modemListens s then dropModemFrame s else s

/-- The 200 ms have run out (R127). -/
def takenExpired (s : State) : Bool :=
  match s.al.attempt with
  | some a =>
    match a.stage with
    | .awaitTaken due => due ≤ s.clk.mainRun
    | .sending | .awaitDone _ => false
  | none => false

/-- AWAIT_TAKEN_TIMEOUT (R127). -/
def execAwaitTakenTimeout (d : Elapsed) (s : State) : Out :=
  timed d s (whileMain fun s => if takenExpired s then endAttempt false s else s)

/-- The 10 s have run out (R128). -/
def doneExpired (s : State) : Bool :=
  match s.al.attempt with
  | some a =>
    match a.stage with
    | .awaitDone due => due ≤ s.clk.mainRun
    | .sending | .awaitTaken _ => false
  | none => false

/-- AWAIT_DONE_TIMEOUT (R128). -/
def execAwaitDoneTimeout (d : Elapsed) (s : State) : Out :=
  timed d s (whileMain fun s => if doneExpired s then endAttempt false s else s)

/-! ## Requests (R132 to R136) -/

/-- The longest host text. -/
def maxText : Nat := 40

/-- ALERT POST: the whole payload is the text, with no count byte before it; no layout is given (R132, R204, log entry 37). -/
def alertPost (p : List Byte) (s : State) : List Byte × State :=
  if p = [] ∨ maxText < p.length then ([stBadLength], s)
  else if s.pt.tier = .survive ∨ s.pt.tier = .hibernate then ([stDeniedTier], s)
  else ((if wouldEnter s .host then stOk else stFull) :: putU 2 s.al.idCounter, createEntry .host .none p s)

def execAlertPost (d : Elapsed) (s : State) : Out := timed d s (serve kAlertPost alertPost)

/-- The state of an entry, in the alert state codes. -/
def Entry.state (e : Entry) : AlertState := if e.inFlight then .inFlight else .queued

/-- One entry of ALERT LIST (R133). -/
def entryBytes (s : State) (e : Entry) : List Byte :=
  putU 2 e.id ++ [e.cls.code] ++ e.subject.bytes ++ putTime e.created ++ [e.state.code] ++ putU 1 e.attempts ++
    putU 1 e.text.length ++ putMark (selectable s e)

/-- The attempt in flight, with its presence byte; its bytes are 0 when there is none (R133, R204). -/
def attemptBytes : Option Attempt → List Byte
  | some a => [1, a.stage.code] ++ putU 1 a.handle ++ putMark a.upgrade ++ putMark a.followOn.isSome
  | none => [0, 0, 0, 0, 0]

/-- The slot and the issue instant of the current uplink frame, or the marks that it has not been decided (R133). AS keeps the slot
and the issue instant of the last frame decided alone (R122); a frame decided before that one, to which a step back has returned
station time, is reported as not decided: DESIGN CHOICE (log entry 44). -/
def slotBytes (s : State) : List Byte :=
  match s.al.decided with
  | some x =>
    if x.frame = s.now.sec / 60 then putUOpt 1 (some x.slot) ++ putTimeOpt (some x.issue) else putUOpt 1 none ++ putTimeOpt none
  | none => putUOpt 1 none ++ putTimeOpt none

/-- The most entries of one reply. -/
def maxListed : Nat := 8

/-- ALERT LIST (R133). The counts whose range no rule states are 32-bit and stand in 4 bytes (log entry 20). -/
def alertList (p : List Byte) (s : State) : List Byte × State :=
  let start := getU p 0 1
  if 15 < start then ([stOutOfRange], s)
  else
    let listed := ((queueOrder s.al.queue).drop start).take maxListed
    ([stOk] ++ putU 1 listed.length ++ listed.flatMap (entryBytes s) ++ putU 1 s.al.queue.length ++ putU 2 s.al.idCounter ++
      putU 4 s.al.outcomeCount ++ putU 4 s.al.attemptsStarted ++ putU 4 s.al.mbfSkips ++ putU 4 s.al.strayCount ++
      attemptBytes s.al.attempt ++ slotBytes s ++ putMark (modemDemand s), s)

def execAlertList (d : Elapsed) (s : State) : Out := timed d s (serve kAlertList (withLength 1 alertList))

/-- ALERT CANCEL (R134). A cancelled last-gasp entry may end the gasp (R174). -/
def alertCancel (p : List Byte) (s : State) : List Byte × State :=
  match s.al.queue.find? fun e => e.id = getU p 0 2 with
  | none => ([stNotFound], s)
  | some e => if e.inFlight then ([stWrongState], s) else ([stOk], gaspCheck (outcome e .cancelled true s))

def execAlertCancel (d : Elapsed) (s : State) : Out := timed d s (serve kAlertCancel (withLength 2 alertCancel))

/-- One result (R130, R135). -/
def resultBytes (r : Result) : List Byte :=
  putU 2 r.id ++ [r.cls.code] ++ r.subject.bytes ++ [r.outcome.code] ++ putU 1 r.attempts ++ putTime r.time

/-- RESULTS READ's fields, newest first (R135). -/
def resultsFields (s : State) : List Byte :=
  putU 1 s.al.results.length ++ s.al.results.reverse.flatMap resultBytes ++ putU 4 s.al.outcomeCount

def execResultsRead (d : Elapsed) (s : State) : Out := timed d s (serve kResultsRead (withLength 0 (readOnly resultsFields)))

/-- The three values limited to their ranges (R136). -/
def clampUplink (x : UplinkParams) : UplinkParams :=
  { x with ownSlot := clampNat x.ownSlot 1 29, sohInterval := clampNat x.sohInterval 0 24 }

/-- New uplink settings; a changed soh_interval resets the last SOH boundary (R121, R136). -/
def setUplink (x : UplinkParams) (s : State) : State :=
  s.modAl fun a =>
    { a with
      params := x
      lastSoh := if x.sohInterval = a.params.sohInterval then a.lastSoh else latestSoh x.sohInterval s.now.sec }

/-- The three values in a reply. -/
def uplinkBytes (x : UplinkParams) : List Byte := putU 1 x.ownSlot ++ putU 2 x.stationId ++ putU 1 x.sohInterval

/-- The status of UPLINK SET and the state after it (R136). -/
def uplinkSetStatus (p : List Byte) (s : State) : Byte × State :=
  if p.length ≠ 4 then (stBadLength, s)
  else
    let asked : UplinkParams := ⟨getU p 0 1, getU p 1 2, getU p 3 1⟩
    let x := clampUplink asked
    (if x = asked then stOk else stClamped, setUplink x s)

/-- UPLINK SET: the reply, taken or refused, carries the three values in force after it (R136 and the procedure of
keeping a configuration, log entry 20). -/
def uplinkSet (p : List Byte) (s : State) : List Byte × State :=
  let x := uplinkSetStatus p s
  (x.1 :: uplinkBytes x.2.al.params, x.2)

def execUplinkSet (d : Elapsed) (s : State) : Out := timed d s (serve kUplinkSet uplinkSet)

end Sys2Proof.Machine
end

