-- ==== Sys2Proof/Machine/SettingsMemory.lean ====
section
/-! DEFINITION. Meanings: the settings memory, and the loss of supply (spec/11). -/

namespace Sys2Proof.Machine

/-! ## SETTINGS SAVE (R200, R201) -/

/-- The snapshot of every running value of the image (R200 step 1); for the filters, the bank active in each channel (R45). -/
def snapshot (s : State) : Settings :=
  { uplink := s.al.params, detect := s.tu.params
    filters := ⟨s.fe.ctx.z.activeBank, s.fe.ctx.n.activeBank, s.fe.ctx.e.activeBank⟩
    limits := s.ca.limits, cal := s.hm.cal, table := s.ca.table, heater := s.hc.params, tier := s.pt.params
    store := ⟨s.ws.interval, s.ws.scrub⟩, drift := s.tb.drift }

/-- A save begins: the snapshot is taken, the image becomes invalid, and the execution mark holds the request (R188, R200). -/
def beginSave (s : State) : State :=
  (s.modSm fun m => { m with image := none, writing := some (snapshot s) }).modSl fun l =>
    { l with executing := true, list := moveFirst .executing .nothing l.list }

/-- SETTINGS SAVE at its execution (R200). -/
def settingsSave (s : State) : State :=
  match nextRequest s with
  | some r =>
    if r.kind = kSettingsSave then (if r.payload = [] then beginSave s else answer [stBadLength] .nothing s) else s
  | none => s

def execSettingsSave (d : Elapsed) (s : State) : Out := timed d s settingsSave

/-- The request that the execution mark holds gets its reply. -/
def finishRequest (reply : List Byte) (r : Request) : Request :=
  if r.progress = .executing then { r with progress := .executed reply } else r

/-- A save ends: the image is valid with the snapshot if the read-back agrees, and stays invalid otherwise; the request, if the list
still holds it, gets its reply, and a last gasp that waited for the save may end (R174, R191, R200). -/
def completeSave (agrees : Bool) (s : State) : State :=
  match s.sm.writing with
  | some x =>
    gaspCheck
      ((s.modSm fun m =>
        { image := if agrees then some x else none, writing := none, defaultFlag := m.defaultFlag && !agrees }).modSl fun l =>
        { l with executing := false, list := l.list.map (finishRequest [if agrees then stOk else stNvError]) })
  | none => s

/-- SETTINGS_SAVE_COMPLETE (R200). -/
def execSettingsSaveComplete (d : Elapsed) (agrees : Bool) (s : State) : Out := timed d s (completeSave agrees)

/-! ## SETTINGS DEFAULTS (R202) -/

/-- A channel's inactive bank gets the default filter, and the swap takes effect as FILTER SWAP's does (R202, R41). -/
def defaultFilter (s : State) (c : Channel) : State :=
  modContext c
    (fun f =>
      let f1 := f.loadInactive defaultBank
      if enabledIn s.pt.tier c then { f1 with swapPending := true } else f1.swap)
    s

/-- Every running value of the image except the drift table takes its default, each group acting as its own set request would
(R202). HC decides when all values have their defaults, with the new v_src_min and SoC (R157, log entry 21). -/
def applyDefaults (s : State) : State :=
  let s1 := setStore defaultStore.interval defaultStore.scrub
    (setTier defaultTier (setUplink defaultUplink (setDetect defaultDetect s)))
  let s2 := setTable defaultTable (setCalibration defaultCalibration (setLimits defaultLimits s1))
  let s3 := setHeater defaultHeater s2
  (channels.foldl defaultFilter s3).modSm fun m => { m with defaultFlag := true }

/-- SETTINGS DEFAULTS (R202). -/
def settingsDefaults (_p : List Byte) (s : State) : List Byte × State :=
  if eventInProgress s then ([stWrongState], s) else ([stOk], applyDefaults s)

def execSettingsDefaults (d : Elapsed) (s : State) : Out :=
  timed d s (serve kSettingsDefaults (withLength 0 settingsDefaults))

/-! ## Loss of supply (R201) -/

/-- SUPPLY_LOSS: nothing happens any more until power-on; a write in progress stops, and the image stays invalid (R201). -/
def execSupplyLoss (d : Elapsed) (s : State) : Out :=
  timed d s fun s => { s.modSm fun m => { m with writing := none } with powered := false }

end Sys2Proof.Machine
end

