-- ==== Sys2Proof/Machine/Reset.lean ====
section
/-! DEFINITION. Meanings: the two resets. Every block's part stands here as its chapter's reset rule gives it (R23, R24, R44, R45,
R71, R93, R111, R137, R152 to R154, R167, R184, R185, R198, R199). -/

namespace Sys2Proof.Machine

/-- The running values that a reset loads: the image if it is valid, the defaults otherwise (R199). -/
def loadedSettings (m : SettingsMemory) : Settings := m.image.getD defaultSettings

/-- SM after a reset: a save in progress has stopped, and the settings-default flag says whether the image is invalid (R199, R201). -/
def loadMemory (m : SettingsMemory) : SettingsMemory :=
  { image := m.image, writing := none, defaultFlag := m.image.isNone }

/-! ## What both resets set by the tier -/

/-- TU after a reset, in a tier (R71). R71 gives no values for the onset, the onset delivery and the post-window end, which nothing
reads while the detector is IDLE or DISARMED: DESIGN CHOICE (0, 0), 0 and 0 (log entry 33). -/
def resetTrigger (p : DetectParams) (t : Tier) : TriggerUnit :=
  { chans := Tri.ofFn fun c => resetTriggerChannel (enabledIn t c)
    armed := true, det := if t = .hibernate then .disarmed else .idle, current := none, onset := ⟨0, 0⟩, onsetDelivery := 0
    postEnd := 0, auxPending := false, quietEnd := none, delivery := 0, lastSeen := none, params := p }

/-- WS after a reset, before its ring needs: every page FREE, nothing cleared in the page array (R93). -/
def resetStore (array : PageArray) (p : StoreParams) : WaveStore :=
  { array := array, pages := Vector.replicate 256 freePage, chans := .replicate emptyStoreChannel, events := []
    cursor := none, patrolDue := none, interval := p.interval, scrub := p.scrub, uncorrectable := 0 }

/-- The ring needs of the channels the tier enables, in the order Z, N, E, and the patrol timer (R93). -/
def startStore (s : State) : State := freshPatrol ((enabledChannels s.pt.tier).foldl (fun s c => storeJoin c s) s)

/-- AS after a reset, before its last SOH boundary (R137). -/
def resetAlerts (p : UplinkParams) (now : Time) : AlertScheduler :=
  { queue := [], attempt := none, results := [], outcomeCount := 0, idCounter := 1, handleCounter := 0, rx := .hunt
    decided := none, windows := [], lastSoh := latestSoh p.sohInterval now.sec, params := p, attemptsStarted := 0
    mbfSkips := 0, strayCount := 0 }

/-- HM after a reset, before its start-up scan (R152). -/
def resetMonitor (cal : Six Calibration) : Housekeeping :=
  { readings := noReadings, cal := cal, scanDue := 0, interval := 1, scanCount := 0 }

/-- The blocks that a reset of either kind sets alike, by the settings and the tier given (R44, R45, R71, R93, R111, R137, R152,
R198). -/
def resetBlocks (x : Settings) (t : Tier) (s : State) : State :=
  { s with
    si := resetSample, fe := resetFilter x.filters, tu := resetTrigger x.detect t, ws := resetStore s.ws.array x.store
    et := resetEvents, al := resetAlerts x.uplink s.now, hm := resetMonitor x.cal, sl := resetLink, sm := loadMemory s.sm }

/-! ## Power-on reset (R23, R153, R167, R184) -/

/-- TB at power-on (R23). -/
def bootTimeBase (drift : DriftTable) : TimeBase :=
  { clock := .main, grade := .unset, u := max32, integral := 0, steer := 0, drift := drift, labelRx := [], label := none
    lastPulse := none, lastTheta := none, lossTimer := none, goodRun := 0, rejectRun := 0, usedCount := 0, rejectedCount := 0
    outOfWindowCount := 0, unlabelledCount := 0, stepCount := 0, lastStrobe := none, movedTo := none, strobeSeq := 0
    stepPending := false, freeRecovery := false }

/-- CA at power-on, before the start-up scan (R153). -/
def bootCharge (x : Settings) : ChargeUnit :=
  { q := 0, soc := 0, limits := x.limits, table := x.table, fullRun := 0, emptyRun := 0, fullLatch := false, estimated := false
    estimateMark := false, uncounted := 0, lastFull := none, lastEmpty := none, chargeOn := false }

/-- PT at power-on, before the start-up scan (R184). -/
def bootPower (p : TierParams) : PowerTier :=
  { tier := .full, tierTime := ⟨0, 0⟩, params := p, host := .shed, wakeTime := none, silenceFrom := none, lastWake := none
    powerCycles := 0, enSens := false, enModem := false, modemOnAt := 0, gasp := none, exitMark := false }

/-- The state at power-on before the tier is set: what does not depend on the tier, and the start-up scan with CA's estimate. -/
def bootScanned (raw : RawScan) (s : State) : State :=
  let x := loadedSettings s.sm
  let s0 : State :=
    { s with
      powered := true
      clk := ⟨⟨0, 0⟩, 0, ⟨0, 0⟩, 0, 0⟩
      tb := bootTimeBase x.drift, ca := bootCharge x, hc := resetHeater x.heater, pt := bootPower x.tier
      hm := resetMonitor x.cal }
  let s1 := takeScan raw s0
  chargeWork (startCharge s1.hm.readings.vbat.val) s1

/-- The tier of the start-up scan after power-on: no hysteresis applies (R184). -/
def bootTier (s : State) : Tier := if cutForced s then .hibernate else bandOf s.pt.params s.ca.soc

/-- The rails of the first tier, the host's with its on event (R184). -/
def bootRails (t : Tier) (s : State) : State :=
  let h : HostRail := match t with
    | .full | .conserve => .on
    | .survive | .hibernate => .shed
  setHostRail h (s.modPt fun p => { p with tier := t, tierTime := s.now, enSens := t != .hibernate })

/-- POWER_ON_RESET (R23, R184). The blocks take their reset values from the tier of the start-up scan, the PWR alert is offered, HC
makes its first decision, and a start-up in HIBERNATE makes the entry of R173. -/
def powerOn (raw : RawScan) (s : State) : State :=
  let s1 := bootScanned raw s
  let t := bootTier s1
  let hm := s1.hm
  let s2 := { resetBlocks (loadedSettings s.sm) t s1 with hm := hm }
  let s3 := offerAlert .pwr (.tier t) (startStore (bootRails t s2))
  let s4 := heaterDecide false (lowCurrentTest s3)
  let s5 := if t = .hibernate then enterHibernate s4 else s4
  endScan 0 (gaspCheck (syncModem s5))

/-- POWER_ON_RESET. It acts with and without supply before it: the supply comes up. -/
def execPowerOnReset (_d : Elapsed) (raw : RawScan) (s : State) : Out := .next (powerOn raw s)

/-! ## Pin reset (R24, R154, R167, R185) -/

/-- The grade and u after pin reset: no flag is raised and no alert queued (R24 step 2). -/
def pinGrade (g : Grade) (u : Nat) : Grade × Nat :=
  match g with
  | .unset => (.unset, u)
  | .free => (.free, u)
  | .tracking | .locked | .hold =>
    let v := min max32 (u + 1000000)
    (if freeLimit < v then .free else .hold, v)

/-- The clock after pin reset: the main clock, but in HIBERNATE the watch clock, and a settle starts again from its beginning (R18,
R24). -/
def pinClock (t : Tier) (c : ClockInUse) (now : Nat) : ClockInUse :=
  if t = .hibernate then
    match c with
    | .settle _ => .settle (now + settleTicks)
    | .main | .watch => .watch
  else .main

/-- TB after pin reset: I, s and the drift table are kept (R24). -/
def pinTimeBase (t : Tier) (now : Nat) (b : TimeBase) : TimeBase :=
  let g := pinGrade b.grade b.u
  { bootTimeBase b.drift with
    clock := pinClock t b.clock now, grade := g.1, u := g.2, integral := b.integral, steer := b.steer }

/-- CA after pin reset, before the start-up scan (R154). -/
def pinCharge (x : Settings) (c : ChargeUnit) : ChargeUnit :=
  let c1 := { c with limits := x.limits, table := x.table, fullRun := 0, emptyRun := 0, chargeOn := false }
  if x.limits.capacity = c.limits.capacity then c1 else c1.newCapacity

/-- PT after pin reset, before the start-up scan (R185). DOZING is kept with its deadline, and where the HOST SLEEP reply that would
have set it was lost with the link, with none (log entry 40). -/
def pinPower (x : TierParams) (now : Nat) (p : PowerTier) : PowerTier :=
  { p with params := x, silenceFrom := if p.host.isOn then some now else none, gasp := none }

/-- The state at pin reset before the start-up scan: time is loaded from the watch-time counter, and the main-domain blocks take the
kept tier. -/
def pinLoaded (s : State) : State :=
  let x := loadedSettings s.sm
  let s1 := s.setTime s.clk.watch.toTime
  let s2 : State :=
    { s1 with
      tb := pinTimeBase s.pt.tier s.clk.watchRun s.tb, ca := pinCharge x s.ca
      hc := { s.hc with params := x.heater, change := none }, pt := pinPower x.tier s.clk.watchRun s.pt }
  syncModem (startStore (resetBlocks x s.pt.tier s2))

/-- PT at the start-up scan after pin reset: the evaluation, and the PWR alert that names the tier that results (R185). -/
def pinTierScan (s : State) : State :=
  let s1 := tierScan true s
  if s1.pt.tier = s.pt.tier then offerAlert .pwr (.tier s.pt.tier) s1 else s1

/-- PIN_RESET (R24, R185). The start-up scan counts no charge and makes no estimate (R142, R154). -/
def pinReset (raw : RawScan) (s : State) : State :=
  let s1 := chargeWork id (takeScan raw (pinLoaded s))
  endScan s.clk.watchRun (heaterDecide false (pinTierScan (lowCurrentTest s1)))

def execPinReset (d : Elapsed) (raw : RawScan) (s : State) : Out := timed d s (pinReset raw)

end Sys2Proof.Machine
end

