-- ==== Sys2Proof/Machine/TimeBase.lean ====
section
/-! DEFINITION. Meanings: the time base (spec/01). -/

namespace Sys2Proof.Machine

/-! ## Labels (R3) -/

/-- The start byte of a label record (11.6). -/
def labelStart : Byte := 0x4C

/-- The bytes of a label record. -/
def labelLength : Nat := 7

/-- A complete label record: if its CRC-8 checks it replaces the held label, and otherwise it is discarded (R3). -/
def takeLabel (r : List Byte) (s : State) : State :=
  if crcLabel (r.take 6) = r.getD 6 0 then
    s.modTb fun t => { t with label := some ⟨getU r 1 4, (r.getD 5 0).getLsbD 0, s.now⟩ }
  else s

/-- The label receiver takes one byte (R3). -/
def labelByte (s : State) (b : Byte) : State :=
  if s.tb.labelRx.isEmpty then (if b = labelStart then s.modTb fun t => { t with labelRx := [b] } else s)
  else
    let r := s.tb.labelRx ++ [b]
    if r.length = labelLength then takeLabel r (s.modTb fun t => { t with labelRx := [] })
    else s.modTb fun t => { t with labelRx := r }

/-- LABEL_RECORD (R3). Labels are not taken on the watch clock or during the settle (R17, R18). -/
def execLabelRecord (d : Elapsed) (bytes : List Byte) (s : State) : Out :=
  timed d s (whileMain fun s => bytes.foldl labelByte s)

/-- LABEL_GAP_TIMEOUT (R3). -/
def execLabelGapTimeout (d : Elapsed) (s : State) : Out :=
  timed d s (whileMain fun s => s.modTb fun t => { t with labelRx := [] })

/-! ## Pulses (R4 to R9) -/

/-- The held label makes a pulse at Tp a candidate: it is valid and arrived between Tp − 1 s and Tp − 100 ms (R4). -/
def isCandidate (tp : Nat) (l : Label) : Bool :=
  l.valid && tp ≤ l.arrival.toNs + 1000000000 && l.arrival.toNs + 100000000 ≤ tp

/-- A candidate lies in the acceptance window of TRACKING and LOCKED (R5). -/
def inWindow (tp : Nat) (last : Option Time) : Bool :=
  match last with
  | some t => t.toNs + 999900000 ≤ tp && tp ≤ t.toNs + 1000100000
  | none => false

/-- A candidate is accepted by the grade (R5). -/
def accepted (t : TimeBase) (tp : Nat) : Bool :=
  match t.grade with
  | .unset | .hold | .free => true
  | .tracking | .locked => inWindow tp t.lastPulse

/-- θ: the pulse time minus the labelled second, ns (R6). -/
def phaseError (tp : Nat) (sec : Nat) : Int := (tp : Int) - ((sec * nsPerSec : Nat) : Int)

/-- |θ| above which an accepted pulse is a step (R7). -/
def stepLimit : Nat := 1000000

/-- |θ| above which LOCKED rejects an accepted candidate (R9). -/
def screenLimit : Nat := 10000

/-- |θ| up to which a used pulse is good (R8). -/
def goodLimit : Nat := 1000

/-- The good-pulse run at which TRACKING becomes LOCKED (R8). -/
def lockRun : Nat := 60

def integralLimit : Int := 12800000
def steerLimit : Int := 100000

/-- The loop integral after a used pulse (R8 step 1). -/
def loopIntegral (i theta : Int) : Int := clampInt (i + theta) (-integralLimit) integralLimit

/-- The steer after a used pulse, with the integral just computed (R8 step 2). -/
def loopSteer (i theta : Int) : Int := clampInt (-(theta / 4 + i / 128)) (-steerLimit) steerLimit

/-- The step of R7, in the order of its list. The pulse is now, so the present time becomes the labelled second. -/
def stepPulse (sec : Nat) (theta : Int) (s : State) : State :=
  let old := s.now.toNs
  let labelled : Time := ⟨sec, 0⟩
  let s1 := (s.setTime labelled).modTb fun t =>
    { t with integral := 0, lastPulse := some labelled, lastTheta := some theta, movedTo := some labelled }
  let s2 := (changeGrade .tracking s1).modTb fun t =>
    { t with
      u := 1000, goodRun := 0, rejectRun := 0, stepCount := inc32 t.stepCount, usedCount := inc32 t.usedCount
      lossTimer := some labelled }
  afterStep old (markStep s2)

/-- The good-pulse run after a used pulse (R8 step 5). -/
def goodRunAfter (run : Nat) (theta : Int) : Nat := if theta.natAbs ≤ goodLimit then satInc 65535 run else 0

/-- The grade after a used pulse, with the good-pulse run just set (R8 step 6). -/
def gradeAfter (g : Grade) (run : Nat) (theta : Int) : Grade :=
  match g with
  | .unset | .hold | .free => .tracking
  | .tracking => if lockRun ≤ run then .locked else .tracking
  | .locked => if theta.natAbs ≤ goodLimit then .locked else .tracking

/-- u after a used pulse (R8 step 6). -/
def uncertaintyAfter (g : Grade) (theta : Int) : Nat :=
  theta.natAbs + (if g = .locked then 100 else 1000)

/-- The loop update of R8. -/
def usePulse (theta : Int) (s : State) : State :=
  let i := loopIntegral s.tb.integral theta
  let run := goodRunAfter s.tb.goodRun theta
  let g := gradeAfter s.tb.grade run theta
  let s1 := s.modTb fun t =>
    { t with
      integral := i, steer := loopSteer i theta, lastPulse := some s.now, lastTheta := some theta, lossTimer := some s.now
      usedCount := inc32 t.usedCount, rejectRun := 0, goodRun := run }
  let s2 := (changeGrade g s1).modTb fun t => { t with u := uncertaintyAfter g theta }
  if g = .locked then learnDrift s2 else s2

/-- A pulse that the screening of LOCKED rejects (R9). -/
def rejectPulse (s : State) : State :=
  s.modTb fun t => { t with rejectedCount := inc32 t.rejectedCount, rejectRun := t.rejectRun + 1 }

/-- An accepted pulse: screened in LOCKED, a step above 1,000,000 ns in the other grades, used otherwise (R6 to R9). -/
def acceptPulse (sec : Nat) (s : State) : State :=
  let theta := phaseError s.now.toNs sec
  if s.tb.grade = .locked then (if screenLimit < theta.natAbs then rejectPulse s else usePulse theta s)
  else if stepLimit < theta.natAbs then stepPulse sec theta s
  else usePulse theta s

/-- A rising edge on REFP: the held label is emptied, and a candidate is accepted or counted (R4, R5). -/
def pulseEdge (s : State) : State :=
  let s1 := s.modTb fun t => { t with label := none }
  let unlabelled := s1.modTb fun t => { t with unlabelledCount := inc32 t.unlabelledCount }
  match s.tb.label with
  | some l =>
    if isCandidate s.now.toNs l then
      if accepted s.tb s.now.toNs then acceptPulse l.sec s1
      else s1.modTb fun t => { t with outOfWindowCount := inc32 t.outOfWindowCount }
    else unlabelled
  | none => unlabelled

/-- REFP_PULSE (R4 to R9). -/
def execRefpPulse (d : Elapsed) (s : State) : Out := timed d s (whileMain pulseEdge)

/-! ## Reference loss and whole seconds (R2, R10 to R12) -/

/-- The loss timer has expired: 3 s of disciplined time since the last used pulse, in TRACKING or LOCKED (R10). -/
def lossExpired (s : State) : Bool :=
  (s.tb.grade = .tracking || s.tb.grade = .locked) &&
    (match s.tb.lossTimer with
      | some t => t.toNs + 3000000000 ≤ s.now.toNs
      | none => false)

/-- The grade becomes HOLD and both runs 0 (R10). -/
def loseReference (s : State) : State :=
  (changeGrade .hold s).modTb fun t => { t with goodRun := 0, rejectRun := 0, lossTimer := none }

/-- REFERENCE_LOSS (R10). -/
def execReferenceLoss (d : Elapsed) (s : State) : Out :=
  timed d s (whileMain fun s => if lossExpired s then loseReference s else s)

/-- The growth of u at a whole second with and without a populated bin, and on the watch clock, ns (R12). -/
def growthKnown : Nat := 20
def growthUnknown : Nat := 200
def growthWatch : Nat := 5000

/-- The holdover steer of a whole second in HOLD or FREE (R11). -/
def holdoverSteer (bin : Option DriftBin) (s : State) : State :=
  match bin with
  | some b => if s.tb.grade = .hold ∨ s.tb.grade = .free then s.modTb fun t => { t with steer := b.v } else s
  | none => s

/-- A whole second of disciplined time: the watch-time counter is aligned, holdover is steered, u grows, SOH boundaries and a
held wake time are compared (R2, R11, R12, R121, R179). -/
def mainSecond (s : State) : State :=
  let s1 := s.modClk fun c => { c with watch := ⟨c.time.sec, 0⟩ }
  let bin := populatedBin s1
  wakeAtTime (sohCheck (growU (if bin.isSome then growthKnown else growthUnknown) (holdoverSteer bin s1)))

/-- WHOLE_SECOND (R2, R11, R12). A second that a move of time has carried time past is not reached. -/
def execWholeSecond (d : Elapsed) (s : State) : Out :=
  timed d s fun s => if s.mainRuns && s.reached (s.clk.time.sec * nsPerSec) then mainSecond s else s

/-- A whole second of watch time while TB is not on the main clock (R12, R18, R121, R179). -/
def watchSecond (s : State) : State := wakeAtTime (sohCheck (growU growthWatch s))

/-- WATCH_WHOLE_SECOND (R12). -/
def execWatchWholeSecond (d : Elapsed) (s : State) : Out :=
  timed d s fun s => if !s.mainRuns && s.clk.watch.ticks = 0 then watchSecond s else s

/-! ## Requests (R19 to R22) -/

/-- TIME GET's fields (R19). -/
def timeFields (s : State) : List Byte := putTime s.now ++ [s.tb.grade.code] ++ putU 4 s.tb.u ++ [s.tb.clock.code]

def execTimeGet (d : Elapsed) (s : State) : Out := timed d s (serve kTimeGet (withLength 0 (readOnly timeFields)))

/-- The least uncertainty TIME SET accepts (R21). -/
def leastStated : Nat := 1000000

/-- TIME SET when taken, steps 1 to 5 of R21. -/
def setStationTime (t : Time) (stated : Nat) (s : State) : State :=
  let old := s.now.toNs
  let s1 := (s.setTime t).modTb fun b => { b with u := max stated leastStated, movedTo := some t }
  let s2 := (changeGrade .free s1).modTb fun b => { b with goodRun := 0, rejectRun := 0, lastPulse := none }
  afterStep old (markStep s2)

/-- TIME SET (R21). -/
def timeSet (p : List Byte) (s : State) : List Byte × State :=
  if s.tb.grade ≠ .unset ∧ s.tb.grade ≠ .free then ([stWrongState], s)
  else if nsPerSec ≤ getU p 4 4 then ([stOutOfRange], s)
  else
    ([if getU p 8 4 < leastStated then stClamped else stOk], setStationTime ⟨getU p 0 4, getU p 4 4⟩ (getU p 8 4) s)

def execTimeSet (d : Elapsed) (s : State) : Out := timed d s (serve kTimeSet (withLength 12 timeSet))

/-- The whole seconds since the last used pulse, with the state that has used a free value where the manual states none: a
pulse has been used since the reset but its recorded time is gone (R20, log entry 11). -/
def secondsSincePulse (s : State) : Nat × State :=
  match s.tb.lastPulse, s.tb.lastTheta with
  | some t, _ => (min max32 ((s.now.toNs - t.toNs) / nsPerSec), s)
  | none, none => (max32, s)
  | none, some _ => s.takeFree

/-- CLOCK REPORT's fields (R20). -/
def clockFields (s : State) (seconds : Nat) : List Byte :=
  putSOpt 8 s.tb.lastTheta ++ putS 4 s.tb.integral ++ putS 3 s.tb.steer ++ putU 2 s.tb.goodRun ++ putU 1 s.tb.rejectRun ++
    putU 4 s.tb.usedCount ++ putU 4 s.tb.rejectedCount ++ putU 4 s.tb.outOfWindowCount ++ putU 4 s.tb.unlabelledCount ++
    putU 4 s.tb.stepCount ++ putU 4 seconds

/-- CLOCK REPORT (R20). -/
def clockReport (_p : List Byte) (s : State) : List Byte × State :=
  let x := secondsSincePulse s
  (stOk :: clockFields s x.1, x.2)

def execClockReport (d : Elapsed) (s : State) : Out := timed d s (serve kClockReport (withLength 0 clockReport))

/-- DRIFT READ's fields (R22). -/
def driftFields (s : State) : List Byte :=
  (s.tb.drift.toList.flatMap fun b => putS 3 b.v ++ putU 2 b.n) ++ putUOpt 1 ((currentBin s).map Fin.val)

def execDriftRead (d : Elapsed) (s : State) : Out := timed d s (serve kDriftRead (withLength 0 (readOnly driftFields)))

/-- DRIFT CLEAR (R22). -/
def driftClear (_p : List Byte) (s : State) : List Byte × State := ([stOk], s.modTb fun t => { t with drift := emptyDrift })

def execDriftClear (d : Elapsed) (s : State) : Out := timed d s (serve kDriftClear (withLength 0 driftClear))

end Sys2Proof.Machine
end

