-- ==== Sys2Proof/Machine/Dispatch.lean ====
section
/-! DEFINITION. One arm for each command: a direct call of its meaning. -/

namespace Sys2Proof.Machine

def exec (i : Instr) (s : State) : Host.Outcome State Fault Refusal :=
  match i with
  | .powerOnReset d raw => Sys2Proof.Machine.execPowerOnReset d raw s
  | .pinReset d raw => Sys2Proof.Machine.execPinReset d raw s
  | .refpPulse d => Sys2Proof.Machine.execRefpPulse d s
  | .labelRecord d bytes => Sys2Proof.Machine.execLabelRecord d bytes s
  | .labelGapTimeout d => Sys2Proof.Machine.execLabelGapTimeout d s
  | .referenceLoss d => Sys2Proof.Machine.execReferenceLoss d s
  | .wholeSecond d => Sys2Proof.Machine.execWholeSecond d s
  | .watchWholeSecond d => Sys2Proof.Machine.execWatchWholeSecond d s
  | .sampleStrobe d => Sys2Proof.Machine.execSampleStrobe d s
  | .digitizerFrame d bytes => Sys2Proof.Machine.execDigitizerFrame d bytes s
  | .digitizerGapTimeout d => Sys2Proof.Machine.execDigitizerGapTimeout d s
  | .filterPass d => Sys2Proof.Machine.execFilterPass d s
  | .auxtrigEdge d rising => Sys2Proof.Machine.execAuxtrigEdge d rising s
  | .patrolRead d upsets => Sys2Proof.Machine.execPatrolRead d upsets s
  | .railWindowMark d => Sys2Proof.Machine.execRailWindowMark d s
  | .uplinkDecision d => Sys2Proof.Machine.execUplinkDecision d s
  | .issueInstant d mbf => Sys2Proof.Machine.execIssueInstant d mbf s
  | .transmitSent d => Sys2Proof.Machine.execTransmitSent d s
  | .taken d handle body => Sys2Proof.Machine.execTaken d handle body s
  | .refused d handle body => Sys2Proof.Machine.execRefused d handle body s
  | .done d handle body => Sys2Proof.Machine.execDone d handle body s
  | .modemFrameDiscard d bytes => Sys2Proof.Machine.execModemFrameDiscard d bytes s
  | .modemGapTimeout d => Sys2Proof.Machine.execModemGapTimeout d s
  | .awaitTakenTimeout d => Sys2Proof.Machine.execAwaitTakenTimeout d s
  | .awaitDoneTimeout d => Sys2Proof.Machine.execAwaitDoneTimeout d s
  | .housekeepingScan d raw => Sys2Proof.Machine.execHousekeepingScan d raw s
  | .heaterDeferDeadline d => Sys2Proof.Machine.execHeaterDeferDeadline d s
  | .lastGaspLimit d => Sys2Proof.Machine.execLastGaspLimit d s
  | .settleEnd d => Sys2Proof.Machine.execSettleEnd d s
  | .graceDeadline d => Sys2Proof.Machine.execGraceDeadline d s
  | .dozeDeadline d => Sys2Proof.Machine.execDozeDeadline d s
  | .cycleEnd d => Sys2Proof.Machine.execCycleEnd d s
  | .hostSilenceExpiry d => Sys2Proof.Machine.execHostSilenceExpiry d s
  | .linkFrame d bytes => Sys2Proof.Machine.execLinkFrame d bytes s
  | .linkGapTimeout d => Sys2Proof.Machine.execLinkGapTimeout d s
  | .replyStart d hrdy => Sys2Proof.Machine.execReplyStart d hrdy s
  | .replyComplete d => Sys2Proof.Machine.execReplyComplete d s
  | .unknownKind d => Sys2Proof.Machine.execUnknownKind d s
  | .ident d => Sys2Proof.Machine.execIdent d s
  | .status d => Sys2Proof.Machine.execStatus d s
  | .attnRead d => Sys2Proof.Machine.execAttnRead d s
  | .attnMask d => Sys2Proof.Machine.execAttnMask d s
  | .restartLink d => Sys2Proof.Machine.execRestartLink d s
  | .restartDetection d => Sys2Proof.Machine.execRestartDetection d s
  | .settingsSave d => Sys2Proof.Machine.execSettingsSave d s
  | .settingsSaveComplete d agrees => Sys2Proof.Machine.execSettingsSaveComplete d agrees s
  | .settingsDefaults d => Sys2Proof.Machine.execSettingsDefaults d s
  | .timeGet d => Sys2Proof.Machine.execTimeGet d s
  | .timeSet d => Sys2Proof.Machine.execTimeSet d s
  | .clockReport d => Sys2Proof.Machine.execClockReport d s
  | .driftRead d => Sys2Proof.Machine.execDriftRead d s
  | .driftClear d => Sys2Proof.Machine.execDriftClear d s
  | .filterLoad d => Sys2Proof.Machine.execFilterLoad d s
  | .filterSwap d => Sys2Proof.Machine.execFilterSwap d s
  | .channelGet d => Sys2Proof.Machine.execChannelGet d s
  | .clipClear d => Sys2Proof.Machine.execClipClear d s
  | .detectSet d => Sys2Proof.Machine.execDetectSet d s
  | .detectArm d => Sys2Proof.Machine.execDetectArm d s
  | .eventForce d => Sys2Proof.Machine.execEventForce d s
  | .storeSet d => Sys2Proof.Machine.execStoreSet d s
  | .storeReport d => Sys2Proof.Machine.execStoreReport d s
  | .eventList d => Sys2Proof.Machine.execEventList d s
  | .eventGet d => Sys2Proof.Machine.execEventGet d s
  | .waveRead d upsets => Sys2Proof.Machine.execWaveRead d upsets s
  | .eventPin d => Sys2Proof.Machine.execEventPin d s
  | .eventUnpin d => Sys2Proof.Machine.execEventUnpin d s
  | .eventRelease d => Sys2Proof.Machine.execEventRelease d s
  | .eventDelete d => Sys2Proof.Machine.execEventDelete d s
  | .alertPost d => Sys2Proof.Machine.execAlertPost d s
  | .alertList d => Sys2Proof.Machine.execAlertList d s
  | .alertCancel d => Sys2Proof.Machine.execAlertCancel d s
  | .resultsRead d => Sys2Proof.Machine.execResultsRead d s
  | .uplinkSet d => Sys2Proof.Machine.execUplinkSet d s
  | .powerGet d => Sys2Proof.Machine.execPowerGet d s
  | .batterySetLimits d => Sys2Proof.Machine.execBatterySetLimits d s
  | .batterySetCalibration d => Sys2Proof.Machine.execBatterySetCalibration d s
  | .batterySetTable d => Sys2Proof.Machine.execBatterySetTable d s
  | .heaterSet d => Sys2Proof.Machine.execHeaterSet d s
  | .heaterFaultClear d => Sys2Proof.Machine.execHeaterFaultClear d s
  | .tierSet d => Sys2Proof.Machine.execTierSet d s
  | .hostSleep d => Sys2Proof.Machine.execHostSleep d s
  | .linkFrameDiscard d byte stopLow => Sys2Proof.Machine.execLinkFrameDiscard d byte stopLow s
  | .digitizerFramingError d => Sys2Proof.Machine.execDigitizerFramingError d s
  | .modemFramingError d => Sys2Proof.Machine.execModemFramingError d s
  | .supplyLoss d => Sys2Proof.Machine.execSupplyLoss d s

end Sys2Proof.Machine
end

