-- ==== Sys2Proof/Safety.lean ====
section
/-! DEFINITION. The terms the statements use: where a request stands in the pending list, and the invariants every step keeps. -/

namespace Sys2Proof.Machine

/-! ## Requests -/

/-- The device has supply, and `r` is the request that executes next: every request ahead of it has executed, it has not, the
restart barrier is clear and no SETTINGS SAVE runs (R188). -/
structure Front (s : State) (pre : List Request) (r : Request) (post : List Request) : Prop where
  powered : s.powered = true
  list : s.sl.list = pre ++ r :: post
  executed : ∀ x ∈ pre, x.progress ≠ .waiting
  waiting : r.progress = .waiting
  barrier : s.sl.barrier = false
  mark : s.sl.executing = false

/-- The link with the request `r` executed, its reply's payload composed, and `e` to happen at the end of the reply. -/
def StationLink.replied (l : StationLink) (pre : List Request) (r : Request) (post : List Request) (e : AtReplyEnd)
    (reply : List Byte) : StationLink :=
  { l with list := pre ++ { r with progress := .executed reply, atEnd := e } :: post }

/-- `Answers c s pre r post t reply`: the command `c` executes the request `r`, the next state is `t` but for the link, and in the
link the request has got its reply and nothing else has changed. -/
def Answers (c : Instr) (s : State) (pre : List Request) (r : Request) (post : List Request) (t : State) (reply : List Byte) :
    Prop :=
  exec c s = .next { t with sl := t.sl.replied pre r post .nothing reply }

/-- The requests whose payload has one length and whose BAD_LENGTH reply is the status alone, with their kinds and lengths (11.4). -/
def fixedRequests : List ((Elapsed → Instr) × Byte × Nat) :=
  [(.ident, 0x01, 0), (.status, 0x02, 0), (.attnRead, 0x03, 0), (.attnMask, 0x04, 2), (.settingsSave, 0x08, 0),
    (.settingsDefaults, 0x09, 0), (.timeGet, 0x10, 0), (.timeSet, 0x11, 12), (.clockReport, 0x12, 0), (.driftRead, 0x13, 0),
    (.driftClear, 0x14, 0), (.filterSwap, 0x21, 1), (.channelGet, 0x22, 2), (.clipClear, 0x23, 1), (.detectArm, 0x29, 1),
    (.eventForce, 0x2A, 0), (.storeReport, 0x31, 0), (.eventList, 0x38, 4), (.eventGet, 0x39, 4),
    (fun d => .waveRead d [], 0x3A, 10), (.eventPin, 0x3B, 4), (.eventUnpin, 0x3C, 4), (.eventRelease, 0x3D, 4),
    (.eventDelete, 0x3E, 4), (.alertList, 0x41, 1), (.alertCancel, 0x42, 2), (.resultsRead, 0x43, 0),
    (.powerGet, 0x48, 0), (.heaterFaultClear, 0x51, 0), (.hostSleep, 0x59, 5)]

/-- The other requests of a known kind, with their kinds: their payload varies in length, or their refusals carry values. -/
def otherRequests : List ((Elapsed → Instr) × Byte) :=
  [(.restartLink, 0x05), (.restartDetection, 0x05), (.filterLoad, 0x20), (.detectSet, 0x28), (.storeSet, 0x30),
    (.alertPost, 0x40), (.uplinkSet, 0x44), (.batterySetLimits, 0x49), (.batterySetCalibration, 0x49), (.batterySetTable, 0x49),
    (.heaterSet, 0x50), (.tierSet, 0x58)]

/-- Every request of a known kind, with its kind (11.4). -/
def requestKinds : List ((Elapsed → Instr) × Byte) := (fixedRequests.map fun x => (x.1, x.2.1)) ++ otherRequests

/-- The rows that execute one scope or part of a kind, with the kind and the code of the scope or part (11.4). -/
def partRequests : List ((Elapsed → Instr) × Byte × Byte) :=
  [(.restartLink, 0x05, 0), (.restartDetection, 0x05, 1), (.batterySetLimits, 0x49, 0), (.batterySetCalibration, 0x49, 1),
    (.batterySetTable, 0x49, 2)]

/-! ## Frames -/

/-- The parts of State. -/
inductive Block where
  | powered | clk | tb | si | fe | tu | ws | et | al | hm | ca | hc | pt | sl | sm | lines | freeCount | pending
  deriving DecidableEq, Repr

/-- A part is the same in two states. -/
def Block.same (s t : State) : Block → Prop
  | .powered => t.powered = s.powered
  | .clk => t.clk = s.clk
  | .tb => t.tb = s.tb
  | .si => t.si = s.si
  | .fe => t.fe = s.fe
  | .tu => t.tu = s.tu
  | .ws => t.ws = s.ws
  | .et => t.et = s.et
  | .al => t.al = s.al
  | .hm => t.hm = s.hm
  | .ca => t.ca = s.ca
  | .hc => t.hc = s.hc
  | .pt => t.pt = s.pt
  | .sl => t.sl = s.sl
  | .sm => t.sm = s.sm
  | .lines => t.lines = s.lines
  | .freeCount => t.freeCount = s.freeCount
  | .pending => t.pending = s.pending

/-- From `s` to `t` nothing outside the parts listed has changed. -/
def ChangesOnly (bs : List Block) (s t : State) : Prop := ∀ b : Block, b ∉ bs → b.same s t

/-- The flags of every record in creation order, with the record's number. -/
def recordFlags (t : EventTable) : List (Nat × EventFlags) := t.records.map fun r => (r.number, r.flags)

/-! ## Pulses -/

/-- A pulse at Tp is a candidate by the held label `l` (R4). -/
def Candidate (t : TimeBase) (tp : Nat) (l : Label) : Prop :=
  t.label = some l ∧ l.valid = true ∧ tp ≤ l.arrival.toNs + 1000000000 ∧ l.arrival.toNs + 100000000 ≤ tp

/-- The acceptance window of TRACKING and LOCKED (R5). -/
def InWindow (t : TimeBase) (tp : Nat) : Prop :=
  ∃ p, t.lastPulse = some p ∧ p.toNs + 999900000 ≤ tp ∧ tp ≤ p.toNs + 1000100000

/-- The grade accepts a candidate at Tp (R5). -/
def Accepts (t : TimeBase) (tp : Nat) : Prop := t.grade = .tracking ∨ t.grade = .locked → InWindow t tp

/-- The bin of the latest TENC, none while TENC is invalid (R13). -/
def tencBin (s : State) : Option (Fin 16) :=
  if s.hm.readings.tenc.valid then
    s.hm.readings.tenc.value.map fun v => Fin.ofNat 16 (max 0 (min ((v + 400) / 50) 15)).toNat
  else none

/-! ## Alerts -/

/-- Admission lets the entry out: the tier's classes and the grade's (R120). -/
def Admitted (s : State) (e : Entry) : Prop :=
  (match s.pt.tier with
    | .full => True
    | .conserve => e.cls ≠ .soh
    | .survive => e.cls = .q1 ∨ e.cls = .pwr
    | .hibernate => e.cls = .pwr ∧ e.subject = .tier .hibernate) ∧
  (s.tb.grade = .unset → e.cls = .q1 ∨ e.cls = .pwr)

/-- The recent-results list with one more result, the oldest of 9 dropped (R130). -/
def withResult (l : List Result) (r : Result) : List Result := if l.length < 8 then l ++ [r] else (l ++ [r]).drop 1

/-! ## Bounds of the time base -/

/-- The bins of a drift table keep to the range of the steer and of their counts (R8, R13). -/
def DriftOk (t : DriftTable) : Prop := ∀ i : Fin 16, -steerLimit ≤ (t.get i).v ∧ (t.get i).v ≤ steerLimit ∧ (t.get i).n ≤ 65535

/-- A property of the settings image holds while the image is valid and of the snapshot while a save runs. -/
def SettingsMemory.All (m : SettingsMemory) (p : Settings → Prop) : Prop :=
  (∀ x, m.image = some x → p x) ∧ (∀ x, m.writing = some x → p x)

/-- I, s, u and the drift table lie in their ranges (R8, R12, R13). -/
def TimeBaseInv (s : State) : Prop :=
  (-integralLimit ≤ s.tb.integral ∧ s.tb.integral ≤ integralLimit) ∧ (-steerLimit ≤ s.tb.steer ∧ s.tb.steer ≤ steerLimit) ∧
    s.tb.u ≤ max32 ∧ DriftOk s.tb.drift ∧ s.sm.All fun x => DriftOk x.drift

/-- A time lies in its range: a 32-bit seconds count and less than a second of nanoseconds (00_scope.md, Quantities). -/
def Time.Ok (t : Time) : Prop := t.sec < 4294967296 ∧ t.ns < nsPerSec

/-- The two clocks lie in their ranges, the tick count from 0 to 32,767 (R2), and a held label's second in its (R3). -/
def ClockInv (s : State) : Prop :=
  s.clk.time.Ok ∧ s.clk.frac < 1000000000 ∧ s.clk.watch.sec < 4294967296 ∧ s.clk.watch.ticks < ticksPerSec ∧
    ∀ l, s.tb.label = some l → l.sec < 4294967296

/-! ## Memory -/

/-- The page array has its canonical form. -/
def MemoryInv (s : State) : Prop := s.ws.array.wf = true

/-! ## The page map -/

/-- A page is the lowest-numbered page of the free set (R77). -/
def LowestFree (w : WaveStore) (p : PageId) : Prop :=
  (w.pages.get p).state = .free ∧ ∀ q, q < p → (w.pages.get q).state ≠ .free

/-- Every page is in the one place its state names, the free set, the faulty set, one channel's ring or one event's list for one
channel, and nowhere twice; a free page carries no faulty mark and one in the faulty set does; a page fills exactly while a route
has it as its filling page, and only then a half waits; and the routes of the channels the tier does not enable are OFF (R73, R74, R80). -/
structure PageInv (s : State) : Prop where
  events : (s.ws.events.map EventPages.num).Nodup
  free : ∀ p, (s.ws.pages.get p).state = .free → (s.ws.pages.get p).faulty = false
  faulty : ∀ p, (s.ws.pages.get p).state = .faultySet → (s.ws.pages.get p).faulty = true
  ring : ∀ p c, (s.ws.pages.get p).state = .ring c ↔
    p ∈ (s.ws.chans.get c).ring ∨ ((s.ws.chans.get c).route = .ring ∧ (s.ws.chans.get c).filling = some p)
  event : ∀ p n c, (s.ws.pages.get p).state = .event n c ↔ p ∈ s.ws.eventList n c
  once : (∀ c, ((s.ws.chans.get c).ring ++ (s.ws.chans.get c).filling.toList).Nodup) ∧ ∀ n c, (s.ws.eventList n c).Nodup
  filling : ∀ p, (s.ws.pages.get p).filling = true ↔ ∃ c, (s.ws.chans.get c).filling = some p
  fills : ∀ c p, (s.ws.chans.get c).filling = some p →
    (s.ws.chans.get c).route = .ring ∨ ∃ n, (s.ws.chans.get c).route = .event n ∧ (s.ws.pages.get p).state = .event n c
  pair : ∀ c, (s.ws.chans.get c).filling = none → (s.ws.chans.get c).pair = none
  rings : ∀ c, (s.ws.chans.get c).ring ≠ [] → (s.ws.chans.get c).route = .ring ∨ (s.ws.chans.get c).route = .starved
  off : ∀ c, (s.ws.chans.get c).route = .off ↔ enabledIn s.pt.tier c = false

/-- No page holds more than 1,024 samples, and one that fills holds fewer, since a page closes at 1,024 (R72, R75). -/
def CountInv (s : State) : Prop :=
  ∀ p, (s.ws.pages.get p).count ≤ 1024 ∧ ((s.ws.pages.get p).filling = true → (s.ws.pages.get p).count < 1024)

/-! ## Charge -/

/-- The eight battery limits lie in their ranges, v_empty below v_full and chg_tmin below chg_tmax (7.5, R149). -/
structure LimitsOk (l : BatteryLimits) : Prop where
  capacity : 100 ≤ l.capacityMah ∧ l.capacityMah ≤ 60000
  eff : 200 ≤ l.eff ∧ l.eff ≤ 256
  vFull : 12000 ≤ l.vFull ∧ l.vFull ≤ 16000
  iTaper : 1 ≤ l.iTaper ∧ l.iTaper ≤ 2000
  vEmpty : 10000 ≤ l.vEmpty ∧ l.vEmpty ≤ 13000
  vSrcMin : 10000 ≤ l.vSrcMin ∧ l.vSrcMin ≤ 20000
  chgTmin : -300 ≤ l.chgTmin ∧ l.chgTmin ≤ 200
  chgTmax : 0 ≤ l.chgTmax ∧ l.chgTmax ≤ 600
  voltages : l.vEmpty < l.vFull
  temperatures : l.chgTmin < l.chgTmax

/-- An open-circuit table whose voltages rise, whose SoC values do not fall, and whose SoC values are permille. -/
def TableOk (t : OcTable) : Prop := pointsConsistent t.toList = true ∧ ∀ p ∈ t.toList, p.soc ≤ 1000

/-- Such a table whose voltages lie in their range (R149). -/
def TableInRange (t : OcTable) : Prop := TableOk t ∧ ∀ p ∈ t.toList, p.mv ≤ 65535

/-- q lies between 0 and the capacity, SoC is floor(q · 1,000/capacity), and the limits and the table, running and stored, are as
BATTERY SET lets them be (R142, R143, R149). -/
def ChargeInv (s : State) : Prop :=
  0 ≤ s.ca.q ∧ s.ca.q ≤ s.ca.limits.capacity ∧ (s.ca.soc : Int) = s.ca.q * 1000 / (s.ca.limits.capacity : Int) ∧
    LimitsOk s.ca.limits ∧ TableInRange s.ca.table ∧ s.sm.All fun x => LimitsOk x.limits ∧ TableInRange x.table

/-! ## Rails and heater -/

/-- The states of the host rail that a tier has (9.5, R177). -/
def railFits : Tier → HostRail → Bool
  | .full, .on | .full, .dozing _ | .full, .asleep | .full, .cycling _ => true
  | .conserve, .on | .conserve, .dozing _ | .conserve, .asleep | .conserve, .cycling _ => true
  | .survive, .grace _ | .survive, .shed => true
  | .hibernate, .shed => true
  | .full, .grace _ | .full, .shed | .conserve, .grace _ | .conserve, .shed => false
  | .survive, .on | .survive, .dozing _ | .survive, .asleep | .survive, .cycling _ => false
  | .hibernate, .on | .hibernate, .dozing _ | .hibernate, .asleep | .hibernate, .cycling _ | .hibernate, .grace _ => false

/-- The host rail's state is one of the tier's, the sensor rail is on except in HIBERNATE, and while the host rail is off the silence
timer stands, the link's receiver is in HUNT, no reply is being sent and the list is empty (R171, R177, R181, R191). -/
def RailInv (s : State) : Prop :=
  railFits s.pt.tier s.pt.host = true ∧ (s.pt.enSens = true ↔ s.pt.tier ≠ .hibernate) ∧
    (s.pt.host.isOn = true → s.pt.silenceFrom ≠ none) ∧
    (s.pt.host.isOn = false → s.pt.silenceFrom = none ∧ s.sl.rx = .hunt ∧ s.sl.tx = none ∧ s.sl.list = [])

/-- What a switching instant of the heater does outside HC: while the main clock runs, SI's heat mark, TU's quiet window and the
HEATER_SWITCHED flag of the current event, and nothing else; and nothing while it does not run (R53, R163). -/
def SwitchingInstant (s t : State) : Prop :=
  (s.tb.clock ≠ .main → ChangesOnly [.hc] s t) ∧
    (s.tb.clock = .main →
      ChangesOnly [.hc, .si, .tu, .et] s t ∧ t.si = { s.si with heatMark := true } ∧
        t.tu =
          { s.tu with
            quietEnd :=
              if s.tu.params.quietWindow = 0 then s.tu.quietEnd
              else some ((s.tu.delivery + s.tu.params.quietWindow * 100) % 4294967296) } ∧
        t.et =
          { s.et with
            records := s.et.records.map fun r =>
              if s.tu.current = some r.number then { r with flags := { r.flags with heaterSwitched := true } } else r })

/-- The battery heater switch is never on while the tier is HIBERNATE or while the source heater switch is on (R158). -/
def HeaterInv (s : State) : Prop := s.enHeatBat = true → s.pt.tier ≠ .hibernate ∧ s.enHeatSrc = false

/-! ## Lists of limited length -/

/-- At most 4 requests are pending, 16 alerts queued and 8 results held (R112, R130, R187). -/
def ListInv (s : State) : Prop :=
  s.sl.list.length ≤ maxRequests ∧ s.al.queue.length ≤ 16 ∧ s.al.results.length ≤ 8

/-- The ids of the alert queue are distinct, the id counter holds an id that no entry holds, and both run from 1 to 65,535 (R112,
R114). -/
structure IdInv (s : State) : Prop where
  distinct : (s.al.queue.map Entry.id).Nodup
  fresh : s.al.idCounter ∉ s.al.queue.map Entry.id
  counter : 1 ≤ s.al.idCounter ∧ s.al.idCounter ≤ 65535
  ids : ∀ e ∈ s.al.queue, 1 ≤ e.id ∧ e.id ≤ 65535

end Sys2Proof.Machine
end

