-- ==== Sys2Proof/Certificates/Slice0/Obligations.lean ====
section
/-! DEFINITION. The statements for the provers, block by block in the order of the manual's chapters. Every statement about a request
has the premise `Front`: the request stands where the manual executes it next (R188). A statement whose next state is an explicit
update of `s.elapse d` says with it that nothing else has changed. -/

open Sys2Proof Sys2Proof.Machine

/-! ## The step, the queue and the supply -/

/-- One step takes the command at the front of the queue and runs it on the state with the queue's rest. -/
def Obligations.StepRunsFrontCommand : Prop :=
  ∀ (c : Instr) (rest : List Instr) (s : State), s.pending = c :: rest → step s = exec c { s with pending := rest }

/-- No command stops the model and none touches the queue; on an empty queue the block idles (the model's choice, log entry 1).
SUPPLY_LOSS stops a write in progress and the whole device (R201); without supply nothing but power-on has an effect. -/
def Obligations.CommandsAnswerAndSupplyLossStops : Prop :=
  ((∀ (c : Instr) (s : State), ∃ t, exec c s = .next t ∧ t.pending = s.pending) ∧
     ∀ s : State, s.pending = [] → step s = .next s) ∧
  ((∀ (d : Elapsed) (s : State), s.powered = true →
       exec (.supplyLoss d) s = .next { s.elapse d with powered := false, sm := { s.sm with writing := none } }) ∧
     ∀ (c : Instr) (s : State), s.powered = false → (∀ d raw, c ≠ .powerOnReset d raw) → exec c s = .next s)

/-! ## Requests at large -/

/-- A request whose payload has not its length is refused with BAD_LENGTH and changes nothing (R189). No request command has an
effect but the time it brings when no request of its kind is the next one: with the list empty or executed, behind the restart
barrier or a running save, or with another kind in front; nor a row of RESTART or BATTERY SET when the next request names another
scope or part (R188; the model's convention, log entry 3). -/
def Obligations.RequestsNeedTheirTurnAndLength : Prop :=
  (∀ x ∈ fixedRequests, ∀ (d : Elapsed) (s : State) (pre : List Request) (r : Request) (post : List Request),
     Front s pre r post → r.kind = x.2.1 → r.payload.length ≠ x.2.2 → Answers (x.1 d) s pre r post (s.elapse d) [0x03]) ∧
  (∀ x ∈ requestKinds, ∀ (d : Elapsed) (s : State), s.powered = true →
     (s.sl.barrier = true ∨ s.sl.executing = true ∨ (∀ r ∈ s.sl.list, r.progress ≠ .waiting) ∨
         ∃ pre r post, Front s pre r post ∧ r.kind ≠ x.2) →
       exec (x.1 d) s = .next (s.elapse d)) ∧
  (∀ (d : Elapsed) (s : State), s.powered = true →
     (s.sl.barrier = true ∨ s.sl.executing = true ∨ (∀ r ∈ s.sl.list, r.progress ≠ .waiting) ∨
         ∃ pre r post, Front s pre r post ∧ ∃ x ∈ requestKinds, r.kind = x.2) →
       exec (.unknownKind d) s = .next (s.elapse d)) ∧
  (∀ x ∈ partRequests, ∀ y ∈ partRequests, ∀ (d : Elapsed) (s : State) (pre : List Request) (r : Request) (post : List Request)
     (p : List Byte), Front s pre r post → r.kind = y.2.1 → r.payload = y.2.2 :: p → (x.2.1 ≠ y.2.1 ∨ x.2.2 ≠ y.2.2) →
     exec (x.1 d) s = .next (s.elapse d))

/-! ## Time base -/

/-- A label record that arrives whole replaces the held label if its CRC-8 checks and is discarded otherwise; bytes outside records
are ignored; on the watch clock and during the settle nothing is taken (R3, R17, R18). A pulse that is no candidate, a candidate
outside the window, and a candidate that LOCKED screens out each empty the held label and are counted, and nothing else happens; on
the watch clock a pulse is not examined (R4, R5, R9). -/
def Obligations.LabelsAndUnusedPulses : Prop :=
  (∀ (d : Elapsed) (s : State), s.powered = true → s.tb.labelRx = [] →
     (s.tb.clock = .main → ∀ (f : List Byte) (check : Byte), f.length = 5 →
       exec (.labelRecord d ((0x4C :: f) ++ [check])) s =
         .next
           (if crc8 0x31 0xFF (0x4C :: f) = check then
             { s.elapse d with
               tb := { s.tb with label := some ⟨be (f.take 4), (f.getD 4 0).getLsbD 0, (s.elapse d).clk.time⟩ } }
           else s.elapse d)) ∧
     (s.tb.clock = .main → ∀ bytes : List Byte, (∀ b ∈ bytes, b ≠ 0x4C) → exec (.labelRecord d bytes) s = .next (s.elapse d)) ∧
     (s.tb.clock ≠ .main → ∀ bytes : List Byte, exec (.labelRecord d bytes) s = .next (s.elapse d))) ∧
  (∀ (d : Elapsed) (s : State), s.powered = true →
     (s.tb.clock ≠ .main → exec (.refpPulse d) s = .next (s.elapse d)) ∧
     (s.tb.clock = .main →
       ((∀ l, ¬Candidate s.tb (s.elapse d).clk.time.toNs l) →
         exec (.refpPulse d) s =
           .next { s.elapse d with
             tb := { s.tb with label := none, unlabelledCount := (s.tb.unlabelledCount + 1) % 4294967296 } }) ∧
       (∀ l, Candidate s.tb (s.elapse d).clk.time.toNs l → ¬Accepts s.tb (s.elapse d).clk.time.toNs →
         exec (.refpPulse d) s =
           .next { s.elapse d with
             tb := { s.tb with label := none, outOfWindowCount := (s.tb.outOfWindowCount + 1) % 4294967296 } }) ∧
       (∀ l, Candidate s.tb (s.elapse d).clk.time.toNs l → Accepts s.tb (s.elapse d).clk.time.toNs → s.tb.grade = .locked →
         10000 < ((s.elapse d).clk.time.toNs - l.sec * 1000000000 : Int).natAbs →
         exec (.refpPulse d) s =
           .next { s.elapse d with
             tb :=
               { s.tb with
                 label := none, rejectedCount := (s.tb.rejectedCount + 1) % 4294967296, rejectRun := s.tb.rejectRun + 1 } })))

/-- An accepted pulse in UNSET, HOLD, FREE or TRACKING with |θ| above 1,000,000 ns sets time to the labelled second and starts
TRACKING afresh, keeping s; the event in progress gets TIME_STEPPED, and no strobe comes before the first boundary after the new
time (R7, R16). TIME_GRADE is raised at a change of grade (R14). What the step carries time past closes its rail window, and a decided
frame whose issue instant it passes makes no attempt (R123, R124; after a step back too, the model's choice, log entry 34); SOH
boundaries and the wake time are compared, and EN_MODEM follows its demand (R121, R172, R179). -/
def Obligations.PulseStepsTime : Prop :=
  ∀ (d : Elapsed) (s : State) (l : Label), s.powered = true → s.tb.clock = .main →
    Candidate s.tb (s.elapse d).clk.time.toNs l → Accepts s.tb (s.elapse d).clk.time.toNs → s.tb.grade ≠ .locked →
    1000000 < ((s.elapse d).clk.time.toNs - l.sec * 1000000000 : Int).natAbs →
    ∃ t, exec (.refpPulse d) s = .next t ∧
      t.clk = { (s.elapse d).clk with time := ⟨l.sec, 0⟩, frac := 0 } ∧
      t.tb =
        { s.tb with
          label := none, integral := 0, lastPulse := some ⟨l.sec, 0⟩
          lastTheta := some ((s.elapse d).clk.time.toNs - l.sec * 1000000000 : Int), grade := .tracking, u := 1000
          goodRun := 0, rejectRun := 0, stepCount := (s.tb.stepCount + 1) % 4294967296
          usedCount := (s.tb.usedCount + 1) % 4294967296, lossTimer := some ⟨l.sec, 0⟩, stepPending := true
          freeRecovery := s.tb.freeRecovery || s.tb.grade = .free, movedTo := some ⟨l.sec, 0⟩ } ∧
      recordFlags t.et =
        s.et.records.map (fun r =>
          (r.number, if s.tu.current = some r.number then { r.flags with timeStepped := true } else r.flags)) ∧
      ChangesOnly [.clk, .tb, .et, .al, .pt, .sl] s t ∧
      (∀ (g : State) (passed : Nat → Prop),
        g = (if s.tb.grade = .tracking then s.elapse d else raise .timeGrade (s.elapse d)) →
        (∀ f, passed f ↔
          (∃ x, s.al.decided = some x ∧ x.frame = f ∧ x.taken = false ∧ (s.elapse d).clk.time.toNs < x.issue.toNs ∧
            x.issue.toNs < l.sec * 1000000000) ∨
          ((∀ x, s.al.decided = some x → x.frame = f → x.taken = true) ∧ (∀ a, s.al.attempt = some a → a.frame ≠ f) ∧
            (s.elapse d).clk.time.toNs < f * 60000000000 + 100000000 ∧
              f * 60000000000 + 100000000 < l.sec * 1000000000)) →
        ∃ u : State, t = syncModem (wakeAtTime (sohCheck u)) ∧ ChangesOnly [.clk, .tb, .et, .al] g u ∧ u.clk = t.clk ∧
          u.tb = t.tb ∧
          u.al = { s.al with windows := u.al.windows, decided := u.al.decided } ∧
          (∀ f, f ∈ u.al.windows ↔ f ∈ s.al.windows ∧ ¬passed f) ∧
          (∀ x, s.al.decided = some x →
            (passed x.frame → u.al.decided = some { x with taken := true }) ∧
              (¬passed x.frame → u.al.decided = some x)) ∧
          (s.al.decided = none → u.al.decided = none))

/-- The values R8 gives an accepted pulse that is no step and is not rejected: the loop integral, the steer, the good-pulse run,
the grade and u; and, in LOCKED, what the bin of the present temperature learns (R13). A change of grade raises TIME_GRADE, and one to
LOCKED with the free-recovery mark set offers a TIME alert (R14). -/
def Obligations.PulseUpdatesLoop : Prop :=
  ∀ (d : Elapsed) (s : State) (l : Label) (θ : Int), s.powered = true → s.tb.clock = .main →
    Candidate s.tb (s.elapse d).clk.time.toNs l → Accepts s.tb (s.elapse d).clk.time.toNs →
    θ = (s.elapse d).clk.time.toNs - l.sec * 1000000000 → (s.tb.grade ≠ .locked → θ.natAbs ≤ 1000000) →
    (s.tb.grade = .locked → θ.natAbs ≤ 10000) →
    ∃ t, exec (.refpPulse d) s = .next t ∧
      t.tb.integral = max (-12800000) (min (s.tb.integral + θ) 12800000) ∧
      t.tb.steer = max (-100000) (min (-(θ / 4 + t.tb.integral / 128)) 100000) ∧
      t.tb.goodRun = (if θ.natAbs ≤ 1000 then min 65535 (s.tb.goodRun + 1) else 0) ∧
      t.tb.grade =
        (if s.tb.grade = .tracking ∧ 60 ≤ t.tb.goodRun then .locked
        else if s.tb.grade = .locked ∧ θ.natAbs ≤ 1000 then .locked
        else .tracking) ∧
      t.tb.u = θ.natAbs + (if t.tb.grade = .locked then 100 else 1000) ∧
      t.tb.freeRecovery =
        (if s.tb.grade = .free then true
        else if s.tb.grade ≠ .locked ∧ t.tb.grade = .locked then false
        else s.tb.freeRecovery) ∧
      (∀ k : Fin 16,
        t.tb.drift.get k =
          if t.tb.grade = .locked ∧ tencBin s = some k then
            ⟨if (s.tb.drift.get k).n = 0 then -(t.tb.integral / 128)
              else (s.tb.drift.get k).v + (-(t.tb.integral / 128) - (s.tb.drift.get k).v) / 16,
              min 65535 ((s.tb.drift.get k).n + 1)⟩
          else s.tb.drift.get k) ∧
      t.tb =
        { s.tb with
          label := none, integral := t.tb.integral, steer := t.tb.steer, goodRun := t.tb.goodRun, grade := t.tb.grade
          u := t.tb.u, freeRecovery := t.tb.freeRecovery, drift := t.tb.drift, lastPulse := some (s.elapse d).clk.time
          lastTheta := some θ, lossTimer := some (s.elapse d).clk.time
          usedCount := (s.tb.usedCount + 1) % 4294967296, rejectRun := 0 } ∧
      ChangesOnly [.tb, .et, .al, .pt, .sl] (s.elapse d) t ∧
      (t.tb.grade = s.tb.grade → ChangesOnly [.tb] (s.elapse d) t) ∧
      (t.tb.grade ≠ s.tb.grade →
        t =
          if t.tb.grade = .locked ∧ s.tb.freeRecovery = true then
            offerAlert .time (.grade .locked) (raise .timeGrade { s.elapse d with tb := t.tb })
          else raise .timeGrade { s.elapse d with tb := t.tb })

/-- The loss timer expires 3 s of disciplined time after the last used pulse, in TRACKING and LOCKED only: HOLD, both runs 0, and
TIME_GRADE raised (R10, R14). A whole second of disciplined time aligns the watch-time counter; in HOLD and FREE it sets the
holdover steer of a populated bin and lets u grow by 20 or 200 ns, and HOLD becomes FREE above 10,000,000 ns (R2, R11, R12). A
whole second of watch time, while TB runs on the watch clock or settles, lets u grow by 5,000 ns in HOLD and FREE (R12, R18). HOLD to
FREE raises TIME_GRADE and offers a TIME alert (R14), and at either second SOH boundaries and a held wake time are compared (R121,
R179). -/
def Obligations.ReferenceLossAndHoldover : Prop :=
  (∀ (d : Elapsed) (s : State), s.powered = true →
     (∀ p, s.tb.clock = .main → s.tb.grade = .tracking ∨ s.tb.grade = .locked → s.tb.lossTimer = some p →
       p.toNs + 3000000000 ≤ (s.elapse d).clk.time.toNs →
       exec (.referenceLoss d) s =
         .next (raise .timeGrade
           { s.elapse d with tb := { s.tb with grade := .hold, goodRun := 0, rejectRun := 0, lossTimer := none } })) ∧
     ((s.tb.clock ≠ .main ∨ (s.tb.grade ≠ .tracking ∧ s.tb.grade ≠ .locked) ∨
         ∀ p, s.tb.lossTimer = some p → (s.elapse d).clk.time.toNs < p.toNs + 3000000000) →
       exec (.referenceLoss d) s = .next (s.elapse d))) ∧
  (∀ (d : Elapsed) (s : State), s.powered = true → s.tb.clock = .main → (s.elapse d).clk.time.ns = 0 →
     ∃ t, exec (.wholeSecond d) s = .next t ∧
       t.clk = { (s.elapse d).clk with watch := ⟨(s.elapse d).clk.time.sec, 0⟩ } ∧
       (s.tb.grade ≠ .hold → s.tb.grade ≠ .free → t.tb = s.tb) ∧
       (s.tb.grade = .hold ∨ s.tb.grade = .free →
         (∀ k, tencBin s = some k → 64 ≤ (s.tb.drift.get k).n →
           t.tb.steer = (s.tb.drift.get k).v ∧ t.tb.u = min 4294967295 (s.tb.u + 20)) ∧
         ((∀ k, tencBin s = some k → (s.tb.drift.get k).n < 64) →
           t.tb.steer = s.tb.steer ∧ t.tb.u = min 4294967295 (s.tb.u + 200)) ∧
         t.tb.grade = (if s.tb.grade = .hold ∧ t.tb.u ≤ 10000000 then .hold else .free) ∧
         t.tb = { s.tb with steer := t.tb.steer, u := t.tb.u, grade := t.tb.grade }) ∧
       ChangesOnly [.clk, .tb, .et, .al, .pt, .sl] s t ∧
       t =
         wakeAtTime (sohCheck
           (if t.tb.grade = s.tb.grade then { s.elapse d with clk := t.clk, tb := t.tb }
           else offerAlert .time (.grade .free) (raise .timeGrade { s.elapse d with clk := t.clk, tb := t.tb })))) ∧
  (∀ (d : Elapsed) (s : State), s.powered = true → s.tb.clock ≠ .main → (s.elapse d).clk.watch.ticks = 0 →
     ∃ t, exec (.watchWholeSecond d) s = .next t ∧
       (s.tb.grade ≠ .hold → s.tb.grade ≠ .free → t.tb = s.tb) ∧
       (s.tb.grade = .hold ∨ s.tb.grade = .free →
         t.tb =
           { s.tb with
             u := min 4294967295 (s.tb.u + 5000)
             grade := if s.tb.grade = .hold ∧ min 4294967295 (s.tb.u + 5000) ≤ 10000000 then .hold else .free }) ∧
       ChangesOnly [.tb, .et, .al, .pt, .sl] (s.elapse d) t ∧
       t =
         wakeAtTime (sohCheck
           (if t.tb.grade = s.tb.grade then { s.elapse d with tb := t.tb }
           else offerAlert .time (.grade .free) (raise .timeGrade { s.elapse d with tb := t.tb }))))

/-- TIME SET in UNSET or FREE: time and u as given, u raised to 1,000,000 with CLAMPED, grade FREE, runs 0, no last accepted
pulse, and a step with its comparisons: a change from UNSET raises TIME_GRADE, the rail windows of the frames that time has been
carried past close, which make no attempt, and SOH boundaries and a held wake time are compared (R14, R21, R121, R123, R124,
R179). It is refused with WRONG_STATE in any other grade and with OUT_OF_RANGE for a nanosecond field above 999,999,999. What
TIME GET, CLOCK REPORT and DRIFT READ reply, changing nothing, and DRIFT CLEAR, which empties every bin and nothing else (R19,
R20, R22). That TIME SET, a step for its marks, leaves the step count as it is, is the model's deduction (log entry 29); the
widths of fields whose range no rule states, and CLOCK REPORT's seconds once the recorded pulse is gone, are the model's choice
(log entries 11 and 20). What becomes of the window and the issue instant of a frame that a TIME SET carries time past after a
step back is the model's choice (log entry 34). -/
def Obligations.TimeBaseRequests : Prop :=
  (∀ (d : Elapsed) (s : State) (pre : List Request) (r : Request) (post : List Request), Front s pre r post → r.kind = 0x11 →
     r.payload.length = 12 →
     (s.tb.grade ≠ .unset → s.tb.grade ≠ .free → Answers (.timeSet d) s pre r post (s.elapse d) [0x05]) ∧
     (s.tb.grade = .unset ∨ s.tb.grade = .free → 1000000000 ≤ be ((r.payload.drop 4).take 4) →
       Answers (.timeSet d) s pre r post (s.elapse d) [0x04]) ∧
     (s.tb.grade = .unset ∨ s.tb.grade = .free → be ((r.payload.drop 4).take 4) < 1000000000 → s.pt.host.isOn = true →
       ∃ t,
         Answers (.timeSet d) s pre r post t [if be ((r.payload.drop 8).take 4) < 1000000 then 0x01 else 0x00] ∧
         t.clk =
           { (s.elapse d).clk with time := ⟨be (r.payload.take 4), be ((r.payload.drop 4).take 4)⟩, frac := 0 } ∧
         t.tb =
           { s.tb with
             u := max (be ((r.payload.drop 8).take 4)) 1000000, grade := .free, goodRun := 0, rejectRun := 0
             lastPulse := none, stepPending := true
             movedTo := some ⟨be (r.payload.take 4), be ((r.payload.drop 4).take 4)⟩ } ∧
         recordFlags t.et =
           s.et.records.map (fun x =>
             (x.number, if s.tu.current = some x.number then { x.flags with timeStepped := true } else x.flags)) ∧
         ChangesOnly [.clk, .tb, .et, .al, .pt, .sl] s t ∧
         (∀ (g : State) (passed : Nat → Prop),
           g = (if s.tb.grade = .unset then raise .timeGrade (s.elapse d) else s.elapse d) →
           (∀ f, passed f ↔
             (∃ x, s.al.decided = some x ∧ x.frame = f ∧ x.taken = false ∧ (s.elapse d).now.toNs < x.issue.toNs ∧
               x.issue.toNs < t.now.toNs) ∨
             ((∀ x, s.al.decided = some x → x.frame = f → x.taken = true) ∧ (∀ a, s.al.attempt = some a → a.frame ≠ f) ∧
               (s.elapse d).now.toNs < f * 60000000000 + 100000000 ∧ f * 60000000000 + 100000000 < t.now.toNs)) →
           ∃ u : State, t = syncModem (wakeAtTime (sohCheck u)) ∧ ChangesOnly [.clk, .tb, .et, .al] g u ∧ u.clk = t.clk ∧
             u.tb = t.tb ∧ u.al = { s.al with windows := u.al.windows, decided := u.al.decided } ∧
             (∀ f, f ∈ u.al.windows ↔ f ∈ s.al.windows ∧ ¬passed f) ∧
             (∀ x, s.al.decided = some x →
               (passed x.frame → u.al.decided = some { x with taken := true }) ∧
                 (¬passed x.frame → u.al.decided = some x)) ∧
             (s.al.decided = none → u.al.decided = none)))) ∧
  (∀ (d : Elapsed) (s : State) (pre : List Request) (r : Request) (post : List Request), Front s pre r post → r.payload = [] →
     (r.kind = 0x10 →
       Answers (.timeGet d) s pre r post (s.elapse d)
         ([0x00] ++ putTime (s.elapse d).now ++ [s.tb.grade.code] ++ putU 4 s.tb.u ++
           [if s.tb.clock = .main then 0 else 1])) ∧
     (∀ n : Nat, r.kind = 0x12 →
       ((∃ p, s.tb.lastPulse = some p ∧ n = min 4294967295 (((s.elapse d).now.toNs - p.toNs) / 1000000000)) ∨
         (s.tb.lastPulse = none ∧ s.tb.lastTheta = none ∧ n = 4294967295)) →
       Answers (.clockReport d) s pre r post (s.elapse d)
         ([0x00] ++
           (match s.tb.lastTheta with
             | some θ => [1] ++ putS 8 θ
             | none => [0, 0, 0, 0, 0, 0, 0, 0, 0]) ++
           putS 4 s.tb.integral ++ putS 3 s.tb.steer ++ putU 2 s.tb.goodRun ++ putU 1 s.tb.rejectRun ++ putU 4 s.tb.usedCount ++
           putU 4 s.tb.rejectedCount ++ putU 4 s.tb.outOfWindowCount ++ putU 4 s.tb.unlabelledCount ++ putU 4 s.tb.stepCount ++
           putU 4 n)) ∧
     (r.kind = 0x13 →
       Answers (.driftRead d) s pre r post (s.elapse d)
         ([0x00] ++ (s.tb.drift.toList.flatMap fun b => putS 3 b.v ++ putU 2 b.n) ++
           (match tencBin s with
             | some k => [1, BitVec.ofNat 8 k.val]
             | none => [0, 0]))) ∧
     (r.kind = 0x14 →
       Answers (.driftClear d) s pre r post { s.elapse d with tb := { s.tb with drift := Vector.replicate 16 ⟨0, 0⟩ } } [0x00]))

/-! ## Receivers -/

/-- A gap timeout or a framing error discards what a receiver has got of a frame; on the station link it counts, but not in HUNT;
and there a byte whose frame turns out too long or fails its CRC does the same. A framing error on a modem line without its rail
reaches no receiver, and the gap that ends a cut-off frame does (R3, R25, R126, R186). What counts as a discard on the station link,
and what reaches a receiver whose rail is off, is the model's reading (log entries 24 and 25). -/
def Obligations.ReceiversDiscardFragments : Prop :=
  ∀ (d : Elapsed) (s : State), s.powered = true → s.tb.clock = .main →
    exec (.labelGapTimeout d) s = .next { s.elapse d with tb := { s.tb with labelRx := [] } } ∧
    (s.pt.enSens = true →
      exec (.digitizerGapTimeout d) s = .next { s.elapse d with si := { s.si with rx := [] } } ∧
      exec (.digitizerFramingError d) s = .next { s.elapse d with si := { s.si with rx := [] } }) ∧
    exec (.modemGapTimeout d) s = .next { s.elapse d with al := { s.al with rx := .hunt } } ∧
    (s.pt.enModem = true →
      exec (.modemFramingError d) s = .next { s.elapse d with al := { s.al with rx := .hunt } }) ∧
    (s.pt.enModem = false → exec (.modemFramingError d) s = .next (s.elapse d)) ∧
    (s.pt.host.isOn = true →
      (s.sl.rx = .hunt →
        exec (.linkGapTimeout d) s = .next (s.elapse d) ∧
        ∀ b, exec (.linkFrameDiscard d b true) s = .next (s.elapse d)) ∧
      (s.sl.rx ≠ .hunt →
        exec (.linkGapTimeout d) s =
          .next { s.elapse d with sl := { s.sl with rx := .hunt, discardCount := (s.sl.discardCount + 1) % 4294967296 } } ∧
        ∀ b, exec (.linkFrameDiscard d b true) s =
          .next { s.elapse d with sl := { s.sl with rx := .hunt, discardCount := (s.sl.discardCount + 1) % 4294967296 } }) ∧
      (∀ b : Byte, s.sl.rx = .length → 240 < b.toNat →
        exec (.linkFrameDiscard d b false) s =
          .next { s.elapse d with sl := { s.sl with rx := .hunt, discardCount := (s.sl.discardCount + 1) % 4294967296 } }) ∧
      (∀ (len tag kind hi b : Byte) (p : List Byte), s.sl.rx = .check len tag kind p (some hi) →
        hi ++ b ≠ crc16 (len :: tag :: kind :: p) →
        exec (.linkFrameDiscard d b false) s =
          .next { s.elapse d with sl := { s.sl with rx := .hunt, discardCount := (s.sl.discardCount + 1) % 4294967296 } }))

/-! ## Sample interface -/

/-- The strobe of a 10 ms boundary: the next sequence number, a window with the step-pending mark, and that mark cleared. A
window still open closes first as a missing gap, with a delivery of held values, whose words the store takes in channel order. A
boundary at or before the last strobe, or at or before the time to which a step, a TIME SET or a return moved time, a sensor rail
that is off and the watch clock give no strobe (R15, R16, R26, R29, R31 to R33). That the words of a delivery reach the store in
the strobe's own command, ahead of a close that its filter passes make, is the model's choice (log entry 41). -/
def Obligations.SampleStrobeOpensWindow : Prop :=
  ∀ (d : Elapsed) (s : State) (sec k : Nat), s.powered = true → sec < 4294967296 → k < 100 →
    (s.elapse d).clk.time = ⟨sec, k * 10000000⟩ →
    (s.tb.clock = .main → s.pt.enSens = true →
      (∀ t, s.tb.lastStrobe = some t ∨ s.tb.movedTo = some t → t.toNs < sec * 1000000000 + k * 10000000) →
      (s.si.window = none →
        exec (.sampleStrobe d) s =
          .next { s.elapse d with
            tb :=
              { s.tb with
                strobeSeq := (s.tb.strobeSeq + 1) % 256, lastStrobe := some ⟨sec, k * 10000000⟩, stepPending := false }
            si :=
              { s.si with
                window := some ⟨⟨sec, k * 10000000⟩, (s.tb.strobeSeq + 1) % 256, s.tb.stepPending⟩ } }) ∧
      (∀ w, s.si.window = some w → s.pt.tier ≠ .hibernate →
        ∃ t, exec (.sampleStrobe d) s = .next t ∧
          t.si =
            { s.si with
              window := some ⟨⟨sec, k * 10000000⟩, (s.tb.strobeSeq + 1) % 256, s.tb.stepPending⟩
              missingCount := (s.si.missingCount + 1) % 4294967296, stepCarry := false, heatMark := false } ∧
          t.fe =
            { s.fe with
              waiting :=
                s.fe.waiting ++
                  [⟨w.time, (enabledChannels s.pt.tier).map fun c =>
                    (c, ⟨s.si.held.get c, true, false, w.step || s.si.stepCarry, s.si.heatMark, false⟩)⟩] } ∧
          t.tb =
            { s.tb with
              strobeSeq := (s.tb.strobeSeq + 1) % 256, lastStrobe := some ⟨sec, k * 10000000⟩, stepPending := false } ∧
          (∃ u, ChangesOnly [.tb, .si] (s.elapse d) u ∧
            t =
              { (enabledChannels s.pt.tier).foldl
                  (fun x c =>
                    storeWord c
                      (⟨s.si.held.get c, true, false, w.step || s.si.stepCarry, s.si.heatMark, false⟩ : SampleWord).bits w.time x)
                  u with
                tb := t.tb, si := t.si, fe := t.fe }) ∧
          ChangesOnly [.tb, .si, .fe, .ws, .et, .pt, .sl] (s.elapse d) t)) ∧
    ((s.tb.clock ≠ .main ∨ s.pt.enSens = false ∨
        ∃ t, (s.tb.lastStrobe = some t ∨ s.tb.movedTo = some t) ∧ sec * 1000000000 + k * 10000000 ≤ t.toNs) →
      exec (.sampleStrobe d) s = .next (s.elapse d))

/-- The decision on a complete digitizer frame, row by row of R28's table, with the sample words its window delivers, which the
store takes in channel order (R27, R28, R30 to R33). What the store does with one word: it drops and counts it on a STOPPED route,
and in STARVED unless a ring need finds a page; otherwise the word joins the pair buffer or completes a storage word of the filling
page; a page that is faulty, or that the word does not follow by 10 ms, closes first, and a page of 1,024 samples closes after, each
with the page need of its route (R72, R75, R76, R83, R84). Closing writes a waiting half with a PAD word (R72, R74). That the words
of a delivery whose start closes an event reach the store ahead of the close is the model's choice (log entry 41). -/
def Obligations.DigitizerFrameDecided : Prop :=
  (∀ (d : Elapsed) (s : State) (f : List Byte), s.powered = true → s.tb.clock = .main → s.pt.enSens = true →
    s.pt.tier ≠ .hibernate → s.si.rx = [] → f.length = 13 → f.head? = some 0x5A →
    (s.si.window = none →
      exec (.digitizerFrame d f) s =
        .next { s.elapse d with si := { s.si with unexpectedCount := (s.si.unexpectedCount + 1) % 4294967296 } }) ∧
    (∀ (w : Window) (crcOk : Bool) (number expected : Nat) (sample : Channel → Int) (ovr : Channel → Bool),
      s.si.window = some w → crcOk = decide (crc8 0x07 0x00 ((f.drop 1).take 11) = f.getD 12 0) →
      number = (f.getD 1 0).toNat → expected = (w.seq + s.si.offset) % 256 →
      (sample = fun c => match c with
        | .z => beSigned ((f.drop 2).take 3)
        | .n => beSigned ((f.drop 5).take 3)
        | .e => beSigned ((f.drop 8).take 3)) →
      (ovr = fun c => match c with
        | .z => (f.getD 11 0).getLsbD 0
        | .n => (f.getD 11 0).getLsbD 1
        | .e => (f.getD 11 0).getLsbD 2) →
      ∃ t, exec (.digitizerFrame d f) s = .next t ∧
        ChangesOnly [.si, .fe, .ws, .et, .pt, .sl] (s.elapse d) t ∧
        (∃ u, ChangesOnly [.si] (s.elapse d) u ∧
          t =
            { (enabledChannels s.pt.tier).foldl
                (fun x c =>
                  storeWord c
                    (if crcOk && (!s.si.aligned || number = expected) then
                      (⟨sample c, false, ovr c, w.step || s.si.stepCarry, s.si.heatMark, false⟩ : SampleWord)
                    else ⟨s.si.held.get c, true, false, w.step || s.si.stepCarry, s.si.heatMark, false⟩).bits
                    w.time x)
                u with
              si := t.si, fe := t.fe }) ∧
        t.fe =
          { s.fe with
            waiting :=
              s.fe.waiting ++
                [⟨w.time, (enabledChannels s.pt.tier).map fun c =>
                  (c,
                    if crcOk && (!s.si.aligned || number = expected) then
                      ⟨sample c, false, ovr c, w.step || s.si.stepCarry, s.si.heatMark, false⟩
                    else ⟨s.si.held.get c, true, false, w.step || s.si.stepCarry, s.si.heatMark, false⟩)⟩] } ∧
        (crcOk = false →
          t.si =
            { s.si with
              window := none, stepCarry := false, heatMark := false
              crcGapCount := (s.si.crcGapCount + 1) % 4294967296 }) ∧
        (crcOk = true → s.si.aligned = true → number = expected →
          t.si =
            { s.si with
              window := none, stepCarry := false, heatMark := false, mismatchRun := 0
              goodCount := (s.si.goodCount + 1) % 4294967296, held := ⟨sample .z, sample .n, sample .e⟩ }) ∧
        (crcOk = true → s.si.aligned = true → number ≠ expected →
          t.si =
            { s.si with
              window := none, stepCarry := false, heatMark := false
              seqGapCount := (s.si.seqGapCount + 1) % 4294967296
              aligned := decide (s.si.mismatchRun + 1 < 8)
              mismatchRun := if s.si.mismatchRun + 1 < 8 then s.si.mismatchRun + 1 else 0 }) ∧
        (crcOk = true → s.si.aligned = false →
          t.si =
            { s.si with
              window := none, stepCarry := false, heatMark := false, mismatchRun := 0
              goodCount := (s.si.goodCount + 1) % 4294967296, held := ⟨sample .z, sample .n, sample .e⟩
              aligned := true, offset := (number + 256 - w.seq % 256) % 256
              alignCount := (s.si.alignCount + 1) % 4294967296 }))) ∧
  (∀ (s : State) (c : Channel) (word : BitVec 32) (time : Time) (ch : StoreChannel) (dropped : State → State), MemoryInv s →
    PageInv s → ch = s.ws.chans.get c →
    (dropped = fun x =>
      { x with
        ws :=
          { x.ws with
            chans :=
              x.ws.chans.set c { x.ws.chans.get c with dropped := ((x.ws.chans.get c).dropped + 1) % 4294967296 } } }) →
    (ch.route = .off → storeWord c word time s = s) ∧ (ch.route = .stopped → storeWord c word time s = dropped s) ∧
    (ch.route = .starved →
      storeWord c word time s =
        if ((ringNeed c s).ws.chans.get c).route = .ring then storeWord c word time (ringNeed c s)
        else dropped (ringNeed c s)) ∧
    (∀ n, ch.route = .event n → ch.filling = none →
      storeWord c word time s =
        if ((eventNeed n c s).ws.chans.get c).route = .stopped then dropped (eventNeed n c s)
        else storeWord c word time (eventNeed n c s)) ∧
    (∀ (p : PageId) (g : Page) (follows : Prop), ch.filling = some p → g = s.ws.pages.get p →
      (follows ↔ g.count = 0 ∨ ∃ f, g.first = some f ∧ time.toNs = f.toNs + 10000000 * g.count) →
      (1 ≤ g.count → ∃ f, g.first = some f) →
      (g.faulty = false → follows →
        ∃ u, ChangesOnly [.ws] s u ∧
          u.ws =
            { s.ws with
              array := u.ws.array
              pages :=
                s.ws.pages.set p { g with first := if g.count = 0 then some time else g.first, count := g.count + 1 }
              chans := s.ws.chans.set c { ch with pair := if ch.pair = none then some word else none } } ∧
          (∀ a, readWord u.ws.array a =
            match ch.pair with
            | some h => if a = p.val * 512 + g.count / 2 then ⟨h, word, 0⟩ else readWord s.ws.array a
            | none => readWord s.ws.array a) ∧
          storeWord c word time s =
            if g.count + 1 = 1024 then completionStep c { u with ws := u.ws.closeFilling c } else u) ∧
      (g.faulty = true ∨ ¬follows →
        ∃ u, u = completionStep c { s with ws := s.ws.closeFilling c } ∧
          storeWord c word time s =
            if (u.ws.chans.get c).filling = none then dropped u else storeWord c word time u) ∧
      ∃ w, s.ws.closeFilling c = w ∧
        w =
          { s.ws with
            array := w.array, pages := s.ws.pages.set p { g with filling := false }
            chans :=
              s.ws.chans.set c
                { ch with filling := none, pair := none, ring := if ch.route = .ring then ch.ring ++ [p] else ch.ring } } ∧
        ∀ a, readWord w.array a =
          match ch.pair with
          | some h =>
            if a = p.val * 512 + g.count / 2 then
              ⟨h, (⟨0, false, false, false, false, true⟩ : SampleWord).bits, 0⟩
            else readWord s.ws.array a
          | none => readWord s.ws.array a))

/-! ## Filter engine -/

/-- One pass of the oldest waiting delivery: the swap that was pending, the sample in the delay line, the output as the rounded and
saturated sum of products over the 32 samples counted modulo 32, SAT and CLIP, and the pass count; the other channels' contexts and
the other waiting passes stay (R36, R37, R38). -/
def Obligations.FilterPassConvolves : Prop :=
  ∀ (d : Elapsed) (s : State) (t : Time) (c : Channel) (w : SampleWord) (items : List (Channel × SampleWord))
    (rest : List Delivery) (bank : List Int) (active : BankName) (delay : Vector Int 32) (y : Int),
    s.powered = true → s.tb.clock = .main → s.fe.waiting = ⟨t, (c, w) :: items⟩ :: rest →
    active = (if (s.fe.ctx.get c).swapPending then
        (match (s.fe.ctx.get c).active with
          | .a => .b
          | .b => .a)
      else (s.fe.ctx.get c).active) →
    bank = (match active with
      | .a => (s.fe.ctx.get c).bankA
      | .b => (s.fe.ctx.get c).bankB) →
    delay = (s.fe.ctx.get c).delay.set (s.fe.ctx.get c).w.val w.value (s.fe.ctx.get c).w.isLt →
    y = ((∑ k ∈ Finset.range bank.length,
        bank.getD k 0 * delay.get (Fin.ofNat 32 ((s.fe.ctx.get c).w.val + 32 - k % 32))) + 16384) / 32768 →
    ∃ t', exec (.filterPass d) s = .next t' ∧
      t'.fe.ctx.get c =
        { s.fe.ctx.get c with
          active := active, swapPending := false, delay := delay, w := (s.fe.ctx.get c).w + 1
          y := max (-8388608) (min y 8388607), sat := decide (y < -8388608 ∨ 8388607 < y)
          clip := (s.fe.ctx.get c).clip || decide (y < -8388608 ∨ 8388607 < y)
          passes := ((s.fe.ctx.get c).passes + 1) % 4294967296 } ∧
      (∀ c', c' ≠ c → t'.fe.ctx.get c' = s.fe.ctx.get c') ∧
      t'.fe.waiting = (if items = [] then rest else ⟨t, items⟩ :: rest) ∧
      ((s.fe.ctx.get c).clip = false → y < -8388608 ∨ 8388607 < y → t'.sl.flags &&& 0x40 ≠ 0) ∧
      ChangesOnly [.si, .fe, .tu, .ws, .et, .al, .hc, .pt, .sl] (s.elapse d) t'

/-- FILTER LOAD writes the inactive bank whole; its refusals in their order, the status of a payload that ends before its channel or
its tap count being the model's choice (R40, log entry 30). FILTER SWAP marks the swap of an enabled channel
and makes that of a disabled one at once; CLIP CLEAR clears CLIP alone; a channel code outside Z, N and E is refused (R41, R43). -/
def Obligations.FilterBanksLoadAndSwap : Prop :=
  (∀ (d : Elapsed) (s : State) (pre : List Request) (r : Request) (post : List Request), Front s pre r post → r.kind = 0x20 →
     (∀ (ch n : Byte) (p : List Byte), r.payload = ch :: n :: p → 2 < ch.toNat ∨ n = 0 ∨ 32 < n.toNat →
       Answers (.filterLoad d) s pre r post (s.elapse d) [0x04]) ∧
     (∀ ch : Byte, r.payload = [ch] → 2 < ch.toNat → Answers (.filterLoad d) s pre r post (s.elapse d) [0x04]) ∧
     (r.payload = [] ∨ (∃ c : Channel, r.payload = [c.code]) → Answers (.filterLoad d) s pre r post (s.elapse d) [0x03]) ∧
     (∀ (c : Channel) (n : Byte) (p : List Byte), r.payload = c.code :: n :: p → 0 < n.toNat → n.toNat ≤ 32 →
       p.length ≠ 2 * n.toNat → Answers (.filterLoad d) s pre r post (s.elapse d) [0x03]) ∧
     (∀ (c : Channel) (cs : List Int), r.payload = c.code :: BitVec.ofNat 8 cs.length :: cs.flatMap (putS 2) → 0 < cs.length →
       cs.length ≤ 32 → (∀ x ∈ cs, -32768 ≤ x ∧ x ≤ 32767) →
       ((s.fe.ctx.get c).swapPending = true → Answers (.filterLoad d) s pre r post (s.elapse d) [0x05]) ∧
       ((s.fe.ctx.get c).swapPending = false →
         Answers (.filterLoad d) s pre r post
           { s.elapse d with
             fe :=
               { s.fe with
                 ctx :=
                   s.fe.ctx.set c
                     (match (s.fe.ctx.get c).active with
                       | .a => { s.fe.ctx.get c with bankB := cs }
                       | .b => { s.fe.ctx.get c with bankA := cs }) } }
           [0x00]))) ∧
  (∀ (d : Elapsed) (s : State) (pre : List Request) (r : Request) (post : List Request), Front s pre r post →
     (∀ b : Byte, r.payload = [b] → 2 < b.toNat →
       (r.kind = 0x21 → Answers (.filterSwap d) s pre r post (s.elapse d) [0x04]) ∧
       (r.kind = 0x23 → Answers (.clipClear d) s pre r post (s.elapse d) [0x04])) ∧
     (∀ c : Channel, r.payload = [c.code] →
       (r.kind = 0x21 → (s.fe.ctx.get c).swapPending = true → Answers (.filterSwap d) s pre r post (s.elapse d) [0x05]) ∧
       (r.kind = 0x21 → (s.fe.ctx.get c).swapPending = false → c ∈ enabledChannels s.pt.tier →
         Answers (.filterSwap d) s pre r post
           { s.elapse d with fe := { s.fe with ctx := s.fe.ctx.set c { s.fe.ctx.get c with swapPending := true } } } [0x00]) ∧
       (r.kind = 0x21 → (s.fe.ctx.get c).swapPending = false → c ∉ enabledChannels s.pt.tier →
         Answers (.filterSwap d) s pre r post
           { s.elapse d with
             fe :=
               { s.fe with
                 ctx :=
                   s.fe.ctx.set c
                     { s.fe.ctx.get c with
                       active := match (s.fe.ctx.get c).active with
                         | .a => .b
                         | .b => .a } } }
           [0x00]) ∧
       (r.kind = 0x23 →
         Answers (.clipClear d) s pre r post
           { s.elapse d with fe := { s.fe with ctx := s.fe.ctx.set c { s.fe.ctx.get c with clip := false } } } [0x00])))

/-- What CHANNEL GET replies for each of its three parts, changing nothing; any other part or channel is refused (R42). -/
def Obligations.ChannelGetReplies : Prop :=
  ∀ (d : Elapsed) (s : State) (pre : List Request) (r : Request) (post : List Request), Front s pre r post → r.kind = 0x22 →
    (∀ b part : Byte, r.payload = [b, part] → 2 < b.toNat ∨ 2 < part.toNat →
      Answers (.channelGet d) s pre r post (s.elapse d) [0x04]) ∧
    (∀ c : Channel, r.payload = [c.code, 0] →
      Answers (.channelGet d) s pre r post (s.elapse d)
        ([0x00] ++ putU 4 (s.fe.ctx.get c).passes ++ [(s.fe.ctx.get c).active.code] ++ putMark (s.fe.ctx.get c).swapPending ++
          putU 1 (s.fe.ctx.get c).bankA.length ++ putU 1 (s.fe.ctx.get c).bankB.length ++ putS 3 (s.fe.ctx.get c).y ++
          putMark (s.fe.ctx.get c).sat ++ putMark (s.fe.ctx.get c).clip ++ putS 3 (s.si.held.get c) ++
          putS 4 (s.tu.chans.get c).saved.sta ++ putS 4 (s.tu.chans.get c).saved.lta ++
          [(s.tu.chans.get c).saved.state.code] ++ putTimeOpt (s.tu.chans.get c).saved.onTime ++
          putU 2 (s.tu.chans.get c).saved.warmCount ++ putMark s.si.aligned ++ putU 1 s.si.offset ++
          putU 1 s.si.mismatchRun ++ putU 4 s.si.goodCount ++ putU 4 s.si.missingCount ++ putU 4 s.si.crcGapCount ++
          putU 4 s.si.seqGapCount ++ putU 4 s.si.unexpectedCount ++ putU 4 s.si.alignCount)) ∧
    (∀ c : Channel, r.payload = [c.code, 1] →
      Answers (.channelGet d) s pre r post (s.elapse d)
        ([0x00] ++ putU 4 (s.fe.ctx.get c).passes ++ putU 1 (s.fe.ctx.get c).bankA.length ++
          (s.fe.ctx.get c).bankA.flatMap (putS 2) ++ putU 1 (s.fe.ctx.get c).bankB.length ++
          (s.fe.ctx.get c).bankB.flatMap (putS 2))) ∧
    (∀ c : Channel, r.payload = [c.code, 2] →
      Answers (.channelGet d) s pre r post (s.elapse d)
        ([0x00] ++ putU 4 (s.fe.ctx.get c).passes ++ putU 1 (s.fe.ctx.get c).w.val ++
          (s.fe.ctx.get c).delay.toList.flatMap (putS 3)))

/-! ## Trigger unit -/

/-- One pass that begins no delivery and carries no restart: the averages and the state of its channel by the channel's state,
with the ON ratio doubled up to 255 inside the quiet window and lta held while TRIGGERED (R47, R48, R50 to R53). Any pass, in the
order of R46: the delivery start, the restart mark, the averages and the test, the joining of the trigger set, the vote, the
peak, and the values saved (R50, R58, R61). A delivery start counts the delivery and ends a quiet window behind it; then the post
window or the cap, with its re-baselining, closes the event at the sample time of the delivery before; then the aux-pending mark
clears and in IDLE opens an external event, which goes straight to POST (R53, R56, R58, R59, R65). A larger cf becomes the peak,
and one that reaches strong_level makes an event STRONG once and is reported (R61, R62). That only the pass that makes a channel
TRIGGERED adds it to the trigger set, also of an external event, is the model's choice (log entry 43). -/
def Obligations.PassUpdatesAverages : Prop :=
  (∀ (d : Elapsed) (s : State) (t l : Time) (c : Channel) (w : SampleWord) (items : List (Channel × SampleWord))
    (rest : List Delivery) (ch : TriggerChannel),
    s.powered = true → s.tb.clock = .main → s.fe.waiting = ⟨t, (c, w) :: items⟩ :: rest →
    (s.fe.ctx.get c).swapPending = false → s.tu.lastSeen = some l → t.toNs ≤ l.toNs → ch = s.tu.chans.get c →
    ∃ t', exec (.filterPass d) s = .next t' ∧
      ∀ (cfs sta lta : Int) (on : Nat), cfs = (min (t'.fe.ctx.get c).y.natAbs 8388607 : Nat) * 256 →
        sta = ch.sta + (cfs - ch.sta) / 2 ^ s.tu.params.ks → lta = ch.lta + (cfs - ch.lta) / 2 ^ s.tu.params.kl →
        on = (if s.tu.quietEnd = none then s.tu.params.onRatio else min 255 (2 * s.tu.params.onRatio)) →
        (ch.state = .quiet →
          (t'.tu.chans.get c).sta = sta ∧ (t'.tu.chans.get c).lta = lta ∧
            (lta * on ≤ sta * 16 ∧ s.tu.params.ltaFloor * 256 ≤ lta →
              (t'.tu.chans.get c).state = .triggered ∧ (t'.tu.chans.get c).onTime = some t) ∧
            (¬(lta * on ≤ sta * 16 ∧ s.tu.params.ltaFloor * 256 ≤ lta) →
              (t'.tu.chans.get c).state = .quiet ∧ (t'.tu.chans.get c).onTime = ch.onTime)) ∧
        (ch.state = .triggered →
          (t'.tu.chans.get c).sta = sta ∧ (t'.tu.chans.get c).lta = ch.lta ∧ (t'.tu.chans.get c).onTime = ch.onTime ∧
            (t'.tu.chans.get c).state = (if sta * 16 < ch.lta * s.tu.params.offRatio then .quiet else .triggered)) ∧
        (ch.state = .warmup → ch.startPending = true →
          (t'.tu.chans.get c).sta = cfs ∧ (t'.tu.chans.get c).lta = cfs ∧ (t'.tu.chans.get c).startPending = false ∧
            (t'.tu.chans.get c).warmCount = 1) ∧
        (ch.state = .warmup → ch.startPending = false →
          (t'.tu.chans.get c).sta = sta ∧ (t'.tu.chans.get c).lta = lta ∧
            (t'.tu.chans.get c).warmCount = ch.warmCount + 1 ∧
            (t'.tu.chans.get c).state = (if 2 ^ s.tu.params.kl ≤ ch.warmCount + 1 then .quiet else .warmup)) ∧
        (ch.state = .disabled → (t'.tu.chans.get c).sta = ch.sta ∧ (t'.tu.chans.get c).state = .disabled)) ∧
  (∀ (d : Elapsed) (s : State) (t : Time) (c : Channel) (w : SampleWord) (items : List (Channel × SampleWord))
    (rest : List Delivery), s.powered = true → s.tb.clock = .main → s.fe.waiting = ⟨t, (c, w) :: items⟩ :: rest →
    ∃ t' u, exec (.filterPass d) s = .next t' ∧ ChangesOnly [.fe, .pt, .sl] (s.elapse d) u ∧
      t' = triggerPass c (t'.fe.ctx.get c).y t (s.fe.ctx.get c).swapPending u) ∧
  (∀ (s b x1 x2 x3 x4 x5 : State) (c : Channel) (y : Int) (t : Time) (restart : Bool) (cf : Nat) (g : TriggerChannel),
    cf = min y.natAbs 8388607 → b = beginDelivery t s →
    x1 =
      (if restart then
        { b with
          tu :=
            { b.tu with
              chans := b.tu.chans.set c { b.tu.chans.get c with state := .warmup, startPending := true, warmCount := 0 } } }
      else b) →
    x2 = { x1 with tu := { x1.tu with chans := x1.tu.chans.set c (channelPass x1.tu cf t (x1.tu.chans.get c)) } } →
    x3 =
      (if (x1.tu.chans.get c).state ≠ .triggered ∧ (x2.tu.chans.get c).state = .triggered ∧
          (x2.tu.det = .open ∨ x2.tu.det = .post) then joinTriggerSet c x2
      else x2) →
    x4 = evalVote x3 → x5 = (if x4.tu.det = .open ∨ x4.tu.det = .post then takePeak c cf t x4 else x4) →
    g = x5.tu.chans.get c →
    triggerPass c y t restart s =
      { x5 with
        tu :=
          { x5.tu with
            chans := x5.tu.chans.set c { g with saved := ⟨g.sta, g.lta, g.state, g.onTime, g.warmCount⟩ } } }) ∧
  (∀ (u : TriggerUnit) (cf on : Nat) (t : Time) (ch : TriggerChannel) (sta lta : Int),
    sta = ch.sta + ((cf * 256 : Nat) - ch.sta) / 2 ^ u.params.ks → lta = ch.lta + ((cf * 256 : Nat) - ch.lta) / 2 ^ u.params.kl →
    on = (if u.quietEnd = none then u.params.onRatio else min 255 (2 * u.params.onRatio)) →
    channelPass u cf t ch =
      match ch.state with
      | .disabled => { ch with last := some ⟨cf, t, u.delivery⟩ }
      | .warmup =>
        if ch.startPending then
          { ch with
            last := some ⟨cf, t, u.delivery⟩, sta := (cf * 256 : Nat), lta := (cf * 256 : Nat), startPending := false, warmCount := 1
            state := if 2 ^ u.params.kl ≤ 1 then .quiet else .warmup }
        else
          { ch with
            last := some ⟨cf, t, u.delivery⟩, sta := sta, lta := lta, warmCount := ch.warmCount + 1
            state := if 2 ^ u.params.kl ≤ ch.warmCount + 1 then .quiet else .warmup }
      | .quiet =>
        if lta * on ≤ sta * 16 ∧ u.params.ltaFloor * 256 ≤ lta then
          { ch with
            last := some ⟨cf, t, u.delivery⟩, sta := sta, lta := lta, state := .triggered, onTime := some t
            onDelivery := some u.delivery }
        else { ch with last := some ⟨cf, t, u.delivery⟩, sta := sta, lta := lta }
      | .triggered =>
        { ch with
          last := some ⟨cf, t, u.delivery⟩, sta := sta
          state := if sta * 16 < ch.lta * u.params.offRatio then .quiet else .triggered }) ∧
  (∀ (s u v : State) (t : Time) (dn : Nat) (after : Nat → Nat → Bool) (calm : TriggerChannel → TriggerChannel),
    ((∃ l, s.tu.lastSeen = some l ∧ t.toNs ≤ l.toNs) → beginDelivery t s = s) ∧
    ((∀ l, s.tu.lastSeen = some l → l.toNs < t.toNs) → dn = (s.tu.delivery + 1) % 4294967296 →
      (after = fun a b =>
        decide (0 < (a + 4294967296 - b % 4294967296) % 4294967296 ∧ (a + 4294967296 - b % 4294967296) % 4294967296 < 2147483648)) →
      (calm = fun ch => if ch.state = .triggered then { ch with lta := ch.sta, state := .quiet } else ch) →
      u =
        { s with
          tu :=
            { s.tu with
              delivery := dn, lastSeen := some t
              quietEnd := match s.tu.quietEnd with
                | some e => if after dn e then none else some e
                | none => none } } →
      v =
        (if s.tu.det = .post ∧ after dn s.tu.postEnd = true then closeEvent s.tu.lastSeen false .idle u
        else if (s.tu.det = .open ∨ s.tu.det = .post) ∧
            s.tu.params.cap * 100 ≤ (dn + 4294967296 - s.tu.onsetDelivery) % 4294967296 then
          closeEvent s.tu.lastSeen true .idle
            { u with tu := { u.tu with chans := ⟨calm s.tu.chans.z, calm s.tu.chans.n, calm s.tu.chans.e⟩ } }
        else u) →
      beginDelivery t s =
        if v.tu.auxPending = false then v
        else if v.tu.det = .idle then openExternal { v with tu := { v.tu with auxPending := false } }
        else { v with tu := { v.tu with auxPending := false } })) ∧
  (∀ (s : State) (endTime : Option Time) (truncated : Bool) (final : DetectorState) (n : Nat) (fresh : StoreChannel → StoreChannel),
    s.tu.current = some n →
    (fresh = fun ch => { ch with route := .ring, ring := [], filling := none, pair := none }) →
    ∃ u, u =
        channels.foldl
          (fun (x : State) (c : Channel) =>
            match (x.ws.chans.get c).route with
            | .event _ | .stopped =>
              ringNeed c
                { x with
                  ws :=
                    { x.ws.closeFilling c with
                      chans := (x.ws.closeFilling c).chans.set c (fresh ((x.ws.closeFilling c).chans.get c)) } }
            | _ => x)
          { s with
            et :=
              { s.et with
                records :=
                  s.et.records.map fun r =>
                    if r.number = n then
                      { r with
                        state := .closed, endTime := endTime
                        flags := { r.flags with truncated := r.flags.truncated || truncated } }
                    else r } } ∧
      closeEvent endTime truncated final s =
        heaterDecide false (raise .eventClosed { u with tu := { u.tu with det := final, current := none } })) ∧
  (∀ (s : State) (n : Nat) (r : EventRecord) (c : Channel) (cf : Nat) (t : Time) (marked : Bool → State),
    s.tu.current = some n → s.et.records.find? (fun r => r.number = n) = some r →
    (marked = fun strong =>
      { s with
        et :=
          { s.et with
            records :=
              s.et.records.map fun x =>
                if x.number = n then
                  { x with
                    peaks := x.peaks.set c (some ⟨cf, some t⟩), flags := { x.flags with strong := x.flags.strong || strong } }
                else x } }) →
    (r.peaks.get c = none → takePeak c cf t s = s) ∧
    (∀ p, r.peaks.get c = some p →
      (cf ≤ p.peak → takePeak c cf t s = s) ∧
      (p.peak < cf → cf < s.tu.params.strongLevel ∨ r.flags.strong = true → takePeak c cf t s = marked false) ∧
      (p.peak < cf → s.tu.params.strongLevel ≤ cf → r.flags.strong = false →
        takePeak c cf t s = strongReport n (marked true))) ∧
    ∃ u, joinTriggerSet c s = (if r.trigger = ⟨false, false, false⟩ then quakeAlert n u else u) ∧
      u =
        { s with
          et :=
            { s.et with
              records :=
                s.et.records.map fun x => if x.number = n then { x with trigger := x.trigger.set c true } else x } }) ∧
  (∀ (s u : State) (t : Time) (n : Nat), s.tu.lastSeen = some t →
    u = openEvent t s.tu.delivery ⟨false, false, false⟩ true s → u.tu.current = some n →
    openExternal s =
      { u with
        tu := { u.tu with det := .post, postEnd := (u.tu.delivery + u.tu.params.post * 100) % 4294967296 }
        et := { u.et with records := u.et.records.map fun r => if r.number = n then { r with state := .post } else r } })

/-- The evaluation of the vote, by the table of R55: the effective vote is V but at most the number of enabled channels; an unmet
vote moves OPEN to POST with the post window's end, a met one POST to OPEN with MERGED (R55, R58). A met vote in IDLE opens an
event: a record at the end of the creation order under the event number counter, with the earliest on-time as its onset; the
rings of the enabled channels pass to it; EVENT_OPENED is raised (R57, R81, R94, R97, R98). An opening makes room in a full table
by removing the first of the victim order, seeds the peaks with the passes already made in the delivery, with STRONG at
strong_level, hands the rings over, has the quake alert queued, and raises EVENT_OPENED, in this order (R57, R62, R98, R101,
R117). At the handover the completed pages whose last sample lies at or after onset − pre pass with their ring's filling page, a
faulty one among them gives DAMAGED, and the others leave (R74, R81). That a met vote in POST changes the record in its state and
MERGED alone, so that the trigger set stays as it is, also that of an external event opened while channels are TRIGGERED, is the
model's choice (log entry 43). -/
def Obligations.VoteDrivesDetector : Prop :=
  (∀ (s : State) (met : Prop),
     (met ↔ min s.tu.params.vote (enabledChannels s.pt.tier).length ≤
       (channels.countP fun c => (s.tu.chans.get c).state = .triggered)) →
     (s.pt.tier = .hibernate ∨ s.tu.det = .disarmed → evalVote s = s) ∧
     (s.tu.det = .open → met → evalVote s = s) ∧
     (s.tu.det = .idle ∨ s.tu.det = .post → ¬met → evalVote s = s) ∧
     (∀ n, s.pt.tier ≠ .hibernate → s.tu.det = .open → ¬met → s.tu.current = some n →
       evalVote s =
         { s with
           tu := { s.tu with det := .post, postEnd := (s.tu.delivery + s.tu.params.post * 100) % 4294967296 }
           et :=
             { s.et with records := s.et.records.map fun r => if r.number = n then { r with state := .post } else r } }) ∧
     (∀ n, s.pt.tier ≠ .hibernate → s.tu.det = .post → met → s.tu.current = some n →
       evalVote s =
         { s with
           tu := { s.tu with det := .open }
           et :=
             { s.et with
               records := s.et.records.map fun r =>
                 if r.number = n then { r with state := .open, flags := { r.flags with merged := true } } else r } })) ∧
  (∀ s : State, s.pt.tier ≠ .hibernate → s.tu.det = .idle → s.et.records.length < 64 →
     (∃ c, (s.tu.chans.get c).state = .triggered) →
     (∀ c, (s.tu.chans.get c).state = .triggered →
       (s.tu.chans.get c).onTime ≠ none ∧ (s.tu.chans.get c).onDelivery ≠ none) →
     min s.tu.params.vote (enabledChannels s.pt.tier).length ≤
       (channels.countP fun c => (s.tu.chans.get c).state = .triggered) →
     ∃ t, evalVote s = t ∧ t.tu.det = .open ∧ t.tu.current = some s.et.counter ∧ t.tu.chans = s.tu.chans ∧
       (∃ c, (s.tu.chans.get c).state = .triggered ∧ (s.tu.chans.get c).onTime = some t.tu.onset ∧
         (s.tu.chans.get c).onDelivery = some t.tu.onsetDelivery) ∧
       (∀ c x, (s.tu.chans.get c).state = .triggered → (s.tu.chans.get c).onTime = some x → t.tu.onset.toNs ≤ x.toNs) ∧
       t.et.records.map EventRecord.number = s.et.records.map EventRecord.number ++ [s.et.counter] ∧
       (∃ r ∈ t.et.records, r.number = s.et.counter ∧ r.state = .open ∧ r.onset = t.tu.onset ∧ r.grade = s.tb.grade ∧
         r.u = s.tb.u ∧ r.tier = s.pt.tier ∧ r.endTime = none ∧ r.hostPin = false ∧ r.released = false ∧
         ∀ c, r.trigger.get c = decide ((s.tu.chans.get c).state = .triggered)) ∧
       (s.et.counter < 4294967295 → (∀ r ∈ s.et.records, r.number ≠ s.et.counter + 1) → t.et.counter = s.et.counter + 1) ∧
       (∀ c ∈ enabledChannels s.pt.tier,
         (t.ws.chans.get c).route = .event s.et.counter ∧ (t.ws.chans.get c).ring = []) ∧
       t.sl.flags &&& 0x01 ≠ 0 ∧ ChangesOnly [.tu, .ws, .et, .al, .pt, .sl] s t ∧
       t =
         openEvent t.tu.onset t.tu.onsetDelivery
           ⟨decide ((s.tu.chans.get .z).state = .triggered), decide ((s.tu.chans.get .n).state = .triggered),
             decide ((s.tu.chans.get .e).state = .triggered)⟩
           false s) ∧
  (∀ (s m : State) (onset : Time) (od num : Nat) (trigger : Tri Bool) (external strong : Bool) (peak : Channel → Option Peak)
     (record : EventRecord),
     num = s.et.counter →
     (s.et.records.length < 64 → m = s) →
     (64 ≤ s.et.records.length → ∃ v rest,
       (s.et.records.filter fun r => !r.pinned && r.released) ++ (s.et.records.filter fun r => !r.pinned && !r.released) =
         v :: rest ∧ m = removeRecord v.number s) →
     (∀ c, peak c =
       if c ∈ enabledChannels s.pt.tier then
         (match (s.tu.chans.get c).last with
           | some x => if x.delivery = s.tu.delivery ∧ 0 < x.cf then some ⟨x.cf, some x.time⟩ else some ⟨0, none⟩
           | none => some ⟨0, none⟩)
       else none) →
     (strong = true ↔ ∃ c p, peak c = some p ∧ s.tu.params.strongLevel ≤ p.peak) →
     record =
       { number := num, state := .open, onset := onset, grade := s.tb.grade, u := s.tb.u, tier := s.pt.tier, endTime := none
         trigger := trigger, peaks := ⟨peak .z, peak .n, peak .e⟩
         flags := ⟨strong, false, false, false, false, false, false, external, false⟩, hostPin := false, released := false
         alert := .none, alertClass := none } →
     ∃ k, openEvent onset od trigger external s =
         raise .eventOpened (quakeAlert num ((enabledChannels s.pt.tier).foldl (fun x c => handoverChannel num onset c x)
           { m with
             et := { m.et with records := m.et.records ++ [record], counter := k }
             tu := { s.tu with det := .open, current := some num, onset := onset, onsetDelivery := od } })) ∧
       (num < 4294967295 → (∀ r ∈ m.et.records, r.number ≠ num + 1) → k = num + 1)) ∧
  (∀ (s : State) (num : Nat) (onset : Time) (c : Channel) (ch : StoreChannel) (passes : PageId → Bool) (pages : List PageId),
     PageInv s → ch = s.ws.chans.get c → ch.route = .ring ∨ ch.route = .starved →
     (∀ p, passes p = true ↔ ∃ f, (s.ws.pages.get p).first = some f ∧
       onset.toNs ≤ f.toNs + 10000000 * ((s.ws.pages.get p).count - 1) + s.tu.params.pre * 1000000000) →
     pages = ch.ring.filter passes ++ (if ch.route = .ring then ch.filling.toList else []) →
     ∃ t, handoverChannel num onset c s = t ∧ ChangesOnly [.ws, .et] s t ∧
       t.ws =
         { s.ws with
           pages := t.ws.pages, events := t.ws.events
           chans :=
             s.ws.chans.set c
               { ch with route := .event num, ring := [], filling := if ch.route = .ring then ch.filling else none } } ∧
       (∀ k n, t.ws.eventList n k = if n = num ∧ k = c then s.ws.eventList n k ++ pages else s.ws.eventList n k) ∧
       (∀ p ∈ pages, t.ws.pages.get p = { s.ws.pages.get p with state := .event num c }) ∧
       (∀ p ∈ ch.ring, p ∉ pages → (t.ws.pages.get p).state = if (s.ws.pages.get p).faulty then .faultySet else .free) ∧
       (∀ p, p ∉ ch.ring → p ∉ pages → t.ws.pages.get p = s.ws.pages.get p) ∧
       t.et =
         if ∃ p ∈ pages, (s.ws.pages.get p).faulty = true then
           { s.et with
             records := s.et.records.map fun r => if r.number = num then { r with flags := { r.flags with damaged := true } } else r }
         else s.et)

/-- An AUXTRIG edge of the kind set acts by the detector state; any other edge has no effect (R64). -/
def Obligations.AuxtrigEdgeByDetectorState : Prop :=
  ∀ (d : Elapsed) (s : State) (rising : Bool) (taken : Prop), s.powered = true →
    (taken ↔
      (s.tu.params.auxEdge = .rise ∧ rising = true) ∨ (s.tu.params.auxEdge = .fall ∧ rising = false) ∨
        s.tu.params.auxEdge = .both) →
    (¬taken ∨ s.tu.det = .disarmed →
      exec (.auxtrigEdge d rising) s = .next { s.elapse d with lines := { s.lines with auxtrig := rising } }) ∧
    (taken → s.tu.det = .idle →
      exec (.auxtrigEdge d rising) s =
        .next { s.elapse d with lines := { s.lines with auxtrig := rising }, tu := { s.tu with auxPending := true } }) ∧
    (∀ n, taken → s.tu.det = .open ∨ s.tu.det = .post → s.tu.current = some n →
      exec (.auxtrigEdge d rising) s =
        .next { s.elapse d with
          lines := { s.lines with auxtrig := rising }
          et :=
            { s.et with
              records := s.et.records.map fun r =>
                if r.number = n then { r with flags := { r.flags with external := true } } else r } })

/-- EVENT FORCE by the detector state, whatever the aux edge parameter says (R66). DETECT ARM on sets the armed setting; it makes
a DISARMED detector IDLE unless the tier is HIBERNATE and leaves an IDLE, OPEN or POST one as it is, and the reply carries the
state that results (R69). DETECT ARM off outside an event makes the detector DISARMED, and RESTART with scope DETECTION outside
an event keeps it; both clear the aux-pending mark (R69, R70). Either of them during an event closes it with TRUNCATED at the
last delivery seen, the detector becoming DISARMED or IDLE; the routes of its channels take up fresh rings, and EVENT_CLOSED is
raised (R58, R60, R69, R70, R84). RESTART with scope DETECTION puts every enabled channel, and no other, into WARMUP with its
start-pending mark set, during an event as outside one; DETECT ARM changes no channel's state; and the quiet-window end stays,
unless the heater switches at the close (R69, R70). That EVENT FORCE in IDLE replies with OK alone is the model's reading (log
entry 20). -/
def Obligations.DetectorRequests : Prop :=
  (∀ (d : Elapsed) (s : State) (pre : List Request) (r : Request) (post : List Request), Front s pre r post → r.kind = 0x2A →
     r.payload = [] →
     (s.tu.det = .disarmed → Answers (.eventForce d) s pre r post (s.elapse d) [0x05]) ∧
     (s.tu.det = .idle →
       Answers (.eventForce d) s pre r post { s.elapse d with tu := { s.tu with auxPending := true } } [0x00]) ∧
     (∀ n, s.tu.det = .open ∨ s.tu.det = .post → s.tu.current = some n →
       Answers (.eventForce d) s pre r post
         { s.elapse d with
           et :=
             { s.et with
               records := s.et.records.map fun x =>
                 if x.number = n then { x with flags := { x.flags with external := true } } else x } }
         ([0x00] ++ putU 4 n))) ∧
  (∀ (d : Elapsed) (s : State) (pre : List Request) (r : Request) (post : List Request) (det : DetectorState),
     Front s pre r post → r.kind = 0x29 →
     det = (if s.tu.det = .disarmed ∧ s.pt.tier ≠ .hibernate then .idle else s.tu.det) →
     (r.payload = [1] →
       Answers (.detectArm d) s pre r post { s.elapse d with tu := { s.tu with armed := true, det := det } }
         [0x00, match det with
           | .disarmed => 0x00
           | .idle => 0x01
           | .open => 0x02
           | .post => 0x03]) ∧
     (∀ b : Byte, r.payload = [b] → 1 < b.toNat → Answers (.detectArm d) s pre r post (s.elapse d) [0x04])) ∧
  (∀ (d : Elapsed) (s : State) (pre : List Request) (r : Request) (post : List Request), Front s pre r post →
     s.tu.det = .idle ∨ s.tu.det = .disarmed →
     (r.kind = 0x29 → r.payload = [0] →
       Answers (.detectArm d) s pre r post
         { s.elapse d with tu := { s.tu with armed := false, det := .disarmed, auxPending := false } } [0x00, 0x00]) ∧
     (r.kind = 0x05 → r.payload = [1] →
       ∃ t, Answers (.restartDetection d) s pre r post t [0x00] ∧ t = { s.elapse d with tu := t.tu } ∧
         t.tu = { s.tu with auxPending := false, chans := t.tu.chans } ∧
         ∀ c, t.tu.chans.get c =
           if c ∈ enabledChannels s.pt.tier then
             { s.tu.chans.get c with state := .warmup, startPending := true, warmCount := 0 }
           else s.tu.chans.get c)) ∧
  (∀ (d : Elapsed) (s : State) (pre : List Request) (r : Request) (post : List Request) (n : Nat) (c : Instr),
     Front s pre r post → s.tu.det = .open ∨ s.tu.det = .post → s.tu.current = some n → PageInv s → s.pt.host.isOn = true →
     (r.kind = 0x29 ∧ r.payload = [0] ∧ c = .detectArm d) ∨ (r.kind = 0x05 ∧ r.payload = [1] ∧ c = .restartDetection d) →
     ∃ t, Answers c s pre r post t (if r.kind = 0x29 then [0x00, 0x00] else [0x00]) ∧
       t.tu =
         { s.tu with
           det := if r.kind = 0x29 then .disarmed else .idle
           armed := if r.kind = 0x29 then false else s.tu.armed
           current := none
           auxPending := false
           chans := t.tu.chans
           quietEnd := t.tu.quietEnd } ∧
       (∀ k, t.tu.chans.get k =
         if r.kind = 0x05 ∧ k ∈ enabledChannels s.pt.tier then
           { s.tu.chans.get k with state := .warmup, startPending := true, warmCount := 0 }
         else s.tu.chans.get k) ∧
       (t.hc.state = s.hc.state → t.tu.quietEnd = s.tu.quietEnd) ∧ t.sl.flags &&& 0x02 ≠ 0 ∧
       (∀ x ∈ s.et.records, x.number = n → ∃ y ∈ t.et.records, y.number = n ∧ y.state = .closed ∧
         y.endTime = s.tu.lastSeen ∧ y.flags.truncated = true ∧ y.onset = x.onset ∧ y.peaks = x.peaks) ∧
       (∀ k, (∃ m, (s.ws.chans.get k).route = .event m) ∨ (s.ws.chans.get k).route = .stopped →
         ((t.ws.chans.get k).route = .ring ∨ (t.ws.chans.get k).route = .starved) ∧ (t.ws.chans.get k).ring = []) ∧
       ChangesOnly [.si, .tu, .ws, .et, .hc, .pt, .sl] (s.elapse d) t)

/-- DETECT SET in the order of R67: the length, the clamps, the cross-conditions, the averages' exponents during an event, and
otherwise all twelve values at once; the reply carries the values in force. -/
def Obligations.DetectSetReplacesParameters : Prop :=
  ∀ (d : Elapsed) (s : State) (pre : List Request) (r : Request) (post : List Request) (bytes : DetectParams → List Byte)
    (x y : DetectParams),
    Front s pre r post → r.kind = 0x28 →
    (bytes = fun p =>
      putU 1 p.ks ++ putU 1 p.kl ++ putU 1 p.onRatio ++ putU 1 p.offRatio ++ putU 2 p.ltaFloor ++ putU 1 p.vote ++
        putU 1 p.pre ++ putU 1 p.post ++ putU 2 p.cap ++ putU 3 p.strongLevel ++ putU 1 p.quietWindow ++
        [(match p.auxEdge with
          | .off => 0
          | .rise => 1
          | .fall => 2
          | .both => 3 : Byte)]) →
    (r.payload.length ≠ 16 → Answers (.detectSet d) s pre r post (s.elapse d) (0x03 :: bytes s.tu.params)) ∧
    (r.payload.length = 16 → 3 < (r.payload.getD 15 0).toNat →
      Answers (.detectSet d) s pre r post (s.elapse d) (0x04 :: bytes s.tu.params)) ∧
    (r.payload = bytes x →
      x.ks < 256 ∧ x.kl < 256 ∧ x.onRatio < 256 ∧ x.offRatio < 256 ∧ x.ltaFloor < 65536 ∧ x.vote < 256 ∧ x.pre < 256 ∧
        x.post < 256 ∧ x.cap < 65536 ∧ x.strongLevel < 16777216 ∧ x.quietWindow < 256 →
      y =
        { ks := max 2 (min x.ks 8), kl := max 8 (min x.kl 14), onRatio := max 16 (min x.onRatio 255)
          offRatio := max 16 (min x.offRatio 255), ltaFloor := x.ltaFloor, vote := max 1 (min x.vote 3)
          pre := min x.pre 30, post := min x.post 60, cap := max 60 (min x.cap 1800)
          strongLevel := max 1 (min x.strongLevel 8388607), quietWindow := min x.quietWindow 10, auxEdge := x.auxEdge } →
      (y.kl < y.ks + 3 ∨ y.onRatio ≤ y.offRatio →
        Answers (.detectSet d) s pre r post (s.elapse d) (0x04 :: bytes s.tu.params)) ∧
      (y.ks + 3 ≤ y.kl → y.offRatio < y.onRatio → s.tu.det = .open ∨ s.tu.det = .post →
        y.ks ≠ s.tu.params.ks ∨ y.kl ≠ s.tu.params.kl →
        Answers (.detectSet d) s pre r post (s.elapse d) (0x05 :: bytes s.tu.params)) ∧
      (y.ks + 3 ≤ y.kl → y.offRatio < y.onRatio →
        (s.tu.det = .open ∨ s.tu.det = .post → y.ks = s.tu.params.ks ∧ y.kl = s.tu.params.kl) →
        Answers (.detectSet d) s pre r post { s.elapse d with tu := { s.tu with params := y } }
          ((if x = y then 0x00 else 0x01) :: bytes y)))

/-! ## Waveform store -/

/-- A storage word read through the code: clean, one bit in error (corrected, counted, and written back while scrub is on), or two
bits in error (both halves as they stand, the page faulty, its event DAMAGED, counted, and STORE raised) (R87, R88). With more than
two, the class is what the check bits show, which is open (log entry 9), and is treated as that class states. -/
def Obligations.StorageWordChecked : Prop :=
  ∀ (s : State) (p : PageId) (i a : Nat) (w : StorageWord) (rawFirst rawSecond : BitVec 72 → BitVec 32)
    (corrected : BitVec 32 → BitVec 32 → Prop) (lost : Prop), MemoryInv s → a = p.val * 512 + i → w = readWord s.ws.array a →
    (rawFirst = fun e => w.first ^^^ e.extractLsb' 0 32) → (rawSecond = fun e => w.second ^^^ e.extractLsb' 32 32) →
    (corrected = fun x y =>
      ∃ t, readStorage p i s = (⟨.single, x, y⟩, t) ∧ ChangesOnly [.ws] s t ∧
        t.ws = { s.ws with array := t.ws.array, pages := t.ws.pages } ∧
        (∀ b, readWord t.ws.array b = if b = a ∧ s.ws.scrub = true then ⟨x, y, 0⟩ else readWord s.ws.array b) ∧
        ∀ q, t.ws.pages.get q =
          if q = p then { s.ws.pages.get p with correctable := min 255 ((s.ws.pages.get p).correctable + 1) }
          else s.ws.pages.get q) →
    (lost ↔
      ∃ t, readStorage p i s = (⟨.uncorrectable, rawFirst w.err, rawSecond w.err⟩, t) ∧ ChangesOnly [.ws, .et, .pt, .sl] s t ∧
        t.ws = { s.ws with pages := t.ws.pages, uncorrectable := (s.ws.uncorrectable + 1) % 4294967296 } ∧
        (∀ q, t.ws.pages.get q = if q = p then { s.ws.pages.get p with faulty := true } else s.ws.pages.get q) ∧
        (∀ n c, (s.ws.pages.get p).state = .event n c →
          t.et.records =
            s.et.records.map fun r => if r.number = n then { r with flags := { r.flags with damaged := true } } else r) ∧
        ((∀ n c, (s.ws.pages.get p).state ≠ .event n c) → t.et = s.et) ∧ t.sl.flags &&& 0x20 ≠ 0) →
    (errorWeight w.err = 0 → readStorage p i s = (⟨.clean, w.first, w.second⟩, s)) ∧
    (errorWeight w.err = 1 → corrected w.first w.second) ∧ (errorWeight w.err = 2 → lost) ∧
    (3 ≤ errorWeight w.err →
      match Config.eccManyErrors w.first w.second w.err with
      | .clean => readStorage p i s = (⟨.clean, rawFirst w.err, rawSecond w.err⟩, s)
      | .single bit =>
        corrected (rawFirst (w.err ^^^ (1#72 <<< bit.val))) (rawSecond (w.err ^^^ (1#72 <<< bit.val)))
      | .uncorrectable => lost)

/-- A patrol read at the expiry of its timer: it chooses the lowest occupied page above the cursor, or else the lowest overall,
reads each storage word that has been written, with the correctable count and, with scrub on, the write-back of a single-bit
error, and with the faulty mark, the uncorrectable count, STORE and DAMAGED of an event's record for a word with two bits in
error, moves the cursor, and the timer runs on from the interval; with no occupied page it only restarts the timer, and before
its expiry it does nothing (R87 to R90). `xs` are the outside upsets that came before. STORE SET replaces the interval, limited
to 60, and the scrub setting, and restarts the patrol timer; a bad length and another scrub code are refused, and every reply
carries the values in force (R89, R91). That the timer restarts at every STORE SET taken, even with an unchanged interval, and
counts the next interval from the command's instant, is the model's reading (log entry 18). That a refusal carries the values too
is read from the procedure of keeping a configuration (log entry 20). That upsets come with the command is the model's form (log
entry 9). -/
def Obligations.PatrolReadsAndStoreSet : Prop :=
  (∀ (d : Elapsed) (s u : State) (xs : List Upset) (occupied : PageId → Prop) (fresh : Option Nat), s.powered = true →
     u = applyUpsets (s.elapse d) xs →
     (∀ p, occupied p ↔ (∃ c, (s.ws.pages.get p).state = .ring c) ∨ ∃ n c, (s.ws.pages.get p).state = .event n c) →
     fresh =
       (if s.ws.interval ≠ 0 ∧ (s.pt.tier = .full ∨ s.pt.tier = .conserve) then
         some (u.clk.mainRun + s.ws.interval * 40000000)
       else none) →
     ((s.tb.clock ≠ .main ∨ ∀ due, s.ws.patrolDue = some due → u.clk.mainRun < due) →
       exec (.patrolRead d xs) s = .next u) ∧
     (∀ due, s.tb.clock = .main → s.ws.patrolDue = some due → due ≤ u.clk.mainRun →
       ((∀ p, ¬occupied p) → exec (.patrolRead d xs) s = .next { u with ws := { u.ws with patrolDue := fresh } }) ∧
       (∀ (p : PageId) (words : List Nat) (weight : Nat → Nat), occupied p →
         ((∀ q, s.ws.cursor = some q → q < p) ∧ (∀ q, occupied q → (∀ k, s.ws.cursor = some k → k < q) → p ≤ q) ∨
           ((∃ k, s.ws.cursor = some k ∧ ∀ q, occupied q → ¬k < q) ∧ ∀ q, occupied q → p ≤ q)) →
         words =
           List.range
             (if (s.ws.pages.get p).filling then (s.ws.pages.get p).count / 2 else ((s.ws.pages.get p).count + 1) / 2) →
         (∀ i, weight i = errorWeight (readWord u.ws.array (p.val * 512 + i)).err) → (∀ i ∈ words, weight i ≤ 2) →
         ∃ t, exec (.patrolRead d xs) s = .next t ∧ ChangesOnly [.ws, .et, .pt, .sl] u t ∧
           t.ws =
             { u.ws with
               array := t.ws.array, pages := t.ws.pages, uncorrectable := t.ws.uncorrectable, cursor := some p
               patrolDue := fresh } ∧
           (MemoryInv s → ∀ a, readWord t.ws.array a =
             if s.ws.scrub = true ∧ ∃ i ∈ words, weight i = 1 ∧ a = p.val * 512 + i then
               { readWord u.ws.array a with err := 0 }
             else readWord u.ws.array a) ∧
           (∀ q, t.ws.pages.get q =
             if q = p then
               { s.ws.pages.get p with
                 correctable :=
                   if ∃ i ∈ words, weight i = 1 then
                     min 255 ((s.ws.pages.get p).correctable + words.countP fun i => weight i = 1)
                   else (s.ws.pages.get p).correctable
                 faulty := (s.ws.pages.get p).faulty || decide (∃ i ∈ words, weight i = 2) }
             else s.ws.pages.get q) ∧
           t.ws.uncorrectable % 4294967296 =
             (s.ws.uncorrectable + words.countP fun i => weight i = 2) % 4294967296 ∧
           ((∀ i ∈ words, weight i ≠ 2) → ChangesOnly [.ws] u t) ∧
           ((∃ i ∈ words, weight i = 2) →
             t.sl.flags &&& 0x20 ≠ 0 ∧
               (∀ c, (s.ws.pages.get p).state = .ring c → t.et = s.et) ∧
               (∀ n c, (s.ws.pages.get p).state = .event n c →
                 t.et =
                   { s.et with
                     records :=
                       s.et.records.map fun x =>
                         if x.number = n then { x with flags := { x.flags with damaged := true } } else x }))))) ∧
  (∀ (d : Elapsed) (s : State) (pre : List Request) (r : Request) (post : List Request), Front s pre r post → r.kind = 0x30 →
     r.payload.length ≠ 2 →
     Answers (.storeSet d) s pre r post (s.elapse d) ([(0x03 : Byte)] ++ putU 1 s.ws.interval ++ putMark s.ws.scrub)) ∧
  (∀ (d : Elapsed) (s : State) (pre : List Request) (r : Request) (post : List Request) (n b : Byte), Front s pre r post →
     r.kind = 0x30 → r.payload = [n, b] →
     (1 < b.toNat →
       Answers (.storeSet d) s pre r post (s.elapse d) ([(0x04 : Byte)] ++ putU 1 s.ws.interval ++ putMark s.ws.scrub)) ∧
     (b.toNat ≤ 1 →
       Answers (.storeSet d) s pre r post
         { s.elapse d with
           ws :=
             { s.ws with
               interval := min n.toNat 60, scrub := decide (b = 1)
               patrolDue :=
                 if n ≠ 0 ∧ (s.pt.tier = .full ∨ s.pt.tier = .conserve) then
                   some ((s.elapse d).clk.mainRun + min n.toNat 60 * 40000000)
                 else none } }
         [if 60 < n.toNat then 0x01 else 0x00, BitVec.ofNat 8 (min n.toNat 60), b]))

/-- What STORE REPORT replies, in every tier and changing nothing; the four page counts make 256, and the correctable counts sum to
65,280 at most (R92). The widths of the counts whose range no rule states, the ring page counts among them, are the model's (log
entry 20). -/
def Obligations.StoreReportReplies : Prop :=
  ∀ (d : Elapsed) (s : State) (pre : List Request) (r : Request) (post : List Request) (count : (Page → Bool) → Nat),
    Front s pre r post → r.kind = 0x31 → r.payload = [] →
    (count = fun test => (List.finRange 256).countP fun p => test (s.ws.pages.get p)) →
    Answers (.storeReport d) s pre r post (s.elapse d)
        ([(0x00 : Byte)] ++ putU 2 (count fun g => decide (g.state = .free)) ++
          putU 2 (count fun g => match g.state with
            | .ring _ => true
            | _ => false) ++
          putU 2 (count fun g => match g.state with
            | .event _ _ => true
            | _ => false) ++
          putU 2 (count fun g => decide (g.state = .faultySet)) ++
          putU 2 (count fun g => match g.state with
            | .ring _ => g.faulty
            | .event _ _ => g.faulty
            | _ => false) ++
          ([Channel.z, .n, .e].flatMap fun c =>
            [(match (s.ws.chans.get c).route with
              | .off => 0
              | .ring => 1
              | .starved => 2
              | .event _ => 3
              | .stopped => 4 : Byte)] ++
            putU 2
              ((s.ws.chans.get c).ring.length +
                if (s.ws.chans.get c).route = .ring ∧ (s.ws.chans.get c).filling ≠ none then 1 else 0) ++
            putU 4 (s.ws.chans.get c).dropped) ++
          putU 1 ([Channel.z, .n, .e].countP fun c => (s.ws.chans.get c).route = .starved) ++
          putU 1 (s.tu.params.pre * 100 / 1024 + 1) ++
          putU 2 ((List.finRange 256).map fun p => (s.ws.pages.get p).correctable).sum ++ putU 4 s.ws.uncorrectable ++
          putU 1 s.ws.interval ++ putMark s.ws.scrub ++
          (match s.ws.cursor with
            | some p => [(1 : Byte), BitVec.ofNat 8 p.val]
            | none => [0, 0])) ∧
      (count fun g => decide (g.state = .free)) + (count fun g => match g.state with
            | .ring _ => true
            | _ => false) +
        (count fun g => match g.state with
          | .event _ _ => true
          | _ => false) +
        (count fun g => decide (g.state = .faultySet)) = 256 ∧
      ((∀ p, (s.ws.pages.get p).correctable ≤ 255) →
        ((List.finRange 256).map fun p => (s.ws.pages.get p).correctable).sum ≤ 65280)

/-- A pinned record is never the victim: making room for a record and reclaiming pages both keep it, and its pages with it (R100,
R101). What a page need does: it takes the lowest free page; with none, a ring deeper than ring_depth gives up its oldest page, and
else the first record of the victim order that holds pages gives up all of them, which fill no longer, and gets WAVEFORM_RECLAIMED;
with no page to be had a ring's route becomes STARVED and an event's STOPPED with INCOMPLETE, and STORE is raised (R74, R76 to R79,
R83, R101). After a ring's need the pages beyond ring_depth leave, the oldest first (R76). That a STARVED ring's need uses the
ring_depth of the present pre is the model's choice (log entry 38). -/
def Obligations.PinnedRecordsAreNoVictims : Prop :=
  (∀ s : State, (s.et.records.map EventRecord.number).Nodup → ∀ r ∈ s.et.records, r.pinned = true →
    (r ∈ (makeRoom s).et.records ∧ (makeRoom s).ws.eventPages r.number = s.ws.eventPages r.number) ∧
    (r ∈ (reclaimUntilFree s).et.records ∧
      (reclaimUntilFree s).ws.eventPages r.number = s.ws.eventPages r.number)) ∧
  (∀ (s : State) (c : Channel) (n depth : Nat) (ch : StoreChannel) (taken : PageId → PageState → Page), PageInv s →
    ch = s.ws.chans.get c → depth = s.tu.params.pre * 100 / 1024 + 1 →
    (taken = fun p x => { s.ws.pages.get p with state := x, filling := true, first := none, count := 0 }) →
    (∀ p, LowestFree s.ws p →
      ringNeed c s =
          { s with
            ws :=
              { s.ws with
                pages := s.ws.pages.set p (taken p (.ring c))
                chans := s.ws.chans.set c { ch with route := .ring, filling := some p } } } ∧
        ∃ t, eventNeed n c s = t ∧ ChangesOnly [.ws] s t ∧
          t.ws =
            { s.ws with
              pages := s.ws.pages.set p (taken p (.event n c)), chans := s.ws.chans.set c { ch with filling := some p }
              events := t.ws.events } ∧
          ∀ m k, t.ws.eventList m k = if m = n ∧ k = c then s.ws.eventList n c ++ [p] else s.ws.eventList m k) ∧
    (∀ p rest, (∀ q, (s.ws.pages.get q).state ≠ .free) → ch.ring = p :: rest → depth < ch.ring.length →
      (s.ws.pages.get p).faulty = false →
      ringNeed c s =
        { s with
          ws :=
            { s.ws with
              pages := s.ws.pages.set p (taken p (.ring c))
              chans := s.ws.chans.set c { ch with route := .ring, ring := rest, filling := some p } } }) ∧
    (∀ u : State, (∀ q, (s.ws.pages.get q).state ≠ .free) →
      (∀ r ∈ s.et.records, r.pinned = false → s.ws.eventPages r.number = []) →
      (ch.ring.length ≤ depth →
        u = { s with ws := { s.ws with chans := s.ws.chans.set c { ch with route := .starved, filling := none } } } →
        ringNeed c s = if ch.route = .starved then u else raise .store u) ∧
      (u =
          { s with
            ws := { s.ws with chans := s.ws.chans.set c { ch with route := .stopped, filling := none } }
            et :=
              { s.et with
                records :=
                  s.et.records.map fun r => if r.number = n then { r with flags := { r.flags with incomplete := true } } else r } } →
        eventNeed n c s = raise .store u)) ∧
    (∀ (need : State → State) (v : EventRecord) (a b : List EventRecord), (∀ q, (s.ws.pages.get q).state ≠ .free) →
      (need = ringNeed c ∧ ch.ring.length ≤ depth) ∨ (need = eventNeed n c ∧ n ≠ v.number) →
      (s.et.records.filter fun r => !r.pinned && r.released) ++ (s.et.records.filter fun r => !r.pinned && !r.released) =
        a ++ v :: b →
      (∀ x ∈ a, s.ws.eventPages x.number = []) → (∃ q ∈ s.ws.eventPages v.number, (s.ws.pages.get q).faulty = false) →
      ∃ t p, need s = t ∧ ChangesOnly [.ws, .et] s t ∧ p ∈ s.ws.eventPages v.number ∧ (s.ws.pages.get p).faulty = false ∧
        (∀ q ∈ s.ws.eventPages v.number, (s.ws.pages.get q).faulty = false → p ≤ q) ∧
        (t.ws.chans.get c).filling = some p ∧ (t.ws.pages.get p).filling = true ∧ t.ws.eventPages v.number = [] ∧
        t.et =
          { s.et with
            records :=
              s.et.records.map fun r =>
                if r.number = v.number then { r with flags := { r.flags with reclaimed := true } } else r } ∧
        (∀ q ∈ s.ws.eventPages v.number, q ≠ p →
          (t.ws.pages.get q).state = (if (s.ws.pages.get q).faulty then .faultySet else .free) ∧
            (t.ws.pages.get q).filling = false) ∧
        (∀ q, q ∉ s.ws.eventPages v.number → t.ws.pages.get q = s.ws.pages.get q) ∧
        ∀ k q, k ≠ c → (s.ws.chans.get k).filling = some q → q ∈ s.ws.eventPages v.number →
          (t.ws.chans.get k).filling = none ∧ (t.ws.chans.get k).pair = none) ∧
    completionStep c s =
      (match ch.route with
        | .ring => trimRing c (ringNeed c s)
        | .event m => eventNeed m c s
        | _ => s) ∧
    ∀ x y : List PageId, ch.ring = x ++ y → y.length = min ch.ring.length depth →
      ∃ t, trimRing c s = t ∧ ChangesOnly [.ws] s t ∧
        t.ws = { s.ws with pages := t.ws.pages, chans := s.ws.chans.set c { ch with ring := y } } ∧
        (∀ p ∈ x, (t.ws.pages.get p).state = if (s.ws.pages.get p).faulty then .faultySet else .free) ∧
        ∀ p ∉ x, t.ws.pages.get p = s.ws.pages.get p)

/-! ## Event table -/

/-- What EVENT LIST replies: up to 8 summaries of 24 bytes from the first number at or above the start, and the table's counts; it
changes nothing (R104). A summary gives the largest peak with its channel, the first of equal ones in the order Z, N, E, and the
channels that have an extent (11.4). What EVENT GET replies, the whole record with its extents; NOT_FOUND for a number no record
holds (R103, R105, R82). The layout of EVENT GET is the model's reading (log entries 20 and 28), and the bytes of an absent peak
part are its choice (log entry 28). -/
def Obligations.EventListAndGetReply : Prop :=
  (∀ (d : Elapsed) (s : State) (pre : List Request) (r : Request) (post : List Request) (rest : List EventRecord),
     Front s pre r post → r.kind = 0x38 → r.payload.length = 4 →
     rest = s.et.records.dropWhile (fun x => x.number < be r.payload) →
     Answers (.eventList d) s pre r post (s.elapse d)
         ([(0x00 : Byte)] ++ putU 1 s.et.records.length ++ putU 1 s.et.pins ++ putU 4 s.et.counter ++
           putU 4 (match s.et.records with
             | [] => 0
             | x :: _ => x.number) ++
           putMark (8 < rest.length) ++ putU 1 (min 8 rest.length) ++ (rest.take 8).flatMap (summaryBytes s.ws)) ∧
       ∀ x : EventRecord,
         (summaryBytes s.ws x).length = 24 ∧
         (summaryBytes s.ws x).take 17 =
           putU 4 x.number ++ [x.state.code] ++ putTime x.onset ++ [x.grade.code, triggerSetByte x.trigger] ++
             putU 2 x.flags.toNat ∧
         ((summaryBytes s.ws x).getD 21 0).getLsbD 0 = x.hostPin ∧
         ((summaryBytes s.ws x).getD 21 0).getLsbD 1 = x.released ∧
         (((summaryBytes s.ws x).getD 21 0).getLsbD 2 = true ↔
           x.state = .open ∨ x.state = .post ∨ x.alert = .queued ∨ x.alert = .inFlight ∨ x.hostPin = true) ∧
         (summaryBytes s.ws x).drop 22 = [x.alert.code, alertClassOptCode x.alertClass] ∧
         (((summaryBytes s.ws x).getD 21 0).getLsbD 3 = true ↔ s.ws.eventList x.number .z ≠ []) ∧
         (((summaryBytes s.ws x).getD 21 0).getLsbD 4 = true ↔ s.ws.eventList x.number .n ≠ []) ∧
         (((summaryBytes s.ws x).getD 21 0).getLsbD 5 = true ↔ s.ws.eventList x.number .e ≠ []) ∧
         (∀ c k, x.peaks.get c = some k → 0 < k.peak →
           (∀ c' k', x.peaks.get c' = some k' → k'.peak < k.peak ∨ (k'.peak = k.peak ∧ c.code.toNat ≤ c'.code.toNat)) →
           ((summaryBytes s.ws x).drop 17).take 4 = putU 3 k.peak ++ [c.code]) ∧
         ((∀ c k, x.peaks.get c = some k → k.peak = 0) → ((summaryBytes s.ws x).drop 17).take 4 = [0, 0, 0, 0xFF])) ∧
  (∀ (d : Elapsed) (s : State) (pre : List Request) (r : Request) (post : List Request) (peak : Option Peak → List Byte)
     (ext : Channel → Option Extent),
     Front s pre r post → r.kind = 0x39 → r.payload.length = 4 →
     (peak = fun p => match p with
       | some k => [(1 : Byte)] ++ putU 3 k.peak ++ putTimeOpt k.time
       | none => [(0 : Byte), 0, 0, 0] ++ putTimeOpt none) →
     (∀ c, ext c = match s.ws.eventList (be r.payload) c with
       | [] => none
       | p :: ps =>
         some ⟨(s.ws.pages.get p).first, ((p :: ps).map fun q => (s.ws.pages.get q).count).sum, ps.length + 1⟩) →
     ((∀ x ∈ s.et.records, x.number ≠ be r.payload) → Answers (.eventGet d) s pre r post (s.elapse d) [0x06]) ∧
     (∀ x, s.et.records.find? (fun x => x.number = be r.payload) = some x →
       Answers (.eventGet d) s pre r post (s.elapse d)
         ([(0x00 : Byte)] ++ putU 4 x.number ++ [x.state.code] ++ putTime x.onset ++ [x.grade.code] ++ putU 4 x.u ++ [x.tier.code] ++
           putTimeOpt x.endTime ++ [triggerSetByte x.trigger] ++ peak x.peaks.z ++ peak x.peaks.n ++ peak x.peaks.e ++
           putU 2 x.flags.toNat ++ putMark (ext .z).isSome ++ putMark (ext .n).isSome ++ putMark (ext .e).isSome ++
           putMark x.hostPin ++ putMark x.released ++ [x.alert.code, alertClassOptCode x.alertClass] ++ putMark x.pinned ++
           ([Channel.z, .n, .e].flatMap fun c => match ext c with
             | some y => putTimeOpt y.first ++ putU 3 y.samples ++ putU 2 y.pages
             | none => []))))

/-- WAVE READ, after the outside upsets `xs` that it may meet. Out of turn only the upsets happen; its refusals are by length,
range and record (R103, R106, R188, R189). Otherwise the samples of an extent are those of the pages of its list in order,
counted from 0, and the reply carries as many as there are from the offset on, up to the count and to the first that does not
follow by 10 ms; each word as it waits in the pair buffer, corrected, or as it stands with BAD where its storage word has two
bits in error (R86, R87, R106). On a page map as every step keeps it, with no page of more than 1,024 samples, each storage word
is checked once: without an error nothing changes, a single-bit error is counted and with scrub on written back, and two bits in
error are counted, mark the page faulty and the record DAMAGED, and raise STORE (R86 to R88, R106). That upsets come with the
command is the model's form (log entry 9). -/
def Obligations.WaveReadReplies : Prop :=
  (∀ (d : Elapsed) (s : State) (xs : List Upset), s.powered = true →
     (s.sl.barrier = true ∨ s.sl.executing = true ∨ (∀ r ∈ s.sl.list, r.progress ≠ .waiting) ∨
         ∃ pre r post, Front s pre r post ∧ r.kind ≠ 0x3A) →
       exec (.waveRead d xs) s = .next (applyUpsets (s.elapse d) xs)) ∧
  (∀ (d : Elapsed) (s u : State) (xs : List Upset) (pre : List Request) (r : Request) (post : List Request) (n off count : Nat)
     (ch : Byte), Front s pre r post → r.kind = 0x3A → u = applyUpsets (s.elapse d) xs → n = be (r.payload.take 4) →
     ch = r.payload.getD 4 0 → off = be ((r.payload.drop 5).take 4) → count = (r.payload.getD 9 0).toNat →
     (r.payload.length ≠ 10 → Answers (.waveRead d xs) s pre r post u [0x03]) ∧
     (r.payload.length = 10 → 2 < ch.toNat ∨ count = 0 ∨ 56 < count → Answers (.waveRead d xs) s pre r post u [0x04]) ∧
     (∀ c : Channel, r.payload.length = 10 → ch = c.code → 0 < count → count ≤ 56 →
       (∀ x ∈ s.et.records, x.number ≠ n) ∨ s.ws.eventList n c = [] → Answers (.waveRead d xs) s pre r post u [0x06]) ∧
     (∀ (c : Channel) (samples places : List (PageId × Nat × Nat)) (k : Nat) (waits : PageId × Nat × Nat → Bool)
        (checked : List (PageId × Nat)) (weight : PageId × Nat → Nat) (half : PageId × Nat × Nat → BitVec 32) (reply : List Byte),
        r.payload.length = 10 → ch = c.code → 0 < count → count ≤ 56 → (∃ x ∈ s.et.records, x.number = n) →
        s.ws.eventList n c ≠ [] → PageInv s → MemoryInv s → (∀ p, (s.ws.pages.get p).count ≤ 1024) → s.pt.host.isOn = true →
        samples = ((s.ws.eventList n c).flatMap fun p => match (s.ws.pages.get p).first with
          | some f => (List.range (s.ws.pages.get p).count).map fun i => (p, i, f.toNs + 10000000 * i)
          | none => []) →
        k ≤ count → k ≤ samples.length - off → places = (samples.drop off).take k →
        (∀ (i : Nat) (x y : PageId × Nat × Nat), places[i]? = some x → places[i + 1]? = some y → y.2.2 = x.2.2 + 10000000) →
        (k < count → off + k < samples.length →
          ∃ x y, places.getLast? = some x ∧ samples[off + k]? = some y ∧ y.2.2 ≠ x.2.2 + 10000000) →
        (∀ x, waits x = true ↔
          (s.ws.chans.get c).filling = some x.1 ∧ x.2.1 + 1 = (s.ws.pages.get x.1).count ∧ (s.ws.chans.get c).pair ≠ none) →
        checked = ((places.filter fun x => !waits x).map fun x => (x.1, x.2.1 / 2)).dedup →
        (∀ x, weight x = errorWeight (readWord u.ws.array (x.1.val * 512 + x.2)).err) → (∀ x ∈ checked, weight x ≤ 2) →
        (∀ x w, w = readWord u.ws.array (x.1.val * 512 + x.2.1 / 2) →
          half x =
            if waits x then (s.ws.chans.get c).pair.getD 0
            else if weight (x.1, x.2.1 / 2) = 2 then
              (if x.2.1 % 2 = 0 then w.first ^^^ w.err.extractLsb' 0 32 else w.second ^^^ w.err.extractLsb' 32 32) ||| 0x80000000
            else if x.2.1 % 2 = 0 then w.first
            else w.second) →
        reply =
          ([(0x00 : Byte)] ++ putU 4 off ++ putU 1 k ++
            (match places with
              | [] => putTimeOpt none
              | x :: _ => putTime (timeOfNs x.2.2)) ++
            putMark (0 < k ∧ off + k < samples.length) ++ places.flatMap fun x => putU 4 (half x).toNat) →
        ((∀ x ∈ checked, weight x = 0) → Answers (.waveRead d xs) s pre r post u reply) ∧
        ∃ t, Answers (.waveRead d xs) s pre r post t reply ∧ ChangesOnly [.ws, .et, .pt, .sl] u t ∧
          t.ws = { u.ws with array := t.ws.array, pages := t.ws.pages, uncorrectable := t.ws.uncorrectable } ∧
          (∀ a, readWord t.ws.array a =
            if s.ws.scrub = true ∧ ∃ x ∈ checked, weight x = 1 ∧ a = x.1.val * 512 + x.2 then
              { readWord u.ws.array a with err := 0 }
            else readWord u.ws.array a) ∧
          (∀ p, t.ws.pages.get p =
            { s.ws.pages.get p with
              correctable :=
                if ∃ x ∈ checked, x.1 = p ∧ weight x = 1 then
                  min 255 ((s.ws.pages.get p).correctable + checked.countP fun x => x.1 = p ∧ weight x = 1)
                else (s.ws.pages.get p).correctable
              faulty := (s.ws.pages.get p).faulty || decide (∃ x ∈ checked, x.1 = p ∧ weight x = 2) }) ∧
          t.ws.uncorrectable % 4294967296 =
            (s.ws.uncorrectable + checked.countP fun x => weight x = 2) % 4294967296 ∧
          ((∀ x ∈ checked, weight x ≠ 2) → ChangesOnly [.ws] u t) ∧
          ((∃ x ∈ checked, weight x = 2) →
            t.sl.flags &&& 0x20 ≠ 0 ∧
              t.et =
                { s.et with
                  records :=
                    s.et.records.map fun x =>
                      if x.number = n then { x with flags := { x.flags with damaged := true } } else x })))

/-- EVENT PIN, UNPIN and RELEASE by the record they name: the host pin with its count and its limit of 16, and the released mark of
a CLOSED record; NOT_FOUND for a number no record holds, for EVENT DELETE too (R103, R107 to R109). EVENT DELETE refuses a pinned
record and otherwise removes it: its number is no longer held, and its pages, none of which a route still fills, go to the free set,
or to the faulty set with their mark, while every other page and the array stay (R74, R102, R110). -/
def Obligations.EventPinsReleaseAndDelete : Prop :=
  (∀ (d : Elapsed) (s : State) (pre : List Request) (r : Request) (post : List Request) (n : Nat), Front s pre r post →
     r.payload.length = 4 → n = be r.payload →
     ((∀ x ∈ s.et.records, x.number ≠ n) →
       (r.kind = 0x3B → Answers (.eventPin d) s pre r post (s.elapse d) [0x06]) ∧
       (r.kind = 0x3C → Answers (.eventUnpin d) s pre r post (s.elapse d) [0x06]) ∧
       (r.kind = 0x3D → Answers (.eventRelease d) s pre r post (s.elapse d) [0x06]) ∧
       (r.kind = 0x3E → Answers (.eventDelete d) s pre r post (s.elapse d) [0x06])) ∧
     (∀ x, s.et.records.find? (fun x => x.number = n) = some x →
       (r.kind = 0x3B → x.hostPin = true →
         Answers (.eventPin d) s pre r post (s.elapse d) ([(0x00 : Byte)] ++ putU 1 s.et.pins)) ∧
       (r.kind = 0x3B → x.hostPin = false → s.et.pins < 16 →
         Answers (.eventPin d) s pre r post
           { s.elapse d with
             et :=
               { s.et with
                 records := s.et.records.map fun y => if y.number = n then { y with hostPin := true } else y
                 pins := s.et.pins + 1 } }
           ([(0x00 : Byte)] ++ putU 1 (s.et.pins + 1))) ∧
       (r.kind = 0x3B → x.hostPin = false → 16 ≤ s.et.pins →
         Answers (.eventPin d) s pre r post (s.elapse d) ([(0x08 : Byte)] ++ putU 1 s.et.pins)) ∧
       (r.kind = 0x3C → x.hostPin = false →
         Answers (.eventUnpin d) s pre r post (s.elapse d) ([(0x00 : Byte)] ++ putU 1 s.et.pins)) ∧
       (r.kind = 0x3C → x.hostPin = true →
         Answers (.eventUnpin d) s pre r post
           { s.elapse d with
             et :=
               { s.et with
                 records := s.et.records.map fun y => if y.number = n then { y with hostPin := false } else y
                 pins := s.et.pins - 1 } }
           ([(0x00 : Byte)] ++ putU 1 (s.et.pins - 1))) ∧
       (r.kind = 0x3D → x.state ≠ .closed → Answers (.eventRelease d) s pre r post (s.elapse d) [0x05]) ∧
       (r.kind = 0x3D → x.state = .closed →
         Answers (.eventRelease d) s pre r post
           { s.elapse d with
             et :=
               { s.et with
                 records := s.et.records.map fun y => if y.number = n then { y with released := true } else y } }
           [0x00]))) ∧
  (∀ (d : Elapsed) (s : State) (pre : List Request) (r : Request) (post : List Request) (x : EventRecord), Front s pre r post →
     r.kind = 0x3E → r.payload.length = 4 → s.et.records.find? (fun x => x.number = be r.payload) = some x →
     (x.state = .open ∨ x.state = .post ∨ x.alert = .queued ∨ x.alert = .inFlight ∨ x.hostPin = true →
       Answers (.eventDelete d) s pre r post (s.elapse d) [0x05, x.alert.code, if x.hostPin then 1 else 0]) ∧
     (x.state = .closed → x.alert ≠ .queued → x.alert ≠ .inFlight → x.hostPin = false →
       (∀ y ∈ s.et.records, y.number = be r.payload → y = x) →
       (∀ c p, (s.ws.chans.get c).filling = some p → p ∉ s.ws.eventPages (be r.payload)) →
       ∃ t, Answers (.eventDelete d) s pre r post t [0x00] ∧ ChangesOnly [.et, .ws] (s.elapse d) t ∧
         t.et = { s.et with records := s.et.records.filter fun y => y.number != be r.payload } ∧
         t.ws =
           { s.ws with pages := t.ws.pages, events := s.ws.events.filter fun y => y.num != be r.payload } ∧
         (∀ p ∈ s.ws.eventPages (be r.payload),
           (t.ws.pages.get p).state = if (s.ws.pages.get p).faulty then .faultySet else .free) ∧
         ∀ p ∉ s.ws.eventPages (be r.payload), t.ws.pages.get p = s.ws.pages.get p))

/-! ## Alert queue -/

/-- Creating an alert: with room it joins the queue; in a full queue it displaces the oldest QUEUED entry of the lowest class
present if that class is lower, and is displaced itself otherwise. It takes the id counter's value in every case, and the record of
a quake alert follows, QUEUED for the entry that joins and DISPLACED for the one that leaves (R112, R114, R115, R119, R130). A PWR,
TIME or SOH alert is coalesced with the entry of its class: a QUEUED one takes the new subject in its place, and one in flight holds
it as the attempt's follow-on subject; without such an entry it is created (R116). An event's quake alert is created once its
trigger set is not empty, Q1 if it is STRONG and Q2 otherwise (R117); the STRONG report raises a QUEUED Q2 in place, marks an
attempt in flight, or creates a new Q1 (R118). An SOH alert is offered once when the next boundary is reached (R121). The results
hold 8, the oldest leaving first (R130). That the id of a displaced entry counts as held when the counter advances is the model's
choice (log entry 35). That an entry created in the last gasp takes disciplined time, and not the watch time, is the model's choice
(log entry 42). -/
def Obligations.AlertCreationAndCoalescing : Prop :=
  (∀ (s : State) (c : AlertClass) (subj : Subject) (text : List Byte) (e : Entry),
     e = ⟨s.al.idCounter, c, subj, s.now, text, false, 0⟩ → (∀ x ∈ s.al.queue, x.id ≠ s.al.idCounter) →
     (s.al.queue.length < 16 →
       ∃ t, createEntry c subj text s = t ∧ t.al = { s.al with queue := s.al.queue ++ [e], idCounter := t.al.idCounter } ∧
         ChangesOnly [.al, .et] s t ∧
         (∀ n, subj = .event n →
           t.et =
             { s.et with
               records := s.et.records.map fun r =>
                 if r.number = n then { r with alert := .queued, alertClass := some c } else r }) ∧
         ((∀ n, subj ≠ .event n) → t.et = s.et)) ∧
     (∀ (a b : List Entry) (v : Entry), 16 ≤ s.al.queue.length → s.al.queue = a ++ v :: b → v.inFlight = false →
       c.priority < v.cls.priority → (∀ x ∈ s.al.queue, x.inFlight = false → x.cls.priority ≤ v.cls.priority) →
       (∀ x ∈ a, x.inFlight = true ∨ x.cls ≠ v.cls) →
       ∃ t, createEntry c subj text s = t ∧ t.al.queue = s.al.queue.filter (fun x => x.id != v.id) ++ [e] ∧
         t.al.results = withResult s.al.results ⟨v.id, v.cls, v.subject, .displaced, v.attempts, s.now⟩ ∧
         t.al.outcomeCount = (s.al.outcomeCount + 1) % 4294967296 ∧ t.sl.flags &&& 0x04 ≠ 0 ∧
         t.et =
           { s.et with
             records := s.et.records.map fun r =>
               if subj = .event r.number then { r with alert := .queued, alertClass := some c }
               else if v.subject = .event r.number then { r with alert := .displaced, alertClass := some v.cls }
               else r } ∧
         ChangesOnly [.al, .et, .pt, .sl] s t) ∧
     (16 ≤ s.al.queue.length → (∀ x ∈ s.al.queue, x.inFlight = false → x.cls.priority ≤ c.priority) →
       ∃ t, createEntry c subj text s = t ∧ t.al.queue = s.al.queue ∧
         t.al.results = withResult s.al.results ⟨e.id, c, subj, .displaced, 0, s.now⟩ ∧
         t.al.outcomeCount = (s.al.outcomeCount + 1) % 4294967296 ∧ t.sl.flags &&& 0x04 ≠ 0 ∧
         t.et =
           { s.et with
             records := s.et.records.map fun r =>
               if subj = .event r.number then { r with alert := .displaced, alertClass := some c } else r } ∧
         ChangesOnly [.al, .et, .pt, .sl] s t) ∧
     (s.al.idCounter < 65535 → (∀ x ∈ s.al.queue, x.id ≠ s.al.idCounter + 1) →
       (createEntry c subj text s).al.idCounter = s.al.idCounter + 1)) ∧
  (∀ (s : State) (c : AlertClass) (subj : Subject) (e : Entry),
     (s.al.queue.find? (fun x => x.cls = c) = some e → e.inFlight = false →
       offerAlert c subj s =
         { s with
           al := { s.al with queue := s.al.queue.map fun x => if x.id = e.id then { x with subject := subj } else x } }) ∧
     (∀ a, s.al.queue.find? (fun x => x.cls = c) = some e → e.inFlight = true → s.al.attempt = some a →
       offerAlert c subj s = { s with al := { s.al with attempt := some { a with followOn := some subj } } }) ∧
     ((∀ x ∈ s.al.queue, x.cls ≠ c) → offerAlert c subj s = createEntry c subj [] s)) ∧
  (∀ (s : State) (n : Nat) (r : EventRecord), s.et.records.find? (fun x => x.number = n) = some r →
     (r.trigger = ⟨false, false, false⟩ ∨ r.alert ≠ .none → quakeAlert n s = s) ∧
     (r.trigger ≠ ⟨false, false, false⟩ → r.alert = .none →
       quakeAlert n s = createEntry (if r.flags.strong then .q1 else .q2) (.event n) [] s) ∧
     ((∀ e ∈ s.al.queue, e.subject ≠ .event n) →
       (r.alert = .none → strongReport n s = s) ∧
         (r.alert ≠ .none → strongReport n s = createEntry .q1 (.event n) [] s)) ∧
     (∀ e, s.al.queue.find? (fun e => e.subject = .event n) = some e →
       (e.cls = .q1 → strongReport n s = s) ∧
       (∀ a, e.cls ≠ .q1 → e.inFlight = true → s.al.attempt = some a →
         strongReport n s = { s with al := { s.al with attempt := some { a with upgrade := true } } }) ∧
       (e.cls ≠ .q1 → e.inFlight = false →
         strongReport n s =
           { s with
             al := { s.al with queue := s.al.queue.map fun x => if x.id = e.id then { x with cls := .q1 } else x }
             et :=
               { s.et with
                 records :=
                   s.et.records.map fun x =>
                     if x.number = n then { x with alert := .queued, alertClass := some .q1 } else x } }))) ∧
  (∀ (s : State) (hours : Nat), hours = s.al.params.sohInterval →
     (∀ last, s.al.lastSoh = some last → hours ≠ 0 → last + hours * 3600 ≤ s.now.sec →
       ∃ u, u = offerAlert .soh .none s ∧
         sohCheck s =
           { u with al := { u.al with lastSoh := some (s.now.sec / (hours * 3600) * (hours * 3600)) } }) ∧
     (hours = 0 ∨ (∀ last, s.al.lastSoh = some last → s.now.sec < last + hours * 3600) → sohCheck s = s)) ∧
  (∀ (l : List Result) (r : Result), l.length ≤ 8 →
     (withResult l r).length ≤ 8 ∧ (withResult l r).getLast? = some r ∧
       (l.length < 8 → (withResult l r).dropLast = l) ∧ (l.length = 8 → (withResult l r).dropLast = l.drop 1))

/-- The head selectable entry is admitted and QUEUED, and no entry that is admitted and QUEUED stands before it: none has a higher
class, and none of its class was created earlier; there is none only when no entry is admitted and QUEUED (R113, R120). -/
def Obligations.HeadSelectableIsFirst : Prop :=
  ∀ s : State,
    (∀ e, headSelectable s = some e →
      e ∈ s.al.queue ∧ e.inFlight = false ∧ Admitted s e ∧
        (∀ x ∈ s.al.queue, x.inFlight = false → Admitted s x → e.cls.priority ≤ x.cls.priority) ∧
        ∃ a b, s.al.queue = a ++ e :: b ∧ ∀ x ∈ a, x.inFlight = false → Admitted s x → x.cls ≠ e.cls) ∧
    (headSelectable s = none → ∀ x ∈ s.al.queue, x.inFlight = false → ¬Admitted s x)

/-- ALERT POST and ALERT CANCEL with their refusals: the post creates a HOST entry and replies with its id, OK or FULL; the cancel
gives a QUEUED entry the outcome CANCELLED (R132, R134). That the payload is the text alone, without a count byte, is the model's
choice (log entry 37). -/
def Obligations.AlertPostAndCancel : Prop :=
  ∀ (d : Elapsed) (s : State) (pre : List Request) (r : Request) (post : List Request), Front s pre r post →
    (r.kind = 0x40 → r.payload = [] ∨ 40 < r.payload.length → Answers (.alertPost d) s pre r post (s.elapse d) [0x03]) ∧
    (r.kind = 0x40 → 0 < r.payload.length → r.payload.length ≤ 40 → s.pt.tier = .survive ∨ s.pt.tier = .hibernate →
      Answers (.alertPost d) s pre r post (s.elapse d) [0x07]) ∧
    (r.kind = 0x40 → 0 < r.payload.length → r.payload.length ≤ 40 → s.pt.tier = .full ∨ s.pt.tier = .conserve →
      s.pt.host.isOn = true →
      Answers (.alertPost d) s pre r post (createEntry .host .none r.payload (s.elapse d))
        ((if 16 ≤ s.al.queue.length ∧ ∀ x ∈ s.al.queue, x.inFlight = false → x.cls.priority ≤ 5 then 0x08 else 0x00) ::
          putU 2 s.al.idCounter)) ∧
    (r.kind = 0x42 → r.payload.length = 2 → (∀ x ∈ s.al.queue, x.id ≠ be r.payload) →
      Answers (.alertCancel d) s pre r post (s.elapse d) [0x06]) ∧
    (∀ e, r.kind = 0x42 → r.payload.length = 2 → s.al.queue.find? (fun x => x.id = be r.payload) = some e →
      (e.inFlight = true → Answers (.alertCancel d) s pre r post (s.elapse d) [0x05]) ∧
      (e.inFlight = false → s.pt.host.isOn = true → s.pt.gasp = none →
        ∃ t, Answers (.alertCancel d) s pre r post t [0x00] ∧
          t.al =
            { s.al with
              queue := s.al.queue.filter fun x => x.id != e.id
              results :=
                withResult s.al.results ⟨e.id, e.cls, e.subject, .cancelled, e.attempts, (s.elapse d).now⟩
              outcomeCount := (s.al.outcomeCount + 1) % 4294967296 } ∧
          t.sl.flags = s.sl.flags ||| 0x04 ∧
          (∀ n, e.subject = .event n →
            t.et =
              { s.et with
                records := s.et.records.map fun x =>
                  if x.number = n then { x with alert := .cancelled, alertClass := some e.cls } else x }) ∧
          ((∀ n, e.subject ≠ .event n) → t.et = s.et) ∧ ChangesOnly [.al, .et, .pt, .sl] (s.elapse d) t))

/-- What ALERT LIST and RESULTS READ reply, changing nothing, and UPLINK SET, which replaces the three uplink values, limited to
their ranges; a bad length changes nothing, and every reply carries the values in force (R133, R135, R136). Widths and marks that no
table gives are the model's reading (log entries 20 and 28). That a refusal of UPLINK SET carries the values is read from the
procedure of keeping a configuration (log entry 20). That the current frame is reported as not decided when a later frame has been
decided since is the model's choice (log entry 44). -/
def Obligations.AlertReportsAndSettings : Prop :=
  ∀ (d : Elapsed) (s : State) (pre : List Request) (r : Request) (post : List Request), Front s pre r post →
    (∀ b : Byte, r.kind = 0x41 → r.payload = [b] →
      (15 < b.toNat → Answers (.alertList d) s pre r post (s.elapse d) [0x04]) ∧
      (∀ listed : List Entry, b.toNat ≤ 15 → listed = ((queueOrder s.al.queue).drop b.toNat).take 8 →
        Answers (.alertList d) s pre r post (s.elapse d)
          ([(0x00 : Byte)] ++ putU 1 listed.length ++
            (listed.flatMap fun e =>
              putU 2 e.id ++ [e.cls.code] ++ e.subject.bytes ++ putTime e.created ++ [if e.inFlight then (2 : Byte) else 1] ++
                putU 1 e.attempts ++ putU 1 e.text.length ++ putMark (selectable s e)) ++
            putU 1 s.al.queue.length ++ putU 2 s.al.idCounter ++ putU 4 s.al.outcomeCount ++ putU 4 s.al.attemptsStarted ++
            putU 4 s.al.mbfSkips ++ putU 4 s.al.strayCount ++
            (match s.al.attempt with
              | some a => [(1 : Byte), a.stage.code] ++ putU 1 a.handle ++ putMark a.upgrade ++ putMark a.followOn.isSome
              | none => [0, 0, 0, 0, 0]) ++
            (match s.al.decided with
              | some x =>
                if x.frame = (s.elapse d).now.sec / 60 then putUOpt 1 (some x.slot) ++ putTime x.issue
                else [(0 : Byte), 0] ++ putTimeOpt none
              | none => [(0 : Byte), 0] ++ putTimeOpt none) ++
            putMark (modemDemand s)))) ∧
    (r.kind = 0x43 → r.payload = [] →
      Answers (.resultsRead d) s pre r post (s.elapse d)
        ([(0x00 : Byte)] ++ putU 1 s.al.results.length ++
          (s.al.results.reverse.flatMap fun x =>
            putU 2 x.id ++ [x.cls.code] ++ x.subject.bytes ++ [x.outcome.code] ++ putU 1 x.attempts ++ putTime x.time) ++
          putU 4 s.al.outcomeCount)) ∧
    (r.kind = 0x44 → r.payload.length ≠ 4 →
      Answers (.uplinkSet d) s pre r post (s.elapse d)
        ([(0x03 : Byte)] ++ putU 1 s.al.params.ownSlot ++ putU 2 s.al.params.stationId ++ putU 1 s.al.params.sohInterval)) ∧
    (∀ a b c e : Byte, r.kind = 0x44 → r.payload = [a, b, c, e] →
      ∀ x : UplinkParams, x = ⟨max 1 (min a.toNat 29), b.toNat * 256 + c.toNat, min e.toNat 24⟩ →
      Answers (.uplinkSet d) s pre r post
        { s.elapse d with
          al :=
            { s.al with
              params := x
              lastSoh :=
                if x.sohInterval = s.al.params.sohInterval then s.al.lastSoh
                else if x.sohInterval = 0 then none
                else some ((s.elapse d).now.sec / (x.sohInterval * 3600) * (x.sohInterval * 3600)) } }
        [if x.ownSlot = a.toNat ∧ x.sohInterval = e.toNat then 0x00 else 0x01, BitVec.ofNat 8 x.ownSlot, b, c,
          BitVec.ofNat 8 x.sohInterval])

/-! ## The uplink -/

/-- The decision of an uplink frame above the last decided: the own slot while the grade is TRACKING, LOCKED or HOLD and u is at
most 400,000,000 ns, with its issue instant, and slot 0 at the decision instant otherwise; a frame decided before is not decided
again, none on the watch clock, and none whose decision instant a step or a TIME SET has carried time past (R122); there a frame
without an issue instant ahead and without an attempt closes its window, also the last decided one after a step back, which is
the model's choice (R124, log entry 34). The rail-window mark 5 s before a decision instant opens the frame's window and has the
modem rail on, in CONSERVE and SURVIVE and only with an entry that may be selected (R124, R172). EN_MODEM follows the demand of
the tier, and its time on counts from the moment it last went on (R124, R172). -/
def Obligations.FramesDecidedAndRailWindows : Prop :=
  (∀ (d : Elapsed) (s : State) (f : Nat), s.powered = true → f * 60 < 4294967296 →
     (s.elapse d).clk.time = ⟨f * 60, 100000000⟩ →
     (s.tb.clock = .main → (∀ x, s.al.decided = some x → x.frame < f) →
       ((s.tb.grade = .tracking ∨ s.tb.grade = .locked ∨ s.tb.grade = .hold) ∧ s.tb.u ≤ 400000000 →
         exec (.uplinkDecision d) s =
           .next { s.elapse d with
             al :=
               { s.al with
                 decided :=
                   some ⟨f, s.al.params.ownSlot,
                     timeOfNs ((f * 60 + 2 * s.al.params.ownSlot) * 1000000000 + max 50000000 s.tb.u), false⟩ } }) ∧
       (¬((s.tb.grade = .tracking ∨ s.tb.grade = .locked ∨ s.tb.grade = .hold) ∧ s.tb.u ≤ 400000000) →
         exec (.uplinkDecision d) s =
           .next { s.elapse d with al := { s.al with decided := some ⟨f, 0, ⟨f * 60, 100000000⟩, false⟩ } })) ∧
     (∀ x, s.tb.clock = .main → s.al.decided = some x → f ≤ x.frame →
       ((x.frame = f ∧ x.taken = false) ∨ (∃ a, s.al.attempt = some a ∧ a.frame = f) →
         exec (.uplinkDecision d) s = .next (s.elapse d)) ∧
       (¬((x.frame = f ∧ x.taken = false) ∨ ∃ a, s.al.attempt = some a ∧ a.frame = f) →
         exec (.uplinkDecision d) s =
           .next (syncModem
             { s.elapse d with al := { s.al with windows := s.al.windows.filter fun g => g != f } }))) ∧
     (s.tb.clock ≠ .main → exec (.uplinkDecision d) s = .next (s.elapse d))) ∧
  (∀ (d : Elapsed) (s : State) (p : Time), s.powered = true → s.tb.clock = .main → s.tb.movedTo = some p →
     (s.elapse d).clk.time.sec / 60 * 60000000000 + 100000000 < p.toNs → p.toNs ≤ (s.elapse d).clk.time.toNs →
     exec (.uplinkDecision d) s = .next (s.elapse d)) ∧
  (∀ (d : Elapsed) (s : State) (f : Nat), s.powered = true → s.tb.clock = .main →
     (s.elapse d).clk.time = ⟨f * 60 + 55, 100000000⟩ →
     ((s.pt.tier = .conserve ∨ s.pt.tier = .survive) → (∃ e ∈ s.al.queue, e.inFlight = false ∧ Admitted s e) →
       exec (.railWindowMark d) s =
         .next { s.elapse d with
           al :=
             { s.al with windows := if f + 1 ∈ s.al.windows then s.al.windows else s.al.windows ++ [f + 1] }
           pt :=
             { s.pt with
               enModem := true, modemOnAt := if s.pt.enModem then s.pt.modemOnAt else (s.elapse d).clk.mainRun } }) ∧
     (s.pt.tier = .full ∨ s.pt.tier = .hibernate ∨ (∀ e ∈ s.al.queue, e.inFlight = true ∨ ¬Admitted s e) →
       exec (.railWindowMark d) s = .next (s.elapse d))) ∧
  (∀ (s : State) (demand : Bool),
     (demand = true ↔ match s.pt.tier with
       | .full => True
       | .conserve | .survive => s.al.windows ≠ [] ∨ s.al.attempt ≠ none
       | .hibernate => s.pt.gasp ≠ none) →
     modemDemand s = demand ∧
       syncModem s =
         { s with
           pt :=
             { s.pt with
               enModem := demand
               modemOnAt := if demand = true ∧ s.pt.enModem = false then s.clk.mainRun else s.pt.modemOnAt } })

/-- The issue instant of a decided frame: the checks in their order, and an attempt for the head selectable entry when all of
them pass, with its TRANSMIT's payload: the head, the subject and the body of each class, composed from the state at that
instant; a frame whose issue instant was taken has none (R123, R125, R119, 11.5). A reading without a value stands in the payload
with bytes 0, which is the model's reading (log entry 12). That the attempts-started and MBF skip counts are 32-bit and wrap is
the model's reading (log entry 20). -/
def Obligations.IssueInstantChecked : Prop :=
  ∀ (d : Elapsed) (s : State) (mbf : Bool) (x : Decided) (fails : Prop), s.powered = true → s.tb.clock = .main →
    s.al.decided = some x → (s.elapse d).clk.time.toNs = x.issue.toNs →
    (fails ↔
      (x.slot ≠ 0 ∧
          ¬((s.tb.grade = .tracking ∨ s.tb.grade = .locked ∨ s.tb.grade = .hold) ∧ s.tb.u ≤ 400000000)) ∨
        s.al.attempt ≠ none ∨
        ¬(s.pt.enModem = true ∧ s.pt.modemOnAt + 120000000 ≤ (s.elapse d).clk.mainRun)) →
    (x.taken = true → exec (.issueInstant d mbf) s = .next { s.elapse d with lines := { s.lines with mbf := mbf } }) ∧
    (x.taken = false →
      ∃ t, exec (.issueInstant d mbf) s = .next t ∧ t.lines = { s.lines with mbf := mbf } ∧
        (fails ∨ (mbf = false ∧ headSelectable s = none) →
          t.al =
              { s.al with
                decided := some { x with taken := true }, windows := s.al.windows.filter fun f => f != x.frame } ∧
            ChangesOnly [.al, .pt, .lines] (s.elapse d) t) ∧
        (¬fails → mbf = true →
          t.al =
              { s.al with
                decided := some { x with taken := true }, windows := s.al.windows.filter fun f => f != x.frame
                mbfSkips := (s.al.mbfSkips + 1) % 4294967296 } ∧
            ChangesOnly [.al, .pt, .lines] (s.elapse d) t) ∧
        (∀ e, ¬fails → mbf = false → headSelectable s = some e →
          ∃ p : List Byte,
            t.al =
                { s.al with
                  decided := some { x with taken := true }
                  queue := s.al.queue.map fun y => if y.id = e.id then { y with inFlight := true } else y
                  attempt :=
                    some ⟨e.id, s.al.handleCounter, .sending, false, none, x.frame,
                      modemFrame 0x01 (BitVec.ofNat 8 s.al.handleCounter) p⟩
                  handleCounter := (s.al.handleCounter + 1) % 256
                  attemptsStarted := (s.al.attemptsStarted + 1) % 4294967296 } ∧
              p.take 5 =
                putU 2 s.al.params.stationId ++ putU 2 e.id ++ putU 1 (e.cls.priority * 16 + (e.attempts + 1)) ∧
              (e.cls = .host → p.drop 5 = e.subject.bytes ++ e.text) ∧
              (e.cls = .time → p.drop 5 = e.subject.bytes ++ putU 4 s.tb.u ++ putTime (s.elapse d).now) ∧
              (e.cls = .pwr →
                p.drop 5 =
                  e.subject.bytes ++ putU 2 s.ca.soc ++ putS 2 (s.hm.readings.vbat.value.getD 0) ++ putTime (s.elapse d).now) ∧
              (e.cls = .soh →
                p.drop 5 =
                  e.subject.bytes ++ putTime (s.elapse d).now ++ putU 2 s.ca.soc ++ [s.pt.tier.code] ++
                    putS 2 (s.hm.readings.tbat.value.getD 0) ++ putS 2 (s.hm.readings.tenc.value.getD 0) ++
                    putU 1 ((if s.hm.readings.tbat.valid then 1 else 0) + (if s.hm.readings.tenc.valid then 2 else 0)) ++
                    [s.hc.state.code, s.tb.grade.code] ++ putU 4 s.tb.u ++ putU 1 s.al.queue.length) ∧
              (∀ n y, e.cls = .q1 ∨ e.cls = .q2 → e.subject = .event n →
                s.et.records.find? (fun y => y.number = n) = some y →
                p.drop 5 =
                  putU 4 n ++ putTime y.onset ++ [y.grade.code] ++ putU 4 y.u ++ [y.tier.code] ++
                    putU 1
                      ((if y.flags.strong then 1 else 0) + (if y.flags.external then 2 else 0) +
                        (if y.flags.merged then 4 else 0) + (if y.flags.truncated then 8 else 0)) ++
                    [y.peaks.z, y.peaks.n, y.peaks.e].flatMap fun k => match k with
                      | some k => putU 3 k.peak
                      | none => [0, 0, 0]) ∧
              (∀ n, e.subject = .event n →
                t.et.records =
                  s.et.records.map fun y =>
                    if y.number = n then { y with alert := .inFlight, alertClass := some e.cls } else y) ∧
              ChangesOnly [.al, .et, .pt, .lines] (s.elapse d) t))

/-- The stages of an attempt: the end of TRANSMIT, which is not kept, starts the wait of 200 ms for TAKEN, and TAKEN with the
attempt's handle starts the wait of 10 s for DONE; a frame with another handle, or that the stage does not await, is a stray
(R126, R127). What ends an attempt: REFUSED and the end of the 200 ms in AWAIT_TAKEN, DONE and the end of the 10 s in AWAIT_DONE,
only DONE with the result ok as successful; before its end a wait goes on (R127, R128, R129). Bytes on UL_RX that make no answer:
without a first sync byte they change nothing, a frame whose CRC fails has no effect, and a frame of any kind while no attempt is
in flight is a stray; and no byte is received from the moment on at which the modem rail is off or the main clock stands (R126).
That no byte is received in the settle either, and that the stray-frame count is 32-bit and wraps, are the model's readings (log
entries 25 and 20). -/
def Obligations.AttemptStagesAndEnds : Prop :=
  (∀ (d : Elapsed) (s : State) (a : Attempt) (h : Byte), s.powered = true → s.tb.clock = .main → s.pt.enModem = true →
     s.al.rx = .hunt → s.al.attempt = some a →
     (a.stage = .sending →
       exec (.transmitSent d) s =
         .next { s.elapse d with
           al :=
             { s.al with
               attempt := some { a with stage := .awaitTaken ((s.elapse d).clk.mainRun + 8000000), sent := [] } } }) ∧
     (a.stage ≠ .sending → exec (.transmitSent d) s = .next (s.elapse d)) ∧
     (∀ due, a.stage = .awaitTaken due → h.toNat = a.handle →
       exec (.taken d h []) s =
         .next { s.elapse d with
           al :=
             { s.al with attempt := some { a with stage := .awaitDone ((s.elapse d).clk.mainRun + 400000000) } } }) ∧
     (h.toNat ≠ a.handle ∨ (∀ due, a.stage ≠ .awaitTaken due) →
       exec (.taken d h []) s =
         .next { s.elapse d with al := { s.al with strayCount := (s.al.strayCount + 1) % 4294967296 } } ∧
       exec (.refused d h []) s =
         .next { s.elapse d with al := { s.al with strayCount := (s.al.strayCount + 1) % 4294967296 } }) ∧
     (∀ b : Byte, (h.toNat ≠ a.handle ∨ ∀ due, a.stage ≠ .awaitDone due) →
       exec (.done d h [b]) s =
         .next { s.elapse d with al := { s.al with strayCount := (s.al.strayCount + 1) % 4294967296 } })) ∧
  (∀ (d : Elapsed) (s : State) (a : Attempt) (h : Byte) (due : Nat), s.powered = true → s.tb.clock = .main →
     s.al.attempt = some a →
     (a.stage = .awaitTaken due →
       (s.pt.enModem = true → s.al.rx = .hunt → h.toNat = a.handle →
         exec (.refused d h []) s = .next (endAttempt false (s.elapse d))) ∧
       (due ≤ (s.elapse d).clk.mainRun → exec (.awaitTakenTimeout d) s = .next (endAttempt false (s.elapse d))) ∧
       ((s.elapse d).clk.mainRun < due → exec (.awaitTakenTimeout d) s = .next (s.elapse d)) ∧
       exec (.awaitDoneTimeout d) s = .next (s.elapse d)) ∧
     (a.stage = .awaitDone due →
       (s.pt.enModem = true → s.al.rx = .hunt → h.toNat = a.handle →
         exec (.done d h [0]) s = .next (endAttempt true (s.elapse d)) ∧
           exec (.done d h [1]) s = .next (endAttempt false (s.elapse d))) ∧
       (due ≤ (s.elapse d).clk.mainRun → exec (.awaitDoneTimeout d) s = .next (endAttempt false (s.elapse d))) ∧
       ((s.elapse d).clk.mainRun < due → exec (.awaitDoneTimeout d) s = .next (s.elapse d)) ∧
       exec (.awaitTakenTimeout d) s = .next (s.elapse d))) ∧
  (∀ (d : Elapsed) (s : State), s.powered = true → s.tb.clock = .main → s.pt.enModem = true → s.al.rx = .hunt →
     (∀ bytes : List Byte, (∀ b ∈ bytes, b ≠ 0xA5) → exec (.modemFrameDiscard d bytes) s = .next (s.elapse d)) ∧
     (∀ kind handle hi lo : Byte, hi ++ lo ≠ crc16 [kind, handle, 0] →
       exec (.modemFrameDiscard d [0xA5, 0x5A, kind, handle, 0, hi, lo]) s = .next (s.elapse d)) ∧
     (∀ (kind handle : Byte) (body : List Byte), body.length ≤ 48 → s.al.attempt = none →
       exec (.modemFrameDiscard d (modemFrame kind handle body)) s =
         .next { s.elapse d with al := { s.al with strayCount := (s.al.strayCount + 1) % 4294967296 } })) ∧
  (∀ (d : Elapsed) (s t : State) (xs ys : List Byte), s.powered = true → exec (.modemFrameDiscard d xs) s = .next t →
     t.tb.clock ≠ .main ∨ t.pt.enModem = false → exec (.modemFrameDiscard d (xs ++ ys)) s = .next t)

/-- The end of an attempt without marks: SENT takes the entry out of the queue into the results, a third failure does so as
FAILED, and an earlier failure returns it with its attempts counted; the window of its frame closes (R124, R129, R130). The
upgrade mark makes a returned entry Q1 and creates a new Q1 entry for one that left, and a follow-on subject replaces that of a
returned entry and is offered anew for one that left (R116, R118, R129). An end during the last gasp ends the gasp when no save
runs and its entry has gone or its limit has run out, and leaves it otherwise (R131, R174). That an entry that such an end
creates takes disciplined time as its created time is the model's choice (log entry 42). -/
def Obligations.AttemptEndSettlesEntry : Prop :=
  (∀ (s : State) (ok : Bool) (a : Attempt) (e : Entry) (out : AlertState) (attempts : Nat), s.al.attempt = some a →
    a.upgrade = false → a.followOn = none → s.pt.gasp = none → s.al.queue.find? (fun x => x.id = a.id) = some e →
    attempts = (if ok then e.attempts else e.attempts + 1) →
    (ok = true ∨ 3 ≤ attempts → out = (if ok then .sent else .failed) →
      ∃ t, endAttempt ok s = t ∧
        t.al =
          { s.al with
            attempt := none, queue := s.al.queue.filter fun x => x.id != a.id
            results := withResult s.al.results ⟨e.id, e.cls, e.subject, out, attempts, s.now⟩
            outcomeCount := (s.al.outcomeCount + 1) % 4294967296
            windows := s.al.windows.filter fun f => f != a.frame } ∧
        t.sl.flags &&& 0x04 ≠ 0 ∧
        (∀ n, e.subject = .event n →
          t.et.records =
            s.et.records.map fun r => if r.number = n then { r with alert := out, alertClass := some e.cls } else r) ∧
        ChangesOnly [.al, .et, .pt, .sl] s t) ∧
    (ok = false → attempts < 3 →
      ∃ t, endAttempt ok s = t ∧
        t.al =
          { s.al with
            attempt := none
            queue := s.al.queue.map fun x => if x.id = a.id then { e with inFlight := false, attempts := attempts } else x
            windows := s.al.windows.filter fun f => f != a.frame } ∧
        (∀ n, e.subject = .event n →
          t.et.records =
            s.et.records.map fun r => if r.number = n then { r with alert := .queued, alertClass := some e.cls } else r) ∧
        ChangesOnly [.al, .et, .pt] s t)) ∧
  (∀ (s b r m f w : State) (ok left : Bool) (a : Attempt) (e : Entry) (attempts : Nat) (cls : AlertClass) (out : AlertState)
     (written : State → AlertState → AlertClass → State), s.al.attempt = some a →
     s.al.queue.find? (fun x => x.id = a.id) = some e → attempts = (if ok then e.attempts else e.attempts + 1) →
     (left = true ↔ ok = true ∨ 3 ≤ attempts) → cls = (if a.upgrade then .q1 else e.cls) → out = (if ok then .sent else .failed) →
     (written = fun x st c => match e.subject with
       | .event n =>
         { x with
           et :=
             { x.et with
               records := x.et.records.map fun y => if y.number = n then { y with alert := st, alertClass := some c } else y } }
       | _ => x) →
     b =
       { s with
         al :=
           { s.al with
             attempt := none
             queue := s.al.queue.map fun x => if x.id = a.id then { e with inFlight := false, attempts := attempts } else x } } →
     r =
       { s with
         al :=
           { s.al with
             attempt := none, queue := s.al.queue.filter fun x => x.id != a.id
             results := withResult s.al.results ⟨e.id, e.cls, e.subject, out, attempts, s.now⟩
             outcomeCount := (s.al.outcomeCount + 1) % 4294967296 } } →
     m =
       (if left then
         (if a.upgrade then createEntry .q1 e.subject [] (raise .alertResult r) else raise .alertResult (written r out e.cls))
       else
         written
           { b with al := { b.al with queue := b.al.queue.map fun x => if x.id = a.id then { x with cls := cls } else x } }
           .queued cls) →
     f =
       (match a.followOn with
         | none => m
         | some subj =>
           if left then offerAlert e.cls subj m
           else
             { m with
               al := { m.al with queue := m.al.queue.map fun x => if x.id = a.id then { x with subject := subj } else x } }) →
     w = syncModem { f with al := { f.al with windows := f.al.windows.filter fun g => g != a.frame } } →
     (s.pt.gasp = none ∨ s.sm.writing ≠ none → endAttempt ok s = w) ∧
     (∀ limit, s.pt.gasp = some limit → (∃ x ∈ w.al.queue, x.cls = .pwr ∧ x.subject = .tier .hibernate) →
       s.clk.watchRun < limit → endAttempt ok s = w) ∧
     (∀ limit, s.pt.gasp = some limit → s.sm.writing = none → s.pt.tier = .hibernate →
       (∀ x ∈ w.al.queue, ¬(x.cls = .pwr ∧ x.subject = .tier .hibernate)) ∨ limit ≤ s.clk.watchRun →
       ∃ t, endAttempt ok s = t ∧ t.al = { w.al with windows := [] } ∧ t.et = w.et ∧ t.pt.gasp = none ∧
         t.pt.enModem = false ∧ t.tb.clock = .watch ∧
         t.tb.grade = (if s.tb.grade = .tracking ∨ s.tb.grade = .locked then .hold else s.tb.grade) ∧
         ChangesOnly [.tb, .al, .pt, .sl] w t))

/-! ## Housekeeping and charge -/

/-- A scan at the expiry of its timer: the calibrated readings with their validity and out-of-range runs, the scan count, the
current counted, the two resync runs with the full and the empty resync, the charge switch, and the time of the next scan; before
the expiry nothing happens (R138 to R145, R148). After that, where the tier stays, come the low-current test and HC's decision,
and nothing else (R141, R159, R164). The order within a scan and the periodic timer are the model's reading (log entries 16 and
32). That a resync time is held without the grade it was taken under is the model's choice (log entry 45). -/
def Obligations.ScanMeasuresAndCounts : Prop :=
  ∀ (d : Elapsed) (raw : RawScan) (s : State), s.powered = true →
    ((s.elapse d).clk.watchRun < s.hm.scanDue → exec (.housekeepingScan d raw) s = .next (s.elapse d)) ∧
    (s.hm.scanDue ≤ (s.elapse d).clk.watchRun →
      ∃ t, exec (.housekeepingScan d raw) s = .next t ∧ t.clk = (s.elapse d).clk ∧ t.lines = { s.lines with ain := raw } ∧
        (∀ reading : Reading → Calibration → Int → Int → Fin 4096 → Reading,
          (reading = fun r c lo hi v =>
            if 0 < v.val ∧ v.val < 4095 then ⟨some (max lo (min (((v.val : Int) - c.offset) * c.gain / 4096) hi)), true, 0⟩
            else ⟨r.value, r.valid && decide (r.run + 1 < 3), min 3 (r.run + 1)⟩) →
          t.hm =
            { readings :=
                { vbat := reading s.hm.readings.vbat s.hm.cal.vbat 0 65535 raw.vbat
                  ibat := reading s.hm.readings.ibat s.hm.cal.ibat (-32768) 32767 raw.ibat
                  tbat := reading s.hm.readings.tbat s.hm.cal.tbat (-600) 1000 raw.tbat
                  tenc := reading s.hm.readings.tenc s.hm.cal.tenc (-600) 1000 raw.tenc
                  vsrc := reading s.hm.readings.vsrc s.hm.cal.vsrc 0 65535 raw.vsrc
                  ihtr := reading s.hm.readings.ihtr s.hm.cal.ihtr (-32768) 32767 raw.ihtr }
              cal := s.hm.cal, interval := if t.pt.tier = .hibernate then 60 else 1
              scanDue := s.hm.scanDue + (if t.pt.tier = .hibernate then 60 else 1) * 32768
              scanCount := (s.hm.scanCount + 1) % 4294967296 }) ∧
        (t.ca.chargeOn = true ↔
          (∃ v, t.hm.readings.vsrc.valid = true ∧ t.hm.readings.vsrc.value = some v ∧ s.ca.limits.vSrcMin ≤ v) ∧
            (∃ x, t.hm.readings.tbat.valid = true ∧ t.hm.readings.tbat.value = some x ∧ s.ca.limits.chgTmin ≤ x ∧
              x ≤ s.ca.limits.chgTmax) ∧
            t.ca.fullLatch = false) ∧
        (∀ (v i : Int) (cap : Nat) (q : Int) (soc : Nat) (full empty : Bool), s.ca.estimateMark = false →
          s.ca.limits.vEmpty < s.ca.limits.vFull → t.hm.readings.vbat.valid = true → t.hm.readings.vbat.value = some v →
          t.hm.readings.ibat.valid = true → t.hm.readings.ibat.value = some i → cap = s.ca.limits.capacityMah * 3600 →
          q =
            max 0 (min
              (if 0 < i then s.ca.q + i * s.hm.interval * s.ca.limits.eff / 256 else s.ca.q + i * s.hm.interval) cap) →
          soc = (q * 1000 / cap).toNat → full = decide (s.ca.limits.vFull ≤ v ∧ 0 < i ∧ i ≤ s.ca.limits.iTaper) →
          empty = decide (v ≤ s.ca.limits.vEmpty) →
          t.ca =
            if full ∧ 60 ≤ s.ca.fullRun + 1 then
              { s.ca with
                q := cap, soc := 1000, fullLatch := true, estimated := false, lastFull := some (s.elapse d).now
                fullRun := 0, emptyRun := 0, chargeOn := t.ca.chargeOn }
            else if empty ∧ 10 ≤ s.ca.emptyRun + 1 then
              { s.ca with
                q := 0, soc := 0, fullLatch := false, estimated := false, lastEmpty := some (s.elapse d).now
                fullRun := 0, emptyRun := 0, chargeOn := t.ca.chargeOn }
            else
              { s.ca with
                q := q, soc := soc, fullLatch := s.ca.fullLatch && decide (950 ≤ soc)
                fullRun := if full then s.ca.fullRun + 1 else 0, emptyRun := if empty then s.ca.emptyRun + 1 else 0
                chargeOn := t.ca.chargeOn }) ∧
        (s.ca.estimateMark = false → t.hm.readings.ibat.valid = false →
          t.ca.uncounted = (s.ca.uncounted + 1) % 4294967296 ∧ t.ca.fullRun = 0 ∧
            (s.ca.emptyRun < 9 → t.ca.q = s.ca.q ∧ t.ca.soc = s.ca.soc)) ∧
        (s.pt.tier ≠ .hibernate → t.pt.tier = s.pt.tier →
          ChangesOnly [.si, .tu, .et, .hm, .ca, .hc, .lines] (s.elapse d) t) ∧
        (∀ u : State,
          u =
            { s.elapse d with
              lines := { s.lines with ain := raw }, ca := t.ca
              hm := { s.hm with readings := t.hm.readings, scanCount := t.hm.scanCount } } →
          t.pt.tier = s.pt.tier →
          t = { heaterDecide false (lowCurrentTest u) with hm := t.hm, pt := t.pt, tb := t.tb }))

/-- The voltage estimate: the SoC of point 1 at or below its voltage, that of point 8 at or above its voltage, and the floored line
between two neighbouring points; a scan whose estimate is due sets q from it in place of the counting (R146, R147). -/
def Obligations.VoltageEstimateByTable : Prop :=
  (∀ (t : OcTable) (v : Int), TableOk t →
    (v ≤ (t.get 0).mv → estimateSoc t v = (t.get 0).soc) ∧ ((t.get 7).mv ≤ v → estimateSoc t v = (t.get 7).soc) ∧
      ∀ i : Fin 7, (t.get i.castSucc).mv ≤ v → v < (t.get i.succ).mv →
        estimateSoc t v =
          (t.get i.castSucc).soc +
            (v - (t.get i.castSucc).mv) * ((t.get i.succ).soc - (t.get i.castSucc).soc : Int) /
              ((t.get i.succ).mv - (t.get i.castSucc).mv : Int)) ∧
  (∀ (d : Elapsed) (raw : RawScan) (s : State) (q : Int), s.powered = true → s.hm.scanDue ≤ (s.elapse d).clk.watchRun →
    s.ca.estimateMark = true → s.ca.fullRun < 59 → s.ca.emptyRun < 9 → 0 < raw.vbat.val ∧ raw.vbat.val < 4095 →
    q =
      estimateSoc s.ca.table
          (max 0 (min (((raw.vbat.val : Int) - s.hm.cal.vbat.offset) * s.hm.cal.vbat.gain / 4096) 65535)) *
        (s.ca.limits.capacityMah * 3600 : Nat) / 1000 →
    ∃ t, exec (.housekeepingScan d raw) s = .next t ∧ t.ca.q = q ∧
      t.ca.soc = (q * 1000 / (s.ca.limits.capacityMah * 3600 : Nat)).toNat ∧ t.ca.estimated = true ∧
      t.ca.estimateMark = false ∧ t.ca.uncounted = s.ca.uncounted)

/-- BATTERY SET with each part: a payload of the wrong length and a broken cross-condition are refused, and otherwise every value of
the part, limited to its range, is replaced at once; new limits act on q and the charge switch; the reply carries the values in
force (R149, R150). A part code that names no part is refused by each of the three rows, and an empty payload with BAD_LENGTH: which
row executes a part and the refusal of an empty payload are the model's conventions (log entries 3 and 19). That every taken LIMITS
evaluates the charge switch, and which limits are read signed, is the model's choice (log entry 36). -/
def Obligations.BatterySetReplacesPart : Prop :=
  ∀ (d : Elapsed) (s : State) (pre : List Request) (r : Request) (post : List Request) (c : Instr)
    (limits : BatteryLimits → List Byte) (table : OcTable → List Byte) (cal : Six Calibration → List Byte),
    Front s pre r post → r.kind = 0x49 →
    (limits = fun x =>
      putU 2 x.capacityMah ++ putU 2 x.eff ++ putU 2 x.vFull ++ putU 2 x.iTaper ++ putU 2 x.vEmpty ++ putU 2 x.vSrcMin ++
        putS 2 x.chgTmin ++ putS 2 x.chgTmax) →
    (table = fun x => x.toList.flatMap fun p => putU 2 p.mv ++ putU 2 p.soc) →
    (cal = fun x => [x.vbat, x.ibat, x.tbat, x.tenc, x.vsrc, x.ihtr].flatMap fun k => putU 2 k.offset ++ putU 2 k.gain) →
    (c = .batterySetLimits d ∨ c = .batterySetCalibration d ∨ c = .batterySetTable d →
      (r.payload = [] → Answers c s pre r post (s.elapse d) [0x03]) ∧
      (∀ (b : Byte) (p : List Byte), r.payload = b :: p → 2 < b.toNat → Answers c s pre r post (s.elapse d) [0x04])) ∧
    (∀ p : List Byte, r.payload = 0 :: p → p.length ≠ 16 →
      Answers (.batterySetLimits d) s pre r post (s.elapse d) (0x03 :: limits s.ca.limits)) ∧
    (∀ x y : BatteryLimits, r.payload = 0 :: limits x →
      x.capacityMah < 65536 ∧ x.eff < 65536 ∧ x.vFull < 65536 ∧ x.iTaper < 65536 ∧ x.vEmpty < 65536 ∧ x.vSrcMin < 65536 ∧
        (-32768 ≤ x.chgTmin ∧ x.chgTmin ≤ 32767) ∧ (-32768 ≤ x.chgTmax ∧ x.chgTmax ≤ 32767) →
      y =
        { capacityMah := max 100 (min x.capacityMah 60000), eff := max 200 (min x.eff 256)
          vFull := max 12000 (min x.vFull 16000), iTaper := max 1 (min x.iTaper 2000)
          vEmpty := max 10000 (min x.vEmpty 13000), vSrcMin := max 10000 (min x.vSrcMin 20000)
          chgTmin := max (-300) (min x.chgTmin 200), chgTmax := max 0 (min x.chgTmax 600) } →
      (y.vFull ≤ y.vEmpty ∨ y.chgTmax ≤ y.chgTmin →
        Answers (.batterySetLimits d) s pre r post (s.elapse d) (0x04 :: limits s.ca.limits)) ∧
      (y.vEmpty < y.vFull → y.chgTmin < y.chgTmax →
        ∃ t, Answers (.batterySetLimits d) s pre r post t ((if x = y then 0x00 else 0x01) :: limits y) ∧
          ChangesOnly [.ca] (s.elapse d) t ∧ t.ca.chargeOn = chargeAllowed t.ca s.hm.readings ∧
          t.ca =
            if y.capacityMah = s.ca.limits.capacityMah then { s.ca with limits := y, chargeOn := t.ca.chargeOn }
            else
              { s.ca with
                limits := y, q := min s.ca.q (y.capacityMah * 3600 : Nat)
                soc := (min s.ca.q (y.capacityMah * 3600 : Nat) * 1000 / (y.capacityMah * 3600 : Nat)).toNat
                fullLatch :=
                  s.ca.fullLatch &&
                    decide (950 ≤ (min s.ca.q (y.capacityMah * 3600 : Nat) * 1000 / (y.capacityMah * 3600 : Nat)).toNat)
                estimated := true, chargeOn := t.ca.chargeOn })) ∧
    (∀ p : List Byte, r.payload = 1 :: p → p.length ≠ 24 →
      Answers (.batterySetCalibration d) s pre r post (s.elapse d) (0x03 :: cal s.hm.cal)) ∧
    (∀ (x y : Six Calibration) (near : Calibration → Calibration), r.payload = 1 :: cal x →
      (∀ k ∈ [x.vbat, x.ibat, x.tbat, x.tenc, x.vsrc, x.ihtr], k.offset < 65536 ∧ k.gain < 65536) →
      (near = fun k => ⟨min k.offset 4095, max 1 k.gain⟩) →
      y = ⟨near x.vbat, near x.ibat, near x.tbat, near x.tenc, near x.vsrc, near x.ihtr⟩ →
      Answers (.batterySetCalibration d) s pre r post { s.elapse d with hm := { s.hm with cal := y } }
        ((if x = y then 0x00 else 0x01) :: cal y)) ∧
    (∀ p : List Byte, r.payload = 2 :: p → p.length ≠ 32 →
      Answers (.batterySetTable d) s pre r post (s.elapse d) (0x03 :: table s.ca.table)) ∧
    (∀ x y : OcTable, r.payload = 2 :: table x → (∀ p ∈ x.toList, p.mv < 65536 ∧ p.soc < 65536) →
      (∀ i, y.get i = ⟨(x.get i).mv, min (x.get i).soc 1000⟩) →
      ((∃ i : Fin 7, (y.get i.succ).mv ≤ (y.get i.castSucc).mv ∨ (y.get i.succ).soc < (y.get i.castSucc).soc) →
        Answers (.batterySetTable d) s pre r post (s.elapse d) (0x04 :: table s.ca.table)) ∧
      ((∀ i : Fin 7, (y.get i.castSucc).mv < (y.get i.succ).mv ∧ (y.get i.castSucc).soc ≤ (y.get i.succ).soc) →
        Answers (.batterySetTable d) s pre r post { s.elapse d with ca := { s.ca with table := y } }
          ((if x = y then 0x00 else 0x01) :: table y)))

/-! ## Heater -/

/-- One decision of the heater controller: the control temperature, the demands by the table of R156, the target by the table of
R157, and the change applied at once when it is immediate, when no event is in progress, with no deferral set, or at the
deadline; deferred with its record otherwise; and none applied in FAULT (R155 to R163, R165). A change applied is a switching
instant: it sets SI's heat mark, starts TU's quiet window and gives the event in progress HEATER_SWITCHED, and changes nothing
else (R53, R163). That a switching instant in the settle reaches no other block is the model's reading (log entry 25). -/
def Obligations.HeaterDecides : Prop :=
  ∀ (s t : State) (atDeadline : Bool) (tc : Option Int) (demand guard want immediate : Bool) (target : HeaterState) (h : Heater),
    tc =
      (if s.hm.readings.tbat.valid ∧ s.hm.readings.tbat.value ≠ none then s.hm.readings.tbat.value
      else if s.hm.readings.tenc.valid then s.hm.readings.tenc.value
      else none) →
    demand = (match tc with
      | none => false
      | some x =>
        if x ≤ s.hc.params.damageLow then true
        else if x < s.hc.params.damageLow + 50 then x ≤ s.hc.params.heatOn || s.hc.demand
        else if x ≤ s.hc.params.heatOn then true
        else if x < s.hc.params.heatOff then s.hc.demand
        else false) →
    guard = (match tc with
      | none => false
      | some x => x ≤ s.hc.params.damageLow || (x < s.hc.params.damageLow + 50 && s.hc.coldGuard)) →
    want = ((demand || guard) && (match tc with
      | none => false
      | some x => decide (x < s.hc.params.overheat))) →
    target =
      (if want = false then .off
      else if s.hm.readings.vsrc.valid ∧ (∃ v, s.hm.readings.vsrc.value = some v ∧ s.ca.limits.vSrcMin ≤ v) then .onSrc
      else if s.pt.tier = .full ∨ (s.pt.tier = .conserve ∧ s.hc.params.reserve ≤ s.ca.soc) ∨
          (s.pt.tier ≠ .hibernate ∧ guard = true) then .onBat
      else .off) →
    immediate =
      (if s.hc.state = .off then guard
      else if target = .off then
        want || (match tc with
          | none => true
          | some x => decide (s.hc.params.overheat ≤ x))
      else true) →
    h = { s.hc with demand := demand, coldGuard := guard, target := target } →
    t = heaterDecide atDeadline s →
    (s.hc.state = .fault → t = { s with hc := h }) ∧
    (s.hc.state ≠ .fault → target = s.hc.state → t = { s with hc := { h with change := none } }) ∧
    (s.hc.state ≠ .fault → target ≠ s.hc.state →
      immediate = true ∨ (s.tu.det ≠ .open ∧ s.tu.det ≠ .post) ∨ s.hc.params.deferLimit = 0 ∨ atDeadline = true →
      t.hc = { h with state := target, change := none, lastSwitch := some s.now, lowRun := 0 } ∧ SwitchingInstant s t) ∧
    (s.hc.state ≠ .fault → target ≠ s.hc.state → immediate = false → s.tu.det = .open ∨ s.tu.det = .post →
      s.hc.params.deferLimit ≠ 0 → atDeadline = false →
      t =
        { s with
          hc :=
            { h with
              change :=
                match s.hc.change with
                | some x => some { x with wanted := target }
                | none => some ⟨target, s.now, s.clk.watchRun + s.hc.params.deferLimit * 32768⟩ } })

/-- The low-current test of a scan, with FAULT at its third counted scan, a switching instant with all its effects (R163, R164);
HEATER FAULT CLEAR, HEATER SET and the deadline of a pending change, each with the decision it makes (R162, R165, R166). That
overheat is read signed on the wire is the model's choice (log entry 36). That a switching instant in the settle reaches no other
block is the model's reading (log entry 25). -/
def Obligations.HeaterFaultAndRequests : Prop :=
  (∀ (s t : State) (low : Bool), t = lowCurrentTest s →
    low = (match s.hm.readings.ihtr.valid, s.hm.readings.ihtr.value with
      | true, some i => decide (i < 100)
      | _, _ => true) →
    ((s.hc.state ≠ .onSrc ∧ s.hc.state ≠ .onBat) ∨ low = false → t = { s with hc := { s.hc with lowRun := 0 } }) ∧
    (s.hc.state = .onSrc ∨ s.hc.state = .onBat → low = true → s.hc.lowRun < 2 →
      t = { s with hc := { s.hc with lowRun := s.hc.lowRun + 1 } }) ∧
    (s.hc.state = .onSrc ∨ s.hc.state = .onBat → low = true → 2 ≤ s.hc.lowRun →
      t.hc =
          { s.hc with
            state := .fault, change := none, lowRun := 0, faults := min 255 (s.hc.faults + 1), lastSwitch := some s.now } ∧
        t.enHeatSrc = false ∧ t.enHeatBat = false ∧ SwitchingInstant s t)) ∧
  (∀ (d : Elapsed) (s : State), s.powered = true →
    (∀ x, s.hc.change = some x → x.deadline ≤ (s.elapse d).clk.watchRun →
      exec (.heaterDeferDeadline d) s = .next (heaterDecide true (s.elapse d))) ∧
    ((∀ x, s.hc.change = some x → (s.elapse d).clk.watchRun < x.deadline) →
      exec (.heaterDeferDeadline d) s = .next (s.elapse d))) ∧
  (∀ (d : Elapsed) (s : State) (pre : List Request) (r : Request) (post : List Request) (bytes : HeaterParams → List Byte),
    Front s pre r post →
    (bytes = fun x =>
      putS 2 x.heatOn ++ putS 2 x.heatOff ++ putS 2 x.damageLow ++ putS 2 x.overheat ++ putU 2 x.reserve ++
        putU 2 x.deferLimit) →
    (r.kind = 0x51 → r.payload = [] →
      (s.hc.state ≠ .fault → Answers (.heaterFaultClear d) s pre r post (s.elapse d) [0x05]) ∧
      (s.hc.state = .fault →
        Answers (.heaterFaultClear d) s pre r post
          (heaterDecide false { s.elapse d with hc := { s.hc with state := .off } }) [0x00])) ∧
    (r.kind = 0x50 → r.payload.length ≠ 12 →
      Answers (.heaterSet d) s pre r post (s.elapse d) (0x03 :: bytes s.hc.params)) ∧
    (∀ x y : HeaterParams, r.kind = 0x50 → r.payload = bytes x →
      (∀ v ∈ [x.heatOn, x.heatOff, x.damageLow, x.overheat], -32768 ≤ v ∧ v ≤ 32767) → x.reserve < 65536 →
      x.deferLimit < 65536 →
      y =
        { heatOn := max (-400) (min x.heatOn 400), heatOff := max (-350) (min x.heatOff 500)
          damageLow := max (-500) (min x.damageLow 0), overheat := max 100 (min x.overheat 800)
          reserve := min x.reserve 1000, deferLimit := min x.deferLimit 300 } →
      (y.heatOn < y.damageLow + 50 ∨ y.heatOff ≤ y.heatOn ∨ y.overheat ≤ y.heatOff →
        Answers (.heaterSet d) s pre r post (s.elapse d) (0x04 :: bytes s.hc.params)) ∧
      (y.damageLow + 50 ≤ y.heatOn → y.heatOn < y.heatOff → y.heatOff < y.overheat →
        Answers (.heaterSet d) s pre r post (heaterDecide false { s.elapse d with hc := { s.hc with params := y } })
          ((if x = y then 0x00 else 0x01) :: bytes y))))

/-! ## Power tiers and rails -/

/-- The tier that a scan leaves behind: HIBERNATE at the cut; otherwise the band when it lies below the present tier, and else the
highest tier above it whose lower threshold plus hysteresis the SoC reaches; in HIBERNATE a scan that meets the exit condition exits
at once during the last gasp, with the tier change's effects, and begins the exit from the watch clock (R168 to R172, R175 to R177).
The order within a scan is the model's reading (log entry 16). -/
def Obligations.ScanEvaluatesTier : Prop :=
  ∀ (d : Elapsed) (raw : RawScan) (s t : State) (cut : Prop) (low : Tier → Nat) (band : Tier),
    s.powered = true → s.hm.scanDue ≤ (s.elapse d).clk.watchRun → exec (.housekeepingScan d raw) s = .next t →
    (cut ↔ t.hm.readings.vbat.valid = true ∧ ∃ v, t.hm.readings.vbat.value = some v ∧ v ≤ s.pt.params.vCut) →
    (low = fun x => match x with
      | .full => s.pt.params.conserveBelow
      | .conserve => s.pt.params.surviveBelow
      | .survive => s.pt.params.hibernateBelow
      | .hibernate => 0) →
    band =
      (if low .full ≤ t.ca.soc then .full
      else if low .conserve ≤ t.ca.soc then .conserve
      else if low .survive ≤ t.ca.soc then .survive
      else .hibernate) →
    (s.pt.tier ≠ .hibernate →
      (cut → t.pt.tier = .hibernate) ∧
      (¬cut → band.rank < s.pt.tier.rank → t.pt.tier = band) ∧
      (¬cut → s.pt.tier.rank ≤ band.rank →
        (∀ x : Tier, s.pt.tier.rank < x.rank → low x + s.pt.params.hysteresis ≤ t.ca.soc →
          (∀ y : Tier, x.rank < y.rank → t.ca.soc < low y + s.pt.params.hysteresis) → t.pt.tier = x) ∧
        ((∀ x : Tier, s.pt.tier.rank < x.rank → t.ca.soc < low x + s.pt.params.hysteresis) →
          t.pt.tier = s.pt.tier))) ∧
    (s.pt.tier = .hibernate →
      (cut ∨ t.ca.soc < low .survive + s.pt.params.hysteresis →
        t.pt.tier = .hibernate ∧ t.tb.clock = s.tb.clock ∧ t.pt.exitMark = s.pt.exitMark ∧ t.pt.gasp = s.pt.gasp) ∧
      (¬cut → low .survive + s.pt.params.hysteresis ≤ t.ca.soc →
        (s.pt.gasp ≠ none →
          t.pt.gasp = none ∧
            t.pt.tier =
              (if low .full + s.pt.params.hysteresis ≤ t.ca.soc then .full
              else if low .conserve + s.pt.params.hysteresis ≤ t.ca.soc then .conserve
              else .survive) ∧
            t.tb.clock = s.tb.clock ∧ t.pt.tierTime = (s.elapse d).now ∧ t.sl.flags &&& 0x10 ≠ 0 ∧ t.pt.enSens = true ∧
            (t.pt.enModem = true ↔ t.pt.tier = .full ∨ t.al.windows ≠ [] ∨ t.al.attempt ≠ none) ∧
            (s.pt.host = .shed → t.pt.host = if t.pt.tier = .survive then .shed else .on) ∧
            ∀ c ∈ enabledChannels t.pt.tier, (t.tu.chans.get c).state = .warmup) ∧
        (s.pt.gasp = none → s.tb.clock = .watch → s.pt.exitMark = false →
          t.pt.tier = .hibernate ∧ t.pt.exitMark = true ∧ t.tb.clock = .settle ((s.elapse d).clk.watchRun + 4096)) ∧
        (s.pt.gasp = none → s.pt.exitMark = true →
          t.pt.tier = .hibernate ∧ t.pt.exitMark = true ∧ t.tb.clock = s.tb.clock)))

/-- What a change of tier at a scan brings: its time, POWER_TIER raised, the PWR alert of the new tier, which a QUEUED PWR entry
takes as its subject, one in flight as its follow-on subject, and for which an entry is created when there is none, the sensor
rail, the host rail by the table of R177 with the wakes by TIER and, where the table leaves the host asleep or dozing, by
POWER_TIER in the wake mask, the modem rail by the demand, the rail window at the change from FULL, the channels that leave and
join, with FE's pending swap and waiting passes of one that leaves and the cleared context of one that joins, the patrol's stop
or fresh start, the heater's decision with the heat mark of a switching instant, and at the entry to HIBERNATE the event closed,
the routes off, SI's window abandoned with its STEP mark carried over, the quiet window cleared and the last gasp holding (R29,
R32, R39, R49, R54, R80, R89, R116, R124, R159, R163, R164, R170 to R173, R177, R179). The order of these effects, and that the
quiet window is cleared last, is the model's reading (log entries 15 and 27). That GRACE to ON is no on event is the model's
reading (log entry 39). That the PWR entry created at the entry to HIBERNATE takes disciplined time, and not the watch time, as
its created time is the model's choice (log entry 42). That a switching instant sets the heat mark while TB is on the main clock
alone, and not in the settle, is the model's reading (log entry 25). -/
def Obligations.TierChangeEffects : Prop :=
  ∀ (d : Elapsed) (raw : RawScan) (s t : State), s.powered = true → s.hm.scanDue ≤ (s.elapse d).clk.watchRun →
    exec (.housekeepingScan d raw) s = .next t → s.pt.tier ≠ .hibernate → s.pt.gasp = none → t.pt.tier ≠ s.pt.tier →
    t.pt.tierTime = (s.elapse d).now ∧ t.sl.flags &&& 0x10 ≠ 0 ∧
      (t.pt.enSens = true ↔ t.pt.tier ≠ .hibernate) ∧
      (∀ e, s.al.queue.find? (fun x => x.cls = .pwr) = some e → e.inFlight = false →
        s.al.queue.length < 16 → (∀ x ∈ s.al.queue, x.id = e.id → x = e) → s.tu.det = .idle ∨ s.tu.det = .disarmed →
        { e with subject := .tier t.pt.tier } ∈ t.al.queue) ∧
      ((∀ x ∈ s.al.queue, x.cls ≠ .pwr) → s.al.queue.length < 15 →
        ⟨s.al.idCounter, .pwr, .tier t.pt.tier, (s.elapse d).now, [], false, 0⟩ ∈ t.al.queue) ∧
      (∀ e, s.al.queue.find? (fun x => x.cls = .pwr) = some e → e.inFlight = true → (∀ x ∈ s.al.queue, x.id = e.id → x = e) →
        t.al.attempt = s.al.attempt.map (fun a => { a with followOn := some (.tier t.pt.tier) }) ∧ e ∈ t.al.queue ∧
          ∀ x ∈ t.al.queue, x.cls = .pwr → x ∈ s.al.queue) ∧
      (s.tu.det ≠ .idle ∨ t.pt.tier = .hibernate ∨ enabledChannels t.pt.tier = enabledChannels s.pt.tier →
        t.al = { (offerAlert .pwr (.tier t.pt.tier) (s.elapse d)).al with windows := t.al.windows }) ∧
      (∀ h : HostRail,
        h =
          (match t.pt.tier, s.pt.host with
          | .hibernate, _ => .shed
          | .survive, .on => .grace ((s.elapse d).clk.watchRun + 983040)
          | .survive, .dozing (some due) => .grace (min due ((s.elapse d).clk.watchRun + 983040))
          | .survive, .dozing none => .grace ((s.elapse d).clk.watchRun + 983040)
          | .survive, .asleep => .shed
          | .survive, .cycling _ => .shed
          | .full, .asleep => if s.pt.tier = .conserve then .on else .asleep
          | .full, .dozing x => if s.pt.tier = .conserve then .on else .dozing x
          | .full, .grace x => if s.pt.tier = .survive then .on else .grace x
          | .full, .shed => if s.pt.tier = .survive then .on else .shed
          | .conserve, .grace x => if s.pt.tier = .survive then .on else .grace x
          | .conserve, .shed => if s.pt.tier = .survive then .on else .shed
          | _, x => x) →
        (s.sl.wakeMask = 0 ∨ (h ≠ .asleep ∧ ∀ x, h ≠ .dozing x) → t.pt.host = h) ∧
        (s.sl.wakeMask &&& 0x10 ≠ 0 → h = .asleep ∨ (∃ x, h = .dozing x) →
          t.pt.host = .on ∧ t.pt.lastWake = some .attention) ∧
        (t.pt.host ≠ s.pt.host → t.pt.wakeTime = none)) ∧
      (s.pt.tier = .conserve → t.pt.tier = .full → s.pt.host = .asleep ∨ (∃ x, s.pt.host = .dozing x) →
        t.pt.lastWake = some .tier) ∧
      (t.pt.tier ≠ .hibernate →
        (t.pt.enModem = true ↔ t.pt.tier = .full ∨ t.al.windows ≠ [] ∨ t.al.attempt ≠ none)) ∧
      (∀ f g, s.pt.tier = .full → t.pt.tier = .conserve ∨ t.pt.tier = .survive → f = (s.elapse d).now.sec / 60 →
        g =
          (if (s.elapse d).now.toNs < f * 60000000000 + 100000000 ∨
              (∃ x, s.al.decided = some x ∧ x.frame = f ∧ x.taken = false) then f
          else f + 1) →
        ((∃ e ∈ t.al.queue, e.inFlight = false ∧ Admitted t e) →
          t.al.windows = if g ∈ s.al.windows then s.al.windows else s.al.windows ++ [g]) ∧
        ((∀ e ∈ t.al.queue, e.inFlight = true ∨ ¬Admitted t e) → t.al.windows = s.al.windows)) ∧
      (∀ c, c ∈ enabledChannels s.pt.tier → c ∉ enabledChannels t.pt.tier →
        (t.tu.chans.get c).state = .disabled ∧ (t.ws.chans.get c).route = .off) ∧
      (∀ c, c ∉ enabledChannels s.pt.tier → c ∈ enabledChannels t.pt.tier →
        (t.tu.chans.get c).state = .warmup ∧ (t.tu.chans.get c).startPending = true ∧ (t.tu.chans.get c).warmCount = 0 ∧
          ((t.ws.chans.get c).route = .ring ∨ (t.ws.chans.get c).route = .starved ∨ ∃ n, (t.ws.chans.get c).route = .event n)) ∧
      (∀ c, t.fe.ctx.get c =
        if c ∈ enabledChannels s.pt.tier ∧ c ∉ enabledChannels t.pt.tier then
          (match (s.fe.ctx.get c).swapPending, (s.fe.ctx.get c).active with
            | false, _ => s.fe.ctx.get c
            | true, .a => { s.fe.ctx.get c with active := .b, swapPending := false }
            | true, .b => { s.fe.ctx.get c with active := .a, swapPending := false })
        else if c ∉ enabledChannels s.pt.tier ∧ c ∈ enabledChannels t.pt.tier then
          { s.fe.ctx.get c with delay := Vector.replicate 32 0, w := 0, y := 0, sat := false }
        else s.fe.ctx.get c) ∧
      (t.fe.waiting.flatMap fun x => x.items.map fun y => (x.time, y)) =
        ((s.fe.waiting.flatMap fun x => x.items.map fun y => (x.time, y)).filter fun y =>
          !decide (y.2.1 ∈ enabledChannels s.pt.tier ∧ y.2.1 ∉ enabledChannels t.pt.tier)) ∧
      t.ws.patrolDue =
        (if t.pt.tier = .survive ∨ t.pt.tier = .hibernate then none
        else if s.pt.tier ≠ .survive then s.ws.patrolDue
        else if s.ws.interval = 0 then none
        else some ((s.elapse d).clk.mainRun + s.ws.interval * 40000000)) ∧
      (∀ v : State, v = { t with hc := s.hc, tb := s.tb } → t.hc = (heaterDecide false (lowCurrentTest v)).hc) ∧
      t.si.heatMark = (s.si.heatMark || decide (s.tb.clock = .main ∧ t.hc.state ≠ s.hc.state)) ∧
      (t.pt.tier ≠ .hibernate → t.si = { s.si with heatMark := t.si.heatMark }) ∧
      (t.pt.tier = .hibernate →
        t.tu.det = .disarmed ∧ t.tu.auxPending = false ∧ t.tu.quietEnd = none ∧
          (s.pt.enSens = true → t.si.window = none ∧ t.si.aligned = false ∧ t.si.rx = [] ∧
            t.si.stepCarry = (s.si.stepCarry || decide (∃ w, s.si.window = some w ∧ w.step = true))) ∧
          t.hc.state ≠ .onBat ∧
          (∀ n, s.tu.det = .open ∨ s.tu.det = .post → s.tu.current = some n →
            ∀ x ∈ t.et.records, x.number = n → x.state = .closed ∧ x.flags.truncated = true) ∧
          ((∃ e ∈ t.al.queue, e.cls = .pwr ∧ e.subject = .tier .hibernate) →
            t.pt.gasp = some ((s.elapse d).clk.watchRun + 3932160) ∧ t.pt.enModem = true))

/-- The host rail's timers: the GRACE, DOZING and CYCLING deadlines and the silence limit, each with the state that follows, what
the rail event does to the link and the silence timer, and the power cycle counted; before them nothing happens (R177, R178, R180,
R181, R191). -/
def Obligations.HostRailTimers : Prop :=
  ∀ (d : Elapsed) (s off : State) (host : HostRail), s.powered = true →
    off =
      { s.elapse d with
        pt := { s.pt with host := host, silenceFrom := none }
        sl := { s.sl with rx := .hunt, list := [], tx := none, barrier := false } } →
    (∀ due, s.pt.host = .grace due →
      (due ≤ (s.elapse d).clk.watchRun → host = .shed → exec (.graceDeadline d) s = .next off) ∧
      ((s.elapse d).clk.watchRun < due → exec (.graceDeadline d) s = .next (s.elapse d))) ∧
    (∀ due, s.pt.host = .dozing (some due) →
      (due ≤ (s.elapse d).clk.watchRun → host = .asleep → exec (.dozeDeadline d) s = .next off) ∧
      ((s.elapse d).clk.watchRun < due → exec (.dozeDeadline d) s = .next (s.elapse d))) ∧
    (s.pt.host = .dozing none → exec (.dozeDeadline d) s = .next (s.elapse d)) ∧
    (∀ due, s.pt.host = .cycling due →
      (due ≤ (s.elapse d).clk.watchRun →
        exec (.cycleEnd d) s =
          .next { s.elapse d with
            pt := { s.pt with host := .on, silenceFrom := some (s.elapse d).clk.watchRun }
            sl := { s.sl with rx := .hunt, list := [] } }) ∧
      ((s.elapse d).clk.watchRun < due → exec (.cycleEnd d) s = .next (s.elapse d))) ∧
    (∀ f, s.pt.silenceFrom = some f →
      (s.pt.params.silenceLimit ≠ 0 → s.pt.params.silenceLimit ≤ ((s.elapse d).clk.watchRun - f) / 32768 →
        (s.pt.host = .on ∨ (∃ x, s.pt.host = .dozing x) → host = .cycling ((s.elapse d).clk.watchRun + 327680) →
          exec (.hostSilenceExpiry d) s =
            .next { off with pt := { off.pt with wakeTime := none, powerCycles := min 65535 (s.pt.powerCycles + 1) } }) ∧
        ((∃ x, s.pt.host = .grace x) → host = .shed →
          exec (.hostSilenceExpiry d) s =
            .next { off with pt := { off.pt with powerCycles := min 65535 (s.pt.powerCycles + 1) } })) ∧
      (s.pt.params.silenceLimit = 0 ∨ ((s.elapse d).clk.watchRun - f) / 32768 < s.pt.params.silenceLimit →
        exec (.hostSilenceExpiry d) s = .next (s.elapse d)))

/-- The last gasp ends when no attempt is in flight, no save runs, and its entry has gone or its limit has run out: the modem rail
goes off and the time base transfers to the watch clock, TRACKING and LOCKED becoming HOLD; otherwise it goes on (R17, R124, R174).
The end of the settle: time is loaded from the watch-time counter, the history from before is lost, and the grade follows u; then
the exit completes, the tier rising as R169 says, if its condition still holds, and otherwise the watch clock is taken again at
once (R18, R169, R176). -/
def Obligations.LastGaspAndSettleEnd : Prop :=
  (∀ (d : Elapsed) (s : State) (limit : Nat) (ended : Prop), s.powered = true → s.pt.tier = .hibernate →
     s.pt.gasp = some limit →
     (ended ↔
       s.al.attempt = none ∧ s.sm.writing = none ∧
         ((∀ e ∈ s.al.queue, ¬(e.cls = .pwr ∧ e.subject = .tier .hibernate)) ∨ limit ≤ (s.elapse d).clk.watchRun)) →
     (¬ended → exec (.lastGaspLimit d) s = .next (s.elapse d)) ∧
     (ended → s.pt.host = .shed →
       ∃ t, exec (.lastGaspLimit d) s = .next t ∧ ChangesOnly [.tb, .al, .pt, .sl] (s.elapse d) t ∧
         t.pt = { s.pt with gasp := none, enModem := false } ∧ t.al = { s.al with windows := [] } ∧
         (s.tb.grade ≠ .tracking → s.tb.grade ≠ .locked → t.tb = { s.tb with clock := .watch } ∧ t.sl = s.sl) ∧
         (s.tb.grade = .tracking ∨ s.tb.grade = .locked →
           t.tb =
               { s.tb with
                 clock := .watch, grade := .hold, rejectRun := if s.tb.grade = .locked then 0 else s.tb.rejectRun } ∧
             t.sl = { s.sl with flags := s.sl.flags ||| 0x08 }))) ∧
  (∀ (d : Elapsed) (s : State) (due : Nat) (met : Prop) (grade : Grade), s.powered = true → s.tb.clock = .settle due →
     s.pt.tier = .hibernate → s.pt.host = .shed → s.pt.gasp = none →
     (met ↔
       s.pt.exitMark = true ∧ s.pt.params.hibernateBelow + s.pt.params.hysteresis ≤ s.ca.soc ∧
         ¬(s.hm.readings.vbat.valid = true ∧ ∃ v, s.hm.readings.vbat.value = some v ∧ v ≤ s.pt.params.vCut)) →
     grade = (if s.tb.grade = .unset then .unset else if s.tb.u ≤ 10000000 then .hold else .free) →
     ((s.elapse d).clk.watchRun < due → exec (.settleEnd d) s = .next (s.elapse d)) ∧
     (due ≤ (s.elapse d).clk.watchRun →
       ∃ t, exec (.settleEnd d) s = .next t ∧ t.pt.exitMark = false ∧
         t.clk = { (s.elapse d).clk with time := (s.elapse d).clk.watch.toTime, frac := 0 } ∧
         t.tb =
           { s.tb with
             clock := if t.pt.tier = .hibernate then .watch else .main, grade := grade, labelRx := [], label := none
             lastPulse := none, lossTimer := none, goodRun := 0, rejectRun := 0
             movedTo := some (s.elapse d).clk.watch.toTime } ∧
         (grade ≠ s.tb.grade → t.sl.flags &&& 0x08 ≠ 0) ∧
         (¬met → t.pt.tier = .hibernate ∧ ChangesOnly [.clk, .tb, .et, .al, .pt, .sl] s t) ∧
         (met →
           t.pt.tier =
               (if s.pt.params.conserveBelow + s.pt.params.hysteresis ≤ s.ca.soc then .full
               else if s.pt.params.surviveBelow + s.pt.params.hysteresis ≤ s.ca.soc then .conserve
               else .survive) ∧
             t.pt.enSens = true ∧ t.pt.tierTime = (s.elapse d).now ∧
             (s.tu.params.vote ≠ 0 → (∀ c, (s.tu.chans.get c).state = .disabled) →
               t.tu.det = if s.tu.armed then .idle else .disarmed) ∧
             t.pt.host = (if t.pt.tier = .survive then .shed else .on) ∧ t.sl.flags &&& 0x10 ≠ 0 ∧
             ∀ c ∈ enabledChannels t.pt.tier, (t.tu.chans.get c).state = .warmup)))

/-- TIER SET replaces all six values, each limited to its range, unless the thresholds are out of order; HOST SLEEP in CONSERVE and
FULL takes the sleep record and DOZING, whose deadline the end of its reply will set, refuses a wake time not in the future, and in
the lower tiers changes nothing (R178, R183). -/
def Obligations.TierSetAndHostSleep : Prop :=
  ∀ (d : Elapsed) (s : State) (pre : List Request) (r : Request) (post : List Request) (bytes : TierParams → List Byte),
    Front s pre r post →
    (bytes = fun x =>
      putU 2 x.conserveBelow ++ putU 2 x.surviveBelow ++ putU 2 x.hibernateBelow ++ putU 1 x.hysteresis ++ putU 2 x.vCut ++
        putU 2 x.silenceLimit) →
    (r.kind = 0x58 → r.payload.length ≠ 11 → Answers (.tierSet d) s pre r post (s.elapse d) (0x03 :: bytes s.pt.params)) ∧
    (∀ x y : TierParams, r.kind = 0x58 → r.payload = bytes x →
      x.conserveBelow < 65536 ∧ x.surviveBelow < 65536 ∧ x.hibernateBelow < 65536 ∧ x.hysteresis < 256 ∧ x.vCut < 65536 ∧
        x.silenceLimit < 65536 →
      y =
        { conserveBelow := max 100 (min x.conserveBelow 950), surviveBelow := max 50 (min x.surviveBelow 900)
          hibernateBelow := max 20 (min x.hibernateBelow 500), hysteresis := max 10 (min x.hysteresis 100)
          vCut := max 10000 (min x.vCut 12500)
          silenceLimit := if x.silenceLimit = 0 then 0 else max 60 (min x.silenceLimit 3600) } →
      (y.surviveBelow ≤ y.hibernateBelow ∨ y.conserveBelow ≤ y.surviveBelow ∨ 1000 < y.conserveBelow + y.hysteresis →
        Answers (.tierSet d) s pre r post (s.elapse d) (0x04 :: bytes s.pt.params)) ∧
      (y.hibernateBelow < y.surviveBelow → y.surviveBelow < y.conserveBelow → y.conserveBelow + y.hysteresis ≤ 1000 →
        Answers (.tierSet d) s pre r post { s.elapse d with pt := { s.pt with params := y } }
          ((if x = y then 0x00 else 0x01) :: bytes y))) ∧
    (∀ (b : Byte) (w : List Byte), r.kind = 0x59 → r.payload = b :: w → w.length = 4 →
      (s.pt.tier = .survive ∨ s.pt.tier = .hibernate → Answers (.hostSleep d) s pre r post (s.elapse d) [0x00]) ∧
      (s.pt.tier = .full ∨ s.pt.tier = .conserve → b = 1 → be w ≤ (s.elapse d).now.sec →
        Answers (.hostSleep d) s pre r post (s.elapse d) [0x04]) ∧
      (s.pt.tier = .full ∨ s.pt.tier = .conserve → b = 0 ∨ (b = 1 ∧ (s.elapse d).now.sec < be w) →
        s.pt.host = .on ∨ (∃ x, s.pt.host = .dozing x) → (∀ x ∈ pre ++ post, x.atEnd ≠ .startDoze) →
        exec (.hostSleep d) s =
          .next { s.elapse d with
            pt := { s.pt with host := .dozing none, wakeTime := if b = 1 then some (be w) else none }
            sl := s.sl.replied pre r post .startDoze [0x00] }))

/-- What POWER GET replies, changing nothing: the readings, the charge, the rails and the heater, item by item (R151, R165,
R182). Widths and marks that no table gives are the model's reading (log entries 20 and 28), and the bytes of an absent
pending-change record its choice (log entry 28). That the two resync times stand in the reply without the grade they were taken
under is the model's choice (log entry 45). -/
def Obligations.PowerGetReplies : Prop :=
  ∀ (d : Elapsed) (s : State) (pre : List Request) (r : Request) (post : List Request) (left : Nat → Nat) (tc : Option Int),
    Front s pre r post → r.kind = 0x48 → r.payload = [] →
    (left = fun due => (due - (s.elapse d).clk.watchRun) / 32768) →
    tc =
      (if s.hm.readings.tbat.valid ∧ s.hm.readings.tbat.value ≠ none then s.hm.readings.tbat.value
      else if s.hm.readings.tenc.valid then s.hm.readings.tenc.value
      else none) →
    Answers (.powerGet d) s pre r post (s.elapse d)
      ([(0x00 : Byte)] ++
        ([s.hm.readings.vbat, s.hm.readings.ibat, s.hm.readings.tbat, s.hm.readings.tenc, s.hm.readings.vsrc,
            s.hm.readings.ihtr].flatMap fun x => putSOpt 2 x.value ++ putMark x.valid ++ putU 1 x.run) ++
        putU 4 s.ca.q.toNat ++ putU 4 (s.ca.limits.capacityMah * 3600) ++ putU 2 s.ca.soc ++ putMark s.ca.fullLatch ++
        putMark s.ca.estimated ++ putMark s.ca.estimateMark ++ putU 1 s.ca.fullRun ++ putU 1 s.ca.emptyRun ++
        putU 4 s.ca.uncounted ++ putU 4 s.hm.scanCount ++ putTimeOpt s.ca.lastFull ++ putTimeOpt s.ca.lastEmpty ++
        putU 1 s.hm.interval ++ putMark s.ca.chargeOn ++
        [s.pt.tier.code] ++ putTime s.pt.tierTime ++ [s.pt.host.code] ++ putMark s.pt.host.isOn ++
        (match s.pt.host with
          | .dozing (some due) => [(1 : Byte)] ++ putU 1 (left due)
          | .cycling due => [(1 : Byte)] ++ putU 1 (left due)
          | .grace due => [(1 : Byte)] ++ putU 1 (left due)
          | _ => [(0 : Byte), 0]) ++
        putUOpt 4 s.pt.wakeTime ++
        (match s.pt.lastWake with
          | some .time => [(1 : Byte), 0]
          | some .attention => [1, 1]
          | some .tier => [1, 2]
          | none => [0, 0]) ++
        putU 4 (match s.pt.silenceFrom with
          | some f => ((s.elapse d).clk.watchRun - f) / 32768
          | none => 0) ++
        putU 2 s.pt.params.silenceLimit ++ putU 2 s.pt.powerCycles ++ putMark s.pt.enSens ++ putMark s.pt.enModem ++
        (match s.pt.gasp with
          | some due => [(1 : Byte), 1] ++ putU 1 (left due)
          | none => [(0 : Byte), 0, 0]) ++
        putMark s.pt.exitMark ++
        [s.hc.state.code] ++ putSOpt 2 tc ++
        [(if tc = none then 0 else if s.hm.readings.tbat.valid ∧ s.hm.readings.tbat.value ≠ none then 0 else 1 : Byte)] ++
        putMark s.hc.demand ++ putMark s.hc.coldGuard ++ [s.hc.target.code] ++
        (match s.hc.change with
          | some x => [(1 : Byte), x.wanted.code] ++ putTime x.since ++ putU 2 (left x.deadline)
          | none => [(0 : Byte), 0] ++ putTimeOpt none ++ putU 2 0) ++
        putU 1 s.hc.lowRun ++ putU 1 s.hc.faults ++ putTimeOpt s.hc.lastSwitch)

/-! ## Station link -/

/-- A raised flag is set whatever the masks say, and if its bit stands in the wake mask it wakes a sleeping or dozing host: the
rail's state becomes ON with the cause ATTENTION and the sleep record cleared, and from ASLEEP the rail comes on. In the other
states of the rail nothing but the flag changes (R179, R180, R192). The wake source TIME does the same, with its own cause, once the
present seconds count has reached the wake time, and nothing before or in the other states (R179). -/
def Obligations.RaiseSetsFlagAndWakes : Prop :=
  (∀ (s t : State) (f : AttnFlag) (b : BitVec 8), t = raise f s →
    b = (match f with
      | .eventOpened => 0x01
      | .eventClosed => 0x02
      | .alertResult => 0x04
      | .timeGrade => 0x08
      | .powerTier => 0x10
      | .store => 0x20
      | .clip => 0x40
      | .linkOverrun => 0x80) →
    (s.sl.wakeMask &&& b = 0 ∨ (s.pt.host ≠ .asleep ∧ ∀ x, s.pt.host ≠ .dozing x) →
      t = { s with sl := { s.sl with flags := s.sl.flags ||| b } }) ∧
    (∀ x, s.sl.wakeMask &&& b ≠ 0 → s.pt.host = .dozing x →
      t =
        { s with
          sl := { s.sl with flags := s.sl.flags ||| b }
          pt := { s.pt with host := .on, wakeTime := none, lastWake := some .attention } }) ∧
    (s.sl.wakeMask &&& b ≠ 0 → s.pt.host = .asleep →
      t =
        { s with
          sl := { s.sl with flags := s.sl.flags ||| b, rx := .hunt, list := [] }
          pt :=
            { s.pt with
              host := .on, wakeTime := none, lastWake := some .attention, silenceFrom := some s.clk.watchRun } }) ∧
    (t.attn = true ↔ ∃ i : Fin 8, t.sl.flags.getLsbD i = true ∧ t.sl.lineMask.getLsbD i = true)) ∧
  (∀ s t : State, t = wakeAtTime s →
    ((∀ w, s.pt.wakeTime = some w → s.now.sec < w) ∨ (s.pt.host ≠ .asleep ∧ ∀ x, s.pt.host ≠ .dozing x) → t = s) ∧
    (∀ w, s.pt.wakeTime = some w → w ≤ s.now.sec →
      (∀ x, s.pt.host = .dozing x → t = { s with pt := { s.pt with host := .on, wakeTime := none, lastWake := some .time } }) ∧
      (s.pt.host = .asleep →
        t =
          { s with
            sl := { s.sl with rx := .hunt, list := [] }
            pt :=
              { s.pt with host := .on, wakeTime := none, lastWake := some .time, silenceFrom := some s.clk.watchRun } })))

/-- A whole valid frame joins a list of fewer than 4 requests; with 4 it is dropped as an overrun that raises LINK_OVERRUN; either
way the silence timer starts again. A frame whose CRC fails is discarded and counted, and while the rail is off or the main clock
stopped no byte is taken (R181, R186, R187). That no byte is taken in the settle is the model's reading (log entry 25). -/
def Obligations.LinkFrameJoinsList : Prop :=
  ∀ (d : Elapsed) (s : State) (tag kind hi lo len : Byte) (p : List Byte), s.powered = true → p.length ≤ 240 →
    len.toNat = p.length →
    (s.pt.host.isOn = false ∨ s.tb.clock ≠ .main → ∀ bytes, exec (.linkFrame d bytes) s = .next (s.elapse d)) ∧
    (s.pt.host.isOn = true → s.tb.clock = .main → s.sl.rx = .hunt →
      (hi ++ lo = crc16 (len :: tag :: kind :: p) → s.sl.list.length < 4 →
        exec (.linkFrame d ([0xC3, 0x3C, len, tag, kind] ++ p ++ [hi, lo])) s =
          .next { s.elapse d with
            pt := { s.pt with silenceFrom := some (s.elapse d).clk.watchRun }
            sl :=
              { s.sl with
                list := s.sl.list ++ [⟨tag, kind, p, .waiting, .nothing⟩]
                takenCount := (s.sl.takenCount + 1) % 4294967296 } }) ∧
      (hi ++ lo = crc16 (len :: tag :: kind :: p) → 4 ≤ s.sl.list.length →
        exec (.linkFrame d ([0xC3, 0x3C, len, tag, kind] ++ p ++ [hi, lo])) s =
          .next (raise .linkOverrun
            { s.elapse d with
              pt := { s.pt with silenceFrom := some (s.elapse d).clk.watchRun }
              sl := { s.sl with overrunCount := (s.sl.overrunCount + 1) % 4294967296 } })) ∧
      (hi ++ lo ≠ crc16 (len :: tag :: kind :: p) →
        exec (.linkFrame d ([0xC3, 0x3C, len, tag, kind] ++ p ++ [hi, lo])) s =
          .next { s.elapse d with sl := { s.sl with discardCount := (s.sl.discardCount + 1) % 4294967296 } }))

/-- The transmitter starts the oldest request's reply frame when it is idle, that request has executed and HRDY is high, and only
then; at the frame's last byte the request leaves the list, a HOST SLEEP's DOZING deadline is set 5 s ahead, and a RESTART LINK
empties the list and clears the barrier (R178, R189, R190, R197). -/
def Obligations.RepliesLeaveInOrder : Prop :=
  ∀ (d : Elapsed) (s : State) (hrdy : Bool), s.powered = true →
    (∀ r rest reply body, s.sl.tx = none → s.sl.list = r :: rest → r.progress = .executed reply → hrdy = true →
      body = [BitVec.ofNat 8 reply.length, r.tag, r.kind ||| 0x80] ++ reply →
      exec (.replyStart d hrdy) s =
        .next { s.elapse d with
          lines := { s.lines with hrdy := true }
          sl :=
            { s.sl with
              tx := some ([0xC3, 0x3C] ++ body ++ [(crc16 body).extractLsb' 8 8, (crc16 body).extractLsb' 0 8]) } }) ∧
    (s.sl.tx ≠ none ∨ hrdy = false ∨ s.sl.list = [] ∨
        (∃ r rest, s.sl.list = r :: rest ∧ ∀ reply, r.progress ≠ .executed reply) →
      exec (.replyStart d hrdy) s = .next { s.elapse d with lines := { s.lines with hrdy := hrdy } }) ∧
    (s.sl.tx = none → exec (.replyComplete d) s = .next (s.elapse d)) ∧
    (∀ frame r rest, s.sl.tx = some frame → s.sl.list = r :: rest →
      (r.atEnd = .nothing →
        exec (.replyComplete d) s = .next { s.elapse d with sl := { s.sl with tx := none, list := rest } }) ∧
      (∀ x, r.atEnd = .startDoze → s.pt.host = .dozing x →
        exec (.replyComplete d) s =
          .next { s.elapse d with
            pt := { s.pt with host := .dozing (some ((s.elapse d).clk.watchRun + 163840)) }
            sl := { s.sl with tx := none, list := rest } }) ∧
      (r.atEnd = .emptyList →
        exec (.replyComplete d) s =
          .next { s.elapse d with sl := { s.sl with tx := none, list := [], barrier := false } }))

/-- IDENT: a payload of any length other than 0 is refused; otherwise OK with vendor, part, revision and serial, in every tier and
changing nothing (R195). -/
def Obligations.IdentReplies : Prop :=
  ∀ (d : Elapsed) (s : State) (pre : List Request) (r : Request) (post : List Request), Front s pre r post → r.kind = 0x01 →
    (r.payload ≠ [] → Answers (.ident d) s pre r post (s.elapse d) [0x03]) ∧
    (r.payload = [] →
      Answers (.ident d) s pre r post (s.elapse d)
        ([0x00, 0x2A, 0x71, 0x00, 0x62, 0x01] ++ putU 4 Config.serial.toNat))

/-- STATUS: a payload of any length other than 0 is refused; otherwise OK with the listed items as they stand, in every tier and
changing nothing (R196). -/
def Obligations.StatusReplies : Prop :=
  ∀ (d : Elapsed) (s : State) (pre : List Request) (r : Request) (post : List Request), Front s pre r post → r.kind = 0x02 →
    (r.payload ≠ [] → Answers (.status d) s pre r post (s.elapse d) [0x03]) ∧
    (r.payload = [] →
      Answers (.status d) s pre r post (s.elapse d)
        ([(0x00 : Byte)] ++ putTime (s.elapse d).now ++ [s.tb.grade.code] ++ putU 4 s.tb.u ++ [s.pt.tier.code] ++
          putU 2 s.ca.soc ++ [s.tu.det.code] ++
          ([Channel.z, .n, .e].map fun c => (s.tu.chans.get c).state.code) ++ putU 1 s.al.queue.length ++
          putU 2 ((List.finRange 256).countP fun p => (s.ws.pages.get p).state = .free) ++ [s.hc.state.code] ++
          putMark s.sm.defaultFlag ++ [s.sl.flags] ++ putU 4 s.sl.takenCount ++ putU 4 s.sl.discardCount ++
          putU 4 s.sl.overrunCount))

/-- ATTN MASK: a payload of the wrong length is refused; otherwise both masks take any pattern at once, ATTN follows the new line
mask, the flags stay, and a flag already set wakes nothing until its next raise, which does if its wake bit is set; both masks
start at EVENT_OPENED, ALERT_RESULT, TIME_GRADE and POWER_TIER (R194). -/
def Obligations.AttnMaskSetsMasks : Prop :=
  (∀ (d : Elapsed) (s : State) (pre : List Request) (r : Request) (post : List Request), Front s pre r post → r.kind = 0x04 →
    (r.payload.length ≠ 2 → Answers (.attnMask d) s pre r post (s.elapse d) [0x03]) ∧
    ∀ line wake : Byte, r.payload = [line, wake] →
      ∃ t, exec (.attnMask d) s = .next t ∧
        t = { s.elapse d with
          sl := { s.sl with lineMask := line, wakeMask := wake }.replied pre r post .nothing [0x00, line, wake] } ∧
        (t.attn = true ↔ s.sl.flags &&& line ≠ 0) ∧ t.pt.host = s.pt.host ∧
        ∀ (f : AttnFlag) (x : Option Nat), s.pt.host = .dozing x →
          (raise f t).pt.host = if wake &&& f.bit = 0 then .dozing x else .on) ∧
  (∀ d raw s, ∃ t, exec (.powerOnReset d raw) s = .next t ∧
    t.sl.lineMask = AttnFlag.eventOpened.bit ||| AttnFlag.alertResult.bit ||| AttnFlag.timeGrade.bit ||| AttnFlag.powerTier.bit ∧
      t.sl.wakeMask = t.sl.lineMask)

/-- ATTN READ replies with the flags and both masks and clears the flags; RESTART with scope LINK clears the flags and sets the
barrier, its reply's end still to come, another scope is refused, and so is a payload of another length; a request of an unknown
kind is answered with UNKNOWN_KIND alone (R189, R193, R197). Which row executes a scope is the model's convention (log entry 3). -/
def Obligations.AttnReadRestartAndUnknownKind : Prop :=
  ∀ (d : Elapsed) (s : State) (pre : List Request) (r : Request) (post : List Request), Front s pre r post →
    (r.kind = 0x03 → r.payload = [] →
      Answers (.attnRead d) s pre r post { s.elapse d with sl := { s.sl with flags := 0 } }
        [0x00, s.sl.flags, s.sl.lineMask, s.sl.wakeMask]) ∧
    (r.kind = 0x05 → r.payload = [0] →
      exec (.restartLink d) s =
        .next { s.elapse d with sl := { s.sl with flags := 0, barrier := true }.replied pre r post .emptyList [0x00] }) ∧
    (r.kind = 0x05 → ∀ c, c = .restartLink d ∨ c = .restartDetection d →
      (∀ b : Byte, 1 < b.toNat → r.payload = [b] → Answers c s pre r post (s.elapse d) [0x04]) ∧
      (r.payload = [] → Answers c s pre r post (s.elapse d) [0x03]) ∧
      (∀ (b : Byte) (p : List Byte), r.payload = b :: p →
        ((b = 0 ∧ c = .restartDetection d) ∨ (b = 1 ∧ c = .restartLink d) → exec c s = .next (s.elapse d)) ∧
        (1 < b.toNat ∨ (b = 0 ∧ c = .restartLink d) ∨ (b = 1 ∧ c = .restartDetection d) → p ≠ [] →
          Answers c s pre r post (s.elapse d) [0x03]))) ∧
    ((r.kind ∉
        ([0x01, 0x02, 0x03, 0x04, 0x05, 0x08, 0x09, 0x10, 0x11, 0x12, 0x13, 0x14, 0x20, 0x21, 0x22, 0x23, 0x28, 0x29, 0x2A,
          0x30, 0x31, 0x38, 0x39, 0x3A, 0x3B, 0x3C, 0x3D, 0x3E, 0x40, 0x41, 0x42, 0x43, 0x44, 0x48, 0x49, 0x50, 0x51, 0x58,
          0x59] : List Byte)) →
      Answers (.unknownKind d) s pre r post (s.elapse d) [0x02])

/-! ## Settings memory -/

/-- SETTINGS SAVE takes the snapshot, makes the image invalid and holds the link; its completion makes the image valid with the
snapshot if the read-back agrees, and leaves it invalid otherwise, and the request gets its reply; the last gasp ends with it if
nothing else holds it (R174, R188, R200). SETTINGS DEFAULTS outside an event gives every group its default and leaves the image
and the drift table, with what a changed capacity and a changed soh_interval bring about (R121, R136, R148, R150); during an
event it is refused (R202). HC decides when all values have their defaults, with the new v_src_min and the SoC as limited (R157,
R166, R202), an order that is the model's reading (log entry 21), as is that the patrol timer starts from the full interval even
if the interval already was 4 (log entry 18). That the charge switch is evaluated also when of its limits none has changed is the
model's choice (log entry 36). -/
def Obligations.SettingsSaveAndDefaults : Prop :=
  ((∀ (d : Elapsed) (s : State) (pre : List Request) (r : Request) (post : List Request) (bank : FilterContext → List Int),
     Front s pre r post → r.kind = 0x08 → r.payload = [] →
     (bank = fun f => match f.active with
       | .a => f.bankA
       | .b => f.bankB) →
     exec (.settingsSave d) s =
       .next { s.elapse d with
         sm :=
           { s.sm with
             image := none
             writing :=
               some
                 { uplink := s.al.params, detect := s.tu.params
                   filters := ⟨bank s.fe.ctx.z, bank s.fe.ctx.n, bank s.fe.ctx.e⟩, limits := s.ca.limits
                   cal := s.hm.cal, table := s.ca.table, heater := s.hc.params, tier := s.pt.params
                   store := ⟨s.ws.interval, s.ws.scrub⟩, drift := s.tb.drift } }
         sl :=
           { s.sl with executing := true, list := pre ++ { r with progress := .executing, atEnd := .nothing } :: post } }) ∧
   (∀ (d : Elapsed) (s : State) (agrees : Bool), s.powered = true →
     (s.sm.writing = none → exec (.settingsSaveComplete d agrees) s = .next (s.elapse d)) ∧
     (∀ (x : Settings) (u : State), s.sm.writing = some x →
       u =
         { s.elapse d with
           sm :=
             { image := if agrees then some x else none, writing := none
               defaultFlag := if agrees then false else s.sm.defaultFlag }
           sl :=
             { s.sl with
               executing := false
               list :=
                 s.sl.list.map fun y =>
                   if y.progress = .executing then { y with progress := .executed [if agrees then 0x00 else 0x09] } else y } } →
       (s.pt.gasp = none → exec (.settingsSaveComplete d agrees) s = .next u) ∧
       (∀ (limit : Nat) (ended : Prop), s.pt.gasp = some limit → s.pt.tier = .hibernate → s.pt.host = .shed →
         (ended ↔
           s.al.attempt = none ∧
             ((∀ e ∈ s.al.queue, ¬(e.cls = .pwr ∧ e.subject = .tier .hibernate)) ∨ limit ≤ (s.elapse d).clk.watchRun)) →
         (¬ended → exec (.settingsSaveComplete d agrees) s = .next u) ∧
         (ended → ∃ held : Bool, (held = true ↔ s.tb.grade = .tracking ∨ s.tb.grade = .locked) ∧
           exec (.settingsSaveComplete d agrees) s =
             .next { u with
               pt := { s.pt with gasp := none, enModem := false }, al := { s.al with windows := [] }
               tb :=
                 { s.tb with
                   clock := .watch, grade := if held then .hold else s.tb.grade
                   rejectRun := if s.tb.grade = .locked then 0 else s.tb.rejectRun }
               sl := { u.sl with flags := if held then s.sl.flags ||| 0x08 else s.sl.flags } }))))) ∧
  (∀ (d : Elapsed) (s : State) (pre : List Request) (r : Request) (post : List Request), Front s pre r post → r.kind = 0x09 →
     r.payload = [] →
     (s.tu.det = .open ∨ s.tu.det = .post → Answers (.settingsDefaults d) s pre r post (s.elapse d) [0x05]) ∧
     (s.tu.det = .idle ∨ s.tu.det = .disarmed →
       ∃ t, Answers (.settingsDefaults d) s pre r post t [0x00] ∧
         ChangesOnly [.si, .fe, .tu, .ws, .et, .al, .hm, .ca, .hc, .pt, .sm] (s.elapse d) t ∧
         t.sm = { s.sm with defaultFlag := true } ∧
         t.al =
           { s.al with
             params := ⟨1, 0, 24⟩
             lastSoh :=
               if s.al.params.sohInterval = 24 then s.al.lastSoh else some ((s.elapse d).now.sec / 86400 * 86400) } ∧
         t.tu =
           { s.tu with
             params :=
               { ks := 6, kl := 12, onRatio := 64, offRatio := 24, ltaFloor := 50, vote := 2, pre := 30, post := 30
                 cap := 600, strongLevel := 2000000, quietWindow := 3, auxEdge := .off }
             quietEnd := t.tu.quietEnd } ∧
         (∀ c, t.fe.ctx.get c =
           if c ∈ enabledChannels s.pt.tier then
             (match (s.fe.ctx.get c).active with
               | .a => { s.fe.ctx.get c with bankB := [32767], swapPending := true }
               | .b => { s.fe.ctx.get c with bankA := [32767], swapPending := true })
           else
             (match (s.fe.ctx.get c).active with
               | .a => { s.fe.ctx.get c with bankB := [32767], active := .b, swapPending := false }
               | .b => { s.fe.ctx.get c with bankA := [32767], active := .a, swapPending := false })) ∧
         (∀ (q : Int) (soc : Nat) (same : Bool), same = decide (s.ca.limits.capacityMah = 20000) → q = min s.ca.q 72000000 →
           soc = (q * 1000 / 72000000).toNat →
           t.ca =
             { s.ca with
               limits :=
                 { capacityMah := 20000, eff := 248, vFull := 14400, iTaper := 200, vEmpty := 11800, vSrcMin := 13000
                   chgTmin := 0, chgTmax := 450 }
               table :=
                 #v[⟨11800, 0⟩, ⟨12000, 100⟩, ⟨12100, 200⟩, ⟨12250, 400⟩, ⟨12400, 600⟩, ⟨12550, 800⟩, ⟨12650, 900⟩,
                   ⟨12750, 1000⟩]
               q := if same then s.ca.q else q, soc := if same then s.ca.soc else soc
               fullLatch := if same then s.ca.fullLatch else s.ca.fullLatch && decide (950 ≤ soc)
               estimated := if same then s.ca.estimated else true, chargeOn := t.ca.chargeOn }) ∧
         (t.ca.chargeOn = true ↔
           (∃ v, s.hm.readings.vsrc.valid = true ∧ s.hm.readings.vsrc.value = some v ∧ 13000 ≤ v) ∧
             (∃ v, s.hm.readings.tbat.valid = true ∧ s.hm.readings.tbat.value = some v ∧ 0 ≤ v ∧ v ≤ 450) ∧
             t.ca.fullLatch = false) ∧
         t.hm =
           { s.hm with
             cal :=
               ⟨⟨0, 16384⟩, ⟨2048, 20000⟩, ⟨1536, 2048⟩, ⟨1536, 2048⟩, ⟨0, 24576⟩, ⟨0, 8192⟩⟩ } ∧
         t.hc.params = ⟨20, 60, -200, 400, 300, 120⟩ ∧
         (∀ u : State,
           u =
             { s.elapse d with
               tu := { t.tu with quietEnd := s.tu.quietEnd }, ws := t.ws, al := t.al, hm := t.hm, ca := t.ca
               hc := { s.hc with params := ⟨20, 60, -200, 400, 300, 120⟩ }, pt := t.pt } →
           t = { heaterDecide false u with fe := t.fe, sm := t.sm }) ∧
         t.pt = { s.pt with params := ⟨400, 200, 80, 30, 11500, 600⟩ } ∧
         t.ws =
           { s.ws with
             interval := 4, scrub := true
             patrolDue :=
               if s.pt.tier = .full ∨ s.pt.tier = .conserve then some ((s.elapse d).clk.mainRun + 160000000) else none }))

/-! ## Resets -/

/-- Power-on, with or without supply before: every block at its reset values, with the settings of a valid image or the defaults,
the tier by the cut or the band of the estimate, the rails by the tier, the start-up scan's readings, the rings' first pages,
HC's first decision, the charge switch and the two resync runs by the start-up scan, no resync time held, and the PWR alert as
the queue's one entry (R23, R44, R45, R71, R89, R93, R111, R137, R139, R144 to R148, R152, R153, R167, R184, R198, R199). That
POWER_ON_RESET acts on a part that has supply is the model's choice, and the order of the reset's parts, the clearing of the
quiet window after the heater's decision among them, its reading (log entries 14 and 27), as is that a first reading out of range
has the run 1 and that the resync runs count the start-up scan (log entry 26). -/
def Obligations.PowerOnSetsEveryBlock : Prop :=
  ∀ (d : Elapsed) (raw : RawScan) (s : State) (x : Settings), x = s.sm.image.getD defaultSettings →
    ∃ t, exec (.powerOnReset d raw) s = .next t ∧ t.powered = true ∧ t.clk = ⟨⟨0, 0⟩, 0, ⟨0, 0⟩, 0, 0⟩ ∧
      t.tb =
        { clock := .main, grade := .unset, u := 4294967295, integral := 0, steer := 0, drift := x.drift, labelRx := []
          label := none, lastPulse := none, lastTheta := none, lossTimer := none, goodRun := 0, rejectRun := 0, usedCount := 0
          rejectedCount := 0, outOfWindowCount := 0, unlabelledCount := 0, stepCount := 0, lastStrobe := none, movedTo := none
          strobeSeq := 0, stepPending := false, freeRecovery := false } ∧
      t.si =
        { rx := [], window := none, aligned := false, offset := 0, mismatchRun := 0, held := ⟨0, 0, 0⟩, stepCarry := false
          heatMark := decide (t.hc.state ≠ .off), goodCount := 0, missingCount := 0, crcGapCount := 0, seqGapCount := 0
          unexpectedCount := 0, alignCount := 0 } ∧
      (∀ c, t.fe.ctx.get c =
        { active := .a, swapPending := false, bankA := x.filters.get c, bankB := [32767], delay := Vector.replicate 32 0, w := 0
          y := 0, sat := false, clip := false, passes := 0 }) ∧
      t.fe.waiting = [] ∧
      t.tu =
        { chans := t.tu.chans, armed := true, det := if t.pt.tier = .hibernate then .disarmed else .idle, current := none
          onset := t.tu.onset, onsetDelivery := t.tu.onsetDelivery, postEnd := t.tu.postEnd, auxPending := false
          quietEnd :=
            if t.pt.tier = .hibernate ∨ t.hc.state = .off ∨ x.detect.quietWindow = 0 then none
            else some (x.detect.quietWindow * 100 % 4294967296)
          delivery := 0, lastSeen := none, params := x.detect } ∧
      (∀ (c : Channel) (st : ChannelState), st = (if c ∈ enabledChannels t.pt.tier then .warmup else .disabled) →
        t.tu.chans.get c =
          { sta := 0, lta := 0, state := st, onTime := none, onDelivery := none, warmCount := 0
            startPending := decide (c ∈ enabledChannels t.pt.tier), last := none, saved := ⟨0, 0, st, none, 0⟩ }) ∧
      t.ws =
        { array := s.ws.array, pages := t.ws.pages, chans := t.ws.chans, events := [], cursor := none
          patrolDue :=
            if x.store.interval ≠ 0 ∧ (t.pt.tier = .full ∨ t.pt.tier = .conserve) then some (x.store.interval * 40000000)
            else none
          interval := x.store.interval, scrub := x.store.scrub, uncorrectable := 0 } ∧
      (∀ c p, (c, p) ∈ [(Channel.z, (0 : PageId)), (.n, 1), (.e, 2)] →
        t.ws.chans.get c =
            (if c ∈ enabledChannels t.pt.tier then ⟨.ring, [], some p, none, 0⟩ else ⟨.off, [], none, none, 0⟩) ∧
          t.ws.pages.get p =
            (if c ∈ enabledChannels t.pt.tier then ⟨.ring c, true, none, 0, 0, false⟩ else ⟨.free, false, none, 0, 0, false⟩)) ∧
      (∀ p : PageId, 3 ≤ p.val → t.ws.pages.get p = ⟨.free, false, none, 0, 0, false⟩) ∧
      t.et = ⟨[], 1, 0⟩ ∧
      t.al =
        { queue := [⟨1, .pwr, .tier t.pt.tier, ⟨0, 0⟩, [], false, 0⟩], attempt := none, results := [], outcomeCount := 0
          idCounter := 2, handleCounter := 0, rx := .hunt, decided := none, windows := []
          lastSoh := if x.uplink.sohInterval = 0 then none else some 0, params := x.uplink, attemptsStarted := 0, mbfSkips := 0
          strayCount := 0 } ∧
      (∀ reading : Calibration → Int → Int → Fin 4096 → Reading,
        (reading = fun c lo hi v =>
          if 0 < v.val ∧ v.val < 4095 then ⟨some (max lo (min (((v.val : Int) - c.offset) * c.gain / 4096) hi)), true, 0⟩
          else ⟨none, false, 1⟩) →
        t.hm =
          { readings :=
              { vbat := reading x.cal.vbat 0 65535 raw.vbat, ibat := reading x.cal.ibat (-32768) 32767 raw.ibat
                tbat := reading x.cal.tbat (-600) 1000 raw.tbat, tenc := reading x.cal.tenc (-600) 1000 raw.tenc
                vsrc := reading x.cal.vsrc 0 65535 raw.vsrc, ihtr := reading x.cal.ihtr (-32768) 32767 raw.ihtr }
            cal := x.cal, interval := if t.pt.tier = .hibernate then 60 else 1
            scanDue := (if t.pt.tier = .hibernate then 60 else 1) * 32768, scanCount := 1 }) ∧
      t.ca.limits = x.limits ∧ t.ca.table = x.table ∧ t.ca.estimated = true ∧ t.ca.fullLatch = false ∧ t.ca.uncounted = 0 ∧
      t.ca.lastFull = none ∧ t.ca.lastEmpty = none ∧ t.ca.fullRun ≤ 1 ∧ t.ca.emptyRun ≤ 1 ∧
      (t.ca.fullRun = 1 ↔
        ∃ v i, t.hm.readings.vbat.valid = true ∧ t.hm.readings.vbat.value = some v ∧ t.hm.readings.ibat.valid = true ∧
          t.hm.readings.ibat.value = some i ∧ x.limits.vFull ≤ v ∧ 0 < i ∧ i ≤ x.limits.iTaper) ∧
      (t.ca.emptyRun = 1 ↔
        ∃ v, t.hm.readings.vbat.valid = true ∧ t.hm.readings.vbat.value = some v ∧ v ≤ x.limits.vEmpty) ∧
      (t.ca.chargeOn = true ↔
        (∃ v, t.hm.readings.vsrc.valid = true ∧ t.hm.readings.vsrc.value = some v ∧ x.limits.vSrcMin ≤ v) ∧
          ∃ v, t.hm.readings.tbat.valid = true ∧ t.hm.readings.tbat.value = some v ∧ x.limits.chgTmin ≤ v ∧
            v ≤ x.limits.chgTmax) ∧
      (∀ v, t.hm.readings.vbat.valid = true → t.hm.readings.vbat.value = some v →
        t.ca.q = estimateSoc x.table v * (x.limits.capacityMah * 3600 : Nat) / 1000 ∧ t.ca.estimateMark = false) ∧
      (t.hm.readings.vbat.valid = false →
        t.ca.q = (x.limits.capacityMah * 3600 / 2 : Nat) ∧ t.ca.estimateMark = true) ∧
      t.ca.soc = (t.ca.q * 1000 / (x.limits.capacityMah * 3600 : Nat)).toNat ∧
      (∀ v : State,
        v =
          { t with
            hc :=
              { state := .off, demand := false, coldGuard := false, change := none, lowRun := 0, faults := 0
                lastSwitch := none, target := .off, params := x.heater } } →
        t.hc = (heaterDecide false v).hc) ∧
      t.hc.params = x.heater ∧ t.hc.faults = 0 ∧ t.hc.change = none ∧ t.hc.state ≠ .fault ∧
      t.pt.params = x.tier ∧ t.pt.tierTime = ⟨0, 0⟩ ∧ t.pt.powerCycles = 0 ∧ t.pt.wakeTime = none ∧ t.pt.lastWake = none ∧
      t.pt.exitMark = false ∧
      t.pt.tier =
        (if t.hm.readings.vbat.valid = true ∧ (∃ v, t.hm.readings.vbat.value = some v ∧ v ≤ x.tier.vCut) then .hibernate
        else if x.tier.conserveBelow ≤ t.ca.soc then .full
        else if x.tier.surviveBelow ≤ t.ca.soc then .conserve
        else if x.tier.hibernateBelow ≤ t.ca.soc then .survive
        else .hibernate) ∧
      t.pt.host = (if t.pt.tier = .full ∨ t.pt.tier = .conserve then .on else .shed) ∧
      (t.pt.enSens = true ↔ t.pt.tier ≠ .hibernate) ∧
      (t.pt.enModem = true ↔ t.pt.tier = .full ∨ t.pt.tier = .hibernate) ∧
      t.pt.gasp = (if t.pt.tier = .hibernate then some 3932160 else none) ∧
      t.sl =
        { rx := .hunt, list := [], executing := false, tx := none, barrier := false, flags := 0, lineMask := 0x1D
          wakeMask := 0x1D, takenCount := 0, discardCount := 0, overrunCount := 0 } ∧
      t.sm = { image := s.sm.image, writing := none, defaultFlag := decide (s.sm.image = none) }

/-- Pin reset: time from the watch-time counter, TB's steer, loop integral and drift table kept, HOLD or FREE with u grown by
1,000,000 ns from the grades that held time, the charge and the heater state kept, with the low-current test and a decision at
the start-up scan, the tier evaluated against the kept one, and the other blocks as at power-on: SI, the filter contexts, TU's
channels and marks, WS's pages, routes and counters, AS's counters and last SOH boundary, HM's readings (R18, R24, R44, R45, R71,
R93, R111, R124, R137, R139, R148, R152, R154, R164, R167, R185, R198, R199, R201). The order of the reset's parts, of a tier
change in it and of its clearing of the quiet window, and the work of its scan are the model's reading (log entries 14, 15, 26
and 27). That DOZING whose reply the reset drops stands without a deadline is the model's choice (log entry 40). That a switching
instant at the start-up scan of a reset in the settle reaches neither SI's heat mark nor the quiet window is the model's reading
(log entry 25). -/
def Obligations.PinResetKeepsTimeAndCharge : Prop :=
  ∀ (d : Elapsed) (raw : RawScan) (s : State) (x : Settings), s.powered = true → x = s.sm.image.getD defaultSettings →
    x.detect.vote ≠ 0 →
    ∃ t, exec (.pinReset d raw) s = .next t ∧
      t.clk = { (s.elapse d).clk with time := (s.elapse d).clk.watch.toTime, frac := 0 } ∧
      t.tb =
        { clock := t.tb.clock
          grade :=
            if s.tb.grade = .unset then .unset
            else if s.tb.grade = .free ∨ 10000000 < min 4294967295 (s.tb.u + 1000000) then .free
            else .hold
          u :=
            if s.tb.grade = .unset ∨ s.tb.grade = .free then s.tb.u else min 4294967295 (s.tb.u + 1000000)
          integral := s.tb.integral, steer := s.tb.steer, drift := s.tb.drift, labelRx := [], label := none, lastPulse := none
          lastTheta := none, lossTimer := none, goodRun := 0, rejectRun := 0, usedCount := 0, rejectedCount := 0
          outOfWindowCount := 0, unlabelledCount := 0, stepCount := 0, lastStrobe := none, movedTo := none, strobeSeq := 0
          stepPending := false, freeRecovery := false } ∧
      (s.pt.tier ≠ .hibernate → t.tb.clock = .main) ∧
      (s.pt.tier = .hibernate → t.pt.tier = .hibernate ∧ t.tb.clock ≠ .main ∧ t.pt.enModem = false ∧ t.pt.gasp = none ∧
        ∀ due, s.tb.clock = .settle due → t.tb.clock = .settle ((s.elapse d).clk.watchRun + 4096)) ∧
      (x.limits.capacityMah = s.ca.limits.capacityMah →
        t.ca.q = s.ca.q ∧ t.ca.soc = s.ca.soc ∧ t.ca.fullLatch = s.ca.fullLatch ∧ t.ca.estimated = s.ca.estimated) ∧
      (x.limits.capacityMah ≠ s.ca.limits.capacityMah →
        t.ca.q = min s.ca.q (x.limits.capacityMah * 3600 : Nat) ∧ t.ca.estimated = true) ∧
      t.ca.estimateMark = s.ca.estimateMark ∧ t.ca.uncounted = s.ca.uncounted ∧ t.ca.lastFull = s.ca.lastFull ∧
      t.ca.lastEmpty = s.ca.lastEmpty ∧ t.ca.limits = x.limits ∧ t.ca.table = x.table ∧ t.ca.fullRun ≤ 1 ∧ t.ca.emptyRun ≤ 1 ∧
      (t.ca.fullRun = 1 ↔
        ∃ v i, t.hm.readings.vbat.valid = true ∧ t.hm.readings.vbat.value = some v ∧ t.hm.readings.ibat.valid = true ∧
          t.hm.readings.ibat.value = some i ∧ x.limits.vFull ≤ v ∧ 0 < i ∧ i ≤ x.limits.iTaper) ∧
      (t.ca.emptyRun = 1 ↔
        ∃ v, t.hm.readings.vbat.valid = true ∧ t.hm.readings.vbat.value = some v ∧ v ≤ x.limits.vEmpty) ∧
      (∀ reading : Calibration → Int → Int → Fin 4096 → Reading,
        (reading = fun c lo hi v =>
          if 0 < v.val ∧ v.val < 4095 then ⟨some (max lo (min (((v.val : Int) - c.offset) * c.gain / 4096) hi)), true, 0⟩
          else ⟨none, false, 1⟩) →
        t.hm =
          { readings :=
              { vbat := reading x.cal.vbat 0 65535 raw.vbat, ibat := reading x.cal.ibat (-32768) 32767 raw.ibat
                tbat := reading x.cal.tbat (-600) 1000 raw.tbat, tenc := reading x.cal.tenc (-600) 1000 raw.tenc
                vsrc := reading x.cal.vsrc 0 65535 raw.vsrc, ihtr := reading x.cal.ihtr (-32768) 32767 raw.ihtr }
            cal := x.cal, interval := if t.pt.tier = .hibernate then 60 else 1
            scanDue := (s.elapse d).clk.watchRun + (if t.pt.tier = .hibernate then 60 else 1) * 32768, scanCount := 1 }) ∧
      (t.ca.chargeOn = true ↔
        (∃ v, t.hm.readings.vsrc.valid = true ∧ t.hm.readings.vsrc.value = some v ∧ x.limits.vSrcMin ≤ v) ∧
          (∃ v, t.hm.readings.tbat.valid = true ∧ t.hm.readings.tbat.value = some v ∧ x.limits.chgTmin ≤ v ∧
            v ≤ x.limits.chgTmax) ∧
          t.ca.fullLatch = false) ∧
      (∀ v : State, v = { t with hc := { s.hc with params := x.heater, change := none } } →
        t.hc = (heaterDecide false (lowCurrentTest v)).hc) ∧
      t.hc.params = x.heater ∧ t.hc.change = none ∧ t.et = ⟨[], 1, 0⟩ ∧
      t.si =
        { rx := [], window := none, aligned := false, offset := 0, mismatchRun := 0, held := ⟨0, 0, 0⟩, stepCarry := false
          heatMark := decide (s.pt.tier ≠ .hibernate ∧ t.hc.state ≠ s.hc.state), goodCount := 0, missingCount := 0
          crcGapCount := 0, seqGapCount := 0, unexpectedCount := 0, alignCount := 0 } ∧
      (∀ c, t.fe.ctx.get c =
        { active := .a, swapPending := false, bankA := x.filters.get c, bankB := [32767], delay := Vector.replicate 32 0, w := 0
          y := 0, sat := false, clip := false, passes := 0 }) ∧
      t.fe.waiting = [] ∧
      t.tu =
        { chans := t.tu.chans, armed := true, det := if t.pt.tier = .hibernate then .disarmed else .idle, current := none
          onset := t.tu.onset, onsetDelivery := t.tu.onsetDelivery, postEnd := t.tu.postEnd, auxPending := false
          quietEnd :=
            if t.pt.tier = .hibernate ∨ t.hc.state = s.hc.state ∨ x.detect.quietWindow = 0 then none
            else some (x.detect.quietWindow * 100 % 4294967296)
          delivery := 0, lastSeen := none, params := x.detect } ∧
      (∀ c, t.tu.chans.get c =
        { sta := 0, lta := 0, state := if c ∈ enabledChannels t.pt.tier then .warmup else .disabled, onTime := none
          onDelivery := none, warmCount := 0
          startPending := decide (c ∈ enabledChannels s.pt.tier ∨ c ∈ enabledChannels t.pt.tier), last := none
          saved := ⟨0, 0, if c ∈ enabledChannels s.pt.tier then .warmup else .disabled, none, 0⟩ }) ∧
      t.ws =
        { array := s.ws.array, pages := t.ws.pages, chans := t.ws.chans, events := [], cursor := none
          patrolDue :=
            if x.store.interval ≠ 0 ∧ (t.pt.tier = .full ∨ t.pt.tier = .conserve) then
              some ((s.elapse d).clk.mainRun + x.store.interval * 40000000)
            else none
          interval := x.store.interval, scrub := x.store.scrub, uncorrectable := 0 } ∧
      (∀ c p, (c, p) ∈ [(Channel.z, (0 : PageId)), (.n, 1), (.e, 2)] →
        t.ws.chans.get c =
            (if c ∈ enabledChannels t.pt.tier then ⟨.ring, [], some p, none, 0⟩ else ⟨.off, [], none, none, 0⟩) ∧
          t.ws.pages.get p =
            (if c ∈ enabledChannels t.pt.tier then ⟨.ring c, true, none, 0, 0, false⟩ else ⟨.free, false, none, 0, 0, false⟩)) ∧
      (∀ p : PageId, 3 ≤ p.val → t.ws.pages.get p = ⟨.free, false, none, 0, 0, false⟩) ∧
      (∀ sec f, sec = (s.elapse d).clk.watch.toTime.sec → f = sec / 60 →
        t.al =
          { queue := [⟨1, .pwr, .tier t.pt.tier, (s.elapse d).clk.watch.toTime, [], false, 0⟩], attempt := none, results := []
            outcomeCount := 0, idCounter := 2, handleCounter := 0, rx := .hunt, decided := none
            windows :=
              if s.pt.tier = .full ∧ (t.pt.tier = .conserve ∨ t.pt.tier = .survive) then
                [if (s.elapse d).clk.watch.toTime.toNs < f * 60000000000 + 100000000 then f else f + 1]
              else []
            lastSoh :=
              if x.uplink.sohInterval = 0 then none
              else some (sec / (x.uplink.sohInterval * 3600) * (x.uplink.sohInterval * 3600))
            params := x.uplink, attemptsStarted := 0, mbfSkips := 0, strayCount := 0 }) ∧
      (t.pt.tier ≠ .hibernate → (t.pt.enModem = true ↔ t.pt.tier = .full ∨ t.al.windows ≠ [])) ∧
      (s.pt.tier ≠ .hibernate → t.pt.tier = .hibernate →
        t.pt.enModem = true ∧ t.pt.gasp = some ((s.elapse d).clk.watchRun + 3932160)) ∧
      t.sl =
        { rx := .hunt, list := [], executing := false, tx := none, barrier := false, flags := 0, lineMask := 0x1D
          wakeMask := 0x1D, takenCount := 0, discardCount := 0, overrunCount := 0 } ∧
      t.sm = { image := s.sm.image, writing := none, defaultFlag := decide (s.sm.image = none) } ∧
      t.pt.params = x.tier ∧ t.pt.powerCycles = s.pt.powerCycles ∧
      (t.pt.tier = s.pt.tier →
        t.pt.tierTime = s.pt.tierTime ∧ t.pt.host = s.pt.host ∧ t.pt.wakeTime = s.pt.wakeTime ∧
          t.pt.lastWake = s.pt.lastWake ∧ t.pt.enSens = s.pt.enSens ∧
          t.pt.silenceFrom = if s.pt.host.isOn then some (s.elapse d).clk.watchRun else none) ∧
      (s.pt.exitMark = true → s.pt.tier = .hibernate → t.pt.exitMark = true)

/-- The state after reset meets every invariant below, and its settings are the defaults: detection (3.6), filters, battery
limits, calibration and open-circuit table (7.4, 7.5), heater (8.6), tier (9.7), uplink, store and an empty drift table (11.3).
The readings of the scan that State.reset stands after, and so its tier and charge, are the model's choice (log entry 5). -/
def Obligations.ResetMeetsInvariants : Prop :=
  TimeBaseInv State.reset ∧ ClockInv State.reset ∧ MemoryInv State.reset ∧ PageInv State.reset ∧ CountInv State.reset ∧
    ChargeInv State.reset ∧ RailInv State.reset ∧ HeaterInv State.reset ∧ ListInv State.reset ∧ IdInv State.reset ∧
    State.reset.pending = [] ∧
    State.reset.tb.grade = .unset ∧ State.reset.tb.u = 4294967295 ∧ State.reset.tb.usedCount = 0 ∧ State.reset.et = ⟨[], 1, 0⟩ ∧
    State.reset.sl.flags = 0 ∧ State.reset.sl.lineMask = 0x1D ∧ State.reset.sl.wakeMask = 0x1D ∧
    State.reset.tu.params =
      { ks := 6, kl := 12, onRatio := 64, offRatio := 24, ltaFloor := 50, vote := 2, pre := 30, post := 30, cap := 600
        strongLevel := 2000000, quietWindow := 3, auxEdge := .off } ∧
    (∀ c, (State.reset.fe.ctx.get c).active = .a ∧ (State.reset.fe.ctx.get c).bankA = [32767] ∧
      (State.reset.fe.ctx.get c).bankB = [32767] ∧ (State.reset.fe.ctx.get c).swapPending = false) ∧
    State.reset.ws.interval = 4 ∧ State.reset.ws.scrub = true ∧
    State.reset.ca.limits =
      { capacityMah := 20000, eff := 248, vFull := 14400, iTaper := 200, vEmpty := 11800, vSrcMin := 13000, chgTmin := 0
        chgTmax := 450 } ∧
    State.reset.ca.table.toList =
      [⟨11800, 0⟩, ⟨12000, 100⟩, ⟨12100, 200⟩, ⟨12250, 400⟩, ⟨12400, 600⟩, ⟨12550, 800⟩, ⟨12650, 900⟩, ⟨12750, 1000⟩] ∧
    State.reset.hm.cal =
      { vbat := ⟨0, 16384⟩, ibat := ⟨2048, 20000⟩, tbat := ⟨1536, 2048⟩, tenc := ⟨1536, 2048⟩, vsrc := ⟨0, 24576⟩
        ihtr := ⟨0, 8192⟩ } ∧
    State.reset.pt.params = ⟨400, 200, 80, 30, 11500, 600⟩ ∧ State.reset.hc.params = ⟨20, 60, -200, 400, 300, 120⟩ ∧
    State.reset.al.params = ⟨1, 0, 24⟩ ∧ ∀ i, State.reset.tb.drift.get i = ⟨0, 0⟩

/-! ## Invariants of every step -/

/-- Every step keeps the time base in its ranges: I, s, u and the drift table, stored and running, and the two clocks (R2, R8, R12,
R13). -/
def Obligations.StepKeepsTimeBase : Prop :=
  ∀ s t : State, TimeBaseInv s → ClockInv s → step s = .next t → TimeBaseInv t ∧ ClockInv t

/-- Every step keeps the page array in its canonical form, every page in the one place its state names with no faulty page in the free
set, every page's sample count at most 1,024 and below it while the page fills, and the pending list, the alert queue and the results
in their limits of 4, 16 and 8, and the ids of the alert queue distinct, with the id counter at an id that no entry holds (R72 to R75,
R112, R114, R130, R187). -/
def Obligations.StepKeepsMemoryAndLists : Prop :=
  (∀ s t : State, MemoryInv s → step s = .next t → MemoryInv t) ∧ (∀ s t : State, PageInv s → step s = .next t → PageInv t) ∧
    (∀ s t : State, PageInv s → CountInv s → step s = .next t → CountInv t) ∧ (∀ s t : State, ListInv s → step s = .next t → ListInv t) ∧
    (∀ s t : State, ListInv s → IdInv s → step s = .next t → IdInv t)

/-- Every step keeps q between 0 and the capacity and SoC at floor(q · 1,000/capacity), with the eight limits and the open-circuit
table, stored and running, in their ranges and as their cross-conditions ask (R142, R143, R149). -/
def Obligations.StepKeepsCharge : Prop :=
  ∀ s t : State, ChargeInv s → step s = .next t → ChargeInv t

/-- Every step keeps the host rail in a state of its tier, the sensor rail by the tier and the link empty while the rail is off,
and never leaves the battery heater switch on in HIBERNATE or beside the source heater switch (R158, R171, R177, R181, R191). -/
def Obligations.StepKeepsRailsAndHeater : Prop :=
  (∀ s t : State, RailInv s → step s = .next t → RailInv t) ∧ (∀ s t : State, HeaterInv s → step s = .next t → HeaterInv t)
end

