-- ==== Sys2Proof/Laws/State.lean ====
section
/-! SUPPORT. One lemma for each field of State under each update of one block, all true by unfolding, so that no later proof unfolds a
record update. -/

namespace Sys2Proof.Machine

variable (s : State)

/-! ### State.modClk -/

section
variable (f : Clocks → Clocks)

@[simp] theorem State.modClk_powered : (s.modClk f).powered = s.powered := rfl
@[simp] theorem State.modClk_clk : (s.modClk f).clk = f s.clk := rfl
@[simp] theorem State.modClk_tb : (s.modClk f).tb = s.tb := rfl
@[simp] theorem State.modClk_si : (s.modClk f).si = s.si := rfl
@[simp] theorem State.modClk_fe : (s.modClk f).fe = s.fe := rfl
@[simp] theorem State.modClk_tu : (s.modClk f).tu = s.tu := rfl
@[simp] theorem State.modClk_ws : (s.modClk f).ws = s.ws := rfl
@[simp] theorem State.modClk_et : (s.modClk f).et = s.et := rfl
@[simp] theorem State.modClk_al : (s.modClk f).al = s.al := rfl
@[simp] theorem State.modClk_hm : (s.modClk f).hm = s.hm := rfl
@[simp] theorem State.modClk_ca : (s.modClk f).ca = s.ca := rfl
@[simp] theorem State.modClk_hc : (s.modClk f).hc = s.hc := rfl
@[simp] theorem State.modClk_pt : (s.modClk f).pt = s.pt := rfl
@[simp] theorem State.modClk_sl : (s.modClk f).sl = s.sl := rfl
@[simp] theorem State.modClk_sm : (s.modClk f).sm = s.sm := rfl
@[simp] theorem State.modClk_lines : (s.modClk f).lines = s.lines := rfl
@[simp] theorem State.modClk_freeCount : (s.modClk f).freeCount = s.freeCount := rfl
@[simp] theorem State.modClk_pending : (s.modClk f).pending = s.pending := rfl

end

/-! ### State.modTb -/

section
variable (f : TimeBase → TimeBase)

@[simp] theorem State.modTb_powered : (s.modTb f).powered = s.powered := rfl
@[simp] theorem State.modTb_clk : (s.modTb f).clk = s.clk := rfl
@[simp] theorem State.modTb_tb : (s.modTb f).tb = f s.tb := rfl
@[simp] theorem State.modTb_si : (s.modTb f).si = s.si := rfl
@[simp] theorem State.modTb_fe : (s.modTb f).fe = s.fe := rfl
@[simp] theorem State.modTb_tu : (s.modTb f).tu = s.tu := rfl
@[simp] theorem State.modTb_ws : (s.modTb f).ws = s.ws := rfl
@[simp] theorem State.modTb_et : (s.modTb f).et = s.et := rfl
@[simp] theorem State.modTb_al : (s.modTb f).al = s.al := rfl
@[simp] theorem State.modTb_hm : (s.modTb f).hm = s.hm := rfl
@[simp] theorem State.modTb_ca : (s.modTb f).ca = s.ca := rfl
@[simp] theorem State.modTb_hc : (s.modTb f).hc = s.hc := rfl
@[simp] theorem State.modTb_pt : (s.modTb f).pt = s.pt := rfl
@[simp] theorem State.modTb_sl : (s.modTb f).sl = s.sl := rfl
@[simp] theorem State.modTb_sm : (s.modTb f).sm = s.sm := rfl
@[simp] theorem State.modTb_lines : (s.modTb f).lines = s.lines := rfl
@[simp] theorem State.modTb_freeCount : (s.modTb f).freeCount = s.freeCount := rfl
@[simp] theorem State.modTb_pending : (s.modTb f).pending = s.pending := rfl

end

/-! ### State.modSi -/

section
variable (f : SampleInterface → SampleInterface)

@[simp] theorem State.modSi_powered : (s.modSi f).powered = s.powered := rfl
@[simp] theorem State.modSi_clk : (s.modSi f).clk = s.clk := rfl
@[simp] theorem State.modSi_tb : (s.modSi f).tb = s.tb := rfl
@[simp] theorem State.modSi_si : (s.modSi f).si = f s.si := rfl
@[simp] theorem State.modSi_fe : (s.modSi f).fe = s.fe := rfl
@[simp] theorem State.modSi_tu : (s.modSi f).tu = s.tu := rfl
@[simp] theorem State.modSi_ws : (s.modSi f).ws = s.ws := rfl
@[simp] theorem State.modSi_et : (s.modSi f).et = s.et := rfl
@[simp] theorem State.modSi_al : (s.modSi f).al = s.al := rfl
@[simp] theorem State.modSi_hm : (s.modSi f).hm = s.hm := rfl
@[simp] theorem State.modSi_ca : (s.modSi f).ca = s.ca := rfl
@[simp] theorem State.modSi_hc : (s.modSi f).hc = s.hc := rfl
@[simp] theorem State.modSi_pt : (s.modSi f).pt = s.pt := rfl
@[simp] theorem State.modSi_sl : (s.modSi f).sl = s.sl := rfl
@[simp] theorem State.modSi_sm : (s.modSi f).sm = s.sm := rfl
@[simp] theorem State.modSi_lines : (s.modSi f).lines = s.lines := rfl
@[simp] theorem State.modSi_freeCount : (s.modSi f).freeCount = s.freeCount := rfl
@[simp] theorem State.modSi_pending : (s.modSi f).pending = s.pending := rfl

end

/-! ### State.modFe -/

section
variable (f : FilterEngine → FilterEngine)

@[simp] theorem State.modFe_powered : (s.modFe f).powered = s.powered := rfl
@[simp] theorem State.modFe_clk : (s.modFe f).clk = s.clk := rfl
@[simp] theorem State.modFe_tb : (s.modFe f).tb = s.tb := rfl
@[simp] theorem State.modFe_si : (s.modFe f).si = s.si := rfl
@[simp] theorem State.modFe_fe : (s.modFe f).fe = f s.fe := rfl
@[simp] theorem State.modFe_tu : (s.modFe f).tu = s.tu := rfl
@[simp] theorem State.modFe_ws : (s.modFe f).ws = s.ws := rfl
@[simp] theorem State.modFe_et : (s.modFe f).et = s.et := rfl
@[simp] theorem State.modFe_al : (s.modFe f).al = s.al := rfl
@[simp] theorem State.modFe_hm : (s.modFe f).hm = s.hm := rfl
@[simp] theorem State.modFe_ca : (s.modFe f).ca = s.ca := rfl
@[simp] theorem State.modFe_hc : (s.modFe f).hc = s.hc := rfl
@[simp] theorem State.modFe_pt : (s.modFe f).pt = s.pt := rfl
@[simp] theorem State.modFe_sl : (s.modFe f).sl = s.sl := rfl
@[simp] theorem State.modFe_sm : (s.modFe f).sm = s.sm := rfl
@[simp] theorem State.modFe_lines : (s.modFe f).lines = s.lines := rfl
@[simp] theorem State.modFe_freeCount : (s.modFe f).freeCount = s.freeCount := rfl
@[simp] theorem State.modFe_pending : (s.modFe f).pending = s.pending := rfl

end

/-! ### State.modTu -/

section
variable (f : TriggerUnit → TriggerUnit)

@[simp] theorem State.modTu_powered : (s.modTu f).powered = s.powered := rfl
@[simp] theorem State.modTu_clk : (s.modTu f).clk = s.clk := rfl
@[simp] theorem State.modTu_tb : (s.modTu f).tb = s.tb := rfl
@[simp] theorem State.modTu_si : (s.modTu f).si = s.si := rfl
@[simp] theorem State.modTu_fe : (s.modTu f).fe = s.fe := rfl
@[simp] theorem State.modTu_tu : (s.modTu f).tu = f s.tu := rfl
@[simp] theorem State.modTu_ws : (s.modTu f).ws = s.ws := rfl
@[simp] theorem State.modTu_et : (s.modTu f).et = s.et := rfl
@[simp] theorem State.modTu_al : (s.modTu f).al = s.al := rfl
@[simp] theorem State.modTu_hm : (s.modTu f).hm = s.hm := rfl
@[simp] theorem State.modTu_ca : (s.modTu f).ca = s.ca := rfl
@[simp] theorem State.modTu_hc : (s.modTu f).hc = s.hc := rfl
@[simp] theorem State.modTu_pt : (s.modTu f).pt = s.pt := rfl
@[simp] theorem State.modTu_sl : (s.modTu f).sl = s.sl := rfl
@[simp] theorem State.modTu_sm : (s.modTu f).sm = s.sm := rfl
@[simp] theorem State.modTu_lines : (s.modTu f).lines = s.lines := rfl
@[simp] theorem State.modTu_freeCount : (s.modTu f).freeCount = s.freeCount := rfl
@[simp] theorem State.modTu_pending : (s.modTu f).pending = s.pending := rfl

end

/-! ### State.modWs -/

section
variable (f : WaveStore → WaveStore)

@[simp] theorem State.modWs_powered : (s.modWs f).powered = s.powered := rfl
@[simp] theorem State.modWs_clk : (s.modWs f).clk = s.clk := rfl
@[simp] theorem State.modWs_tb : (s.modWs f).tb = s.tb := rfl
@[simp] theorem State.modWs_si : (s.modWs f).si = s.si := rfl
@[simp] theorem State.modWs_fe : (s.modWs f).fe = s.fe := rfl
@[simp] theorem State.modWs_tu : (s.modWs f).tu = s.tu := rfl
@[simp] theorem State.modWs_ws : (s.modWs f).ws = f s.ws := rfl
@[simp] theorem State.modWs_et : (s.modWs f).et = s.et := rfl
@[simp] theorem State.modWs_al : (s.modWs f).al = s.al := rfl
@[simp] theorem State.modWs_hm : (s.modWs f).hm = s.hm := rfl
@[simp] theorem State.modWs_ca : (s.modWs f).ca = s.ca := rfl
@[simp] theorem State.modWs_hc : (s.modWs f).hc = s.hc := rfl
@[simp] theorem State.modWs_pt : (s.modWs f).pt = s.pt := rfl
@[simp] theorem State.modWs_sl : (s.modWs f).sl = s.sl := rfl
@[simp] theorem State.modWs_sm : (s.modWs f).sm = s.sm := rfl
@[simp] theorem State.modWs_lines : (s.modWs f).lines = s.lines := rfl
@[simp] theorem State.modWs_freeCount : (s.modWs f).freeCount = s.freeCount := rfl
@[simp] theorem State.modWs_pending : (s.modWs f).pending = s.pending := rfl

end

/-! ### State.modEt -/

section
variable (f : EventTable → EventTable)

@[simp] theorem State.modEt_powered : (s.modEt f).powered = s.powered := rfl
@[simp] theorem State.modEt_clk : (s.modEt f).clk = s.clk := rfl
@[simp] theorem State.modEt_tb : (s.modEt f).tb = s.tb := rfl
@[simp] theorem State.modEt_si : (s.modEt f).si = s.si := rfl
@[simp] theorem State.modEt_fe : (s.modEt f).fe = s.fe := rfl
@[simp] theorem State.modEt_tu : (s.modEt f).tu = s.tu := rfl
@[simp] theorem State.modEt_ws : (s.modEt f).ws = s.ws := rfl
@[simp] theorem State.modEt_et : (s.modEt f).et = f s.et := rfl
@[simp] theorem State.modEt_al : (s.modEt f).al = s.al := rfl
@[simp] theorem State.modEt_hm : (s.modEt f).hm = s.hm := rfl
@[simp] theorem State.modEt_ca : (s.modEt f).ca = s.ca := rfl
@[simp] theorem State.modEt_hc : (s.modEt f).hc = s.hc := rfl
@[simp] theorem State.modEt_pt : (s.modEt f).pt = s.pt := rfl
@[simp] theorem State.modEt_sl : (s.modEt f).sl = s.sl := rfl
@[simp] theorem State.modEt_sm : (s.modEt f).sm = s.sm := rfl
@[simp] theorem State.modEt_lines : (s.modEt f).lines = s.lines := rfl
@[simp] theorem State.modEt_freeCount : (s.modEt f).freeCount = s.freeCount := rfl
@[simp] theorem State.modEt_pending : (s.modEt f).pending = s.pending := rfl

end

/-! ### State.modAl -/

section
variable (f : AlertScheduler → AlertScheduler)

@[simp] theorem State.modAl_powered : (s.modAl f).powered = s.powered := rfl
@[simp] theorem State.modAl_clk : (s.modAl f).clk = s.clk := rfl
@[simp] theorem State.modAl_tb : (s.modAl f).tb = s.tb := rfl
@[simp] theorem State.modAl_si : (s.modAl f).si = s.si := rfl
@[simp] theorem State.modAl_fe : (s.modAl f).fe = s.fe := rfl
@[simp] theorem State.modAl_tu : (s.modAl f).tu = s.tu := rfl
@[simp] theorem State.modAl_ws : (s.modAl f).ws = s.ws := rfl
@[simp] theorem State.modAl_et : (s.modAl f).et = s.et := rfl
@[simp] theorem State.modAl_al : (s.modAl f).al = f s.al := rfl
@[simp] theorem State.modAl_hm : (s.modAl f).hm = s.hm := rfl
@[simp] theorem State.modAl_ca : (s.modAl f).ca = s.ca := rfl
@[simp] theorem State.modAl_hc : (s.modAl f).hc = s.hc := rfl
@[simp] theorem State.modAl_pt : (s.modAl f).pt = s.pt := rfl
@[simp] theorem State.modAl_sl : (s.modAl f).sl = s.sl := rfl
@[simp] theorem State.modAl_sm : (s.modAl f).sm = s.sm := rfl
@[simp] theorem State.modAl_lines : (s.modAl f).lines = s.lines := rfl
@[simp] theorem State.modAl_freeCount : (s.modAl f).freeCount = s.freeCount := rfl
@[simp] theorem State.modAl_pending : (s.modAl f).pending = s.pending := rfl

end

/-! ### State.modHm -/

section
variable (f : Housekeeping → Housekeeping)

@[simp] theorem State.modHm_powered : (s.modHm f).powered = s.powered := rfl
@[simp] theorem State.modHm_clk : (s.modHm f).clk = s.clk := rfl
@[simp] theorem State.modHm_tb : (s.modHm f).tb = s.tb := rfl
@[simp] theorem State.modHm_si : (s.modHm f).si = s.si := rfl
@[simp] theorem State.modHm_fe : (s.modHm f).fe = s.fe := rfl
@[simp] theorem State.modHm_tu : (s.modHm f).tu = s.tu := rfl
@[simp] theorem State.modHm_ws : (s.modHm f).ws = s.ws := rfl
@[simp] theorem State.modHm_et : (s.modHm f).et = s.et := rfl
@[simp] theorem State.modHm_al : (s.modHm f).al = s.al := rfl
@[simp] theorem State.modHm_hm : (s.modHm f).hm = f s.hm := rfl
@[simp] theorem State.modHm_ca : (s.modHm f).ca = s.ca := rfl
@[simp] theorem State.modHm_hc : (s.modHm f).hc = s.hc := rfl
@[simp] theorem State.modHm_pt : (s.modHm f).pt = s.pt := rfl
@[simp] theorem State.modHm_sl : (s.modHm f).sl = s.sl := rfl
@[simp] theorem State.modHm_sm : (s.modHm f).sm = s.sm := rfl
@[simp] theorem State.modHm_lines : (s.modHm f).lines = s.lines := rfl
@[simp] theorem State.modHm_freeCount : (s.modHm f).freeCount = s.freeCount := rfl
@[simp] theorem State.modHm_pending : (s.modHm f).pending = s.pending := rfl

end

/-! ### State.modCa -/

section
variable (f : ChargeUnit → ChargeUnit)

@[simp] theorem State.modCa_powered : (s.modCa f).powered = s.powered := rfl
@[simp] theorem State.modCa_clk : (s.modCa f).clk = s.clk := rfl
@[simp] theorem State.modCa_tb : (s.modCa f).tb = s.tb := rfl
@[simp] theorem State.modCa_si : (s.modCa f).si = s.si := rfl
@[simp] theorem State.modCa_fe : (s.modCa f).fe = s.fe := rfl
@[simp] theorem State.modCa_tu : (s.modCa f).tu = s.tu := rfl
@[simp] theorem State.modCa_ws : (s.modCa f).ws = s.ws := rfl
@[simp] theorem State.modCa_et : (s.modCa f).et = s.et := rfl
@[simp] theorem State.modCa_al : (s.modCa f).al = s.al := rfl
@[simp] theorem State.modCa_hm : (s.modCa f).hm = s.hm := rfl
@[simp] theorem State.modCa_ca : (s.modCa f).ca = f s.ca := rfl
@[simp] theorem State.modCa_hc : (s.modCa f).hc = s.hc := rfl
@[simp] theorem State.modCa_pt : (s.modCa f).pt = s.pt := rfl
@[simp] theorem State.modCa_sl : (s.modCa f).sl = s.sl := rfl
@[simp] theorem State.modCa_sm : (s.modCa f).sm = s.sm := rfl
@[simp] theorem State.modCa_lines : (s.modCa f).lines = s.lines := rfl
@[simp] theorem State.modCa_freeCount : (s.modCa f).freeCount = s.freeCount := rfl
@[simp] theorem State.modCa_pending : (s.modCa f).pending = s.pending := rfl

end

/-! ### State.modHc -/

section
variable (f : Heater → Heater)

@[simp] theorem State.modHc_powered : (s.modHc f).powered = s.powered := rfl
@[simp] theorem State.modHc_clk : (s.modHc f).clk = s.clk := rfl
@[simp] theorem State.modHc_tb : (s.modHc f).tb = s.tb := rfl
@[simp] theorem State.modHc_si : (s.modHc f).si = s.si := rfl
@[simp] theorem State.modHc_fe : (s.modHc f).fe = s.fe := rfl
@[simp] theorem State.modHc_tu : (s.modHc f).tu = s.tu := rfl
@[simp] theorem State.modHc_ws : (s.modHc f).ws = s.ws := rfl
@[simp] theorem State.modHc_et : (s.modHc f).et = s.et := rfl
@[simp] theorem State.modHc_al : (s.modHc f).al = s.al := rfl
@[simp] theorem State.modHc_hm : (s.modHc f).hm = s.hm := rfl
@[simp] theorem State.modHc_ca : (s.modHc f).ca = s.ca := rfl
@[simp] theorem State.modHc_hc : (s.modHc f).hc = f s.hc := rfl
@[simp] theorem State.modHc_pt : (s.modHc f).pt = s.pt := rfl
@[simp] theorem State.modHc_sl : (s.modHc f).sl = s.sl := rfl
@[simp] theorem State.modHc_sm : (s.modHc f).sm = s.sm := rfl
@[simp] theorem State.modHc_lines : (s.modHc f).lines = s.lines := rfl
@[simp] theorem State.modHc_freeCount : (s.modHc f).freeCount = s.freeCount := rfl
@[simp] theorem State.modHc_pending : (s.modHc f).pending = s.pending := rfl

end

/-! ### State.modPt -/

section
variable (f : PowerTier → PowerTier)

@[simp] theorem State.modPt_powered : (s.modPt f).powered = s.powered := rfl
@[simp] theorem State.modPt_clk : (s.modPt f).clk = s.clk := rfl
@[simp] theorem State.modPt_tb : (s.modPt f).tb = s.tb := rfl
@[simp] theorem State.modPt_si : (s.modPt f).si = s.si := rfl
@[simp] theorem State.modPt_fe : (s.modPt f).fe = s.fe := rfl
@[simp] theorem State.modPt_tu : (s.modPt f).tu = s.tu := rfl
@[simp] theorem State.modPt_ws : (s.modPt f).ws = s.ws := rfl
@[simp] theorem State.modPt_et : (s.modPt f).et = s.et := rfl
@[simp] theorem State.modPt_al : (s.modPt f).al = s.al := rfl
@[simp] theorem State.modPt_hm : (s.modPt f).hm = s.hm := rfl
@[simp] theorem State.modPt_ca : (s.modPt f).ca = s.ca := rfl
@[simp] theorem State.modPt_hc : (s.modPt f).hc = s.hc := rfl
@[simp] theorem State.modPt_pt : (s.modPt f).pt = f s.pt := rfl
@[simp] theorem State.modPt_sl : (s.modPt f).sl = s.sl := rfl
@[simp] theorem State.modPt_sm : (s.modPt f).sm = s.sm := rfl
@[simp] theorem State.modPt_lines : (s.modPt f).lines = s.lines := rfl
@[simp] theorem State.modPt_freeCount : (s.modPt f).freeCount = s.freeCount := rfl
@[simp] theorem State.modPt_pending : (s.modPt f).pending = s.pending := rfl

end

/-! ### State.modSl -/

section
variable (f : StationLink → StationLink)

@[simp] theorem State.modSl_powered : (s.modSl f).powered = s.powered := rfl
@[simp] theorem State.modSl_clk : (s.modSl f).clk = s.clk := rfl
@[simp] theorem State.modSl_tb : (s.modSl f).tb = s.tb := rfl
@[simp] theorem State.modSl_si : (s.modSl f).si = s.si := rfl
@[simp] theorem State.modSl_fe : (s.modSl f).fe = s.fe := rfl
@[simp] theorem State.modSl_tu : (s.modSl f).tu = s.tu := rfl
@[simp] theorem State.modSl_ws : (s.modSl f).ws = s.ws := rfl
@[simp] theorem State.modSl_et : (s.modSl f).et = s.et := rfl
@[simp] theorem State.modSl_al : (s.modSl f).al = s.al := rfl
@[simp] theorem State.modSl_hm : (s.modSl f).hm = s.hm := rfl
@[simp] theorem State.modSl_ca : (s.modSl f).ca = s.ca := rfl
@[simp] theorem State.modSl_hc : (s.modSl f).hc = s.hc := rfl
@[simp] theorem State.modSl_pt : (s.modSl f).pt = s.pt := rfl
@[simp] theorem State.modSl_sl : (s.modSl f).sl = f s.sl := rfl
@[simp] theorem State.modSl_sm : (s.modSl f).sm = s.sm := rfl
@[simp] theorem State.modSl_lines : (s.modSl f).lines = s.lines := rfl
@[simp] theorem State.modSl_freeCount : (s.modSl f).freeCount = s.freeCount := rfl
@[simp] theorem State.modSl_pending : (s.modSl f).pending = s.pending := rfl

end

/-! ### State.modSm -/

section
variable (f : SettingsMemory → SettingsMemory)

@[simp] theorem State.modSm_powered : (s.modSm f).powered = s.powered := rfl
@[simp] theorem State.modSm_clk : (s.modSm f).clk = s.clk := rfl
@[simp] theorem State.modSm_tb : (s.modSm f).tb = s.tb := rfl
@[simp] theorem State.modSm_si : (s.modSm f).si = s.si := rfl
@[simp] theorem State.modSm_fe : (s.modSm f).fe = s.fe := rfl
@[simp] theorem State.modSm_tu : (s.modSm f).tu = s.tu := rfl
@[simp] theorem State.modSm_ws : (s.modSm f).ws = s.ws := rfl
@[simp] theorem State.modSm_et : (s.modSm f).et = s.et := rfl
@[simp] theorem State.modSm_al : (s.modSm f).al = s.al := rfl
@[simp] theorem State.modSm_hm : (s.modSm f).hm = s.hm := rfl
@[simp] theorem State.modSm_ca : (s.modSm f).ca = s.ca := rfl
@[simp] theorem State.modSm_hc : (s.modSm f).hc = s.hc := rfl
@[simp] theorem State.modSm_pt : (s.modSm f).pt = s.pt := rfl
@[simp] theorem State.modSm_sl : (s.modSm f).sl = s.sl := rfl
@[simp] theorem State.modSm_sm : (s.modSm f).sm = f s.sm := rfl
@[simp] theorem State.modSm_lines : (s.modSm f).lines = s.lines := rfl
@[simp] theorem State.modSm_freeCount : (s.modSm f).freeCount = s.freeCount := rfl
@[simp] theorem State.modSm_pending : (s.modSm f).pending = s.pending := rfl

end

/-! ### State.modLines -/

section
variable (f : Lines → Lines)

@[simp] theorem State.modLines_powered : (s.modLines f).powered = s.powered := rfl
@[simp] theorem State.modLines_clk : (s.modLines f).clk = s.clk := rfl
@[simp] theorem State.modLines_tb : (s.modLines f).tb = s.tb := rfl
@[simp] theorem State.modLines_si : (s.modLines f).si = s.si := rfl
@[simp] theorem State.modLines_fe : (s.modLines f).fe = s.fe := rfl
@[simp] theorem State.modLines_tu : (s.modLines f).tu = s.tu := rfl
@[simp] theorem State.modLines_ws : (s.modLines f).ws = s.ws := rfl
@[simp] theorem State.modLines_et : (s.modLines f).et = s.et := rfl
@[simp] theorem State.modLines_al : (s.modLines f).al = s.al := rfl
@[simp] theorem State.modLines_hm : (s.modLines f).hm = s.hm := rfl
@[simp] theorem State.modLines_ca : (s.modLines f).ca = s.ca := rfl
@[simp] theorem State.modLines_hc : (s.modLines f).hc = s.hc := rfl
@[simp] theorem State.modLines_pt : (s.modLines f).pt = s.pt := rfl
@[simp] theorem State.modLines_sl : (s.modLines f).sl = s.sl := rfl
@[simp] theorem State.modLines_sm : (s.modLines f).sm = s.sm := rfl
@[simp] theorem State.modLines_lines : (s.modLines f).lines = f s.lines := rfl
@[simp] theorem State.modLines_freeCount : (s.modLines f).freeCount = s.freeCount := rfl
@[simp] theorem State.modLines_pending : (s.modLines f).pending = s.pending := rfl

end

/-! ### State.elapse: only the clocks move -/

section
variable (d : Elapsed)

@[simp] theorem State.elapse_powered : (s.elapse d).powered = s.powered := rfl
@[simp] theorem State.elapse_tb : (s.elapse d).tb = s.tb := rfl
@[simp] theorem State.elapse_si : (s.elapse d).si = s.si := rfl
@[simp] theorem State.elapse_fe : (s.elapse d).fe = s.fe := rfl
@[simp] theorem State.elapse_tu : (s.elapse d).tu = s.tu := rfl
@[simp] theorem State.elapse_ws : (s.elapse d).ws = s.ws := rfl
@[simp] theorem State.elapse_et : (s.elapse d).et = s.et := rfl
@[simp] theorem State.elapse_al : (s.elapse d).al = s.al := rfl
@[simp] theorem State.elapse_hm : (s.elapse d).hm = s.hm := rfl
@[simp] theorem State.elapse_ca : (s.elapse d).ca = s.ca := rfl
@[simp] theorem State.elapse_hc : (s.elapse d).hc = s.hc := rfl
@[simp] theorem State.elapse_pt : (s.elapse d).pt = s.pt := rfl
@[simp] theorem State.elapse_sl : (s.elapse d).sl = s.sl := rfl
@[simp] theorem State.elapse_sm : (s.elapse d).sm = s.sm := rfl
@[simp] theorem State.elapse_lines : (s.elapse d).lines = s.lines := rfl
@[simp] theorem State.elapse_freeCount : (s.elapse d).freeCount = s.freeCount := rfl
@[simp] theorem State.elapse_pending : (s.elapse d).pending = s.pending := rfl

end

/-! ### State.setTime: only disciplined time moves -/

section
variable (t : Time)

@[simp] theorem State.setTime_powered : (s.setTime t).powered = s.powered := rfl
@[simp] theorem State.setTime_tb : (s.setTime t).tb = s.tb := rfl
@[simp] theorem State.setTime_si : (s.setTime t).si = s.si := rfl
@[simp] theorem State.setTime_fe : (s.setTime t).fe = s.fe := rfl
@[simp] theorem State.setTime_tu : (s.setTime t).tu = s.tu := rfl
@[simp] theorem State.setTime_ws : (s.setTime t).ws = s.ws := rfl
@[simp] theorem State.setTime_et : (s.setTime t).et = s.et := rfl
@[simp] theorem State.setTime_al : (s.setTime t).al = s.al := rfl
@[simp] theorem State.setTime_hm : (s.setTime t).hm = s.hm := rfl
@[simp] theorem State.setTime_ca : (s.setTime t).ca = s.ca := rfl
@[simp] theorem State.setTime_hc : (s.setTime t).hc = s.hc := rfl
@[simp] theorem State.setTime_pt : (s.setTime t).pt = s.pt := rfl
@[simp] theorem State.setTime_sl : (s.setTime t).sl = s.sl := rfl
@[simp] theorem State.setTime_sm : (s.setTime t).sm = s.sm := rfl
@[simp] theorem State.setTime_lines : (s.setTime t).lines = s.lines := rfl
@[simp] theorem State.setTime_freeCount : (s.setTime t).freeCount = s.freeCount := rfl
@[simp] theorem State.setTime_pending : (s.setTime t).pending = s.pending := rfl
@[simp] theorem State.setTime_time : (s.setTime t).clk.time = t := rfl
@[simp] theorem State.setTime_watch : (s.setTime t).clk.watch = s.clk.watch := rfl
@[simp] theorem State.setTime_mainRun : (s.setTime t).clk.mainRun = s.clk.mainRun := rfl
@[simp] theorem State.setTime_watchRun : (s.setTime t).clk.watchRun = s.clk.watchRun := rfl

end

/-! ### Instants -/

/-- When an instant counts as reached: time stands at it, or at most 25 ns past it and was not moved to after it. -/
theorem State.reached_iff (instant : Nat) :
    s.reached instant = true ↔
      s.now.toNs = instant ∨
        (instant ≤ s.now.toNs ∧ s.now.toNs ≤ instant + 25 ∧ ∀ p, s.tb.movedTo = some p → p.toNs ≤ instant) := by
  unfold State.reached State.carriedPast reachedNs
  cases s.tb.movedTo <;> simp <;> omega

/-! ### The frame of a meaning -/

theorem timed_powered (d : Elapsed) (f : State → State) (h : s.powered = true) : timed d s f = .next (f (s.elapse d)) := by
  simp [timed, h]

theorem timed_unpowered (d : Elapsed) (f : State → State) (h : s.powered = false) : timed d s f = .next s := by
  simp [timed, h]

/-- A command always answers a next state: the old one without supply, the state after the elapsed time and the meaning's work
with it. -/
theorem timed_next (d : Elapsed) (f : State → State) :
    timed d s f = .next s ∨ timed d s f = .next (f (s.elapse d)) := by
  unfold timed; split
  · exact .inr rfl
  · exact .inl rfl

end Sys2Proof.Machine
end

