-- ==== Sys2Proof/Laws/FramesCore.lean ====
section
/-! SUPPORT. The frame of each shared operation of the host rail, flags, alert queue and time base: one lemma for each block of State that the
operation leaves as it is. -/

namespace Sys2Proof.Machine

/-- A fold keeps what each of its steps keeps. -/
theorem foldl_keeps {α β : Type} (g : State → β) (f : State → α → State) (h : ∀ s a, g (f s a) = g s) (l : List α) (s : State) :
    g (l.foldl f s) = g s := by
  induction l generalizing s with
  | nil => rfl
  | cons a l ih => exact (ih (f s a)).trans (h s a)

variable (s : State)

@[simp] theorem hostRailOff_powered : (hostRailOff s).powered = s.powered := by
  simp [hostRailOff]
@[simp] theorem hostRailOff_clk : (hostRailOff s).clk = s.clk := by
  simp [hostRailOff]
@[simp] theorem hostRailOff_tb : (hostRailOff s).tb = s.tb := by
  simp [hostRailOff]
@[simp] theorem hostRailOff_si : (hostRailOff s).si = s.si := by
  simp [hostRailOff]
@[simp] theorem hostRailOff_fe : (hostRailOff s).fe = s.fe := by
  simp [hostRailOff]
@[simp] theorem hostRailOff_tu : (hostRailOff s).tu = s.tu := by
  simp [hostRailOff]
@[simp] theorem hostRailOff_ws : (hostRailOff s).ws = s.ws := by
  simp [hostRailOff]
@[simp] theorem hostRailOff_et : (hostRailOff s).et = s.et := by
  simp [hostRailOff]
@[simp] theorem hostRailOff_al : (hostRailOff s).al = s.al := by
  simp [hostRailOff]
@[simp] theorem hostRailOff_hm : (hostRailOff s).hm = s.hm := by
  simp [hostRailOff]
@[simp] theorem hostRailOff_ca : (hostRailOff s).ca = s.ca := by
  simp [hostRailOff]
@[simp] theorem hostRailOff_hc : (hostRailOff s).hc = s.hc := by
  simp [hostRailOff]
@[simp] theorem hostRailOff_sm : (hostRailOff s).sm = s.sm := by
  simp [hostRailOff]
@[simp] theorem hostRailOff_lines : (hostRailOff s).lines = s.lines := by
  simp [hostRailOff]
@[simp] theorem hostRailOff_freeCount : (hostRailOff s).freeCount = s.freeCount := by
  simp [hostRailOff]
@[simp] theorem hostRailOff_pending : (hostRailOff s).pending = s.pending := by
  simp [hostRailOff]

@[simp] theorem hostRailOn_powered : (hostRailOn s).powered = s.powered := by
  simp [hostRailOn]
@[simp] theorem hostRailOn_clk : (hostRailOn s).clk = s.clk := by
  simp [hostRailOn]
@[simp] theorem hostRailOn_tb : (hostRailOn s).tb = s.tb := by
  simp [hostRailOn]
@[simp] theorem hostRailOn_si : (hostRailOn s).si = s.si := by
  simp [hostRailOn]
@[simp] theorem hostRailOn_fe : (hostRailOn s).fe = s.fe := by
  simp [hostRailOn]
@[simp] theorem hostRailOn_tu : (hostRailOn s).tu = s.tu := by
  simp [hostRailOn]
@[simp] theorem hostRailOn_ws : (hostRailOn s).ws = s.ws := by
  simp [hostRailOn]
@[simp] theorem hostRailOn_et : (hostRailOn s).et = s.et := by
  simp [hostRailOn]
@[simp] theorem hostRailOn_al : (hostRailOn s).al = s.al := by
  simp [hostRailOn]
@[simp] theorem hostRailOn_hm : (hostRailOn s).hm = s.hm := by
  simp [hostRailOn]
@[simp] theorem hostRailOn_ca : (hostRailOn s).ca = s.ca := by
  simp [hostRailOn]
@[simp] theorem hostRailOn_hc : (hostRailOn s).hc = s.hc := by
  simp [hostRailOn]
@[simp] theorem hostRailOn_sm : (hostRailOn s).sm = s.sm := by
  simp [hostRailOn]
@[simp] theorem hostRailOn_lines : (hostRailOn s).lines = s.lines := by
  simp [hostRailOn]
@[simp] theorem hostRailOn_freeCount : (hostRailOn s).freeCount = s.freeCount := by
  simp [hostRailOn]
@[simp] theorem hostRailOn_pending : (hostRailOn s).pending = s.pending := by
  simp [hostRailOn]

@[simp] theorem setHostRail_powered (h : HostRail) : (setHostRail h s).powered = s.powered := by
  unfold setHostRail; dsimp only; (repeat' split) <;> simp
@[simp] theorem setHostRail_clk (h : HostRail) : (setHostRail h s).clk = s.clk := by
  unfold setHostRail; dsimp only; (repeat' split) <;> simp
@[simp] theorem setHostRail_tb (h : HostRail) : (setHostRail h s).tb = s.tb := by
  unfold setHostRail; dsimp only; (repeat' split) <;> simp
@[simp] theorem setHostRail_si (h : HostRail) : (setHostRail h s).si = s.si := by
  unfold setHostRail; dsimp only; (repeat' split) <;> simp
@[simp] theorem setHostRail_fe (h : HostRail) : (setHostRail h s).fe = s.fe := by
  unfold setHostRail; dsimp only; (repeat' split) <;> simp
@[simp] theorem setHostRail_tu (h : HostRail) : (setHostRail h s).tu = s.tu := by
  unfold setHostRail; dsimp only; (repeat' split) <;> simp
@[simp] theorem setHostRail_ws (h : HostRail) : (setHostRail h s).ws = s.ws := by
  unfold setHostRail; dsimp only; (repeat' split) <;> simp
@[simp] theorem setHostRail_et (h : HostRail) : (setHostRail h s).et = s.et := by
  unfold setHostRail; dsimp only; (repeat' split) <;> simp
@[simp] theorem setHostRail_al (h : HostRail) : (setHostRail h s).al = s.al := by
  unfold setHostRail; dsimp only; (repeat' split) <;> simp
@[simp] theorem setHostRail_hm (h : HostRail) : (setHostRail h s).hm = s.hm := by
  unfold setHostRail; dsimp only; (repeat' split) <;> simp
@[simp] theorem setHostRail_ca (h : HostRail) : (setHostRail h s).ca = s.ca := by
  unfold setHostRail; dsimp only; (repeat' split) <;> simp
@[simp] theorem setHostRail_hc (h : HostRail) : (setHostRail h s).hc = s.hc := by
  unfold setHostRail; dsimp only; (repeat' split) <;> simp
@[simp] theorem setHostRail_sm (h : HostRail) : (setHostRail h s).sm = s.sm := by
  unfold setHostRail; dsimp only; (repeat' split) <;> simp
@[simp] theorem setHostRail_lines (h : HostRail) : (setHostRail h s).lines = s.lines := by
  unfold setHostRail; dsimp only; (repeat' split) <;> simp
@[simp] theorem setHostRail_freeCount (h : HostRail) : (setHostRail h s).freeCount = s.freeCount := by
  unfold setHostRail; dsimp only; (repeat' split) <;> simp
@[simp] theorem setHostRail_pending (h : HostRail) : (setHostRail h s).pending = s.pending := by
  unfold setHostRail; dsimp only; (repeat' split) <;> simp

@[simp] theorem wakeHost_powered (c : WakeCause) : (wakeHost c s).powered = s.powered := by
  unfold wakeHost; split <;> simp
@[simp] theorem wakeHost_clk (c : WakeCause) : (wakeHost c s).clk = s.clk := by
  unfold wakeHost; split <;> simp
@[simp] theorem wakeHost_tb (c : WakeCause) : (wakeHost c s).tb = s.tb := by
  unfold wakeHost; split <;> simp
@[simp] theorem wakeHost_si (c : WakeCause) : (wakeHost c s).si = s.si := by
  unfold wakeHost; split <;> simp
@[simp] theorem wakeHost_fe (c : WakeCause) : (wakeHost c s).fe = s.fe := by
  unfold wakeHost; split <;> simp
@[simp] theorem wakeHost_tu (c : WakeCause) : (wakeHost c s).tu = s.tu := by
  unfold wakeHost; split <;> simp
@[simp] theorem wakeHost_ws (c : WakeCause) : (wakeHost c s).ws = s.ws := by
  unfold wakeHost; split <;> simp
@[simp] theorem wakeHost_et (c : WakeCause) : (wakeHost c s).et = s.et := by
  unfold wakeHost; split <;> simp
@[simp] theorem wakeHost_al (c : WakeCause) : (wakeHost c s).al = s.al := by
  unfold wakeHost; split <;> simp
@[simp] theorem wakeHost_hm (c : WakeCause) : (wakeHost c s).hm = s.hm := by
  unfold wakeHost; split <;> simp
@[simp] theorem wakeHost_ca (c : WakeCause) : (wakeHost c s).ca = s.ca := by
  unfold wakeHost; split <;> simp
@[simp] theorem wakeHost_hc (c : WakeCause) : (wakeHost c s).hc = s.hc := by
  unfold wakeHost; split <;> simp
@[simp] theorem wakeHost_sm (c : WakeCause) : (wakeHost c s).sm = s.sm := by
  unfold wakeHost; split <;> simp
@[simp] theorem wakeHost_lines (c : WakeCause) : (wakeHost c s).lines = s.lines := by
  unfold wakeHost; split <;> simp
@[simp] theorem wakeHost_freeCount (c : WakeCause) : (wakeHost c s).freeCount = s.freeCount := by
  unfold wakeHost; split <;> simp
@[simp] theorem wakeHost_pending (c : WakeCause) : (wakeHost c s).pending = s.pending := by
  unfold wakeHost; split <;> simp

@[simp] theorem wakeAtTime_powered : (wakeAtTime s).powered = s.powered := by
  unfold wakeAtTime; (repeat' split) <;> simp
@[simp] theorem wakeAtTime_clk : (wakeAtTime s).clk = s.clk := by
  unfold wakeAtTime; (repeat' split) <;> simp
@[simp] theorem wakeAtTime_tb : (wakeAtTime s).tb = s.tb := by
  unfold wakeAtTime; (repeat' split) <;> simp
@[simp] theorem wakeAtTime_si : (wakeAtTime s).si = s.si := by
  unfold wakeAtTime; (repeat' split) <;> simp
@[simp] theorem wakeAtTime_fe : (wakeAtTime s).fe = s.fe := by
  unfold wakeAtTime; (repeat' split) <;> simp
@[simp] theorem wakeAtTime_tu : (wakeAtTime s).tu = s.tu := by
  unfold wakeAtTime; (repeat' split) <;> simp
@[simp] theorem wakeAtTime_ws : (wakeAtTime s).ws = s.ws := by
  unfold wakeAtTime; (repeat' split) <;> simp
@[simp] theorem wakeAtTime_et : (wakeAtTime s).et = s.et := by
  unfold wakeAtTime; (repeat' split) <;> simp
@[simp] theorem wakeAtTime_al : (wakeAtTime s).al = s.al := by
  unfold wakeAtTime; (repeat' split) <;> simp
@[simp] theorem wakeAtTime_hm : (wakeAtTime s).hm = s.hm := by
  unfold wakeAtTime; (repeat' split) <;> simp
@[simp] theorem wakeAtTime_ca : (wakeAtTime s).ca = s.ca := by
  unfold wakeAtTime; (repeat' split) <;> simp
@[simp] theorem wakeAtTime_hc : (wakeAtTime s).hc = s.hc := by
  unfold wakeAtTime; (repeat' split) <;> simp
@[simp] theorem wakeAtTime_sm : (wakeAtTime s).sm = s.sm := by
  unfold wakeAtTime; (repeat' split) <;> simp
@[simp] theorem wakeAtTime_lines : (wakeAtTime s).lines = s.lines := by
  unfold wakeAtTime; (repeat' split) <;> simp
@[simp] theorem wakeAtTime_freeCount : (wakeAtTime s).freeCount = s.freeCount := by
  unfold wakeAtTime; (repeat' split) <;> simp
@[simp] theorem wakeAtTime_pending : (wakeAtTime s).pending = s.pending := by
  unfold wakeAtTime; (repeat' split) <;> simp

@[simp] theorem raise_powered (f : AttnFlag) : (raise f s).powered = s.powered := by
  unfold raise; dsimp only; split <;> simp
@[simp] theorem raise_clk (f : AttnFlag) : (raise f s).clk = s.clk := by
  unfold raise; dsimp only; split <;> simp
@[simp] theorem raise_tb (f : AttnFlag) : (raise f s).tb = s.tb := by
  unfold raise; dsimp only; split <;> simp
@[simp] theorem raise_si (f : AttnFlag) : (raise f s).si = s.si := by
  unfold raise; dsimp only; split <;> simp
@[simp] theorem raise_fe (f : AttnFlag) : (raise f s).fe = s.fe := by
  unfold raise; dsimp only; split <;> simp
@[simp] theorem raise_tu (f : AttnFlag) : (raise f s).tu = s.tu := by
  unfold raise; dsimp only; split <;> simp
@[simp] theorem raise_ws (f : AttnFlag) : (raise f s).ws = s.ws := by
  unfold raise; dsimp only; split <;> simp
@[simp] theorem raise_et (f : AttnFlag) : (raise f s).et = s.et := by
  unfold raise; dsimp only; split <;> simp
@[simp] theorem raise_al (f : AttnFlag) : (raise f s).al = s.al := by
  unfold raise; dsimp only; split <;> simp
@[simp] theorem raise_hm (f : AttnFlag) : (raise f s).hm = s.hm := by
  unfold raise; dsimp only; split <;> simp
@[simp] theorem raise_ca (f : AttnFlag) : (raise f s).ca = s.ca := by
  unfold raise; dsimp only; split <;> simp
@[simp] theorem raise_hc (f : AttnFlag) : (raise f s).hc = s.hc := by
  unfold raise; dsimp only; split <;> simp
@[simp] theorem raise_sm (f : AttnFlag) : (raise f s).sm = s.sm := by
  unfold raise; dsimp only; split <;> simp
@[simp] theorem raise_lines (f : AttnFlag) : (raise f s).lines = s.lines := by
  unfold raise; dsimp only; split <;> simp
@[simp] theorem raise_freeCount (f : AttnFlag) : (raise f s).freeCount = s.freeCount := by
  unfold raise; dsimp only; split <;> simp
@[simp] theorem raise_pending (f : AttnFlag) : (raise f s).pending = s.pending := by
  unfold raise; dsimp only; split <;> simp

@[simp] theorem updRecord_powered (n : Nat) (f : EventRecord → EventRecord) : (updRecord n f s).powered = s.powered := by
  simp [updRecord]
@[simp] theorem updRecord_clk (n : Nat) (f : EventRecord → EventRecord) : (updRecord n f s).clk = s.clk := by
  simp [updRecord]
@[simp] theorem updRecord_tb (n : Nat) (f : EventRecord → EventRecord) : (updRecord n f s).tb = s.tb := by
  simp [updRecord]
@[simp] theorem updRecord_si (n : Nat) (f : EventRecord → EventRecord) : (updRecord n f s).si = s.si := by
  simp [updRecord]
@[simp] theorem updRecord_fe (n : Nat) (f : EventRecord → EventRecord) : (updRecord n f s).fe = s.fe := by
  simp [updRecord]
@[simp] theorem updRecord_tu (n : Nat) (f : EventRecord → EventRecord) : (updRecord n f s).tu = s.tu := by
  simp [updRecord]
@[simp] theorem updRecord_ws (n : Nat) (f : EventRecord → EventRecord) : (updRecord n f s).ws = s.ws := by
  simp [updRecord]
@[simp] theorem updRecord_al (n : Nat) (f : EventRecord → EventRecord) : (updRecord n f s).al = s.al := by
  simp [updRecord]
@[simp] theorem updRecord_hm (n : Nat) (f : EventRecord → EventRecord) : (updRecord n f s).hm = s.hm := by
  simp [updRecord]
@[simp] theorem updRecord_ca (n : Nat) (f : EventRecord → EventRecord) : (updRecord n f s).ca = s.ca := by
  simp [updRecord]
@[simp] theorem updRecord_hc (n : Nat) (f : EventRecord → EventRecord) : (updRecord n f s).hc = s.hc := by
  simp [updRecord]
@[simp] theorem updRecord_pt (n : Nat) (f : EventRecord → EventRecord) : (updRecord n f s).pt = s.pt := by
  simp [updRecord]
@[simp] theorem updRecord_sl (n : Nat) (f : EventRecord → EventRecord) : (updRecord n f s).sl = s.sl := by
  simp [updRecord]
@[simp] theorem updRecord_sm (n : Nat) (f : EventRecord → EventRecord) : (updRecord n f s).sm = s.sm := by
  simp [updRecord]
@[simp] theorem updRecord_lines (n : Nat) (f : EventRecord → EventRecord) : (updRecord n f s).lines = s.lines := by
  simp [updRecord]
@[simp] theorem updRecord_freeCount (n : Nat) (f : EventRecord → EventRecord) : (updRecord n f s).freeCount = s.freeCount := by
  simp [updRecord]
@[simp] theorem updRecord_pending (n : Nat) (f : EventRecord → EventRecord) : (updRecord n f s).pending = s.pending := by
  simp [updRecord]

@[simp] theorem setEventFlag_powered (n : Nat) (f : EventFlags → EventFlags) : (setEventFlag n f s).powered = s.powered := by
  simp [setEventFlag]
@[simp] theorem setEventFlag_clk (n : Nat) (f : EventFlags → EventFlags) : (setEventFlag n f s).clk = s.clk := by
  simp [setEventFlag]
@[simp] theorem setEventFlag_tb (n : Nat) (f : EventFlags → EventFlags) : (setEventFlag n f s).tb = s.tb := by
  simp [setEventFlag]
@[simp] theorem setEventFlag_si (n : Nat) (f : EventFlags → EventFlags) : (setEventFlag n f s).si = s.si := by
  simp [setEventFlag]
@[simp] theorem setEventFlag_fe (n : Nat) (f : EventFlags → EventFlags) : (setEventFlag n f s).fe = s.fe := by
  simp [setEventFlag]
@[simp] theorem setEventFlag_tu (n : Nat) (f : EventFlags → EventFlags) : (setEventFlag n f s).tu = s.tu := by
  simp [setEventFlag]
@[simp] theorem setEventFlag_ws (n : Nat) (f : EventFlags → EventFlags) : (setEventFlag n f s).ws = s.ws := by
  simp [setEventFlag]
@[simp] theorem setEventFlag_al (n : Nat) (f : EventFlags → EventFlags) : (setEventFlag n f s).al = s.al := by
  simp [setEventFlag]
@[simp] theorem setEventFlag_hm (n : Nat) (f : EventFlags → EventFlags) : (setEventFlag n f s).hm = s.hm := by
  simp [setEventFlag]
@[simp] theorem setEventFlag_ca (n : Nat) (f : EventFlags → EventFlags) : (setEventFlag n f s).ca = s.ca := by
  simp [setEventFlag]
@[simp] theorem setEventFlag_hc (n : Nat) (f : EventFlags → EventFlags) : (setEventFlag n f s).hc = s.hc := by
  simp [setEventFlag]
@[simp] theorem setEventFlag_pt (n : Nat) (f : EventFlags → EventFlags) : (setEventFlag n f s).pt = s.pt := by
  simp [setEventFlag]
@[simp] theorem setEventFlag_sl (n : Nat) (f : EventFlags → EventFlags) : (setEventFlag n f s).sl = s.sl := by
  simp [setEventFlag]
@[simp] theorem setEventFlag_sm (n : Nat) (f : EventFlags → EventFlags) : (setEventFlag n f s).sm = s.sm := by
  simp [setEventFlag]
@[simp] theorem setEventFlag_lines (n : Nat) (f : EventFlags → EventFlags) : (setEventFlag n f s).lines = s.lines := by
  simp [setEventFlag]
@[simp] theorem setEventFlag_freeCount (n : Nat) (f : EventFlags → EventFlags) : (setEventFlag n f s).freeCount = s.freeCount := by
  simp [setEventFlag]
@[simp] theorem setEventFlag_pending (n : Nat) (f : EventFlags → EventFlags) : (setEventFlag n f s).pending = s.pending := by
  simp [setEventFlag]

@[simp] theorem setCurrentFlag_powered (f : EventFlags → EventFlags) : (setCurrentFlag f s).powered = s.powered := by
  unfold setCurrentFlag; split <;> simp
@[simp] theorem setCurrentFlag_clk (f : EventFlags → EventFlags) : (setCurrentFlag f s).clk = s.clk := by
  unfold setCurrentFlag; split <;> simp
@[simp] theorem setCurrentFlag_tb (f : EventFlags → EventFlags) : (setCurrentFlag f s).tb = s.tb := by
  unfold setCurrentFlag; split <;> simp
@[simp] theorem setCurrentFlag_si (f : EventFlags → EventFlags) : (setCurrentFlag f s).si = s.si := by
  unfold setCurrentFlag; split <;> simp
@[simp] theorem setCurrentFlag_fe (f : EventFlags → EventFlags) : (setCurrentFlag f s).fe = s.fe := by
  unfold setCurrentFlag; split <;> simp
@[simp] theorem setCurrentFlag_tu (f : EventFlags → EventFlags) : (setCurrentFlag f s).tu = s.tu := by
  unfold setCurrentFlag; split <;> simp
@[simp] theorem setCurrentFlag_ws (f : EventFlags → EventFlags) : (setCurrentFlag f s).ws = s.ws := by
  unfold setCurrentFlag; split <;> simp
@[simp] theorem setCurrentFlag_al (f : EventFlags → EventFlags) : (setCurrentFlag f s).al = s.al := by
  unfold setCurrentFlag; split <;> simp
@[simp] theorem setCurrentFlag_hm (f : EventFlags → EventFlags) : (setCurrentFlag f s).hm = s.hm := by
  unfold setCurrentFlag; split <;> simp
@[simp] theorem setCurrentFlag_ca (f : EventFlags → EventFlags) : (setCurrentFlag f s).ca = s.ca := by
  unfold setCurrentFlag; split <;> simp
@[simp] theorem setCurrentFlag_hc (f : EventFlags → EventFlags) : (setCurrentFlag f s).hc = s.hc := by
  unfold setCurrentFlag; split <;> simp
@[simp] theorem setCurrentFlag_pt (f : EventFlags → EventFlags) : (setCurrentFlag f s).pt = s.pt := by
  unfold setCurrentFlag; split <;> simp
@[simp] theorem setCurrentFlag_sl (f : EventFlags → EventFlags) : (setCurrentFlag f s).sl = s.sl := by
  unfold setCurrentFlag; split <;> simp
@[simp] theorem setCurrentFlag_sm (f : EventFlags → EventFlags) : (setCurrentFlag f s).sm = s.sm := by
  unfold setCurrentFlag; split <;> simp
@[simp] theorem setCurrentFlag_lines (f : EventFlags → EventFlags) : (setCurrentFlag f s).lines = s.lines := by
  unfold setCurrentFlag; split <;> simp
@[simp] theorem setCurrentFlag_freeCount (f : EventFlags → EventFlags) : (setCurrentFlag f s).freeCount = s.freeCount := by
  unfold setCurrentFlag; split <;> simp
@[simp] theorem setCurrentFlag_pending (f : EventFlags → EventFlags) : (setCurrentFlag f s).pending = s.pending := by
  unfold setCurrentFlag; split <;> simp

@[simp] theorem writeAlert_powered (j : Subject) (st : AlertState) (c : AlertClass) : (writeAlert j st c s).powered = s.powered := by
  unfold writeAlert; split <;> simp
@[simp] theorem writeAlert_clk (j : Subject) (st : AlertState) (c : AlertClass) : (writeAlert j st c s).clk = s.clk := by
  unfold writeAlert; split <;> simp
@[simp] theorem writeAlert_tb (j : Subject) (st : AlertState) (c : AlertClass) : (writeAlert j st c s).tb = s.tb := by
  unfold writeAlert; split <;> simp
@[simp] theorem writeAlert_si (j : Subject) (st : AlertState) (c : AlertClass) : (writeAlert j st c s).si = s.si := by
  unfold writeAlert; split <;> simp
@[simp] theorem writeAlert_fe (j : Subject) (st : AlertState) (c : AlertClass) : (writeAlert j st c s).fe = s.fe := by
  unfold writeAlert; split <;> simp
@[simp] theorem writeAlert_tu (j : Subject) (st : AlertState) (c : AlertClass) : (writeAlert j st c s).tu = s.tu := by
  unfold writeAlert; split <;> simp
@[simp] theorem writeAlert_ws (j : Subject) (st : AlertState) (c : AlertClass) : (writeAlert j st c s).ws = s.ws := by
  unfold writeAlert; split <;> simp
@[simp] theorem writeAlert_al (j : Subject) (st : AlertState) (c : AlertClass) : (writeAlert j st c s).al = s.al := by
  unfold writeAlert; split <;> simp
@[simp] theorem writeAlert_hm (j : Subject) (st : AlertState) (c : AlertClass) : (writeAlert j st c s).hm = s.hm := by
  unfold writeAlert; split <;> simp
@[simp] theorem writeAlert_ca (j : Subject) (st : AlertState) (c : AlertClass) : (writeAlert j st c s).ca = s.ca := by
  unfold writeAlert; split <;> simp
@[simp] theorem writeAlert_hc (j : Subject) (st : AlertState) (c : AlertClass) : (writeAlert j st c s).hc = s.hc := by
  unfold writeAlert; split <;> simp
@[simp] theorem writeAlert_pt (j : Subject) (st : AlertState) (c : AlertClass) : (writeAlert j st c s).pt = s.pt := by
  unfold writeAlert; split <;> simp
@[simp] theorem writeAlert_sl (j : Subject) (st : AlertState) (c : AlertClass) : (writeAlert j st c s).sl = s.sl := by
  unfold writeAlert; split <;> simp
@[simp] theorem writeAlert_sm (j : Subject) (st : AlertState) (c : AlertClass) : (writeAlert j st c s).sm = s.sm := by
  unfold writeAlert; split <;> simp
@[simp] theorem writeAlert_lines (j : Subject) (st : AlertState) (c : AlertClass) : (writeAlert j st c s).lines = s.lines := by
  unfold writeAlert; split <;> simp
@[simp] theorem writeAlert_freeCount (j : Subject) (st : AlertState) (c : AlertClass) : (writeAlert j st c s).freeCount = s.freeCount := by
  unfold writeAlert; split <;> simp
@[simp] theorem writeAlert_pending (j : Subject) (st : AlertState) (c : AlertClass) : (writeAlert j st c s).pending = s.pending := by
  unfold writeAlert; split <;> simp

@[simp] theorem updEntry_powered (n : Nat) (f : Entry → Entry) : (updEntry n f s).powered = s.powered := by
  simp [updEntry]
@[simp] theorem updEntry_clk (n : Nat) (f : Entry → Entry) : (updEntry n f s).clk = s.clk := by
  simp [updEntry]
@[simp] theorem updEntry_tb (n : Nat) (f : Entry → Entry) : (updEntry n f s).tb = s.tb := by
  simp [updEntry]
@[simp] theorem updEntry_si (n : Nat) (f : Entry → Entry) : (updEntry n f s).si = s.si := by
  simp [updEntry]
@[simp] theorem updEntry_fe (n : Nat) (f : Entry → Entry) : (updEntry n f s).fe = s.fe := by
  simp [updEntry]
@[simp] theorem updEntry_tu (n : Nat) (f : Entry → Entry) : (updEntry n f s).tu = s.tu := by
  simp [updEntry]
@[simp] theorem updEntry_ws (n : Nat) (f : Entry → Entry) : (updEntry n f s).ws = s.ws := by
  simp [updEntry]
@[simp] theorem updEntry_et (n : Nat) (f : Entry → Entry) : (updEntry n f s).et = s.et := by
  simp [updEntry]
@[simp] theorem updEntry_hm (n : Nat) (f : Entry → Entry) : (updEntry n f s).hm = s.hm := by
  simp [updEntry]
@[simp] theorem updEntry_ca (n : Nat) (f : Entry → Entry) : (updEntry n f s).ca = s.ca := by
  simp [updEntry]
@[simp] theorem updEntry_hc (n : Nat) (f : Entry → Entry) : (updEntry n f s).hc = s.hc := by
  simp [updEntry]
@[simp] theorem updEntry_pt (n : Nat) (f : Entry → Entry) : (updEntry n f s).pt = s.pt := by
  simp [updEntry]
@[simp] theorem updEntry_sl (n : Nat) (f : Entry → Entry) : (updEntry n f s).sl = s.sl := by
  simp [updEntry]
@[simp] theorem updEntry_sm (n : Nat) (f : Entry → Entry) : (updEntry n f s).sm = s.sm := by
  simp [updEntry]
@[simp] theorem updEntry_lines (n : Nat) (f : Entry → Entry) : (updEntry n f s).lines = s.lines := by
  simp [updEntry]
@[simp] theorem updEntry_freeCount (n : Nat) (f : Entry → Entry) : (updEntry n f s).freeCount = s.freeCount := by
  simp [updEntry]
@[simp] theorem updEntry_pending (n : Nat) (f : Entry → Entry) : (updEntry n f s).pending = s.pending := by
  simp [updEntry]

@[simp] theorem outcome_powered (e : Entry) (o : AlertState) (w : Bool) : (outcome e o w s).powered = s.powered := by
  unfold outcome; dsimp only; split <;> simp
@[simp] theorem outcome_clk (e : Entry) (o : AlertState) (w : Bool) : (outcome e o w s).clk = s.clk := by
  unfold outcome; dsimp only; split <;> simp
@[simp] theorem outcome_tb (e : Entry) (o : AlertState) (w : Bool) : (outcome e o w s).tb = s.tb := by
  unfold outcome; dsimp only; split <;> simp
@[simp] theorem outcome_si (e : Entry) (o : AlertState) (w : Bool) : (outcome e o w s).si = s.si := by
  unfold outcome; dsimp only; split <;> simp
@[simp] theorem outcome_fe (e : Entry) (o : AlertState) (w : Bool) : (outcome e o w s).fe = s.fe := by
  unfold outcome; dsimp only; split <;> simp
@[simp] theorem outcome_tu (e : Entry) (o : AlertState) (w : Bool) : (outcome e o w s).tu = s.tu := by
  unfold outcome; dsimp only; split <;> simp
@[simp] theorem outcome_ws (e : Entry) (o : AlertState) (w : Bool) : (outcome e o w s).ws = s.ws := by
  unfold outcome; dsimp only; split <;> simp
@[simp] theorem outcome_hm (e : Entry) (o : AlertState) (w : Bool) : (outcome e o w s).hm = s.hm := by
  unfold outcome; dsimp only; split <;> simp
@[simp] theorem outcome_ca (e : Entry) (o : AlertState) (w : Bool) : (outcome e o w s).ca = s.ca := by
  unfold outcome; dsimp only; split <;> simp
@[simp] theorem outcome_hc (e : Entry) (o : AlertState) (w : Bool) : (outcome e o w s).hc = s.hc := by
  unfold outcome; dsimp only; split <;> simp
@[simp] theorem outcome_sm (e : Entry) (o : AlertState) (w : Bool) : (outcome e o w s).sm = s.sm := by
  unfold outcome; dsimp only; split <;> simp
@[simp] theorem outcome_lines (e : Entry) (o : AlertState) (w : Bool) : (outcome e o w s).lines = s.lines := by
  unfold outcome; dsimp only; split <;> simp
@[simp] theorem outcome_freeCount (e : Entry) (o : AlertState) (w : Bool) : (outcome e o w s).freeCount = s.freeCount := by
  unfold outcome; dsimp only; split <;> simp
@[simp] theorem outcome_pending (e : Entry) (o : AlertState) (w : Bool) : (outcome e o w s).pending = s.pending := by
  unfold outcome; dsimp only; split <;> simp

@[simp] theorem joinQueue_powered (e : Entry) : (joinQueue e s).powered = s.powered := by
  simp [joinQueue]
@[simp] theorem joinQueue_clk (e : Entry) : (joinQueue e s).clk = s.clk := by
  simp [joinQueue]
@[simp] theorem joinQueue_tb (e : Entry) : (joinQueue e s).tb = s.tb := by
  simp [joinQueue]
@[simp] theorem joinQueue_si (e : Entry) : (joinQueue e s).si = s.si := by
  simp [joinQueue]
@[simp] theorem joinQueue_fe (e : Entry) : (joinQueue e s).fe = s.fe := by
  simp [joinQueue]
@[simp] theorem joinQueue_tu (e : Entry) : (joinQueue e s).tu = s.tu := by
  simp [joinQueue]
@[simp] theorem joinQueue_ws (e : Entry) : (joinQueue e s).ws = s.ws := by
  simp [joinQueue]
@[simp] theorem joinQueue_hm (e : Entry) : (joinQueue e s).hm = s.hm := by
  simp [joinQueue]
@[simp] theorem joinQueue_ca (e : Entry) : (joinQueue e s).ca = s.ca := by
  simp [joinQueue]
@[simp] theorem joinQueue_hc (e : Entry) : (joinQueue e s).hc = s.hc := by
  simp [joinQueue]
@[simp] theorem joinQueue_pt (e : Entry) : (joinQueue e s).pt = s.pt := by
  simp [joinQueue]
@[simp] theorem joinQueue_sl (e : Entry) : (joinQueue e s).sl = s.sl := by
  simp [joinQueue]
@[simp] theorem joinQueue_sm (e : Entry) : (joinQueue e s).sm = s.sm := by
  simp [joinQueue]
@[simp] theorem joinQueue_lines (e : Entry) : (joinQueue e s).lines = s.lines := by
  simp [joinQueue]
@[simp] theorem joinQueue_freeCount (e : Entry) : (joinQueue e s).freeCount = s.freeCount := by
  simp [joinQueue]
@[simp] theorem joinQueue_pending (e : Entry) : (joinQueue e s).pending = s.pending := by
  simp [joinQueue]

@[simp] theorem createEntry_powered (c : AlertClass) (j : Subject) (t : List Byte) : (createEntry c j t s).powered = s.powered := by
  unfold createEntry; dsimp only; (repeat' split) <;> simp
@[simp] theorem createEntry_clk (c : AlertClass) (j : Subject) (t : List Byte) : (createEntry c j t s).clk = s.clk := by
  unfold createEntry; dsimp only; (repeat' split) <;> simp
@[simp] theorem createEntry_tb (c : AlertClass) (j : Subject) (t : List Byte) : (createEntry c j t s).tb = s.tb := by
  unfold createEntry; dsimp only; (repeat' split) <;> simp
@[simp] theorem createEntry_si (c : AlertClass) (j : Subject) (t : List Byte) : (createEntry c j t s).si = s.si := by
  unfold createEntry; dsimp only; (repeat' split) <;> simp
@[simp] theorem createEntry_fe (c : AlertClass) (j : Subject) (t : List Byte) : (createEntry c j t s).fe = s.fe := by
  unfold createEntry; dsimp only; (repeat' split) <;> simp
@[simp] theorem createEntry_tu (c : AlertClass) (j : Subject) (t : List Byte) : (createEntry c j t s).tu = s.tu := by
  unfold createEntry; dsimp only; (repeat' split) <;> simp
@[simp] theorem createEntry_ws (c : AlertClass) (j : Subject) (t : List Byte) : (createEntry c j t s).ws = s.ws := by
  unfold createEntry; dsimp only; (repeat' split) <;> simp
@[simp] theorem createEntry_hm (c : AlertClass) (j : Subject) (t : List Byte) : (createEntry c j t s).hm = s.hm := by
  unfold createEntry; dsimp only; (repeat' split) <;> simp
@[simp] theorem createEntry_ca (c : AlertClass) (j : Subject) (t : List Byte) : (createEntry c j t s).ca = s.ca := by
  unfold createEntry; dsimp only; (repeat' split) <;> simp
@[simp] theorem createEntry_hc (c : AlertClass) (j : Subject) (t : List Byte) : (createEntry c j t s).hc = s.hc := by
  unfold createEntry; dsimp only; (repeat' split) <;> simp
@[simp] theorem createEntry_sm (c : AlertClass) (j : Subject) (t : List Byte) : (createEntry c j t s).sm = s.sm := by
  unfold createEntry; dsimp only; (repeat' split) <;> simp
@[simp] theorem createEntry_lines (c : AlertClass) (j : Subject) (t : List Byte) : (createEntry c j t s).lines = s.lines := by
  unfold createEntry; dsimp only; (repeat' split) <;> simp
@[simp] theorem createEntry_freeCount (c : AlertClass) (j : Subject) (t : List Byte) : (createEntry c j t s).freeCount = s.freeCount := by
  unfold createEntry; dsimp only; (repeat' split) <;> simp
@[simp] theorem createEntry_pending (c : AlertClass) (j : Subject) (t : List Byte) : (createEntry c j t s).pending = s.pending := by
  unfold createEntry; dsimp only; (repeat' split) <;> simp

@[simp] theorem offerAlert_powered (c : AlertClass) (j : Subject) : (offerAlert c j s).powered = s.powered := by
  unfold offerAlert; (repeat' split) <;> simp
@[simp] theorem offerAlert_clk (c : AlertClass) (j : Subject) : (offerAlert c j s).clk = s.clk := by
  unfold offerAlert; (repeat' split) <;> simp
@[simp] theorem offerAlert_tb (c : AlertClass) (j : Subject) : (offerAlert c j s).tb = s.tb := by
  unfold offerAlert; (repeat' split) <;> simp
@[simp] theorem offerAlert_si (c : AlertClass) (j : Subject) : (offerAlert c j s).si = s.si := by
  unfold offerAlert; (repeat' split) <;> simp
@[simp] theorem offerAlert_fe (c : AlertClass) (j : Subject) : (offerAlert c j s).fe = s.fe := by
  unfold offerAlert; (repeat' split) <;> simp
@[simp] theorem offerAlert_tu (c : AlertClass) (j : Subject) : (offerAlert c j s).tu = s.tu := by
  unfold offerAlert; (repeat' split) <;> simp
@[simp] theorem offerAlert_ws (c : AlertClass) (j : Subject) : (offerAlert c j s).ws = s.ws := by
  unfold offerAlert; (repeat' split) <;> simp
@[simp] theorem offerAlert_hm (c : AlertClass) (j : Subject) : (offerAlert c j s).hm = s.hm := by
  unfold offerAlert; (repeat' split) <;> simp
@[simp] theorem offerAlert_ca (c : AlertClass) (j : Subject) : (offerAlert c j s).ca = s.ca := by
  unfold offerAlert; (repeat' split) <;> simp
@[simp] theorem offerAlert_hc (c : AlertClass) (j : Subject) : (offerAlert c j s).hc = s.hc := by
  unfold offerAlert; (repeat' split) <;> simp
@[simp] theorem offerAlert_sm (c : AlertClass) (j : Subject) : (offerAlert c j s).sm = s.sm := by
  unfold offerAlert; (repeat' split) <;> simp
@[simp] theorem offerAlert_lines (c : AlertClass) (j : Subject) : (offerAlert c j s).lines = s.lines := by
  unfold offerAlert; (repeat' split) <;> simp
@[simp] theorem offerAlert_freeCount (c : AlertClass) (j : Subject) : (offerAlert c j s).freeCount = s.freeCount := by
  unfold offerAlert; (repeat' split) <;> simp
@[simp] theorem offerAlert_pending (c : AlertClass) (j : Subject) : (offerAlert c j s).pending = s.pending := by
  unfold offerAlert; (repeat' split) <;> simp

@[simp] theorem quakeAlert_powered (n : Nat) : (quakeAlert n s).powered = s.powered := by
  unfold quakeAlert; (repeat' split) <;> simp
@[simp] theorem quakeAlert_clk (n : Nat) : (quakeAlert n s).clk = s.clk := by
  unfold quakeAlert; (repeat' split) <;> simp
@[simp] theorem quakeAlert_tb (n : Nat) : (quakeAlert n s).tb = s.tb := by
  unfold quakeAlert; (repeat' split) <;> simp
@[simp] theorem quakeAlert_si (n : Nat) : (quakeAlert n s).si = s.si := by
  unfold quakeAlert; (repeat' split) <;> simp
@[simp] theorem quakeAlert_fe (n : Nat) : (quakeAlert n s).fe = s.fe := by
  unfold quakeAlert; (repeat' split) <;> simp
@[simp] theorem quakeAlert_tu (n : Nat) : (quakeAlert n s).tu = s.tu := by
  unfold quakeAlert; (repeat' split) <;> simp
@[simp] theorem quakeAlert_ws (n : Nat) : (quakeAlert n s).ws = s.ws := by
  unfold quakeAlert; (repeat' split) <;> simp
@[simp] theorem quakeAlert_hm (n : Nat) : (quakeAlert n s).hm = s.hm := by
  unfold quakeAlert; (repeat' split) <;> simp
@[simp] theorem quakeAlert_ca (n : Nat) : (quakeAlert n s).ca = s.ca := by
  unfold quakeAlert; (repeat' split) <;> simp
@[simp] theorem quakeAlert_hc (n : Nat) : (quakeAlert n s).hc = s.hc := by
  unfold quakeAlert; (repeat' split) <;> simp
@[simp] theorem quakeAlert_sm (n : Nat) : (quakeAlert n s).sm = s.sm := by
  unfold quakeAlert; (repeat' split) <;> simp
@[simp] theorem quakeAlert_lines (n : Nat) : (quakeAlert n s).lines = s.lines := by
  unfold quakeAlert; (repeat' split) <;> simp
@[simp] theorem quakeAlert_freeCount (n : Nat) : (quakeAlert n s).freeCount = s.freeCount := by
  unfold quakeAlert; (repeat' split) <;> simp
@[simp] theorem quakeAlert_pending (n : Nat) : (quakeAlert n s).pending = s.pending := by
  unfold quakeAlert; (repeat' split) <;> simp

@[simp] theorem strongReport_powered (n : Nat) : (strongReport n s).powered = s.powered := by
  unfold strongReport; (repeat' split) <;> simp
@[simp] theorem strongReport_clk (n : Nat) : (strongReport n s).clk = s.clk := by
  unfold strongReport; (repeat' split) <;> simp
@[simp] theorem strongReport_tb (n : Nat) : (strongReport n s).tb = s.tb := by
  unfold strongReport; (repeat' split) <;> simp
@[simp] theorem strongReport_si (n : Nat) : (strongReport n s).si = s.si := by
  unfold strongReport; (repeat' split) <;> simp
@[simp] theorem strongReport_fe (n : Nat) : (strongReport n s).fe = s.fe := by
  unfold strongReport; (repeat' split) <;> simp
@[simp] theorem strongReport_tu (n : Nat) : (strongReport n s).tu = s.tu := by
  unfold strongReport; (repeat' split) <;> simp
@[simp] theorem strongReport_ws (n : Nat) : (strongReport n s).ws = s.ws := by
  unfold strongReport; (repeat' split) <;> simp
@[simp] theorem strongReport_hm (n : Nat) : (strongReport n s).hm = s.hm := by
  unfold strongReport; (repeat' split) <;> simp
@[simp] theorem strongReport_ca (n : Nat) : (strongReport n s).ca = s.ca := by
  unfold strongReport; (repeat' split) <;> simp
@[simp] theorem strongReport_hc (n : Nat) : (strongReport n s).hc = s.hc := by
  unfold strongReport; (repeat' split) <;> simp
@[simp] theorem strongReport_sm (n : Nat) : (strongReport n s).sm = s.sm := by
  unfold strongReport; (repeat' split) <;> simp
@[simp] theorem strongReport_lines (n : Nat) : (strongReport n s).lines = s.lines := by
  unfold strongReport; (repeat' split) <;> simp
@[simp] theorem strongReport_freeCount (n : Nat) : (strongReport n s).freeCount = s.freeCount := by
  unfold strongReport; (repeat' split) <;> simp
@[simp] theorem strongReport_pending (n : Nat) : (strongReport n s).pending = s.pending := by
  unfold strongReport; (repeat' split) <;> simp

@[simp] theorem sohCheck_powered : (sohCheck s).powered = s.powered := by
  unfold sohCheck; (repeat' split) <;> simp
@[simp] theorem sohCheck_clk : (sohCheck s).clk = s.clk := by
  unfold sohCheck; (repeat' split) <;> simp
@[simp] theorem sohCheck_tb : (sohCheck s).tb = s.tb := by
  unfold sohCheck; (repeat' split) <;> simp
@[simp] theorem sohCheck_si : (sohCheck s).si = s.si := by
  unfold sohCheck; (repeat' split) <;> simp
@[simp] theorem sohCheck_fe : (sohCheck s).fe = s.fe := by
  unfold sohCheck; (repeat' split) <;> simp
@[simp] theorem sohCheck_tu : (sohCheck s).tu = s.tu := by
  unfold sohCheck; (repeat' split) <;> simp
@[simp] theorem sohCheck_ws : (sohCheck s).ws = s.ws := by
  unfold sohCheck; (repeat' split) <;> simp
@[simp] theorem sohCheck_hm : (sohCheck s).hm = s.hm := by
  unfold sohCheck; (repeat' split) <;> simp
@[simp] theorem sohCheck_ca : (sohCheck s).ca = s.ca := by
  unfold sohCheck; (repeat' split) <;> simp
@[simp] theorem sohCheck_hc : (sohCheck s).hc = s.hc := by
  unfold sohCheck; (repeat' split) <;> simp
@[simp] theorem sohCheck_sm : (sohCheck s).sm = s.sm := by
  unfold sohCheck; (repeat' split) <;> simp
@[simp] theorem sohCheck_lines : (sohCheck s).lines = s.lines := by
  unfold sohCheck; (repeat' split) <;> simp
@[simp] theorem sohCheck_freeCount : (sohCheck s).freeCount = s.freeCount := by
  unfold sohCheck; (repeat' split) <;> simp
@[simp] theorem sohCheck_pending : (sohCheck s).pending = s.pending := by
  unfold sohCheck; (repeat' split) <;> simp

@[simp] theorem syncModem_powered : (syncModem s).powered = s.powered := by
  simp [syncModem]
@[simp] theorem syncModem_clk : (syncModem s).clk = s.clk := by
  simp [syncModem]
@[simp] theorem syncModem_tb : (syncModem s).tb = s.tb := by
  simp [syncModem]
@[simp] theorem syncModem_si : (syncModem s).si = s.si := by
  simp [syncModem]
@[simp] theorem syncModem_fe : (syncModem s).fe = s.fe := by
  simp [syncModem]
@[simp] theorem syncModem_tu : (syncModem s).tu = s.tu := by
  simp [syncModem]
@[simp] theorem syncModem_ws : (syncModem s).ws = s.ws := by
  simp [syncModem]
@[simp] theorem syncModem_et : (syncModem s).et = s.et := by
  simp [syncModem]
@[simp] theorem syncModem_al : (syncModem s).al = s.al := by
  simp [syncModem]
@[simp] theorem syncModem_hm : (syncModem s).hm = s.hm := by
  simp [syncModem]
@[simp] theorem syncModem_ca : (syncModem s).ca = s.ca := by
  simp [syncModem]
@[simp] theorem syncModem_hc : (syncModem s).hc = s.hc := by
  simp [syncModem]
@[simp] theorem syncModem_sl : (syncModem s).sl = s.sl := by
  simp [syncModem]
@[simp] theorem syncModem_sm : (syncModem s).sm = s.sm := by
  simp [syncModem]
@[simp] theorem syncModem_lines : (syncModem s).lines = s.lines := by
  simp [syncModem]
@[simp] theorem syncModem_freeCount : (syncModem s).freeCount = s.freeCount := by
  simp [syncModem]
@[simp] theorem syncModem_pending : (syncModem s).pending = s.pending := by
  simp [syncModem]

@[simp] theorem openWindow_powered (f : Nat) : (openWindow f s).powered = s.powered := by
  simp [openWindow]
@[simp] theorem openWindow_clk (f : Nat) : (openWindow f s).clk = s.clk := by
  simp [openWindow]
@[simp] theorem openWindow_tb (f : Nat) : (openWindow f s).tb = s.tb := by
  simp [openWindow]
@[simp] theorem openWindow_si (f : Nat) : (openWindow f s).si = s.si := by
  simp [openWindow]
@[simp] theorem openWindow_fe (f : Nat) : (openWindow f s).fe = s.fe := by
  simp [openWindow]
@[simp] theorem openWindow_tu (f : Nat) : (openWindow f s).tu = s.tu := by
  simp [openWindow]
@[simp] theorem openWindow_ws (f : Nat) : (openWindow f s).ws = s.ws := by
  simp [openWindow]
@[simp] theorem openWindow_et (f : Nat) : (openWindow f s).et = s.et := by
  simp [openWindow]
@[simp] theorem openWindow_hm (f : Nat) : (openWindow f s).hm = s.hm := by
  simp [openWindow]
@[simp] theorem openWindow_ca (f : Nat) : (openWindow f s).ca = s.ca := by
  simp [openWindow]
@[simp] theorem openWindow_hc (f : Nat) : (openWindow f s).hc = s.hc := by
  simp [openWindow]
@[simp] theorem openWindow_pt (f : Nat) : (openWindow f s).pt = s.pt := by
  simp [openWindow]
@[simp] theorem openWindow_sl (f : Nat) : (openWindow f s).sl = s.sl := by
  simp [openWindow]
@[simp] theorem openWindow_sm (f : Nat) : (openWindow f s).sm = s.sm := by
  simp [openWindow]
@[simp] theorem openWindow_lines (f : Nat) : (openWindow f s).lines = s.lines := by
  simp [openWindow]
@[simp] theorem openWindow_freeCount (f : Nat) : (openWindow f s).freeCount = s.freeCount := by
  simp [openWindow]
@[simp] theorem openWindow_pending (f : Nat) : (openWindow f s).pending = s.pending := by
  simp [openWindow]

@[simp] theorem closeWindow_powered (f : Nat) : (closeWindow f s).powered = s.powered := by
  simp [closeWindow]
@[simp] theorem closeWindow_clk (f : Nat) : (closeWindow f s).clk = s.clk := by
  simp [closeWindow]
@[simp] theorem closeWindow_tb (f : Nat) : (closeWindow f s).tb = s.tb := by
  simp [closeWindow]
@[simp] theorem closeWindow_si (f : Nat) : (closeWindow f s).si = s.si := by
  simp [closeWindow]
@[simp] theorem closeWindow_fe (f : Nat) : (closeWindow f s).fe = s.fe := by
  simp [closeWindow]
@[simp] theorem closeWindow_tu (f : Nat) : (closeWindow f s).tu = s.tu := by
  simp [closeWindow]
@[simp] theorem closeWindow_ws (f : Nat) : (closeWindow f s).ws = s.ws := by
  simp [closeWindow]
@[simp] theorem closeWindow_et (f : Nat) : (closeWindow f s).et = s.et := by
  simp [closeWindow]
@[simp] theorem closeWindow_hm (f : Nat) : (closeWindow f s).hm = s.hm := by
  simp [closeWindow]
@[simp] theorem closeWindow_ca (f : Nat) : (closeWindow f s).ca = s.ca := by
  simp [closeWindow]
@[simp] theorem closeWindow_hc (f : Nat) : (closeWindow f s).hc = s.hc := by
  simp [closeWindow]
@[simp] theorem closeWindow_pt (f : Nat) : (closeWindow f s).pt = s.pt := by
  simp [closeWindow]
@[simp] theorem closeWindow_sl (f : Nat) : (closeWindow f s).sl = s.sl := by
  simp [closeWindow]
@[simp] theorem closeWindow_sm (f : Nat) : (closeWindow f s).sm = s.sm := by
  simp [closeWindow]
@[simp] theorem closeWindow_lines (f : Nat) : (closeWindow f s).lines = s.lines := by
  simp [closeWindow]
@[simp] theorem closeWindow_freeCount (f : Nat) : (closeWindow f s).freeCount = s.freeCount := by
  simp [closeWindow]
@[simp] theorem closeWindow_pending (f : Nat) : (closeWindow f s).pending = s.pending := by
  simp [closeWindow]

@[simp] theorem closePassedWindows_powered (o : Nat) : (closePassedWindows o s).powered = s.powered := by
  simp [closePassedWindows]
@[simp] theorem closePassedWindows_clk (o : Nat) : (closePassedWindows o s).clk = s.clk := by
  simp [closePassedWindows]
@[simp] theorem closePassedWindows_tb (o : Nat) : (closePassedWindows o s).tb = s.tb := by
  simp [closePassedWindows]
@[simp] theorem closePassedWindows_si (o : Nat) : (closePassedWindows o s).si = s.si := by
  simp [closePassedWindows]
@[simp] theorem closePassedWindows_fe (o : Nat) : (closePassedWindows o s).fe = s.fe := by
  simp [closePassedWindows]
@[simp] theorem closePassedWindows_tu (o : Nat) : (closePassedWindows o s).tu = s.tu := by
  simp [closePassedWindows]
@[simp] theorem closePassedWindows_ws (o : Nat) : (closePassedWindows o s).ws = s.ws := by
  simp [closePassedWindows]
@[simp] theorem closePassedWindows_et (o : Nat) : (closePassedWindows o s).et = s.et := by
  simp [closePassedWindows]
@[simp] theorem closePassedWindows_hm (o : Nat) : (closePassedWindows o s).hm = s.hm := by
  simp [closePassedWindows]
@[simp] theorem closePassedWindows_ca (o : Nat) : (closePassedWindows o s).ca = s.ca := by
  simp [closePassedWindows]
@[simp] theorem closePassedWindows_hc (o : Nat) : (closePassedWindows o s).hc = s.hc := by
  simp [closePassedWindows]
@[simp] theorem closePassedWindows_pt (o : Nat) : (closePassedWindows o s).pt = s.pt := by
  simp [closePassedWindows]
@[simp] theorem closePassedWindows_sl (o : Nat) : (closePassedWindows o s).sl = s.sl := by
  simp [closePassedWindows]
@[simp] theorem closePassedWindows_sm (o : Nat) : (closePassedWindows o s).sm = s.sm := by
  simp [closePassedWindows]
@[simp] theorem closePassedWindows_lines (o : Nat) : (closePassedWindows o s).lines = s.lines := by
  simp [closePassedWindows]
@[simp] theorem closePassedWindows_freeCount (o : Nat) : (closePassedWindows o s).freeCount = s.freeCount := by
  simp [closePassedWindows]
@[simp] theorem closePassedWindows_pending (o : Nat) : (closePassedWindows o s).pending = s.pending := by
  simp [closePassedWindows]

@[simp] theorem changeGrade_powered (g : Grade) : (changeGrade g s).powered = s.powered := by
  unfold changeGrade; dsimp only; (repeat' split) <;> simp
@[simp] theorem changeGrade_clk (g : Grade) : (changeGrade g s).clk = s.clk := by
  unfold changeGrade; dsimp only; (repeat' split) <;> simp
@[simp] theorem changeGrade_si (g : Grade) : (changeGrade g s).si = s.si := by
  unfold changeGrade; dsimp only; (repeat' split) <;> simp
@[simp] theorem changeGrade_fe (g : Grade) : (changeGrade g s).fe = s.fe := by
  unfold changeGrade; dsimp only; (repeat' split) <;> simp
@[simp] theorem changeGrade_tu (g : Grade) : (changeGrade g s).tu = s.tu := by
  unfold changeGrade; dsimp only; (repeat' split) <;> simp
@[simp] theorem changeGrade_ws (g : Grade) : (changeGrade g s).ws = s.ws := by
  unfold changeGrade; dsimp only; (repeat' split) <;> simp
@[simp] theorem changeGrade_hm (g : Grade) : (changeGrade g s).hm = s.hm := by
  unfold changeGrade; dsimp only; (repeat' split) <;> simp
@[simp] theorem changeGrade_ca (g : Grade) : (changeGrade g s).ca = s.ca := by
  unfold changeGrade; dsimp only; (repeat' split) <;> simp
@[simp] theorem changeGrade_hc (g : Grade) : (changeGrade g s).hc = s.hc := by
  unfold changeGrade; dsimp only; (repeat' split) <;> simp
@[simp] theorem changeGrade_sm (g : Grade) : (changeGrade g s).sm = s.sm := by
  unfold changeGrade; dsimp only; (repeat' split) <;> simp
@[simp] theorem changeGrade_lines (g : Grade) : (changeGrade g s).lines = s.lines := by
  unfold changeGrade; dsimp only; (repeat' split) <;> simp
@[simp] theorem changeGrade_freeCount (g : Grade) : (changeGrade g s).freeCount = s.freeCount := by
  unfold changeGrade; dsimp only; (repeat' split) <;> simp
@[simp] theorem changeGrade_pending (g : Grade) : (changeGrade g s).pending = s.pending := by
  unfold changeGrade; dsimp only; (repeat' split) <;> simp

@[simp] theorem growU_powered (g : Nat) : (growU g s).powered = s.powered := by
  unfold growU; dsimp only; (repeat' split) <;> simp
@[simp] theorem growU_clk (g : Nat) : (growU g s).clk = s.clk := by
  unfold growU; dsimp only; (repeat' split) <;> simp
@[simp] theorem growU_si (g : Nat) : (growU g s).si = s.si := by
  unfold growU; dsimp only; (repeat' split) <;> simp
@[simp] theorem growU_fe (g : Nat) : (growU g s).fe = s.fe := by
  unfold growU; dsimp only; (repeat' split) <;> simp
@[simp] theorem growU_tu (g : Nat) : (growU g s).tu = s.tu := by
  unfold growU; dsimp only; (repeat' split) <;> simp
@[simp] theorem growU_ws (g : Nat) : (growU g s).ws = s.ws := by
  unfold growU; dsimp only; (repeat' split) <;> simp
@[simp] theorem growU_hm (g : Nat) : (growU g s).hm = s.hm := by
  unfold growU; dsimp only; (repeat' split) <;> simp
@[simp] theorem growU_ca (g : Nat) : (growU g s).ca = s.ca := by
  unfold growU; dsimp only; (repeat' split) <;> simp
@[simp] theorem growU_hc (g : Nat) : (growU g s).hc = s.hc := by
  unfold growU; dsimp only; (repeat' split) <;> simp
@[simp] theorem growU_sm (g : Nat) : (growU g s).sm = s.sm := by
  unfold growU; dsimp only; (repeat' split) <;> simp
@[simp] theorem growU_lines (g : Nat) : (growU g s).lines = s.lines := by
  unfold growU; dsimp only; (repeat' split) <;> simp
@[simp] theorem growU_freeCount (g : Nat) : (growU g s).freeCount = s.freeCount := by
  unfold growU; dsimp only; (repeat' split) <;> simp
@[simp] theorem growU_pending (g : Nat) : (growU g s).pending = s.pending := by
  unfold growU; dsimp only; (repeat' split) <;> simp

@[simp] theorem learnDrift_powered : (learnDrift s).powered = s.powered := by
  unfold learnDrift; split <;> simp
@[simp] theorem learnDrift_clk : (learnDrift s).clk = s.clk := by
  unfold learnDrift; split <;> simp
@[simp] theorem learnDrift_si : (learnDrift s).si = s.si := by
  unfold learnDrift; split <;> simp
@[simp] theorem learnDrift_fe : (learnDrift s).fe = s.fe := by
  unfold learnDrift; split <;> simp
@[simp] theorem learnDrift_tu : (learnDrift s).tu = s.tu := by
  unfold learnDrift; split <;> simp
@[simp] theorem learnDrift_ws : (learnDrift s).ws = s.ws := by
  unfold learnDrift; split <;> simp
@[simp] theorem learnDrift_et : (learnDrift s).et = s.et := by
  unfold learnDrift; split <;> simp
@[simp] theorem learnDrift_al : (learnDrift s).al = s.al := by
  unfold learnDrift; split <;> simp
@[simp] theorem learnDrift_hm : (learnDrift s).hm = s.hm := by
  unfold learnDrift; split <;> simp
@[simp] theorem learnDrift_ca : (learnDrift s).ca = s.ca := by
  unfold learnDrift; split <;> simp
@[simp] theorem learnDrift_hc : (learnDrift s).hc = s.hc := by
  unfold learnDrift; split <;> simp
@[simp] theorem learnDrift_pt : (learnDrift s).pt = s.pt := by
  unfold learnDrift; split <;> simp
@[simp] theorem learnDrift_sl : (learnDrift s).sl = s.sl := by
  unfold learnDrift; split <;> simp
@[simp] theorem learnDrift_sm : (learnDrift s).sm = s.sm := by
  unfold learnDrift; split <;> simp
@[simp] theorem learnDrift_lines : (learnDrift s).lines = s.lines := by
  unfold learnDrift; split <;> simp
@[simp] theorem learnDrift_freeCount : (learnDrift s).freeCount = s.freeCount := by
  unfold learnDrift; split <;> simp
@[simp] theorem learnDrift_pending : (learnDrift s).pending = s.pending := by
  unfold learnDrift; split <;> simp

@[simp] theorem afterStep_powered (o : Nat) : (afterStep o s).powered = s.powered := by
  simp [afterStep]
@[simp] theorem afterStep_clk (o : Nat) : (afterStep o s).clk = s.clk := by
  simp [afterStep]
@[simp] theorem afterStep_tb (o : Nat) : (afterStep o s).tb = s.tb := by
  simp [afterStep]
@[simp] theorem afterStep_si (o : Nat) : (afterStep o s).si = s.si := by
  simp [afterStep]
@[simp] theorem afterStep_fe (o : Nat) : (afterStep o s).fe = s.fe := by
  simp [afterStep]
@[simp] theorem afterStep_tu (o : Nat) : (afterStep o s).tu = s.tu := by
  simp [afterStep]
@[simp] theorem afterStep_ws (o : Nat) : (afterStep o s).ws = s.ws := by
  simp [afterStep]
@[simp] theorem afterStep_hm (o : Nat) : (afterStep o s).hm = s.hm := by
  simp [afterStep]
@[simp] theorem afterStep_ca (o : Nat) : (afterStep o s).ca = s.ca := by
  simp [afterStep]
@[simp] theorem afterStep_hc (o : Nat) : (afterStep o s).hc = s.hc := by
  simp [afterStep]
@[simp] theorem afterStep_sm (o : Nat) : (afterStep o s).sm = s.sm := by
  simp [afterStep]
@[simp] theorem afterStep_lines (o : Nat) : (afterStep o s).lines = s.lines := by
  simp [afterStep]
@[simp] theorem afterStep_freeCount (o : Nat) : (afterStep o s).freeCount = s.freeCount := by
  simp [afterStep]
@[simp] theorem afterStep_pending (o : Nat) : (afterStep o s).pending = s.pending := by
  simp [afterStep]

@[simp] theorem markStep_powered : (markStep s).powered = s.powered := by
  simp [markStep]
@[simp] theorem markStep_clk : (markStep s).clk = s.clk := by
  simp [markStep]
@[simp] theorem markStep_si : (markStep s).si = s.si := by
  simp [markStep]
@[simp] theorem markStep_fe : (markStep s).fe = s.fe := by
  simp [markStep]
@[simp] theorem markStep_tu : (markStep s).tu = s.tu := by
  simp [markStep]
@[simp] theorem markStep_ws : (markStep s).ws = s.ws := by
  simp [markStep]
@[simp] theorem markStep_al : (markStep s).al = s.al := by
  simp [markStep]
@[simp] theorem markStep_hm : (markStep s).hm = s.hm := by
  simp [markStep]
@[simp] theorem markStep_ca : (markStep s).ca = s.ca := by
  simp [markStep]
@[simp] theorem markStep_hc : (markStep s).hc = s.hc := by
  simp [markStep]
@[simp] theorem markStep_pt : (markStep s).pt = s.pt := by
  simp [markStep]
@[simp] theorem markStep_sl : (markStep s).sl = s.sl := by
  simp [markStep]
@[simp] theorem markStep_sm : (markStep s).sm = s.sm := by
  simp [markStep]
@[simp] theorem markStep_lines : (markStep s).lines = s.lines := by
  simp [markStep]
@[simp] theorem markStep_freeCount : (markStep s).freeCount = s.freeCount := by
  simp [markStep]
@[simp] theorem markStep_pending : (markStep s).pending = s.pending := by
  simp [markStep]

@[simp] theorem toWatchClock_powered : (toWatchClock s).powered = s.powered := by
  unfold toWatchClock; dsimp only; split <;> simp
@[simp] theorem toWatchClock_clk : (toWatchClock s).clk = s.clk := by
  unfold toWatchClock; dsimp only; split <;> simp
@[simp] theorem toWatchClock_si : (toWatchClock s).si = s.si := by
  unfold toWatchClock; dsimp only; split <;> simp
@[simp] theorem toWatchClock_fe : (toWatchClock s).fe = s.fe := by
  unfold toWatchClock; dsimp only; split <;> simp
@[simp] theorem toWatchClock_tu : (toWatchClock s).tu = s.tu := by
  unfold toWatchClock; dsimp only; split <;> simp
@[simp] theorem toWatchClock_ws : (toWatchClock s).ws = s.ws := by
  unfold toWatchClock; dsimp only; split <;> simp
@[simp] theorem toWatchClock_hm : (toWatchClock s).hm = s.hm := by
  unfold toWatchClock; dsimp only; split <;> simp
@[simp] theorem toWatchClock_ca : (toWatchClock s).ca = s.ca := by
  unfold toWatchClock; dsimp only; split <;> simp
@[simp] theorem toWatchClock_hc : (toWatchClock s).hc = s.hc := by
  unfold toWatchClock; dsimp only; split <;> simp
@[simp] theorem toWatchClock_sm : (toWatchClock s).sm = s.sm := by
  unfold toWatchClock; dsimp only; split <;> simp
@[simp] theorem toWatchClock_lines : (toWatchClock s).lines = s.lines := by
  unfold toWatchClock; dsimp only; split <;> simp
@[simp] theorem toWatchClock_freeCount : (toWatchClock s).freeCount = s.freeCount := by
  unfold toWatchClock; dsimp only; split <;> simp
@[simp] theorem toWatchClock_pending : (toWatchClock s).pending = s.pending := by
  unfold toWatchClock; dsimp only; split <;> simp

end Sys2Proof.Machine
end

