-- ==== Sys2Proof/Laws/FramesStore.lean ====
section
/-! SUPPORT. The frame of each shared operation of the waveform store: one lemma for each block of State that the
operation leaves as it is. -/

namespace Sys2Proof.Machine

variable (s : State)

@[simp] theorem reclaim_powered (n : Nat) : (reclaim n s).powered = s.powered := by
  simp [reclaim]
@[simp] theorem reclaim_clk (n : Nat) : (reclaim n s).clk = s.clk := by
  simp [reclaim]
@[simp] theorem reclaim_tb (n : Nat) : (reclaim n s).tb = s.tb := by
  simp [reclaim]
@[simp] theorem reclaim_si (n : Nat) : (reclaim n s).si = s.si := by
  simp [reclaim]
@[simp] theorem reclaim_fe (n : Nat) : (reclaim n s).fe = s.fe := by
  simp [reclaim]
@[simp] theorem reclaim_tu (n : Nat) : (reclaim n s).tu = s.tu := by
  simp [reclaim]
@[simp] theorem reclaim_al (n : Nat) : (reclaim n s).al = s.al := by
  simp [reclaim]
@[simp] theorem reclaim_hm (n : Nat) : (reclaim n s).hm = s.hm := by
  simp [reclaim]
@[simp] theorem reclaim_ca (n : Nat) : (reclaim n s).ca = s.ca := by
  simp [reclaim]
@[simp] theorem reclaim_hc (n : Nat) : (reclaim n s).hc = s.hc := by
  simp [reclaim]
@[simp] theorem reclaim_pt (n : Nat) : (reclaim n s).pt = s.pt := by
  simp [reclaim]
@[simp] theorem reclaim_sl (n : Nat) : (reclaim n s).sl = s.sl := by
  simp [reclaim]
@[simp] theorem reclaim_sm (n : Nat) : (reclaim n s).sm = s.sm := by
  simp [reclaim]
@[simp] theorem reclaim_lines (n : Nat) : (reclaim n s).lines = s.lines := by
  simp [reclaim]
@[simp] theorem reclaim_freeCount (n : Nat) : (reclaim n s).freeCount = s.freeCount := by
  simp [reclaim]
@[simp] theorem reclaim_pending (n : Nat) : (reclaim n s).pending = s.pending := by
  simp [reclaim]

@[simp] theorem reclaimUntilFree_powered : (reclaimUntilFree s).powered = s.powered := by
  unfold reclaimUntilFree; apply foldl_keeps (g := State.powered); intro s n; split <;> simp
@[simp] theorem reclaimUntilFree_clk : (reclaimUntilFree s).clk = s.clk := by
  unfold reclaimUntilFree; apply foldl_keeps (g := State.clk); intro s n; split <;> simp
@[simp] theorem reclaimUntilFree_tb : (reclaimUntilFree s).tb = s.tb := by
  unfold reclaimUntilFree; apply foldl_keeps (g := State.tb); intro s n; split <;> simp
@[simp] theorem reclaimUntilFree_si : (reclaimUntilFree s).si = s.si := by
  unfold reclaimUntilFree; apply foldl_keeps (g := State.si); intro s n; split <;> simp
@[simp] theorem reclaimUntilFree_fe : (reclaimUntilFree s).fe = s.fe := by
  unfold reclaimUntilFree; apply foldl_keeps (g := State.fe); intro s n; split <;> simp
@[simp] theorem reclaimUntilFree_tu : (reclaimUntilFree s).tu = s.tu := by
  unfold reclaimUntilFree; apply foldl_keeps (g := State.tu); intro s n; split <;> simp
@[simp] theorem reclaimUntilFree_al : (reclaimUntilFree s).al = s.al := by
  unfold reclaimUntilFree; apply foldl_keeps (g := State.al); intro s n; split <;> simp
@[simp] theorem reclaimUntilFree_hm : (reclaimUntilFree s).hm = s.hm := by
  unfold reclaimUntilFree; apply foldl_keeps (g := State.hm); intro s n; split <;> simp
@[simp] theorem reclaimUntilFree_ca : (reclaimUntilFree s).ca = s.ca := by
  unfold reclaimUntilFree; apply foldl_keeps (g := State.ca); intro s n; split <;> simp
@[simp] theorem reclaimUntilFree_hc : (reclaimUntilFree s).hc = s.hc := by
  unfold reclaimUntilFree; apply foldl_keeps (g := State.hc); intro s n; split <;> simp
@[simp] theorem reclaimUntilFree_pt : (reclaimUntilFree s).pt = s.pt := by
  unfold reclaimUntilFree; apply foldl_keeps (g := State.pt); intro s n; split <;> simp
@[simp] theorem reclaimUntilFree_sl : (reclaimUntilFree s).sl = s.sl := by
  unfold reclaimUntilFree; apply foldl_keeps (g := State.sl); intro s n; split <;> simp
@[simp] theorem reclaimUntilFree_sm : (reclaimUntilFree s).sm = s.sm := by
  unfold reclaimUntilFree; apply foldl_keeps (g := State.sm); intro s n; split <;> simp
@[simp] theorem reclaimUntilFree_lines : (reclaimUntilFree s).lines = s.lines := by
  unfold reclaimUntilFree; apply foldl_keeps (g := State.lines); intro s n; split <;> simp
@[simp] theorem reclaimUntilFree_freeCount : (reclaimUntilFree s).freeCount = s.freeCount := by
  unfold reclaimUntilFree; apply foldl_keeps (g := State.freeCount); intro s n; split <;> simp
@[simp] theorem reclaimUntilFree_pending : (reclaimUntilFree s).pending = s.pending := by
  unfold reclaimUntilFree; apply foldl_keeps (g := State.pending); intro s n; split <;> simp

@[simp] theorem ringNeed_powered (c : Channel) : (ringNeed c s).powered = s.powered := by
  unfold ringNeed; dsimp only; (repeat' split) <;> simp
@[simp] theorem ringNeed_clk (c : Channel) : (ringNeed c s).clk = s.clk := by
  unfold ringNeed; dsimp only; (repeat' split) <;> simp
@[simp] theorem ringNeed_tb (c : Channel) : (ringNeed c s).tb = s.tb := by
  unfold ringNeed; dsimp only; (repeat' split) <;> simp
@[simp] theorem ringNeed_si (c : Channel) : (ringNeed c s).si = s.si := by
  unfold ringNeed; dsimp only; (repeat' split) <;> simp
@[simp] theorem ringNeed_fe (c : Channel) : (ringNeed c s).fe = s.fe := by
  unfold ringNeed; dsimp only; (repeat' split) <;> simp
@[simp] theorem ringNeed_tu (c : Channel) : (ringNeed c s).tu = s.tu := by
  unfold ringNeed; dsimp only; (repeat' split) <;> simp
@[simp] theorem ringNeed_al (c : Channel) : (ringNeed c s).al = s.al := by
  unfold ringNeed; dsimp only; (repeat' split) <;> simp
@[simp] theorem ringNeed_hm (c : Channel) : (ringNeed c s).hm = s.hm := by
  unfold ringNeed; dsimp only; (repeat' split) <;> simp
@[simp] theorem ringNeed_ca (c : Channel) : (ringNeed c s).ca = s.ca := by
  unfold ringNeed; dsimp only; (repeat' split) <;> simp
@[simp] theorem ringNeed_hc (c : Channel) : (ringNeed c s).hc = s.hc := by
  unfold ringNeed; dsimp only; (repeat' split) <;> simp
@[simp] theorem ringNeed_sm (c : Channel) : (ringNeed c s).sm = s.sm := by
  unfold ringNeed; dsimp only; (repeat' split) <;> simp
@[simp] theorem ringNeed_lines (c : Channel) : (ringNeed c s).lines = s.lines := by
  unfold ringNeed; dsimp only; (repeat' split) <;> simp
@[simp] theorem ringNeed_freeCount (c : Channel) : (ringNeed c s).freeCount = s.freeCount := by
  unfold ringNeed; dsimp only; (repeat' split) <;> simp
@[simp] theorem ringNeed_pending (c : Channel) : (ringNeed c s).pending = s.pending := by
  unfold ringNeed; dsimp only; (repeat' split) <;> simp

@[simp] theorem eventNeed_powered (n : Nat) (c : Channel) : (eventNeed n c s).powered = s.powered := by
  unfold eventNeed; dsimp only; (repeat' split) <;> simp
@[simp] theorem eventNeed_clk (n : Nat) (c : Channel) : (eventNeed n c s).clk = s.clk := by
  unfold eventNeed; dsimp only; (repeat' split) <;> simp
@[simp] theorem eventNeed_tb (n : Nat) (c : Channel) : (eventNeed n c s).tb = s.tb := by
  unfold eventNeed; dsimp only; (repeat' split) <;> simp
@[simp] theorem eventNeed_si (n : Nat) (c : Channel) : (eventNeed n c s).si = s.si := by
  unfold eventNeed; dsimp only; (repeat' split) <;> simp
@[simp] theorem eventNeed_fe (n : Nat) (c : Channel) : (eventNeed n c s).fe = s.fe := by
  unfold eventNeed; dsimp only; (repeat' split) <;> simp
@[simp] theorem eventNeed_tu (n : Nat) (c : Channel) : (eventNeed n c s).tu = s.tu := by
  unfold eventNeed; dsimp only; (repeat' split) <;> simp
@[simp] theorem eventNeed_al (n : Nat) (c : Channel) : (eventNeed n c s).al = s.al := by
  unfold eventNeed; dsimp only; (repeat' split) <;> simp
@[simp] theorem eventNeed_hm (n : Nat) (c : Channel) : (eventNeed n c s).hm = s.hm := by
  unfold eventNeed; dsimp only; (repeat' split) <;> simp
@[simp] theorem eventNeed_ca (n : Nat) (c : Channel) : (eventNeed n c s).ca = s.ca := by
  unfold eventNeed; dsimp only; (repeat' split) <;> simp
@[simp] theorem eventNeed_hc (n : Nat) (c : Channel) : (eventNeed n c s).hc = s.hc := by
  unfold eventNeed; dsimp only; (repeat' split) <;> simp
@[simp] theorem eventNeed_sm (n : Nat) (c : Channel) : (eventNeed n c s).sm = s.sm := by
  unfold eventNeed; dsimp only; (repeat' split) <;> simp
@[simp] theorem eventNeed_lines (n : Nat) (c : Channel) : (eventNeed n c s).lines = s.lines := by
  unfold eventNeed; dsimp only; (repeat' split) <;> simp
@[simp] theorem eventNeed_freeCount (n : Nat) (c : Channel) : (eventNeed n c s).freeCount = s.freeCount := by
  unfold eventNeed; dsimp only; (repeat' split) <;> simp
@[simp] theorem eventNeed_pending (n : Nat) (c : Channel) : (eventNeed n c s).pending = s.pending := by
  unfold eventNeed; dsimp only; (repeat' split) <;> simp

@[simp] theorem trimRing_powered (c : Channel) : (trimRing c s).powered = s.powered := by
  simp [trimRing]
@[simp] theorem trimRing_clk (c : Channel) : (trimRing c s).clk = s.clk := by
  simp [trimRing]
@[simp] theorem trimRing_tb (c : Channel) : (trimRing c s).tb = s.tb := by
  simp [trimRing]
@[simp] theorem trimRing_si (c : Channel) : (trimRing c s).si = s.si := by
  simp [trimRing]
@[simp] theorem trimRing_fe (c : Channel) : (trimRing c s).fe = s.fe := by
  simp [trimRing]
@[simp] theorem trimRing_tu (c : Channel) : (trimRing c s).tu = s.tu := by
  simp [trimRing]
@[simp] theorem trimRing_et (c : Channel) : (trimRing c s).et = s.et := by
  simp [trimRing]
@[simp] theorem trimRing_al (c : Channel) : (trimRing c s).al = s.al := by
  simp [trimRing]
@[simp] theorem trimRing_hm (c : Channel) : (trimRing c s).hm = s.hm := by
  simp [trimRing]
@[simp] theorem trimRing_ca (c : Channel) : (trimRing c s).ca = s.ca := by
  simp [trimRing]
@[simp] theorem trimRing_hc (c : Channel) : (trimRing c s).hc = s.hc := by
  simp [trimRing]
@[simp] theorem trimRing_pt (c : Channel) : (trimRing c s).pt = s.pt := by
  simp [trimRing]
@[simp] theorem trimRing_sl (c : Channel) : (trimRing c s).sl = s.sl := by
  simp [trimRing]
@[simp] theorem trimRing_sm (c : Channel) : (trimRing c s).sm = s.sm := by
  simp [trimRing]
@[simp] theorem trimRing_lines (c : Channel) : (trimRing c s).lines = s.lines := by
  simp [trimRing]
@[simp] theorem trimRing_freeCount (c : Channel) : (trimRing c s).freeCount = s.freeCount := by
  simp [trimRing]
@[simp] theorem trimRing_pending (c : Channel) : (trimRing c s).pending = s.pending := by
  simp [trimRing]

@[simp] theorem completionStep_powered (c : Channel) : (completionStep c s).powered = s.powered := by
  unfold completionStep; split <;> simp
@[simp] theorem completionStep_clk (c : Channel) : (completionStep c s).clk = s.clk := by
  unfold completionStep; split <;> simp
@[simp] theorem completionStep_tb (c : Channel) : (completionStep c s).tb = s.tb := by
  unfold completionStep; split <;> simp
@[simp] theorem completionStep_si (c : Channel) : (completionStep c s).si = s.si := by
  unfold completionStep; split <;> simp
@[simp] theorem completionStep_fe (c : Channel) : (completionStep c s).fe = s.fe := by
  unfold completionStep; split <;> simp
@[simp] theorem completionStep_tu (c : Channel) : (completionStep c s).tu = s.tu := by
  unfold completionStep; split <;> simp
@[simp] theorem completionStep_al (c : Channel) : (completionStep c s).al = s.al := by
  unfold completionStep; split <;> simp
@[simp] theorem completionStep_hm (c : Channel) : (completionStep c s).hm = s.hm := by
  unfold completionStep; split <;> simp
@[simp] theorem completionStep_ca (c : Channel) : (completionStep c s).ca = s.ca := by
  unfold completionStep; split <;> simp
@[simp] theorem completionStep_hc (c : Channel) : (completionStep c s).hc = s.hc := by
  unfold completionStep; split <;> simp
@[simp] theorem completionStep_sm (c : Channel) : (completionStep c s).sm = s.sm := by
  unfold completionStep; split <;> simp
@[simp] theorem completionStep_lines (c : Channel) : (completionStep c s).lines = s.lines := by
  unfold completionStep; split <;> simp
@[simp] theorem completionStep_freeCount (c : Channel) : (completionStep c s).freeCount = s.freeCount := by
  unfold completionStep; split <;> simp
@[simp] theorem completionStep_pending (c : Channel) : (completionStep c s).pending = s.pending := by
  unfold completionStep; split <;> simp

@[simp] theorem dropWord_powered (c : Channel) : (dropWord c s).powered = s.powered := by
  simp [dropWord]
@[simp] theorem dropWord_clk (c : Channel) : (dropWord c s).clk = s.clk := by
  simp [dropWord]
@[simp] theorem dropWord_tb (c : Channel) : (dropWord c s).tb = s.tb := by
  simp [dropWord]
@[simp] theorem dropWord_si (c : Channel) : (dropWord c s).si = s.si := by
  simp [dropWord]
@[simp] theorem dropWord_fe (c : Channel) : (dropWord c s).fe = s.fe := by
  simp [dropWord]
@[simp] theorem dropWord_tu (c : Channel) : (dropWord c s).tu = s.tu := by
  simp [dropWord]
@[simp] theorem dropWord_et (c : Channel) : (dropWord c s).et = s.et := by
  simp [dropWord]
@[simp] theorem dropWord_al (c : Channel) : (dropWord c s).al = s.al := by
  simp [dropWord]
@[simp] theorem dropWord_hm (c : Channel) : (dropWord c s).hm = s.hm := by
  simp [dropWord]
@[simp] theorem dropWord_ca (c : Channel) : (dropWord c s).ca = s.ca := by
  simp [dropWord]
@[simp] theorem dropWord_hc (c : Channel) : (dropWord c s).hc = s.hc := by
  simp [dropWord]
@[simp] theorem dropWord_pt (c : Channel) : (dropWord c s).pt = s.pt := by
  simp [dropWord]
@[simp] theorem dropWord_sl (c : Channel) : (dropWord c s).sl = s.sl := by
  simp [dropWord]
@[simp] theorem dropWord_sm (c : Channel) : (dropWord c s).sm = s.sm := by
  simp [dropWord]
@[simp] theorem dropWord_lines (c : Channel) : (dropWord c s).lines = s.lines := by
  simp [dropWord]
@[simp] theorem dropWord_freeCount (c : Channel) : (dropWord c s).freeCount = s.freeCount := by
  simp [dropWord]
@[simp] theorem dropWord_pending (c : Channel) : (dropWord c s).pending = s.pending := by
  simp [dropWord]

@[simp] theorem putWord_powered (c : Channel) (w : BitVec 32) (t : Time) : (putWord c w t s).powered = s.powered := by
  unfold putWord; dsimp only; (repeat' split) <;> simp
@[simp] theorem putWord_clk (c : Channel) (w : BitVec 32) (t : Time) : (putWord c w t s).clk = s.clk := by
  unfold putWord; dsimp only; (repeat' split) <;> simp
@[simp] theorem putWord_tb (c : Channel) (w : BitVec 32) (t : Time) : (putWord c w t s).tb = s.tb := by
  unfold putWord; dsimp only; (repeat' split) <;> simp
@[simp] theorem putWord_si (c : Channel) (w : BitVec 32) (t : Time) : (putWord c w t s).si = s.si := by
  unfold putWord; dsimp only; (repeat' split) <;> simp
@[simp] theorem putWord_fe (c : Channel) (w : BitVec 32) (t : Time) : (putWord c w t s).fe = s.fe := by
  unfold putWord; dsimp only; (repeat' split) <;> simp
@[simp] theorem putWord_tu (c : Channel) (w : BitVec 32) (t : Time) : (putWord c w t s).tu = s.tu := by
  unfold putWord; dsimp only; (repeat' split) <;> simp
@[simp] theorem putWord_al (c : Channel) (w : BitVec 32) (t : Time) : (putWord c w t s).al = s.al := by
  unfold putWord; dsimp only; (repeat' split) <;> simp
@[simp] theorem putWord_hm (c : Channel) (w : BitVec 32) (t : Time) : (putWord c w t s).hm = s.hm := by
  unfold putWord; dsimp only; (repeat' split) <;> simp
@[simp] theorem putWord_ca (c : Channel) (w : BitVec 32) (t : Time) : (putWord c w t s).ca = s.ca := by
  unfold putWord; dsimp only; (repeat' split) <;> simp
@[simp] theorem putWord_hc (c : Channel) (w : BitVec 32) (t : Time) : (putWord c w t s).hc = s.hc := by
  unfold putWord; dsimp only; (repeat' split) <;> simp
@[simp] theorem putWord_sm (c : Channel) (w : BitVec 32) (t : Time) : (putWord c w t s).sm = s.sm := by
  unfold putWord; dsimp only; (repeat' split) <;> simp
@[simp] theorem putWord_lines (c : Channel) (w : BitVec 32) (t : Time) : (putWord c w t s).lines = s.lines := by
  unfold putWord; dsimp only; (repeat' split) <;> simp
@[simp] theorem putWord_freeCount (c : Channel) (w : BitVec 32) (t : Time) : (putWord c w t s).freeCount = s.freeCount := by
  unfold putWord; dsimp only; (repeat' split) <;> simp
@[simp] theorem putWord_pending (c : Channel) (w : BitVec 32) (t : Time) : (putWord c w t s).pending = s.pending := by
  unfold putWord; dsimp only; (repeat' split) <;> simp

@[simp] theorem storeWord_powered (c : Channel) (w : BitVec 32) (t : Time) : (storeWord c w t s).powered = s.powered := by
  unfold storeWord; dsimp only; (repeat' split) <;> simp
@[simp] theorem storeWord_clk (c : Channel) (w : BitVec 32) (t : Time) : (storeWord c w t s).clk = s.clk := by
  unfold storeWord; dsimp only; (repeat' split) <;> simp
@[simp] theorem storeWord_tb (c : Channel) (w : BitVec 32) (t : Time) : (storeWord c w t s).tb = s.tb := by
  unfold storeWord; dsimp only; (repeat' split) <;> simp
@[simp] theorem storeWord_si (c : Channel) (w : BitVec 32) (t : Time) : (storeWord c w t s).si = s.si := by
  unfold storeWord; dsimp only; (repeat' split) <;> simp
@[simp] theorem storeWord_fe (c : Channel) (w : BitVec 32) (t : Time) : (storeWord c w t s).fe = s.fe := by
  unfold storeWord; dsimp only; (repeat' split) <;> simp
@[simp] theorem storeWord_tu (c : Channel) (w : BitVec 32) (t : Time) : (storeWord c w t s).tu = s.tu := by
  unfold storeWord; dsimp only; (repeat' split) <;> simp
@[simp] theorem storeWord_al (c : Channel) (w : BitVec 32) (t : Time) : (storeWord c w t s).al = s.al := by
  unfold storeWord; dsimp only; (repeat' split) <;> simp
@[simp] theorem storeWord_hm (c : Channel) (w : BitVec 32) (t : Time) : (storeWord c w t s).hm = s.hm := by
  unfold storeWord; dsimp only; (repeat' split) <;> simp
@[simp] theorem storeWord_ca (c : Channel) (w : BitVec 32) (t : Time) : (storeWord c w t s).ca = s.ca := by
  unfold storeWord; dsimp only; (repeat' split) <;> simp
@[simp] theorem storeWord_hc (c : Channel) (w : BitVec 32) (t : Time) : (storeWord c w t s).hc = s.hc := by
  unfold storeWord; dsimp only; (repeat' split) <;> simp
@[simp] theorem storeWord_sm (c : Channel) (w : BitVec 32) (t : Time) : (storeWord c w t s).sm = s.sm := by
  unfold storeWord; dsimp only; (repeat' split) <;> simp
@[simp] theorem storeWord_lines (c : Channel) (w : BitVec 32) (t : Time) : (storeWord c w t s).lines = s.lines := by
  unfold storeWord; dsimp only; (repeat' split) <;> simp
@[simp] theorem storeWord_freeCount (c : Channel) (w : BitVec 32) (t : Time) : (storeWord c w t s).freeCount = s.freeCount := by
  unfold storeWord; dsimp only; (repeat' split) <;> simp
@[simp] theorem storeWord_pending (c : Channel) (w : BitVec 32) (t : Time) : (storeWord c w t s).pending = s.pending := by
  unfold storeWord; dsimp only; (repeat' split) <;> simp

@[simp] theorem storeJoin_powered (c : Channel) : (storeJoin c s).powered = s.powered := by
  simp [storeJoin]
@[simp] theorem storeJoin_clk (c : Channel) : (storeJoin c s).clk = s.clk := by
  simp [storeJoin]
@[simp] theorem storeJoin_tb (c : Channel) : (storeJoin c s).tb = s.tb := by
  simp [storeJoin]
@[simp] theorem storeJoin_si (c : Channel) : (storeJoin c s).si = s.si := by
  simp [storeJoin]
@[simp] theorem storeJoin_fe (c : Channel) : (storeJoin c s).fe = s.fe := by
  simp [storeJoin]
@[simp] theorem storeJoin_tu (c : Channel) : (storeJoin c s).tu = s.tu := by
  simp [storeJoin]
@[simp] theorem storeJoin_al (c : Channel) : (storeJoin c s).al = s.al := by
  simp [storeJoin]
@[simp] theorem storeJoin_hm (c : Channel) : (storeJoin c s).hm = s.hm := by
  simp [storeJoin]
@[simp] theorem storeJoin_ca (c : Channel) : (storeJoin c s).ca = s.ca := by
  simp [storeJoin]
@[simp] theorem storeJoin_hc (c : Channel) : (storeJoin c s).hc = s.hc := by
  simp [storeJoin]
@[simp] theorem storeJoin_sm (c : Channel) : (storeJoin c s).sm = s.sm := by
  simp [storeJoin]
@[simp] theorem storeJoin_lines (c : Channel) : (storeJoin c s).lines = s.lines := by
  simp [storeJoin]
@[simp] theorem storeJoin_freeCount (c : Channel) : (storeJoin c s).freeCount = s.freeCount := by
  simp [storeJoin]
@[simp] theorem storeJoin_pending (c : Channel) : (storeJoin c s).pending = s.pending := by
  simp [storeJoin]

@[simp] theorem handoverChannel_powered (n : Nat) (o : Time) (c : Channel) : (handoverChannel n o c s).powered = s.powered := by
  unfold handoverChannel; dsimp only; split <;> simp
@[simp] theorem handoverChannel_clk (n : Nat) (o : Time) (c : Channel) : (handoverChannel n o c s).clk = s.clk := by
  unfold handoverChannel; dsimp only; split <;> simp
@[simp] theorem handoverChannel_tb (n : Nat) (o : Time) (c : Channel) : (handoverChannel n o c s).tb = s.tb := by
  unfold handoverChannel; dsimp only; split <;> simp
@[simp] theorem handoverChannel_si (n : Nat) (o : Time) (c : Channel) : (handoverChannel n o c s).si = s.si := by
  unfold handoverChannel; dsimp only; split <;> simp
@[simp] theorem handoverChannel_fe (n : Nat) (o : Time) (c : Channel) : (handoverChannel n o c s).fe = s.fe := by
  unfold handoverChannel; dsimp only; split <;> simp
@[simp] theorem handoverChannel_tu (n : Nat) (o : Time) (c : Channel) : (handoverChannel n o c s).tu = s.tu := by
  unfold handoverChannel; dsimp only; split <;> simp
@[simp] theorem handoverChannel_al (n : Nat) (o : Time) (c : Channel) : (handoverChannel n o c s).al = s.al := by
  unfold handoverChannel; dsimp only; split <;> simp
@[simp] theorem handoverChannel_hm (n : Nat) (o : Time) (c : Channel) : (handoverChannel n o c s).hm = s.hm := by
  unfold handoverChannel; dsimp only; split <;> simp
@[simp] theorem handoverChannel_ca (n : Nat) (o : Time) (c : Channel) : (handoverChannel n o c s).ca = s.ca := by
  unfold handoverChannel; dsimp only; split <;> simp
@[simp] theorem handoverChannel_hc (n : Nat) (o : Time) (c : Channel) : (handoverChannel n o c s).hc = s.hc := by
  unfold handoverChannel; dsimp only; split <;> simp
@[simp] theorem handoverChannel_pt (n : Nat) (o : Time) (c : Channel) : (handoverChannel n o c s).pt = s.pt := by
  unfold handoverChannel; dsimp only; split <;> simp
@[simp] theorem handoverChannel_sl (n : Nat) (o : Time) (c : Channel) : (handoverChannel n o c s).sl = s.sl := by
  unfold handoverChannel; dsimp only; split <;> simp
@[simp] theorem handoverChannel_sm (n : Nat) (o : Time) (c : Channel) : (handoverChannel n o c s).sm = s.sm := by
  unfold handoverChannel; dsimp only; split <;> simp
@[simp] theorem handoverChannel_lines (n : Nat) (o : Time) (c : Channel) : (handoverChannel n o c s).lines = s.lines := by
  unfold handoverChannel; dsimp only; split <;> simp
@[simp] theorem handoverChannel_freeCount (n : Nat) (o : Time) (c : Channel) : (handoverChannel n o c s).freeCount = s.freeCount := by
  unfold handoverChannel; dsimp only; split <;> simp
@[simp] theorem handoverChannel_pending (n : Nat) (o : Time) (c : Channel) : (handoverChannel n o c s).pending = s.pending := by
  unfold handoverChannel; dsimp only; split <;> simp

@[simp] theorem handover_powered (n : Nat) (o : Time) : (handover n o s).powered = s.powered := by
  unfold handover; rw [foldl_keeps (g := State.powered)]; simp
@[simp] theorem handover_clk (n : Nat) (o : Time) : (handover n o s).clk = s.clk := by
  unfold handover; rw [foldl_keeps (g := State.clk)]; simp
@[simp] theorem handover_tb (n : Nat) (o : Time) : (handover n o s).tb = s.tb := by
  unfold handover; rw [foldl_keeps (g := State.tb)]; simp
@[simp] theorem handover_si (n : Nat) (o : Time) : (handover n o s).si = s.si := by
  unfold handover; rw [foldl_keeps (g := State.si)]; simp
@[simp] theorem handover_fe (n : Nat) (o : Time) : (handover n o s).fe = s.fe := by
  unfold handover; rw [foldl_keeps (g := State.fe)]; simp
@[simp] theorem handover_tu (n : Nat) (o : Time) : (handover n o s).tu = s.tu := by
  unfold handover; rw [foldl_keeps (g := State.tu)]; simp
@[simp] theorem handover_al (n : Nat) (o : Time) : (handover n o s).al = s.al := by
  unfold handover; rw [foldl_keeps (g := State.al)]; simp
@[simp] theorem handover_hm (n : Nat) (o : Time) : (handover n o s).hm = s.hm := by
  unfold handover; rw [foldl_keeps (g := State.hm)]; simp
@[simp] theorem handover_ca (n : Nat) (o : Time) : (handover n o s).ca = s.ca := by
  unfold handover; rw [foldl_keeps (g := State.ca)]; simp
@[simp] theorem handover_hc (n : Nat) (o : Time) : (handover n o s).hc = s.hc := by
  unfold handover; rw [foldl_keeps (g := State.hc)]; simp
@[simp] theorem handover_pt (n : Nat) (o : Time) : (handover n o s).pt = s.pt := by
  unfold handover; rw [foldl_keeps (g := State.pt)]; simp
@[simp] theorem handover_sl (n : Nat) (o : Time) : (handover n o s).sl = s.sl := by
  unfold handover; rw [foldl_keeps (g := State.sl)]; simp
@[simp] theorem handover_sm (n : Nat) (o : Time) : (handover n o s).sm = s.sm := by
  unfold handover; rw [foldl_keeps (g := State.sm)]; simp
@[simp] theorem handover_lines (n : Nat) (o : Time) : (handover n o s).lines = s.lines := by
  unfold handover; rw [foldl_keeps (g := State.lines)]; simp
@[simp] theorem handover_freeCount (n : Nat) (o : Time) : (handover n o s).freeCount = s.freeCount := by
  unfold handover; rw [foldl_keeps (g := State.freeCount)]; simp
@[simp] theorem handover_pending (n : Nat) (o : Time) : (handover n o s).pending = s.pending := by
  unfold handover; rw [foldl_keeps (g := State.pending)]; simp

@[simp] theorem storeCloseChannel_powered (c : Channel) : (storeCloseChannel c s).powered = s.powered := by
  unfold storeCloseChannel; split <;> simp
@[simp] theorem storeCloseChannel_clk (c : Channel) : (storeCloseChannel c s).clk = s.clk := by
  unfold storeCloseChannel; split <;> simp
@[simp] theorem storeCloseChannel_tb (c : Channel) : (storeCloseChannel c s).tb = s.tb := by
  unfold storeCloseChannel; split <;> simp
@[simp] theorem storeCloseChannel_si (c : Channel) : (storeCloseChannel c s).si = s.si := by
  unfold storeCloseChannel; split <;> simp
@[simp] theorem storeCloseChannel_fe (c : Channel) : (storeCloseChannel c s).fe = s.fe := by
  unfold storeCloseChannel; split <;> simp
@[simp] theorem storeCloseChannel_tu (c : Channel) : (storeCloseChannel c s).tu = s.tu := by
  unfold storeCloseChannel; split <;> simp
@[simp] theorem storeCloseChannel_al (c : Channel) : (storeCloseChannel c s).al = s.al := by
  unfold storeCloseChannel; split <;> simp
@[simp] theorem storeCloseChannel_hm (c : Channel) : (storeCloseChannel c s).hm = s.hm := by
  unfold storeCloseChannel; split <;> simp
@[simp] theorem storeCloseChannel_ca (c : Channel) : (storeCloseChannel c s).ca = s.ca := by
  unfold storeCloseChannel; split <;> simp
@[simp] theorem storeCloseChannel_hc (c : Channel) : (storeCloseChannel c s).hc = s.hc := by
  unfold storeCloseChannel; split <;> simp
@[simp] theorem storeCloseChannel_sm (c : Channel) : (storeCloseChannel c s).sm = s.sm := by
  unfold storeCloseChannel; split <;> simp
@[simp] theorem storeCloseChannel_lines (c : Channel) : (storeCloseChannel c s).lines = s.lines := by
  unfold storeCloseChannel; split <;> simp
@[simp] theorem storeCloseChannel_freeCount (c : Channel) : (storeCloseChannel c s).freeCount = s.freeCount := by
  unfold storeCloseChannel; split <;> simp
@[simp] theorem storeCloseChannel_pending (c : Channel) : (storeCloseChannel c s).pending = s.pending := by
  unfold storeCloseChannel; split <;> simp

@[simp] theorem storeClose_powered : (storeClose s).powered = s.powered := by
  unfold storeClose; apply foldl_keeps (g := State.powered); simp
@[simp] theorem storeClose_clk : (storeClose s).clk = s.clk := by
  unfold storeClose; apply foldl_keeps (g := State.clk); simp
@[simp] theorem storeClose_tb : (storeClose s).tb = s.tb := by
  unfold storeClose; apply foldl_keeps (g := State.tb); simp
@[simp] theorem storeClose_si : (storeClose s).si = s.si := by
  unfold storeClose; apply foldl_keeps (g := State.si); simp
@[simp] theorem storeClose_fe : (storeClose s).fe = s.fe := by
  unfold storeClose; apply foldl_keeps (g := State.fe); simp
@[simp] theorem storeClose_tu : (storeClose s).tu = s.tu := by
  unfold storeClose; apply foldl_keeps (g := State.tu); simp
@[simp] theorem storeClose_al : (storeClose s).al = s.al := by
  unfold storeClose; apply foldl_keeps (g := State.al); simp
@[simp] theorem storeClose_hm : (storeClose s).hm = s.hm := by
  unfold storeClose; apply foldl_keeps (g := State.hm); simp
@[simp] theorem storeClose_ca : (storeClose s).ca = s.ca := by
  unfold storeClose; apply foldl_keeps (g := State.ca); simp
@[simp] theorem storeClose_hc : (storeClose s).hc = s.hc := by
  unfold storeClose; apply foldl_keeps (g := State.hc); simp
@[simp] theorem storeClose_sm : (storeClose s).sm = s.sm := by
  unfold storeClose; apply foldl_keeps (g := State.sm); simp
@[simp] theorem storeClose_lines : (storeClose s).lines = s.lines := by
  unfold storeClose; apply foldl_keeps (g := State.lines); simp
@[simp] theorem storeClose_freeCount : (storeClose s).freeCount = s.freeCount := by
  unfold storeClose; apply foldl_keeps (g := State.freeCount); simp
@[simp] theorem storeClose_pending : (storeClose s).pending = s.pending := by
  unfold storeClose; apply foldl_keeps (g := State.pending); simp

@[simp] theorem removeRecord_powered (n : Nat) : (removeRecord n s).powered = s.powered := by
  simp [removeRecord]
@[simp] theorem removeRecord_clk (n : Nat) : (removeRecord n s).clk = s.clk := by
  simp [removeRecord]
@[simp] theorem removeRecord_tb (n : Nat) : (removeRecord n s).tb = s.tb := by
  simp [removeRecord]
@[simp] theorem removeRecord_si (n : Nat) : (removeRecord n s).si = s.si := by
  simp [removeRecord]
@[simp] theorem removeRecord_fe (n : Nat) : (removeRecord n s).fe = s.fe := by
  simp [removeRecord]
@[simp] theorem removeRecord_tu (n : Nat) : (removeRecord n s).tu = s.tu := by
  simp [removeRecord]
@[simp] theorem removeRecord_al (n : Nat) : (removeRecord n s).al = s.al := by
  simp [removeRecord]
@[simp] theorem removeRecord_hm (n : Nat) : (removeRecord n s).hm = s.hm := by
  simp [removeRecord]
@[simp] theorem removeRecord_ca (n : Nat) : (removeRecord n s).ca = s.ca := by
  simp [removeRecord]
@[simp] theorem removeRecord_hc (n : Nat) : (removeRecord n s).hc = s.hc := by
  simp [removeRecord]
@[simp] theorem removeRecord_pt (n : Nat) : (removeRecord n s).pt = s.pt := by
  simp [removeRecord]
@[simp] theorem removeRecord_sl (n : Nat) : (removeRecord n s).sl = s.sl := by
  simp [removeRecord]
@[simp] theorem removeRecord_sm (n : Nat) : (removeRecord n s).sm = s.sm := by
  simp [removeRecord]
@[simp] theorem removeRecord_lines (n : Nat) : (removeRecord n s).lines = s.lines := by
  simp [removeRecord]
@[simp] theorem removeRecord_freeCount (n : Nat) : (removeRecord n s).freeCount = s.freeCount := by
  simp [removeRecord]
@[simp] theorem removeRecord_pending (n : Nat) : (removeRecord n s).pending = s.pending := by
  simp [removeRecord]

end Sys2Proof.Machine
end

