-- ==== Sys2Proof/Laws/FramesTrigger.lean ====
section
/-! SUPPORT. The frame of each shared operation of the heater, trigger unit, sample interface and filter engine: one lemma for each block of State that the
operation leaves as it is. -/

namespace Sys2Proof.Machine

variable (s : State)

@[simp] theorem startQuiet_powered : (startQuiet s).powered = s.powered := by
  simp [startQuiet]
@[simp] theorem startQuiet_clk : (startQuiet s).clk = s.clk := by
  simp [startQuiet]
@[simp] theorem startQuiet_tb : (startQuiet s).tb = s.tb := by
  simp [startQuiet]
@[simp] theorem startQuiet_si : (startQuiet s).si = s.si := by
  simp [startQuiet]
@[simp] theorem startQuiet_fe : (startQuiet s).fe = s.fe := by
  simp [startQuiet]
@[simp] theorem startQuiet_ws : (startQuiet s).ws = s.ws := by
  simp [startQuiet]
@[simp] theorem startQuiet_et : (startQuiet s).et = s.et := by
  simp [startQuiet]
@[simp] theorem startQuiet_al : (startQuiet s).al = s.al := by
  simp [startQuiet]
@[simp] theorem startQuiet_hm : (startQuiet s).hm = s.hm := by
  simp [startQuiet]
@[simp] theorem startQuiet_ca : (startQuiet s).ca = s.ca := by
  simp [startQuiet]
@[simp] theorem startQuiet_hc : (startQuiet s).hc = s.hc := by
  simp [startQuiet]
@[simp] theorem startQuiet_pt : (startQuiet s).pt = s.pt := by
  simp [startQuiet]
@[simp] theorem startQuiet_sl : (startQuiet s).sl = s.sl := by
  simp [startQuiet]
@[simp] theorem startQuiet_sm : (startQuiet s).sm = s.sm := by
  simp [startQuiet]
@[simp] theorem startQuiet_lines : (startQuiet s).lines = s.lines := by
  simp [startQuiet]
@[simp] theorem startQuiet_freeCount : (startQuiet s).freeCount = s.freeCount := by
  simp [startQuiet]
@[simp] theorem startQuiet_pending : (startQuiet s).pending = s.pending := by
  simp [startQuiet]

@[simp] theorem switchHeater_powered (h : HeaterState) : (switchHeater h s).powered = s.powered := by
  unfold switchHeater; dsimp only; split <;> simp
@[simp] theorem switchHeater_clk (h : HeaterState) : (switchHeater h s).clk = s.clk := by
  unfold switchHeater; dsimp only; split <;> simp
@[simp] theorem switchHeater_tb (h : HeaterState) : (switchHeater h s).tb = s.tb := by
  unfold switchHeater; dsimp only; split <;> simp
@[simp] theorem switchHeater_fe (h : HeaterState) : (switchHeater h s).fe = s.fe := by
  unfold switchHeater; dsimp only; split <;> simp
@[simp] theorem switchHeater_ws (h : HeaterState) : (switchHeater h s).ws = s.ws := by
  unfold switchHeater; dsimp only; split <;> simp
@[simp] theorem switchHeater_al (h : HeaterState) : (switchHeater h s).al = s.al := by
  unfold switchHeater; dsimp only; split <;> simp
@[simp] theorem switchHeater_hm (h : HeaterState) : (switchHeater h s).hm = s.hm := by
  unfold switchHeater; dsimp only; split <;> simp
@[simp] theorem switchHeater_ca (h : HeaterState) : (switchHeater h s).ca = s.ca := by
  unfold switchHeater; dsimp only; split <;> simp
@[simp] theorem switchHeater_pt (h : HeaterState) : (switchHeater h s).pt = s.pt := by
  unfold switchHeater; dsimp only; split <;> simp
@[simp] theorem switchHeater_sl (h : HeaterState) : (switchHeater h s).sl = s.sl := by
  unfold switchHeater; dsimp only; split <;> simp
@[simp] theorem switchHeater_sm (h : HeaterState) : (switchHeater h s).sm = s.sm := by
  unfold switchHeater; dsimp only; split <;> simp
@[simp] theorem switchHeater_lines (h : HeaterState) : (switchHeater h s).lines = s.lines := by
  unfold switchHeater; dsimp only; split <;> simp
@[simp] theorem switchHeater_freeCount (h : HeaterState) : (switchHeater h s).freeCount = s.freeCount := by
  unfold switchHeater; dsimp only; split <;> simp
@[simp] theorem switchHeater_pending (h : HeaterState) : (switchHeater h s).pending = s.pending := by
  unfold switchHeater; dsimp only; split <;> simp

@[simp] theorem deferChange_powered (h : HeaterState) : (deferChange h s).powered = s.powered := by
  simp [deferChange]
@[simp] theorem deferChange_clk (h : HeaterState) : (deferChange h s).clk = s.clk := by
  simp [deferChange]
@[simp] theorem deferChange_tb (h : HeaterState) : (deferChange h s).tb = s.tb := by
  simp [deferChange]
@[simp] theorem deferChange_si (h : HeaterState) : (deferChange h s).si = s.si := by
  simp [deferChange]
@[simp] theorem deferChange_fe (h : HeaterState) : (deferChange h s).fe = s.fe := by
  simp [deferChange]
@[simp] theorem deferChange_tu (h : HeaterState) : (deferChange h s).tu = s.tu := by
  simp [deferChange]
@[simp] theorem deferChange_ws (h : HeaterState) : (deferChange h s).ws = s.ws := by
  simp [deferChange]
@[simp] theorem deferChange_et (h : HeaterState) : (deferChange h s).et = s.et := by
  simp [deferChange]
@[simp] theorem deferChange_al (h : HeaterState) : (deferChange h s).al = s.al := by
  simp [deferChange]
@[simp] theorem deferChange_hm (h : HeaterState) : (deferChange h s).hm = s.hm := by
  simp [deferChange]
@[simp] theorem deferChange_ca (h : HeaterState) : (deferChange h s).ca = s.ca := by
  simp [deferChange]
@[simp] theorem deferChange_pt (h : HeaterState) : (deferChange h s).pt = s.pt := by
  simp [deferChange]
@[simp] theorem deferChange_sl (h : HeaterState) : (deferChange h s).sl = s.sl := by
  simp [deferChange]
@[simp] theorem deferChange_sm (h : HeaterState) : (deferChange h s).sm = s.sm := by
  simp [deferChange]
@[simp] theorem deferChange_lines (h : HeaterState) : (deferChange h s).lines = s.lines := by
  simp [deferChange]
@[simp] theorem deferChange_freeCount (h : HeaterState) : (deferChange h s).freeCount = s.freeCount := by
  simp [deferChange]
@[simp] theorem deferChange_pending (h : HeaterState) : (deferChange h s).pending = s.pending := by
  simp [deferChange]

@[simp] theorem heaterDecide_powered (b : Bool) : (heaterDecide b s).powered = s.powered := by
  unfold heaterDecide; dsimp only; (repeat' split) <;> simp
@[simp] theorem heaterDecide_clk (b : Bool) : (heaterDecide b s).clk = s.clk := by
  unfold heaterDecide; dsimp only; (repeat' split) <;> simp
@[simp] theorem heaterDecide_tb (b : Bool) : (heaterDecide b s).tb = s.tb := by
  unfold heaterDecide; dsimp only; (repeat' split) <;> simp
@[simp] theorem heaterDecide_fe (b : Bool) : (heaterDecide b s).fe = s.fe := by
  unfold heaterDecide; dsimp only; (repeat' split) <;> simp
@[simp] theorem heaterDecide_ws (b : Bool) : (heaterDecide b s).ws = s.ws := by
  unfold heaterDecide; dsimp only; (repeat' split) <;> simp
@[simp] theorem heaterDecide_al (b : Bool) : (heaterDecide b s).al = s.al := by
  unfold heaterDecide; dsimp only; (repeat' split) <;> simp
@[simp] theorem heaterDecide_hm (b : Bool) : (heaterDecide b s).hm = s.hm := by
  unfold heaterDecide; dsimp only; (repeat' split) <;> simp
@[simp] theorem heaterDecide_ca (b : Bool) : (heaterDecide b s).ca = s.ca := by
  unfold heaterDecide; dsimp only; (repeat' split) <;> simp
@[simp] theorem heaterDecide_pt (b : Bool) : (heaterDecide b s).pt = s.pt := by
  unfold heaterDecide; dsimp only; (repeat' split) <;> simp
@[simp] theorem heaterDecide_sl (b : Bool) : (heaterDecide b s).sl = s.sl := by
  unfold heaterDecide; dsimp only; (repeat' split) <;> simp
@[simp] theorem heaterDecide_sm (b : Bool) : (heaterDecide b s).sm = s.sm := by
  unfold heaterDecide; dsimp only; (repeat' split) <;> simp
@[simp] theorem heaterDecide_lines (b : Bool) : (heaterDecide b s).lines = s.lines := by
  unfold heaterDecide; dsimp only; (repeat' split) <;> simp
@[simp] theorem heaterDecide_freeCount (b : Bool) : (heaterDecide b s).freeCount = s.freeCount := by
  unfold heaterDecide; dsimp only; (repeat' split) <;> simp
@[simp] theorem heaterDecide_pending (b : Bool) : (heaterDecide b s).pending = s.pending := by
  unfold heaterDecide; dsimp only; (repeat' split) <;> simp

@[simp] theorem enterFault_powered : (enterFault s).powered = s.powered := by
  simp [enterFault]
@[simp] theorem enterFault_clk : (enterFault s).clk = s.clk := by
  simp [enterFault]
@[simp] theorem enterFault_tb : (enterFault s).tb = s.tb := by
  simp [enterFault]
@[simp] theorem enterFault_fe : (enterFault s).fe = s.fe := by
  simp [enterFault]
@[simp] theorem enterFault_ws : (enterFault s).ws = s.ws := by
  simp [enterFault]
@[simp] theorem enterFault_al : (enterFault s).al = s.al := by
  simp [enterFault]
@[simp] theorem enterFault_hm : (enterFault s).hm = s.hm := by
  simp [enterFault]
@[simp] theorem enterFault_ca : (enterFault s).ca = s.ca := by
  simp [enterFault]
@[simp] theorem enterFault_pt : (enterFault s).pt = s.pt := by
  simp [enterFault]
@[simp] theorem enterFault_sl : (enterFault s).sl = s.sl := by
  simp [enterFault]
@[simp] theorem enterFault_sm : (enterFault s).sm = s.sm := by
  simp [enterFault]
@[simp] theorem enterFault_lines : (enterFault s).lines = s.lines := by
  simp [enterFault]
@[simp] theorem enterFault_freeCount : (enterFault s).freeCount = s.freeCount := by
  simp [enterFault]
@[simp] theorem enterFault_pending : (enterFault s).pending = s.pending := by
  simp [enterFault]

@[simp] theorem lowCurrentTest_powered : (lowCurrentTest s).powered = s.powered := by
  unfold lowCurrentTest; dsimp only; (repeat' split) <;> simp
@[simp] theorem lowCurrentTest_clk : (lowCurrentTest s).clk = s.clk := by
  unfold lowCurrentTest; dsimp only; (repeat' split) <;> simp
@[simp] theorem lowCurrentTest_tb : (lowCurrentTest s).tb = s.tb := by
  unfold lowCurrentTest; dsimp only; (repeat' split) <;> simp
@[simp] theorem lowCurrentTest_fe : (lowCurrentTest s).fe = s.fe := by
  unfold lowCurrentTest; dsimp only; (repeat' split) <;> simp
@[simp] theorem lowCurrentTest_ws : (lowCurrentTest s).ws = s.ws := by
  unfold lowCurrentTest; dsimp only; (repeat' split) <;> simp
@[simp] theorem lowCurrentTest_al : (lowCurrentTest s).al = s.al := by
  unfold lowCurrentTest; dsimp only; (repeat' split) <;> simp
@[simp] theorem lowCurrentTest_hm : (lowCurrentTest s).hm = s.hm := by
  unfold lowCurrentTest; dsimp only; (repeat' split) <;> simp
@[simp] theorem lowCurrentTest_ca : (lowCurrentTest s).ca = s.ca := by
  unfold lowCurrentTest; dsimp only; (repeat' split) <;> simp
@[simp] theorem lowCurrentTest_pt : (lowCurrentTest s).pt = s.pt := by
  unfold lowCurrentTest; dsimp only; (repeat' split) <;> simp
@[simp] theorem lowCurrentTest_sl : (lowCurrentTest s).sl = s.sl := by
  unfold lowCurrentTest; dsimp only; (repeat' split) <;> simp
@[simp] theorem lowCurrentTest_sm : (lowCurrentTest s).sm = s.sm := by
  unfold lowCurrentTest; dsimp only; (repeat' split) <;> simp
@[simp] theorem lowCurrentTest_lines : (lowCurrentTest s).lines = s.lines := by
  unfold lowCurrentTest; dsimp only; (repeat' split) <;> simp
@[simp] theorem lowCurrentTest_freeCount : (lowCurrentTest s).freeCount = s.freeCount := by
  unfold lowCurrentTest; dsimp only; (repeat' split) <;> simp
@[simp] theorem lowCurrentTest_pending : (lowCurrentTest s).pending = s.pending := by
  unfold lowCurrentTest; dsimp only; (repeat' split) <;> simp

@[simp] theorem updChannel_powered (c : Channel) (f : TriggerChannel → TriggerChannel) : (updChannel c f s).powered = s.powered := by
  simp [updChannel]
@[simp] theorem updChannel_clk (c : Channel) (f : TriggerChannel → TriggerChannel) : (updChannel c f s).clk = s.clk := by
  simp [updChannel]
@[simp] theorem updChannel_tb (c : Channel) (f : TriggerChannel → TriggerChannel) : (updChannel c f s).tb = s.tb := by
  simp [updChannel]
@[simp] theorem updChannel_si (c : Channel) (f : TriggerChannel → TriggerChannel) : (updChannel c f s).si = s.si := by
  simp [updChannel]
@[simp] theorem updChannel_fe (c : Channel) (f : TriggerChannel → TriggerChannel) : (updChannel c f s).fe = s.fe := by
  simp [updChannel]
@[simp] theorem updChannel_ws (c : Channel) (f : TriggerChannel → TriggerChannel) : (updChannel c f s).ws = s.ws := by
  simp [updChannel]
@[simp] theorem updChannel_et (c : Channel) (f : TriggerChannel → TriggerChannel) : (updChannel c f s).et = s.et := by
  simp [updChannel]
@[simp] theorem updChannel_al (c : Channel) (f : TriggerChannel → TriggerChannel) : (updChannel c f s).al = s.al := by
  simp [updChannel]
@[simp] theorem updChannel_hm (c : Channel) (f : TriggerChannel → TriggerChannel) : (updChannel c f s).hm = s.hm := by
  simp [updChannel]
@[simp] theorem updChannel_ca (c : Channel) (f : TriggerChannel → TriggerChannel) : (updChannel c f s).ca = s.ca := by
  simp [updChannel]
@[simp] theorem updChannel_hc (c : Channel) (f : TriggerChannel → TriggerChannel) : (updChannel c f s).hc = s.hc := by
  simp [updChannel]
@[simp] theorem updChannel_pt (c : Channel) (f : TriggerChannel → TriggerChannel) : (updChannel c f s).pt = s.pt := by
  simp [updChannel]
@[simp] theorem updChannel_sl (c : Channel) (f : TriggerChannel → TriggerChannel) : (updChannel c f s).sl = s.sl := by
  simp [updChannel]
@[simp] theorem updChannel_sm (c : Channel) (f : TriggerChannel → TriggerChannel) : (updChannel c f s).sm = s.sm := by
  simp [updChannel]
@[simp] theorem updChannel_lines (c : Channel) (f : TriggerChannel → TriggerChannel) : (updChannel c f s).lines = s.lines := by
  simp [updChannel]
@[simp] theorem updChannel_freeCount (c : Channel) (f : TriggerChannel → TriggerChannel) : (updChannel c f s).freeCount = s.freeCount := by
  simp [updChannel]
@[simp] theorem updChannel_pending (c : Channel) (f : TriggerChannel → TriggerChannel) : (updChannel c f s).pending = s.pending := by
  simp [updChannel]

@[simp] theorem makeRoom_powered : (makeRoom s).powered = s.powered := by
  unfold makeRoom; (repeat' split) <;> simp
@[simp] theorem makeRoom_clk : (makeRoom s).clk = s.clk := by
  unfold makeRoom; (repeat' split) <;> simp
@[simp] theorem makeRoom_tb : (makeRoom s).tb = s.tb := by
  unfold makeRoom; (repeat' split) <;> simp
@[simp] theorem makeRoom_si : (makeRoom s).si = s.si := by
  unfold makeRoom; (repeat' split) <;> simp
@[simp] theorem makeRoom_fe : (makeRoom s).fe = s.fe := by
  unfold makeRoom; (repeat' split) <;> simp
@[simp] theorem makeRoom_tu : (makeRoom s).tu = s.tu := by
  unfold makeRoom; (repeat' split) <;> simp
@[simp] theorem makeRoom_al : (makeRoom s).al = s.al := by
  unfold makeRoom; (repeat' split) <;> simp
@[simp] theorem makeRoom_hm : (makeRoom s).hm = s.hm := by
  unfold makeRoom; (repeat' split) <;> simp
@[simp] theorem makeRoom_ca : (makeRoom s).ca = s.ca := by
  unfold makeRoom; (repeat' split) <;> simp
@[simp] theorem makeRoom_hc : (makeRoom s).hc = s.hc := by
  unfold makeRoom; (repeat' split) <;> simp
@[simp] theorem makeRoom_pt : (makeRoom s).pt = s.pt := by
  unfold makeRoom; (repeat' split) <;> simp
@[simp] theorem makeRoom_sl : (makeRoom s).sl = s.sl := by
  unfold makeRoom; (repeat' split) <;> simp
@[simp] theorem makeRoom_sm : (makeRoom s).sm = s.sm := by
  unfold makeRoom; (repeat' split) <;> simp
@[simp] theorem makeRoom_lines : (makeRoom s).lines = s.lines := by
  unfold makeRoom; (repeat' split) <;> simp
@[simp] theorem makeRoom_freeCount : (makeRoom s).freeCount = s.freeCount := by
  unfold makeRoom; (repeat' split) <;> simp
@[simp] theorem makeRoom_pending : (makeRoom s).pending = s.pending := by
  unfold makeRoom; (repeat' split) <;> simp

@[simp] theorem createRecord_powered (o : Time) (g : Tri Bool) (p : Tri (Option Peak)) (f : EventFlags) : (createRecord o g p f s).powered = s.powered := by
  simp [createRecord]
@[simp] theorem createRecord_clk (o : Time) (g : Tri Bool) (p : Tri (Option Peak)) (f : EventFlags) : (createRecord o g p f s).clk = s.clk := by
  simp [createRecord]
@[simp] theorem createRecord_tb (o : Time) (g : Tri Bool) (p : Tri (Option Peak)) (f : EventFlags) : (createRecord o g p f s).tb = s.tb := by
  simp [createRecord]
@[simp] theorem createRecord_si (o : Time) (g : Tri Bool) (p : Tri (Option Peak)) (f : EventFlags) : (createRecord o g p f s).si = s.si := by
  simp [createRecord]
@[simp] theorem createRecord_fe (o : Time) (g : Tri Bool) (p : Tri (Option Peak)) (f : EventFlags) : (createRecord o g p f s).fe = s.fe := by
  simp [createRecord]
@[simp] theorem createRecord_tu (o : Time) (g : Tri Bool) (p : Tri (Option Peak)) (f : EventFlags) : (createRecord o g p f s).tu = s.tu := by
  simp [createRecord]
@[simp] theorem createRecord_al (o : Time) (g : Tri Bool) (p : Tri (Option Peak)) (f : EventFlags) : (createRecord o g p f s).al = s.al := by
  simp [createRecord]
@[simp] theorem createRecord_hm (o : Time) (g : Tri Bool) (p : Tri (Option Peak)) (f : EventFlags) : (createRecord o g p f s).hm = s.hm := by
  simp [createRecord]
@[simp] theorem createRecord_ca (o : Time) (g : Tri Bool) (p : Tri (Option Peak)) (f : EventFlags) : (createRecord o g p f s).ca = s.ca := by
  simp [createRecord]
@[simp] theorem createRecord_hc (o : Time) (g : Tri Bool) (p : Tri (Option Peak)) (f : EventFlags) : (createRecord o g p f s).hc = s.hc := by
  simp [createRecord]
@[simp] theorem createRecord_pt (o : Time) (g : Tri Bool) (p : Tri (Option Peak)) (f : EventFlags) : (createRecord o g p f s).pt = s.pt := by
  simp [createRecord]
@[simp] theorem createRecord_sl (o : Time) (g : Tri Bool) (p : Tri (Option Peak)) (f : EventFlags) : (createRecord o g p f s).sl = s.sl := by
  simp [createRecord]
@[simp] theorem createRecord_sm (o : Time) (g : Tri Bool) (p : Tri (Option Peak)) (f : EventFlags) : (createRecord o g p f s).sm = s.sm := by
  simp [createRecord]
@[simp] theorem createRecord_lines (o : Time) (g : Tri Bool) (p : Tri (Option Peak)) (f : EventFlags) : (createRecord o g p f s).lines = s.lines := by
  simp [createRecord]
@[simp] theorem createRecord_freeCount (o : Time) (g : Tri Bool) (p : Tri (Option Peak)) (f : EventFlags) : (createRecord o g p f s).freeCount = s.freeCount := by
  simp [createRecord]
@[simp] theorem createRecord_pending (o : Time) (g : Tri Bool) (p : Tri (Option Peak)) (f : EventFlags) : (createRecord o g p f s).pending = s.pending := by
  simp [createRecord]

@[simp] theorem openEvent_powered (o : Time) (n : Nat) (g : Tri Bool) (x : Bool) : (openEvent o n g x s).powered = s.powered := by
  simp [openEvent]
@[simp] theorem openEvent_clk (o : Time) (n : Nat) (g : Tri Bool) (x : Bool) : (openEvent o n g x s).clk = s.clk := by
  simp [openEvent]
@[simp] theorem openEvent_tb (o : Time) (n : Nat) (g : Tri Bool) (x : Bool) : (openEvent o n g x s).tb = s.tb := by
  simp [openEvent]
@[simp] theorem openEvent_si (o : Time) (n : Nat) (g : Tri Bool) (x : Bool) : (openEvent o n g x s).si = s.si := by
  simp [openEvent]
@[simp] theorem openEvent_fe (o : Time) (n : Nat) (g : Tri Bool) (x : Bool) : (openEvent o n g x s).fe = s.fe := by
  simp [openEvent]
@[simp] theorem openEvent_hm (o : Time) (n : Nat) (g : Tri Bool) (x : Bool) : (openEvent o n g x s).hm = s.hm := by
  simp [openEvent]
@[simp] theorem openEvent_ca (o : Time) (n : Nat) (g : Tri Bool) (x : Bool) : (openEvent o n g x s).ca = s.ca := by
  simp [openEvent]
@[simp] theorem openEvent_hc (o : Time) (n : Nat) (g : Tri Bool) (x : Bool) : (openEvent o n g x s).hc = s.hc := by
  simp [openEvent]
@[simp] theorem openEvent_sm (o : Time) (n : Nat) (g : Tri Bool) (x : Bool) : (openEvent o n g x s).sm = s.sm := by
  simp [openEvent]
@[simp] theorem openEvent_lines (o : Time) (n : Nat) (g : Tri Bool) (x : Bool) : (openEvent o n g x s).lines = s.lines := by
  simp [openEvent]
@[simp] theorem openEvent_freeCount (o : Time) (n : Nat) (g : Tri Bool) (x : Bool) : (openEvent o n g x s).freeCount = s.freeCount := by
  simp [openEvent]
@[simp] theorem openEvent_pending (o : Time) (n : Nat) (g : Tri Bool) (x : Bool) : (openEvent o n g x s).pending = s.pending := by
  simp [openEvent]

@[simp] theorem openByVote_powered : (openByVote s).powered = s.powered := by
  unfold openByVote; split <;> simp
@[simp] theorem openByVote_clk : (openByVote s).clk = s.clk := by
  unfold openByVote; split <;> simp
@[simp] theorem openByVote_tb : (openByVote s).tb = s.tb := by
  unfold openByVote; split <;> simp
@[simp] theorem openByVote_si : (openByVote s).si = s.si := by
  unfold openByVote; split <;> simp
@[simp] theorem openByVote_fe : (openByVote s).fe = s.fe := by
  unfold openByVote; split <;> simp
@[simp] theorem openByVote_hm : (openByVote s).hm = s.hm := by
  unfold openByVote; split <;> simp
@[simp] theorem openByVote_ca : (openByVote s).ca = s.ca := by
  unfold openByVote; split <;> simp
@[simp] theorem openByVote_hc : (openByVote s).hc = s.hc := by
  unfold openByVote; split <;> simp
@[simp] theorem openByVote_sm : (openByVote s).sm = s.sm := by
  unfold openByVote; split <;> simp
@[simp] theorem openByVote_lines : (openByVote s).lines = s.lines := by
  unfold openByVote; split <;> simp
@[simp] theorem openByVote_freeCount : (openByVote s).freeCount = s.freeCount := by
  unfold openByVote; split <;> simp
@[simp] theorem openByVote_pending : (openByVote s).pending = s.pending := by
  unfold openByVote; split <;> simp

@[simp] theorem toPost_powered : (toPost s).powered = s.powered := by
  unfold toPost; dsimp only; split <;> simp
@[simp] theorem toPost_clk : (toPost s).clk = s.clk := by
  unfold toPost; dsimp only; split <;> simp
@[simp] theorem toPost_tb : (toPost s).tb = s.tb := by
  unfold toPost; dsimp only; split <;> simp
@[simp] theorem toPost_si : (toPost s).si = s.si := by
  unfold toPost; dsimp only; split <;> simp
@[simp] theorem toPost_fe : (toPost s).fe = s.fe := by
  unfold toPost; dsimp only; split <;> simp
@[simp] theorem toPost_ws : (toPost s).ws = s.ws := by
  unfold toPost; dsimp only; split <;> simp
@[simp] theorem toPost_al : (toPost s).al = s.al := by
  unfold toPost; dsimp only; split <;> simp
@[simp] theorem toPost_hm : (toPost s).hm = s.hm := by
  unfold toPost; dsimp only; split <;> simp
@[simp] theorem toPost_ca : (toPost s).ca = s.ca := by
  unfold toPost; dsimp only; split <;> simp
@[simp] theorem toPost_hc : (toPost s).hc = s.hc := by
  unfold toPost; dsimp only; split <;> simp
@[simp] theorem toPost_pt : (toPost s).pt = s.pt := by
  unfold toPost; dsimp only; split <;> simp
@[simp] theorem toPost_sl : (toPost s).sl = s.sl := by
  unfold toPost; dsimp only; split <;> simp
@[simp] theorem toPost_sm : (toPost s).sm = s.sm := by
  unfold toPost; dsimp only; split <;> simp
@[simp] theorem toPost_lines : (toPost s).lines = s.lines := by
  unfold toPost; dsimp only; split <;> simp
@[simp] theorem toPost_freeCount : (toPost s).freeCount = s.freeCount := by
  unfold toPost; dsimp only; split <;> simp
@[simp] theorem toPost_pending : (toPost s).pending = s.pending := by
  unfold toPost; dsimp only; split <;> simp

@[simp] theorem reopen_powered : (reopen s).powered = s.powered := by
  unfold reopen; dsimp only; split <;> simp
@[simp] theorem reopen_clk : (reopen s).clk = s.clk := by
  unfold reopen; dsimp only; split <;> simp
@[simp] theorem reopen_tb : (reopen s).tb = s.tb := by
  unfold reopen; dsimp only; split <;> simp
@[simp] theorem reopen_si : (reopen s).si = s.si := by
  unfold reopen; dsimp only; split <;> simp
@[simp] theorem reopen_fe : (reopen s).fe = s.fe := by
  unfold reopen; dsimp only; split <;> simp
@[simp] theorem reopen_ws : (reopen s).ws = s.ws := by
  unfold reopen; dsimp only; split <;> simp
@[simp] theorem reopen_al : (reopen s).al = s.al := by
  unfold reopen; dsimp only; split <;> simp
@[simp] theorem reopen_hm : (reopen s).hm = s.hm := by
  unfold reopen; dsimp only; split <;> simp
@[simp] theorem reopen_ca : (reopen s).ca = s.ca := by
  unfold reopen; dsimp only; split <;> simp
@[simp] theorem reopen_hc : (reopen s).hc = s.hc := by
  unfold reopen; dsimp only; split <;> simp
@[simp] theorem reopen_pt : (reopen s).pt = s.pt := by
  unfold reopen; dsimp only; split <;> simp
@[simp] theorem reopen_sl : (reopen s).sl = s.sl := by
  unfold reopen; dsimp only; split <;> simp
@[simp] theorem reopen_sm : (reopen s).sm = s.sm := by
  unfold reopen; dsimp only; split <;> simp
@[simp] theorem reopen_lines : (reopen s).lines = s.lines := by
  unfold reopen; dsimp only; split <;> simp
@[simp] theorem reopen_freeCount : (reopen s).freeCount = s.freeCount := by
  unfold reopen; dsimp only; split <;> simp
@[simp] theorem reopen_pending : (reopen s).pending = s.pending := by
  unfold reopen; dsimp only; split <;> simp

@[simp] theorem evalVote_powered : (evalVote s).powered = s.powered := by
  unfold evalVote; (repeat' split) <;> simp
@[simp] theorem evalVote_clk : (evalVote s).clk = s.clk := by
  unfold evalVote; (repeat' split) <;> simp
@[simp] theorem evalVote_tb : (evalVote s).tb = s.tb := by
  unfold evalVote; (repeat' split) <;> simp
@[simp] theorem evalVote_si : (evalVote s).si = s.si := by
  unfold evalVote; (repeat' split) <;> simp
@[simp] theorem evalVote_fe : (evalVote s).fe = s.fe := by
  unfold evalVote; (repeat' split) <;> simp
@[simp] theorem evalVote_hm : (evalVote s).hm = s.hm := by
  unfold evalVote; (repeat' split) <;> simp
@[simp] theorem evalVote_ca : (evalVote s).ca = s.ca := by
  unfold evalVote; (repeat' split) <;> simp
@[simp] theorem evalVote_hc : (evalVote s).hc = s.hc := by
  unfold evalVote; (repeat' split) <;> simp
@[simp] theorem evalVote_sm : (evalVote s).sm = s.sm := by
  unfold evalVote; (repeat' split) <;> simp
@[simp] theorem evalVote_lines : (evalVote s).lines = s.lines := by
  unfold evalVote; (repeat' split) <;> simp
@[simp] theorem evalVote_freeCount : (evalVote s).freeCount = s.freeCount := by
  unfold evalVote; (repeat' split) <;> simp
@[simp] theorem evalVote_pending : (evalVote s).pending = s.pending := by
  unfold evalVote; (repeat' split) <;> simp

@[simp] theorem openExternal_powered : (openExternal s).powered = s.powered := by
  unfold openExternal; split <;> simp
@[simp] theorem openExternal_clk : (openExternal s).clk = s.clk := by
  unfold openExternal; split <;> simp
@[simp] theorem openExternal_tb : (openExternal s).tb = s.tb := by
  unfold openExternal; split <;> simp
@[simp] theorem openExternal_si : (openExternal s).si = s.si := by
  unfold openExternal; split <;> simp
@[simp] theorem openExternal_fe : (openExternal s).fe = s.fe := by
  unfold openExternal; split <;> simp
@[simp] theorem openExternal_hm : (openExternal s).hm = s.hm := by
  unfold openExternal; split <;> simp
@[simp] theorem openExternal_ca : (openExternal s).ca = s.ca := by
  unfold openExternal; split <;> simp
@[simp] theorem openExternal_hc : (openExternal s).hc = s.hc := by
  unfold openExternal; split <;> simp
@[simp] theorem openExternal_sm : (openExternal s).sm = s.sm := by
  unfold openExternal; split <;> simp
@[simp] theorem openExternal_lines : (openExternal s).lines = s.lines := by
  unfold openExternal; split <;> simp
@[simp] theorem openExternal_freeCount : (openExternal s).freeCount = s.freeCount := by
  unfold openExternal; split <;> simp
@[simp] theorem openExternal_pending : (openExternal s).pending = s.pending := by
  unfold openExternal; split <;> simp

@[simp] theorem closeEvent_powered (o : Option Time) (b : Bool) (x : DetectorState) : (closeEvent o b x s).powered = s.powered := by
  unfold closeEvent; dsimp only; split <;> simp
@[simp] theorem closeEvent_clk (o : Option Time) (b : Bool) (x : DetectorState) : (closeEvent o b x s).clk = s.clk := by
  unfold closeEvent; dsimp only; split <;> simp
@[simp] theorem closeEvent_tb (o : Option Time) (b : Bool) (x : DetectorState) : (closeEvent o b x s).tb = s.tb := by
  unfold closeEvent; dsimp only; split <;> simp
@[simp] theorem closeEvent_fe (o : Option Time) (b : Bool) (x : DetectorState) : (closeEvent o b x s).fe = s.fe := by
  unfold closeEvent; dsimp only; split <;> simp
@[simp] theorem closeEvent_al (o : Option Time) (b : Bool) (x : DetectorState) : (closeEvent o b x s).al = s.al := by
  unfold closeEvent; dsimp only; split <;> simp
@[simp] theorem closeEvent_hm (o : Option Time) (b : Bool) (x : DetectorState) : (closeEvent o b x s).hm = s.hm := by
  unfold closeEvent; dsimp only; split <;> simp
@[simp] theorem closeEvent_ca (o : Option Time) (b : Bool) (x : DetectorState) : (closeEvent o b x s).ca = s.ca := by
  unfold closeEvent; dsimp only; split <;> simp
@[simp] theorem closeEvent_sm (o : Option Time) (b : Bool) (x : DetectorState) : (closeEvent o b x s).sm = s.sm := by
  unfold closeEvent; dsimp only; split <;> simp
@[simp] theorem closeEvent_lines (o : Option Time) (b : Bool) (x : DetectorState) : (closeEvent o b x s).lines = s.lines := by
  unfold closeEvent; dsimp only; split <;> simp
@[simp] theorem closeEvent_freeCount (o : Option Time) (b : Bool) (x : DetectorState) : (closeEvent o b x s).freeCount = s.freeCount := by
  unfold closeEvent; dsimp only; split <;> simp
@[simp] theorem closeEvent_pending (o : Option Time) (b : Bool) (x : DetectorState) : (closeEvent o b x s).pending = s.pending := by
  unfold closeEvent; dsimp only; split <;> simp

@[simp] theorem rebaseline_powered : (rebaseline s).powered = s.powered := by
  simp [rebaseline]
@[simp] theorem rebaseline_clk : (rebaseline s).clk = s.clk := by
  simp [rebaseline]
@[simp] theorem rebaseline_tb : (rebaseline s).tb = s.tb := by
  simp [rebaseline]
@[simp] theorem rebaseline_si : (rebaseline s).si = s.si := by
  simp [rebaseline]
@[simp] theorem rebaseline_fe : (rebaseline s).fe = s.fe := by
  simp [rebaseline]
@[simp] theorem rebaseline_ws : (rebaseline s).ws = s.ws := by
  simp [rebaseline]
@[simp] theorem rebaseline_et : (rebaseline s).et = s.et := by
  simp [rebaseline]
@[simp] theorem rebaseline_al : (rebaseline s).al = s.al := by
  simp [rebaseline]
@[simp] theorem rebaseline_hm : (rebaseline s).hm = s.hm := by
  simp [rebaseline]
@[simp] theorem rebaseline_ca : (rebaseline s).ca = s.ca := by
  simp [rebaseline]
@[simp] theorem rebaseline_hc : (rebaseline s).hc = s.hc := by
  simp [rebaseline]
@[simp] theorem rebaseline_pt : (rebaseline s).pt = s.pt := by
  simp [rebaseline]
@[simp] theorem rebaseline_sl : (rebaseline s).sl = s.sl := by
  simp [rebaseline]
@[simp] theorem rebaseline_sm : (rebaseline s).sm = s.sm := by
  simp [rebaseline]
@[simp] theorem rebaseline_lines : (rebaseline s).lines = s.lines := by
  simp [rebaseline]
@[simp] theorem rebaseline_freeCount : (rebaseline s).freeCount = s.freeCount := by
  simp [rebaseline]
@[simp] theorem rebaseline_pending : (rebaseline s).pending = s.pending := by
  simp [rebaseline]

@[simp] theorem truncateEvent_powered (x : DetectorState) : (truncateEvent x s).powered = s.powered := by
  unfold truncateEvent; split <;> simp
@[simp] theorem truncateEvent_clk (x : DetectorState) : (truncateEvent x s).clk = s.clk := by
  unfold truncateEvent; split <;> simp
@[simp] theorem truncateEvent_tb (x : DetectorState) : (truncateEvent x s).tb = s.tb := by
  unfold truncateEvent; split <;> simp
@[simp] theorem truncateEvent_fe (x : DetectorState) : (truncateEvent x s).fe = s.fe := by
  unfold truncateEvent; split <;> simp
@[simp] theorem truncateEvent_al (x : DetectorState) : (truncateEvent x s).al = s.al := by
  unfold truncateEvent; split <;> simp
@[simp] theorem truncateEvent_hm (x : DetectorState) : (truncateEvent x s).hm = s.hm := by
  unfold truncateEvent; split <;> simp
@[simp] theorem truncateEvent_ca (x : DetectorState) : (truncateEvent x s).ca = s.ca := by
  unfold truncateEvent; split <;> simp
@[simp] theorem truncateEvent_sm (x : DetectorState) : (truncateEvent x s).sm = s.sm := by
  unfold truncateEvent; split <;> simp
@[simp] theorem truncateEvent_lines (x : DetectorState) : (truncateEvent x s).lines = s.lines := by
  unfold truncateEvent; split <;> simp
@[simp] theorem truncateEvent_freeCount (x : DetectorState) : (truncateEvent x s).freeCount = s.freeCount := by
  unfold truncateEvent; split <;> simp
@[simp] theorem truncateEvent_pending (x : DetectorState) : (truncateEvent x s).pending = s.pending := by
  unfold truncateEvent; split <;> simp

@[simp] theorem takePeak_powered (c : Channel) (k : Nat) (t : Time) : (takePeak c k t s).powered = s.powered := by
  unfold takePeak; dsimp only; (repeat' split) <;> simp
@[simp] theorem takePeak_clk (c : Channel) (k : Nat) (t : Time) : (takePeak c k t s).clk = s.clk := by
  unfold takePeak; dsimp only; (repeat' split) <;> simp
@[simp] theorem takePeak_tb (c : Channel) (k : Nat) (t : Time) : (takePeak c k t s).tb = s.tb := by
  unfold takePeak; dsimp only; (repeat' split) <;> simp
@[simp] theorem takePeak_si (c : Channel) (k : Nat) (t : Time) : (takePeak c k t s).si = s.si := by
  unfold takePeak; dsimp only; (repeat' split) <;> simp
@[simp] theorem takePeak_fe (c : Channel) (k : Nat) (t : Time) : (takePeak c k t s).fe = s.fe := by
  unfold takePeak; dsimp only; (repeat' split) <;> simp
@[simp] theorem takePeak_tu (c : Channel) (k : Nat) (t : Time) : (takePeak c k t s).tu = s.tu := by
  unfold takePeak; dsimp only; (repeat' split) <;> simp
@[simp] theorem takePeak_ws (c : Channel) (k : Nat) (t : Time) : (takePeak c k t s).ws = s.ws := by
  unfold takePeak; dsimp only; (repeat' split) <;> simp
@[simp] theorem takePeak_hm (c : Channel) (k : Nat) (t : Time) : (takePeak c k t s).hm = s.hm := by
  unfold takePeak; dsimp only; (repeat' split) <;> simp
@[simp] theorem takePeak_ca (c : Channel) (k : Nat) (t : Time) : (takePeak c k t s).ca = s.ca := by
  unfold takePeak; dsimp only; (repeat' split) <;> simp
@[simp] theorem takePeak_hc (c : Channel) (k : Nat) (t : Time) : (takePeak c k t s).hc = s.hc := by
  unfold takePeak; dsimp only; (repeat' split) <;> simp
@[simp] theorem takePeak_sm (c : Channel) (k : Nat) (t : Time) : (takePeak c k t s).sm = s.sm := by
  unfold takePeak; dsimp only; (repeat' split) <;> simp
@[simp] theorem takePeak_lines (c : Channel) (k : Nat) (t : Time) : (takePeak c k t s).lines = s.lines := by
  unfold takePeak; dsimp only; (repeat' split) <;> simp
@[simp] theorem takePeak_freeCount (c : Channel) (k : Nat) (t : Time) : (takePeak c k t s).freeCount = s.freeCount := by
  unfold takePeak; dsimp only; (repeat' split) <;> simp
@[simp] theorem takePeak_pending (c : Channel) (k : Nat) (t : Time) : (takePeak c k t s).pending = s.pending := by
  unfold takePeak; dsimp only; (repeat' split) <;> simp

@[simp] theorem joinTriggerSet_powered (c : Channel) : (joinTriggerSet c s).powered = s.powered := by
  unfold joinTriggerSet; dsimp only; (repeat' split) <;> simp
@[simp] theorem joinTriggerSet_clk (c : Channel) : (joinTriggerSet c s).clk = s.clk := by
  unfold joinTriggerSet; dsimp only; (repeat' split) <;> simp
@[simp] theorem joinTriggerSet_tb (c : Channel) : (joinTriggerSet c s).tb = s.tb := by
  unfold joinTriggerSet; dsimp only; (repeat' split) <;> simp
@[simp] theorem joinTriggerSet_si (c : Channel) : (joinTriggerSet c s).si = s.si := by
  unfold joinTriggerSet; dsimp only; (repeat' split) <;> simp
@[simp] theorem joinTriggerSet_fe (c : Channel) : (joinTriggerSet c s).fe = s.fe := by
  unfold joinTriggerSet; dsimp only; (repeat' split) <;> simp
@[simp] theorem joinTriggerSet_tu (c : Channel) : (joinTriggerSet c s).tu = s.tu := by
  unfold joinTriggerSet; dsimp only; (repeat' split) <;> simp
@[simp] theorem joinTriggerSet_ws (c : Channel) : (joinTriggerSet c s).ws = s.ws := by
  unfold joinTriggerSet; dsimp only; (repeat' split) <;> simp
@[simp] theorem joinTriggerSet_hm (c : Channel) : (joinTriggerSet c s).hm = s.hm := by
  unfold joinTriggerSet; dsimp only; (repeat' split) <;> simp
@[simp] theorem joinTriggerSet_ca (c : Channel) : (joinTriggerSet c s).ca = s.ca := by
  unfold joinTriggerSet; dsimp only; (repeat' split) <;> simp
@[simp] theorem joinTriggerSet_hc (c : Channel) : (joinTriggerSet c s).hc = s.hc := by
  unfold joinTriggerSet; dsimp only; (repeat' split) <;> simp
@[simp] theorem joinTriggerSet_sm (c : Channel) : (joinTriggerSet c s).sm = s.sm := by
  unfold joinTriggerSet; dsimp only; (repeat' split) <;> simp
@[simp] theorem joinTriggerSet_lines (c : Channel) : (joinTriggerSet c s).lines = s.lines := by
  unfold joinTriggerSet; dsimp only; (repeat' split) <;> simp
@[simp] theorem joinTriggerSet_freeCount (c : Channel) : (joinTriggerSet c s).freeCount = s.freeCount := by
  unfold joinTriggerSet; dsimp only; (repeat' split) <;> simp
@[simp] theorem joinTriggerSet_pending (c : Channel) : (joinTriggerSet c s).pending = s.pending := by
  unfold joinTriggerSet; dsimp only; (repeat' split) <;> simp

@[simp] theorem deliveryStart_powered (o : Option Time) : (deliveryStart o s).powered = s.powered := by
  unfold deliveryStart; dsimp only; (repeat' split) <;> simp
@[simp] theorem deliveryStart_clk (o : Option Time) : (deliveryStart o s).clk = s.clk := by
  unfold deliveryStart; dsimp only; (repeat' split) <;> simp
@[simp] theorem deliveryStart_tb (o : Option Time) : (deliveryStart o s).tb = s.tb := by
  unfold deliveryStart; dsimp only; (repeat' split) <;> simp
@[simp] theorem deliveryStart_fe (o : Option Time) : (deliveryStart o s).fe = s.fe := by
  unfold deliveryStart; dsimp only; (repeat' split) <;> simp
@[simp] theorem deliveryStart_hm (o : Option Time) : (deliveryStart o s).hm = s.hm := by
  unfold deliveryStart; dsimp only; (repeat' split) <;> simp
@[simp] theorem deliveryStart_ca (o : Option Time) : (deliveryStart o s).ca = s.ca := by
  unfold deliveryStart; dsimp only; (repeat' split) <;> simp
@[simp] theorem deliveryStart_sm (o : Option Time) : (deliveryStart o s).sm = s.sm := by
  unfold deliveryStart; dsimp only; (repeat' split) <;> simp
@[simp] theorem deliveryStart_lines (o : Option Time) : (deliveryStart o s).lines = s.lines := by
  unfold deliveryStart; dsimp only; (repeat' split) <;> simp
@[simp] theorem deliveryStart_freeCount (o : Option Time) : (deliveryStart o s).freeCount = s.freeCount := by
  unfold deliveryStart; dsimp only; (repeat' split) <;> simp
@[simp] theorem deliveryStart_pending (o : Option Time) : (deliveryStart o s).pending = s.pending := by
  unfold deliveryStart; dsimp only; (repeat' split) <;> simp

@[simp] theorem beginDelivery_powered (t : Time) : (beginDelivery t s).powered = s.powered := by
  unfold beginDelivery; dsimp only; (repeat' split) <;> simp
@[simp] theorem beginDelivery_clk (t : Time) : (beginDelivery t s).clk = s.clk := by
  unfold beginDelivery; dsimp only; (repeat' split) <;> simp
@[simp] theorem beginDelivery_tb (t : Time) : (beginDelivery t s).tb = s.tb := by
  unfold beginDelivery; dsimp only; (repeat' split) <;> simp
@[simp] theorem beginDelivery_fe (t : Time) : (beginDelivery t s).fe = s.fe := by
  unfold beginDelivery; dsimp only; (repeat' split) <;> simp
@[simp] theorem beginDelivery_hm (t : Time) : (beginDelivery t s).hm = s.hm := by
  unfold beginDelivery; dsimp only; (repeat' split) <;> simp
@[simp] theorem beginDelivery_ca (t : Time) : (beginDelivery t s).ca = s.ca := by
  unfold beginDelivery; dsimp only; (repeat' split) <;> simp
@[simp] theorem beginDelivery_sm (t : Time) : (beginDelivery t s).sm = s.sm := by
  unfold beginDelivery; dsimp only; (repeat' split) <;> simp
@[simp] theorem beginDelivery_lines (t : Time) : (beginDelivery t s).lines = s.lines := by
  unfold beginDelivery; dsimp only; (repeat' split) <;> simp
@[simp] theorem beginDelivery_freeCount (t : Time) : (beginDelivery t s).freeCount = s.freeCount := by
  unfold beginDelivery; dsimp only; (repeat' split) <;> simp
@[simp] theorem beginDelivery_pending (t : Time) : (beginDelivery t s).pending = s.pending := by
  unfold beginDelivery; dsimp only; (repeat' split) <;> simp

@[simp] theorem triggerPass_powered (c : Channel) (y : Int) (t : Time) (b : Bool) : (triggerPass c y t b s).powered = s.powered := by
  unfold triggerPass; dsimp only; (repeat' split) <;> simp
@[simp] theorem triggerPass_clk (c : Channel) (y : Int) (t : Time) (b : Bool) : (triggerPass c y t b s).clk = s.clk := by
  unfold triggerPass; dsimp only; (repeat' split) <;> simp
@[simp] theorem triggerPass_tb (c : Channel) (y : Int) (t : Time) (b : Bool) : (triggerPass c y t b s).tb = s.tb := by
  unfold triggerPass; dsimp only; (repeat' split) <;> simp
@[simp] theorem triggerPass_fe (c : Channel) (y : Int) (t : Time) (b : Bool) : (triggerPass c y t b s).fe = s.fe := by
  unfold triggerPass; dsimp only; (repeat' split) <;> simp
@[simp] theorem triggerPass_hm (c : Channel) (y : Int) (t : Time) (b : Bool) : (triggerPass c y t b s).hm = s.hm := by
  unfold triggerPass; dsimp only; (repeat' split) <;> simp
@[simp] theorem triggerPass_ca (c : Channel) (y : Int) (t : Time) (b : Bool) : (triggerPass c y t b s).ca = s.ca := by
  unfold triggerPass; dsimp only; (repeat' split) <;> simp
@[simp] theorem triggerPass_sm (c : Channel) (y : Int) (t : Time) (b : Bool) : (triggerPass c y t b s).sm = s.sm := by
  unfold triggerPass; dsimp only; (repeat' split) <;> simp
@[simp] theorem triggerPass_lines (c : Channel) (y : Int) (t : Time) (b : Bool) : (triggerPass c y t b s).lines = s.lines := by
  unfold triggerPass; dsimp only; (repeat' split) <;> simp
@[simp] theorem triggerPass_freeCount (c : Channel) (y : Int) (t : Time) (b : Bool) : (triggerPass c y t b s).freeCount = s.freeCount := by
  unfold triggerPass; dsimp only; (repeat' split) <;> simp
@[simp] theorem triggerPass_pending (c : Channel) (y : Int) (t : Time) (b : Bool) : (triggerPass c y t b s).pending = s.pending := by
  unfold triggerPass; dsimp only; (repeat' split) <;> simp

@[simp] theorem enqueueDelivery_powered (t : Time) (x : List (Channel × SampleWord)) : (enqueueDelivery t x s).powered = s.powered := by
  unfold enqueueDelivery; split <;> simp
@[simp] theorem enqueueDelivery_clk (t : Time) (x : List (Channel × SampleWord)) : (enqueueDelivery t x s).clk = s.clk := by
  unfold enqueueDelivery; split <;> simp
@[simp] theorem enqueueDelivery_tb (t : Time) (x : List (Channel × SampleWord)) : (enqueueDelivery t x s).tb = s.tb := by
  unfold enqueueDelivery; split <;> simp
@[simp] theorem enqueueDelivery_si (t : Time) (x : List (Channel × SampleWord)) : (enqueueDelivery t x s).si = s.si := by
  unfold enqueueDelivery; split <;> simp
@[simp] theorem enqueueDelivery_tu (t : Time) (x : List (Channel × SampleWord)) : (enqueueDelivery t x s).tu = s.tu := by
  unfold enqueueDelivery; split <;> simp
@[simp] theorem enqueueDelivery_ws (t : Time) (x : List (Channel × SampleWord)) : (enqueueDelivery t x s).ws = s.ws := by
  unfold enqueueDelivery; split <;> simp
@[simp] theorem enqueueDelivery_et (t : Time) (x : List (Channel × SampleWord)) : (enqueueDelivery t x s).et = s.et := by
  unfold enqueueDelivery; split <;> simp
@[simp] theorem enqueueDelivery_al (t : Time) (x : List (Channel × SampleWord)) : (enqueueDelivery t x s).al = s.al := by
  unfold enqueueDelivery; split <;> simp
@[simp] theorem enqueueDelivery_hm (t : Time) (x : List (Channel × SampleWord)) : (enqueueDelivery t x s).hm = s.hm := by
  unfold enqueueDelivery; split <;> simp
@[simp] theorem enqueueDelivery_ca (t : Time) (x : List (Channel × SampleWord)) : (enqueueDelivery t x s).ca = s.ca := by
  unfold enqueueDelivery; split <;> simp
@[simp] theorem enqueueDelivery_hc (t : Time) (x : List (Channel × SampleWord)) : (enqueueDelivery t x s).hc = s.hc := by
  unfold enqueueDelivery; split <;> simp
@[simp] theorem enqueueDelivery_pt (t : Time) (x : List (Channel × SampleWord)) : (enqueueDelivery t x s).pt = s.pt := by
  unfold enqueueDelivery; split <;> simp
@[simp] theorem enqueueDelivery_sl (t : Time) (x : List (Channel × SampleWord)) : (enqueueDelivery t x s).sl = s.sl := by
  unfold enqueueDelivery; split <;> simp
@[simp] theorem enqueueDelivery_sm (t : Time) (x : List (Channel × SampleWord)) : (enqueueDelivery t x s).sm = s.sm := by
  unfold enqueueDelivery; split <;> simp
@[simp] theorem enqueueDelivery_lines (t : Time) (x : List (Channel × SampleWord)) : (enqueueDelivery t x s).lines = s.lines := by
  unfold enqueueDelivery; split <;> simp
@[simp] theorem enqueueDelivery_freeCount (t : Time) (x : List (Channel × SampleWord)) : (enqueueDelivery t x s).freeCount = s.freeCount := by
  unfold enqueueDelivery; split <;> simp
@[simp] theorem enqueueDelivery_pending (t : Time) (x : List (Channel × SampleWord)) : (enqueueDelivery t x s).pending = s.pending := by
  unfold enqueueDelivery; split <;> simp

@[simp] theorem deliver_powered (w : Window) (x : Bool → Bool → Channel → SampleWord) : (deliver w x s).powered = s.powered := by
  unfold deliver; dsimp only; rw [enqueueDelivery_powered, foldl_keeps (g := State.powered)] <;> simp
@[simp] theorem deliver_clk (w : Window) (x : Bool → Bool → Channel → SampleWord) : (deliver w x s).clk = s.clk := by
  unfold deliver; dsimp only; rw [enqueueDelivery_clk, foldl_keeps (g := State.clk)] <;> simp
@[simp] theorem deliver_tb (w : Window) (x : Bool → Bool → Channel → SampleWord) : (deliver w x s).tb = s.tb := by
  unfold deliver; dsimp only; rw [enqueueDelivery_tb, foldl_keeps (g := State.tb)] <;> simp
@[simp] theorem deliver_tu (w : Window) (x : Bool → Bool → Channel → SampleWord) : (deliver w x s).tu = s.tu := by
  unfold deliver; dsimp only; rw [enqueueDelivery_tu, foldl_keeps (g := State.tu)] <;> simp
@[simp] theorem deliver_al (w : Window) (x : Bool → Bool → Channel → SampleWord) : (deliver w x s).al = s.al := by
  unfold deliver; dsimp only; rw [enqueueDelivery_al, foldl_keeps (g := State.al)] <;> simp
@[simp] theorem deliver_hm (w : Window) (x : Bool → Bool → Channel → SampleWord) : (deliver w x s).hm = s.hm := by
  unfold deliver; dsimp only; rw [enqueueDelivery_hm, foldl_keeps (g := State.hm)] <;> simp
@[simp] theorem deliver_ca (w : Window) (x : Bool → Bool → Channel → SampleWord) : (deliver w x s).ca = s.ca := by
  unfold deliver; dsimp only; rw [enqueueDelivery_ca, foldl_keeps (g := State.ca)] <;> simp
@[simp] theorem deliver_hc (w : Window) (x : Bool → Bool → Channel → SampleWord) : (deliver w x s).hc = s.hc := by
  unfold deliver; dsimp only; rw [enqueueDelivery_hc, foldl_keeps (g := State.hc)] <;> simp
@[simp] theorem deliver_sm (w : Window) (x : Bool → Bool → Channel → SampleWord) : (deliver w x s).sm = s.sm := by
  unfold deliver; dsimp only; rw [enqueueDelivery_sm, foldl_keeps (g := State.sm)] <;> simp
@[simp] theorem deliver_lines (w : Window) (x : Bool → Bool → Channel → SampleWord) : (deliver w x s).lines = s.lines := by
  unfold deliver; dsimp only; rw [enqueueDelivery_lines, foldl_keeps (g := State.lines)] <;> simp
@[simp] theorem deliver_freeCount (w : Window) (x : Bool → Bool → Channel → SampleWord) : (deliver w x s).freeCount = s.freeCount := by
  unfold deliver; dsimp only; rw [enqueueDelivery_freeCount, foldl_keeps (g := State.freeCount)] <;> simp
@[simp] theorem deliver_pending (w : Window) (x : Bool → Bool → Channel → SampleWord) : (deliver w x s).pending = s.pending := by
  unfold deliver; dsimp only; rw [enqueueDelivery_pending, foldl_keeps (g := State.pending)] <;> simp

@[simp] theorem deliverGap_powered (w : Window) : (deliverGap w s).powered = s.powered := by
  simp [deliverGap]
@[simp] theorem deliverGap_clk (w : Window) : (deliverGap w s).clk = s.clk := by
  simp [deliverGap]
@[simp] theorem deliverGap_tb (w : Window) : (deliverGap w s).tb = s.tb := by
  simp [deliverGap]
@[simp] theorem deliverGap_tu (w : Window) : (deliverGap w s).tu = s.tu := by
  simp [deliverGap]
@[simp] theorem deliverGap_al (w : Window) : (deliverGap w s).al = s.al := by
  simp [deliverGap]
@[simp] theorem deliverGap_hm (w : Window) : (deliverGap w s).hm = s.hm := by
  simp [deliverGap]
@[simp] theorem deliverGap_ca (w : Window) : (deliverGap w s).ca = s.ca := by
  simp [deliverGap]
@[simp] theorem deliverGap_hc (w : Window) : (deliverGap w s).hc = s.hc := by
  simp [deliverGap]
@[simp] theorem deliverGap_sm (w : Window) : (deliverGap w s).sm = s.sm := by
  simp [deliverGap]
@[simp] theorem deliverGap_lines (w : Window) : (deliverGap w s).lines = s.lines := by
  simp [deliverGap]
@[simp] theorem deliverGap_freeCount (w : Window) : (deliverGap w s).freeCount = s.freeCount := by
  simp [deliverGap]
@[simp] theorem deliverGap_pending (w : Window) : (deliverGap w s).pending = s.pending := by
  simp [deliverGap]

@[simp] theorem decideFrame_powered (f : List Byte) : (decideFrame f s).powered = s.powered := by
  unfold decideFrame; (repeat' split) <;> simp
@[simp] theorem decideFrame_clk (f : List Byte) : (decideFrame f s).clk = s.clk := by
  unfold decideFrame; (repeat' split) <;> simp
@[simp] theorem decideFrame_tb (f : List Byte) : (decideFrame f s).tb = s.tb := by
  unfold decideFrame; (repeat' split) <;> simp
@[simp] theorem decideFrame_tu (f : List Byte) : (decideFrame f s).tu = s.tu := by
  unfold decideFrame; (repeat' split) <;> simp
@[simp] theorem decideFrame_al (f : List Byte) : (decideFrame f s).al = s.al := by
  unfold decideFrame; (repeat' split) <;> simp
@[simp] theorem decideFrame_hm (f : List Byte) : (decideFrame f s).hm = s.hm := by
  unfold decideFrame; (repeat' split) <;> simp
@[simp] theorem decideFrame_ca (f : List Byte) : (decideFrame f s).ca = s.ca := by
  unfold decideFrame; (repeat' split) <;> simp
@[simp] theorem decideFrame_hc (f : List Byte) : (decideFrame f s).hc = s.hc := by
  unfold decideFrame; (repeat' split) <;> simp
@[simp] theorem decideFrame_sm (f : List Byte) : (decideFrame f s).sm = s.sm := by
  unfold decideFrame; (repeat' split) <;> simp
@[simp] theorem decideFrame_lines (f : List Byte) : (decideFrame f s).lines = s.lines := by
  unfold decideFrame; (repeat' split) <;> simp
@[simp] theorem decideFrame_freeCount (f : List Byte) : (decideFrame f s).freeCount = s.freeCount := by
  unfold decideFrame; (repeat' split) <;> simp
@[simp] theorem decideFrame_pending (f : List Byte) : (decideFrame f s).pending = s.pending := by
  unfold decideFrame; (repeat' split) <;> simp

@[simp] theorem digitizerByte_powered (b : Byte) : (digitizerByte s b).powered = s.powered := by
  unfold digitizerByte; dsimp only; (repeat' split) <;> simp
@[simp] theorem digitizerByte_clk (b : Byte) : (digitizerByte s b).clk = s.clk := by
  unfold digitizerByte; dsimp only; (repeat' split) <;> simp
@[simp] theorem digitizerByte_tb (b : Byte) : (digitizerByte s b).tb = s.tb := by
  unfold digitizerByte; dsimp only; (repeat' split) <;> simp
@[simp] theorem digitizerByte_tu (b : Byte) : (digitizerByte s b).tu = s.tu := by
  unfold digitizerByte; dsimp only; (repeat' split) <;> simp
@[simp] theorem digitizerByte_al (b : Byte) : (digitizerByte s b).al = s.al := by
  unfold digitizerByte; dsimp only; (repeat' split) <;> simp
@[simp] theorem digitizerByte_hm (b : Byte) : (digitizerByte s b).hm = s.hm := by
  unfold digitizerByte; dsimp only; (repeat' split) <;> simp
@[simp] theorem digitizerByte_ca (b : Byte) : (digitizerByte s b).ca = s.ca := by
  unfold digitizerByte; dsimp only; (repeat' split) <;> simp
@[simp] theorem digitizerByte_hc (b : Byte) : (digitizerByte s b).hc = s.hc := by
  unfold digitizerByte; dsimp only; (repeat' split) <;> simp
@[simp] theorem digitizerByte_sm (b : Byte) : (digitizerByte s b).sm = s.sm := by
  unfold digitizerByte; dsimp only; (repeat' split) <;> simp
@[simp] theorem digitizerByte_lines (b : Byte) : (digitizerByte s b).lines = s.lines := by
  unfold digitizerByte; dsimp only; (repeat' split) <;> simp
@[simp] theorem digitizerByte_freeCount (b : Byte) : (digitizerByte s b).freeCount = s.freeCount := by
  unfold digitizerByte; dsimp only; (repeat' split) <;> simp
@[simp] theorem digitizerByte_pending (b : Byte) : (digitizerByte s b).pending = s.pending := by
  unfold digitizerByte; dsimp only; (repeat' split) <;> simp

@[simp] theorem siStrobe_powered (t : Time) (n : Nat) (b : Bool) : (siStrobe t n b s).powered = s.powered := by
  unfold siStrobe; dsimp only; split <;> simp
@[simp] theorem siStrobe_clk (t : Time) (n : Nat) (b : Bool) : (siStrobe t n b s).clk = s.clk := by
  unfold siStrobe; dsimp only; split <;> simp
@[simp] theorem siStrobe_tb (t : Time) (n : Nat) (b : Bool) : (siStrobe t n b s).tb = s.tb := by
  unfold siStrobe; dsimp only; split <;> simp
@[simp] theorem siStrobe_tu (t : Time) (n : Nat) (b : Bool) : (siStrobe t n b s).tu = s.tu := by
  unfold siStrobe; dsimp only; split <;> simp
@[simp] theorem siStrobe_al (t : Time) (n : Nat) (b : Bool) : (siStrobe t n b s).al = s.al := by
  unfold siStrobe; dsimp only; split <;> simp
@[simp] theorem siStrobe_hm (t : Time) (n : Nat) (b : Bool) : (siStrobe t n b s).hm = s.hm := by
  unfold siStrobe; dsimp only; split <;> simp
@[simp] theorem siStrobe_ca (t : Time) (n : Nat) (b : Bool) : (siStrobe t n b s).ca = s.ca := by
  unfold siStrobe; dsimp only; split <;> simp
@[simp] theorem siStrobe_hc (t : Time) (n : Nat) (b : Bool) : (siStrobe t n b s).hc = s.hc := by
  unfold siStrobe; dsimp only; split <;> simp
@[simp] theorem siStrobe_sm (t : Time) (n : Nat) (b : Bool) : (siStrobe t n b s).sm = s.sm := by
  unfold siStrobe; dsimp only; split <;> simp
@[simp] theorem siStrobe_lines (t : Time) (n : Nat) (b : Bool) : (siStrobe t n b s).lines = s.lines := by
  unfold siStrobe; dsimp only; split <;> simp
@[simp] theorem siStrobe_freeCount (t : Time) (n : Nat) (b : Bool) : (siStrobe t n b s).freeCount = s.freeCount := by
  unfold siStrobe; dsimp only; split <;> simp
@[simp] theorem siStrobe_pending (t : Time) (n : Nat) (b : Bool) : (siStrobe t n b s).pending = s.pending := by
  unfold siStrobe; dsimp only; split <;> simp

@[simp] theorem issueStrobe_powered (t : Time) : (issueStrobe t s).powered = s.powered := by
  simp [issueStrobe]
@[simp] theorem issueStrobe_clk (t : Time) : (issueStrobe t s).clk = s.clk := by
  simp [issueStrobe]
@[simp] theorem issueStrobe_tu (t : Time) : (issueStrobe t s).tu = s.tu := by
  simp [issueStrobe]
@[simp] theorem issueStrobe_al (t : Time) : (issueStrobe t s).al = s.al := by
  simp [issueStrobe]
@[simp] theorem issueStrobe_hm (t : Time) : (issueStrobe t s).hm = s.hm := by
  simp [issueStrobe]
@[simp] theorem issueStrobe_ca (t : Time) : (issueStrobe t s).ca = s.ca := by
  simp [issueStrobe]
@[simp] theorem issueStrobe_hc (t : Time) : (issueStrobe t s).hc = s.hc := by
  simp [issueStrobe]
@[simp] theorem issueStrobe_sm (t : Time) : (issueStrobe t s).sm = s.sm := by
  simp [issueStrobe]
@[simp] theorem issueStrobe_lines (t : Time) : (issueStrobe t s).lines = s.lines := by
  simp [issueStrobe]
@[simp] theorem issueStrobe_freeCount (t : Time) : (issueStrobe t s).freeCount = s.freeCount := by
  simp [issueStrobe]
@[simp] theorem issueStrobe_pending (t : Time) : (issueStrobe t s).pending = s.pending := by
  simp [issueStrobe]

@[simp] theorem siRailOff_powered : (siRailOff s).powered = s.powered := by
  simp [siRailOff]
@[simp] theorem siRailOff_clk : (siRailOff s).clk = s.clk := by
  simp [siRailOff]
@[simp] theorem siRailOff_tb : (siRailOff s).tb = s.tb := by
  simp [siRailOff]
@[simp] theorem siRailOff_fe : (siRailOff s).fe = s.fe := by
  simp [siRailOff]
@[simp] theorem siRailOff_tu : (siRailOff s).tu = s.tu := by
  simp [siRailOff]
@[simp] theorem siRailOff_ws : (siRailOff s).ws = s.ws := by
  simp [siRailOff]
@[simp] theorem siRailOff_et : (siRailOff s).et = s.et := by
  simp [siRailOff]
@[simp] theorem siRailOff_al : (siRailOff s).al = s.al := by
  simp [siRailOff]
@[simp] theorem siRailOff_hm : (siRailOff s).hm = s.hm := by
  simp [siRailOff]
@[simp] theorem siRailOff_ca : (siRailOff s).ca = s.ca := by
  simp [siRailOff]
@[simp] theorem siRailOff_hc : (siRailOff s).hc = s.hc := by
  simp [siRailOff]
@[simp] theorem siRailOff_pt : (siRailOff s).pt = s.pt := by
  simp [siRailOff]
@[simp] theorem siRailOff_sl : (siRailOff s).sl = s.sl := by
  simp [siRailOff]
@[simp] theorem siRailOff_sm : (siRailOff s).sm = s.sm := by
  simp [siRailOff]
@[simp] theorem siRailOff_lines : (siRailOff s).lines = s.lines := by
  simp [siRailOff]
@[simp] theorem siRailOff_freeCount : (siRailOff s).freeCount = s.freeCount := by
  simp [siRailOff]
@[simp] theorem siRailOff_pending : (siRailOff s).pending = s.pending := by
  simp [siRailOff]

@[simp] theorem modContext_powered (c : Channel) (f : FilterContext → FilterContext) : (modContext c f s).powered = s.powered := by
  simp [modContext]
@[simp] theorem modContext_clk (c : Channel) (f : FilterContext → FilterContext) : (modContext c f s).clk = s.clk := by
  simp [modContext]
@[simp] theorem modContext_tb (c : Channel) (f : FilterContext → FilterContext) : (modContext c f s).tb = s.tb := by
  simp [modContext]
@[simp] theorem modContext_si (c : Channel) (f : FilterContext → FilterContext) : (modContext c f s).si = s.si := by
  simp [modContext]
@[simp] theorem modContext_tu (c : Channel) (f : FilterContext → FilterContext) : (modContext c f s).tu = s.tu := by
  simp [modContext]
@[simp] theorem modContext_ws (c : Channel) (f : FilterContext → FilterContext) : (modContext c f s).ws = s.ws := by
  simp [modContext]
@[simp] theorem modContext_et (c : Channel) (f : FilterContext → FilterContext) : (modContext c f s).et = s.et := by
  simp [modContext]
@[simp] theorem modContext_al (c : Channel) (f : FilterContext → FilterContext) : (modContext c f s).al = s.al := by
  simp [modContext]
@[simp] theorem modContext_hm (c : Channel) (f : FilterContext → FilterContext) : (modContext c f s).hm = s.hm := by
  simp [modContext]
@[simp] theorem modContext_ca (c : Channel) (f : FilterContext → FilterContext) : (modContext c f s).ca = s.ca := by
  simp [modContext]
@[simp] theorem modContext_hc (c : Channel) (f : FilterContext → FilterContext) : (modContext c f s).hc = s.hc := by
  simp [modContext]
@[simp] theorem modContext_pt (c : Channel) (f : FilterContext → FilterContext) : (modContext c f s).pt = s.pt := by
  simp [modContext]
@[simp] theorem modContext_sl (c : Channel) (f : FilterContext → FilterContext) : (modContext c f s).sl = s.sl := by
  simp [modContext]
@[simp] theorem modContext_sm (c : Channel) (f : FilterContext → FilterContext) : (modContext c f s).sm = s.sm := by
  simp [modContext]
@[simp] theorem modContext_lines (c : Channel) (f : FilterContext → FilterContext) : (modContext c f s).lines = s.lines := by
  simp [modContext]
@[simp] theorem modContext_freeCount (c : Channel) (f : FilterContext → FilterContext) : (modContext c f s).freeCount = s.freeCount := by
  simp [modContext]
@[simp] theorem modContext_pending (c : Channel) (f : FilterContext → FilterContext) : (modContext c f s).pending = s.pending := by
  simp [modContext]

@[simp] theorem channelFilterPass_powered (c : Channel) (v : Int) (t : Time) : (channelFilterPass c v t s).powered = s.powered := by
  unfold channelFilterPass; dsimp only; split <;> simp
@[simp] theorem channelFilterPass_clk (c : Channel) (v : Int) (t : Time) : (channelFilterPass c v t s).clk = s.clk := by
  unfold channelFilterPass; dsimp only; split <;> simp
@[simp] theorem channelFilterPass_tb (c : Channel) (v : Int) (t : Time) : (channelFilterPass c v t s).tb = s.tb := by
  unfold channelFilterPass; dsimp only; split <;> simp
@[simp] theorem channelFilterPass_hm (c : Channel) (v : Int) (t : Time) : (channelFilterPass c v t s).hm = s.hm := by
  unfold channelFilterPass; dsimp only; split <;> simp
@[simp] theorem channelFilterPass_ca (c : Channel) (v : Int) (t : Time) : (channelFilterPass c v t s).ca = s.ca := by
  unfold channelFilterPass; dsimp only; split <;> simp
@[simp] theorem channelFilterPass_sm (c : Channel) (v : Int) (t : Time) : (channelFilterPass c v t s).sm = s.sm := by
  unfold channelFilterPass; dsimp only; split <;> simp
@[simp] theorem channelFilterPass_lines (c : Channel) (v : Int) (t : Time) : (channelFilterPass c v t s).lines = s.lines := by
  unfold channelFilterPass; dsimp only; split <;> simp
@[simp] theorem channelFilterPass_freeCount (c : Channel) (v : Int) (t : Time) : (channelFilterPass c v t s).freeCount = s.freeCount := by
  unfold channelFilterPass; dsimp only; split <;> simp
@[simp] theorem channelFilterPass_pending (c : Channel) (v : Int) (t : Time) : (channelFilterPass c v t s).pending = s.pending := by
  unfold channelFilterPass; dsimp only; split <;> simp

@[simp] theorem nextFilterPass_powered : (nextFilterPass s).powered = s.powered := by
  unfold nextFilterPass; split <;> simp
@[simp] theorem nextFilterPass_clk : (nextFilterPass s).clk = s.clk := by
  unfold nextFilterPass; split <;> simp
@[simp] theorem nextFilterPass_tb : (nextFilterPass s).tb = s.tb := by
  unfold nextFilterPass; split <;> simp
@[simp] theorem nextFilterPass_hm : (nextFilterPass s).hm = s.hm := by
  unfold nextFilterPass; split <;> simp
@[simp] theorem nextFilterPass_ca : (nextFilterPass s).ca = s.ca := by
  unfold nextFilterPass; split <;> simp
@[simp] theorem nextFilterPass_sm : (nextFilterPass s).sm = s.sm := by
  unfold nextFilterPass; split <;> simp
@[simp] theorem nextFilterPass_lines : (nextFilterPass s).lines = s.lines := by
  unfold nextFilterPass; split <;> simp
@[simp] theorem nextFilterPass_freeCount : (nextFilterPass s).freeCount = s.freeCount := by
  unfold nextFilterPass; split <;> simp
@[simp] theorem nextFilterPass_pending : (nextFilterPass s).pending = s.pending := by
  unfold nextFilterPass; split <;> simp

@[simp] theorem feDisable_powered (c : Channel) : (feDisable c s).powered = s.powered := by
  simp [feDisable]
@[simp] theorem feDisable_clk (c : Channel) : (feDisable c s).clk = s.clk := by
  simp [feDisable]
@[simp] theorem feDisable_tb (c : Channel) : (feDisable c s).tb = s.tb := by
  simp [feDisable]
@[simp] theorem feDisable_si (c : Channel) : (feDisable c s).si = s.si := by
  simp [feDisable]
@[simp] theorem feDisable_tu (c : Channel) : (feDisable c s).tu = s.tu := by
  simp [feDisable]
@[simp] theorem feDisable_ws (c : Channel) : (feDisable c s).ws = s.ws := by
  simp [feDisable]
@[simp] theorem feDisable_et (c : Channel) : (feDisable c s).et = s.et := by
  simp [feDisable]
@[simp] theorem feDisable_al (c : Channel) : (feDisable c s).al = s.al := by
  simp [feDisable]
@[simp] theorem feDisable_hm (c : Channel) : (feDisable c s).hm = s.hm := by
  simp [feDisable]
@[simp] theorem feDisable_ca (c : Channel) : (feDisable c s).ca = s.ca := by
  simp [feDisable]
@[simp] theorem feDisable_hc (c : Channel) : (feDisable c s).hc = s.hc := by
  simp [feDisable]
@[simp] theorem feDisable_pt (c : Channel) : (feDisable c s).pt = s.pt := by
  simp [feDisable]
@[simp] theorem feDisable_sl (c : Channel) : (feDisable c s).sl = s.sl := by
  simp [feDisable]
@[simp] theorem feDisable_sm (c : Channel) : (feDisable c s).sm = s.sm := by
  simp [feDisable]
@[simp] theorem feDisable_lines (c : Channel) : (feDisable c s).lines = s.lines := by
  simp [feDisable]
@[simp] theorem feDisable_freeCount (c : Channel) : (feDisable c s).freeCount = s.freeCount := by
  simp [feDisable]
@[simp] theorem feDisable_pending (c : Channel) : (feDisable c s).pending = s.pending := by
  simp [feDisable]

@[simp] theorem feEnable_powered (c : Channel) : (feEnable c s).powered = s.powered := by
  simp [feEnable]
@[simp] theorem feEnable_clk (c : Channel) : (feEnable c s).clk = s.clk := by
  simp [feEnable]
@[simp] theorem feEnable_tb (c : Channel) : (feEnable c s).tb = s.tb := by
  simp [feEnable]
@[simp] theorem feEnable_si (c : Channel) : (feEnable c s).si = s.si := by
  simp [feEnable]
@[simp] theorem feEnable_tu (c : Channel) : (feEnable c s).tu = s.tu := by
  simp [feEnable]
@[simp] theorem feEnable_ws (c : Channel) : (feEnable c s).ws = s.ws := by
  simp [feEnable]
@[simp] theorem feEnable_et (c : Channel) : (feEnable c s).et = s.et := by
  simp [feEnable]
@[simp] theorem feEnable_al (c : Channel) : (feEnable c s).al = s.al := by
  simp [feEnable]
@[simp] theorem feEnable_hm (c : Channel) : (feEnable c s).hm = s.hm := by
  simp [feEnable]
@[simp] theorem feEnable_ca (c : Channel) : (feEnable c s).ca = s.ca := by
  simp [feEnable]
@[simp] theorem feEnable_hc (c : Channel) : (feEnable c s).hc = s.hc := by
  simp [feEnable]
@[simp] theorem feEnable_pt (c : Channel) : (feEnable c s).pt = s.pt := by
  simp [feEnable]
@[simp] theorem feEnable_sl (c : Channel) : (feEnable c s).sl = s.sl := by
  simp [feEnable]
@[simp] theorem feEnable_sm (c : Channel) : (feEnable c s).sm = s.sm := by
  simp [feEnable]
@[simp] theorem feEnable_lines (c : Channel) : (feEnable c s).lines = s.lines := by
  simp [feEnable]
@[simp] theorem feEnable_freeCount (c : Channel) : (feEnable c s).freeCount = s.freeCount := by
  simp [feEnable]
@[simp] theorem feEnable_pending (c : Channel) : (feEnable c s).pending = s.pending := by
  simp [feEnable]

end Sys2Proof.Machine
end

