-- ==== Sys2Proof/Laws/FramesPower.lean ====
section
/-! SUPPORT. The frame of each shared operation of the station link, patrol, scan and tier change: one lemma for each block of State that the
operation leaves as it is. -/

namespace Sys2Proof.Machine

variable (s : State)

@[simp] theorem discardLinkFrame_powered : (discardLinkFrame s).powered = s.powered := by
  simp [discardLinkFrame]
@[simp] theorem discardLinkFrame_clk : (discardLinkFrame s).clk = s.clk := by
  simp [discardLinkFrame]
@[simp] theorem discardLinkFrame_tb : (discardLinkFrame s).tb = s.tb := by
  simp [discardLinkFrame]
@[simp] theorem discardLinkFrame_si : (discardLinkFrame s).si = s.si := by
  simp [discardLinkFrame]
@[simp] theorem discardLinkFrame_fe : (discardLinkFrame s).fe = s.fe := by
  simp [discardLinkFrame]
@[simp] theorem discardLinkFrame_tu : (discardLinkFrame s).tu = s.tu := by
  simp [discardLinkFrame]
@[simp] theorem discardLinkFrame_ws : (discardLinkFrame s).ws = s.ws := by
  simp [discardLinkFrame]
@[simp] theorem discardLinkFrame_et : (discardLinkFrame s).et = s.et := by
  simp [discardLinkFrame]
@[simp] theorem discardLinkFrame_al : (discardLinkFrame s).al = s.al := by
  simp [discardLinkFrame]
@[simp] theorem discardLinkFrame_hm : (discardLinkFrame s).hm = s.hm := by
  simp [discardLinkFrame]
@[simp] theorem discardLinkFrame_ca : (discardLinkFrame s).ca = s.ca := by
  simp [discardLinkFrame]
@[simp] theorem discardLinkFrame_hc : (discardLinkFrame s).hc = s.hc := by
  simp [discardLinkFrame]
@[simp] theorem discardLinkFrame_pt : (discardLinkFrame s).pt = s.pt := by
  simp [discardLinkFrame]
@[simp] theorem discardLinkFrame_sm : (discardLinkFrame s).sm = s.sm := by
  simp [discardLinkFrame]
@[simp] theorem discardLinkFrame_lines : (discardLinkFrame s).lines = s.lines := by
  simp [discardLinkFrame]
@[simp] theorem discardLinkFrame_freeCount : (discardLinkFrame s).freeCount = s.freeCount := by
  simp [discardLinkFrame]
@[simp] theorem discardLinkFrame_pending : (discardLinkFrame s).pending = s.pending := by
  simp [discardLinkFrame]

@[simp] theorem discardIfBusy_powered : (discardIfBusy s).powered = s.powered := by
  unfold discardIfBusy; split <;> simp
@[simp] theorem discardIfBusy_clk : (discardIfBusy s).clk = s.clk := by
  unfold discardIfBusy; split <;> simp
@[simp] theorem discardIfBusy_tb : (discardIfBusy s).tb = s.tb := by
  unfold discardIfBusy; split <;> simp
@[simp] theorem discardIfBusy_si : (discardIfBusy s).si = s.si := by
  unfold discardIfBusy; split <;> simp
@[simp] theorem discardIfBusy_fe : (discardIfBusy s).fe = s.fe := by
  unfold discardIfBusy; split <;> simp
@[simp] theorem discardIfBusy_tu : (discardIfBusy s).tu = s.tu := by
  unfold discardIfBusy; split <;> simp
@[simp] theorem discardIfBusy_ws : (discardIfBusy s).ws = s.ws := by
  unfold discardIfBusy; split <;> simp
@[simp] theorem discardIfBusy_et : (discardIfBusy s).et = s.et := by
  unfold discardIfBusy; split <;> simp
@[simp] theorem discardIfBusy_al : (discardIfBusy s).al = s.al := by
  unfold discardIfBusy; split <;> simp
@[simp] theorem discardIfBusy_hm : (discardIfBusy s).hm = s.hm := by
  unfold discardIfBusy; split <;> simp
@[simp] theorem discardIfBusy_ca : (discardIfBusy s).ca = s.ca := by
  unfold discardIfBusy; split <;> simp
@[simp] theorem discardIfBusy_hc : (discardIfBusy s).hc = s.hc := by
  unfold discardIfBusy; split <;> simp
@[simp] theorem discardIfBusy_pt : (discardIfBusy s).pt = s.pt := by
  unfold discardIfBusy; split <;> simp
@[simp] theorem discardIfBusy_sm : (discardIfBusy s).sm = s.sm := by
  unfold discardIfBusy; split <;> simp
@[simp] theorem discardIfBusy_lines : (discardIfBusy s).lines = s.lines := by
  unfold discardIfBusy; split <;> simp
@[simp] theorem discardIfBusy_freeCount : (discardIfBusy s).freeCount = s.freeCount := by
  unfold discardIfBusy; split <;> simp
@[simp] theorem discardIfBusy_pending : (discardIfBusy s).pending = s.pending := by
  unfold discardIfBusy; split <;> simp

@[simp] theorem takeFrame_powered (t k : Byte) (p : List Byte) : (takeFrame t k p s).powered = s.powered := by
  unfold takeFrame; split <;> simp
@[simp] theorem takeFrame_clk (t k : Byte) (p : List Byte) : (takeFrame t k p s).clk = s.clk := by
  unfold takeFrame; split <;> simp
@[simp] theorem takeFrame_tb (t k : Byte) (p : List Byte) : (takeFrame t k p s).tb = s.tb := by
  unfold takeFrame; split <;> simp
@[simp] theorem takeFrame_si (t k : Byte) (p : List Byte) : (takeFrame t k p s).si = s.si := by
  unfold takeFrame; split <;> simp
@[simp] theorem takeFrame_fe (t k : Byte) (p : List Byte) : (takeFrame t k p s).fe = s.fe := by
  unfold takeFrame; split <;> simp
@[simp] theorem takeFrame_tu (t k : Byte) (p : List Byte) : (takeFrame t k p s).tu = s.tu := by
  unfold takeFrame; split <;> simp
@[simp] theorem takeFrame_ws (t k : Byte) (p : List Byte) : (takeFrame t k p s).ws = s.ws := by
  unfold takeFrame; split <;> simp
@[simp] theorem takeFrame_et (t k : Byte) (p : List Byte) : (takeFrame t k p s).et = s.et := by
  unfold takeFrame; split <;> simp
@[simp] theorem takeFrame_al (t k : Byte) (p : List Byte) : (takeFrame t k p s).al = s.al := by
  unfold takeFrame; split <;> simp
@[simp] theorem takeFrame_hm (t k : Byte) (p : List Byte) : (takeFrame t k p s).hm = s.hm := by
  unfold takeFrame; split <;> simp
@[simp] theorem takeFrame_ca (t k : Byte) (p : List Byte) : (takeFrame t k p s).ca = s.ca := by
  unfold takeFrame; split <;> simp
@[simp] theorem takeFrame_hc (t k : Byte) (p : List Byte) : (takeFrame t k p s).hc = s.hc := by
  unfold takeFrame; split <;> simp
@[simp] theorem takeFrame_sm (t k : Byte) (p : List Byte) : (takeFrame t k p s).sm = s.sm := by
  unfold takeFrame; split <;> simp
@[simp] theorem takeFrame_lines (t k : Byte) (p : List Byte) : (takeFrame t k p s).lines = s.lines := by
  unfold takeFrame; split <;> simp
@[simp] theorem takeFrame_freeCount (t k : Byte) (p : List Byte) : (takeFrame t k p s).freeCount = s.freeCount := by
  unfold takeFrame; split <;> simp
@[simp] theorem takeFrame_pending (t k : Byte) (p : List Byte) : (takeFrame t k p s).pending = s.pending := by
  unfold takeFrame; split <;> simp

@[simp] theorem validFrame_powered (t k : Byte) (p : List Byte) : (validFrame t k p s).powered = s.powered := by
  simp [validFrame]
@[simp] theorem validFrame_clk (t k : Byte) (p : List Byte) : (validFrame t k p s).clk = s.clk := by
  simp [validFrame]
@[simp] theorem validFrame_tb (t k : Byte) (p : List Byte) : (validFrame t k p s).tb = s.tb := by
  simp [validFrame]
@[simp] theorem validFrame_si (t k : Byte) (p : List Byte) : (validFrame t k p s).si = s.si := by
  simp [validFrame]
@[simp] theorem validFrame_fe (t k : Byte) (p : List Byte) : (validFrame t k p s).fe = s.fe := by
  simp [validFrame]
@[simp] theorem validFrame_tu (t k : Byte) (p : List Byte) : (validFrame t k p s).tu = s.tu := by
  simp [validFrame]
@[simp] theorem validFrame_ws (t k : Byte) (p : List Byte) : (validFrame t k p s).ws = s.ws := by
  simp [validFrame]
@[simp] theorem validFrame_et (t k : Byte) (p : List Byte) : (validFrame t k p s).et = s.et := by
  simp [validFrame]
@[simp] theorem validFrame_al (t k : Byte) (p : List Byte) : (validFrame t k p s).al = s.al := by
  simp [validFrame]
@[simp] theorem validFrame_hm (t k : Byte) (p : List Byte) : (validFrame t k p s).hm = s.hm := by
  simp [validFrame]
@[simp] theorem validFrame_ca (t k : Byte) (p : List Byte) : (validFrame t k p s).ca = s.ca := by
  simp [validFrame]
@[simp] theorem validFrame_hc (t k : Byte) (p : List Byte) : (validFrame t k p s).hc = s.hc := by
  simp [validFrame]
@[simp] theorem validFrame_sm (t k : Byte) (p : List Byte) : (validFrame t k p s).sm = s.sm := by
  simp [validFrame]
@[simp] theorem validFrame_lines (t k : Byte) (p : List Byte) : (validFrame t k p s).lines = s.lines := by
  simp [validFrame]
@[simp] theorem validFrame_freeCount (t k : Byte) (p : List Byte) : (validFrame t k p s).freeCount = s.freeCount := by
  simp [validFrame]
@[simp] theorem validFrame_pending (t k : Byte) (p : List Byte) : (validFrame t k p s).pending = s.pending := by
  simp [validFrame]

@[simp] theorem linkByte_powered (b : Byte) : (linkByte s b).powered = s.powered := by
  unfold linkByte; dsimp only; (repeat' split) <;> simp
@[simp] theorem linkByte_clk (b : Byte) : (linkByte s b).clk = s.clk := by
  unfold linkByte; dsimp only; (repeat' split) <;> simp
@[simp] theorem linkByte_tb (b : Byte) : (linkByte s b).tb = s.tb := by
  unfold linkByte; dsimp only; (repeat' split) <;> simp
@[simp] theorem linkByte_si (b : Byte) : (linkByte s b).si = s.si := by
  unfold linkByte; dsimp only; (repeat' split) <;> simp
@[simp] theorem linkByte_fe (b : Byte) : (linkByte s b).fe = s.fe := by
  unfold linkByte; dsimp only; (repeat' split) <;> simp
@[simp] theorem linkByte_tu (b : Byte) : (linkByte s b).tu = s.tu := by
  unfold linkByte; dsimp only; (repeat' split) <;> simp
@[simp] theorem linkByte_ws (b : Byte) : (linkByte s b).ws = s.ws := by
  unfold linkByte; dsimp only; (repeat' split) <;> simp
@[simp] theorem linkByte_et (b : Byte) : (linkByte s b).et = s.et := by
  unfold linkByte; dsimp only; (repeat' split) <;> simp
@[simp] theorem linkByte_al (b : Byte) : (linkByte s b).al = s.al := by
  unfold linkByte; dsimp only; (repeat' split) <;> simp
@[simp] theorem linkByte_hm (b : Byte) : (linkByte s b).hm = s.hm := by
  unfold linkByte; dsimp only; (repeat' split) <;> simp
@[simp] theorem linkByte_ca (b : Byte) : (linkByte s b).ca = s.ca := by
  unfold linkByte; dsimp only; (repeat' split) <;> simp
@[simp] theorem linkByte_hc (b : Byte) : (linkByte s b).hc = s.hc := by
  unfold linkByte; dsimp only; (repeat' split) <;> simp
@[simp] theorem linkByte_sm (b : Byte) : (linkByte s b).sm = s.sm := by
  unfold linkByte; dsimp only; (repeat' split) <;> simp
@[simp] theorem linkByte_lines (b : Byte) : (linkByte s b).lines = s.lines := by
  unfold linkByte; dsimp only; (repeat' split) <;> simp
@[simp] theorem linkByte_freeCount (b : Byte) : (linkByte s b).freeCount = s.freeCount := by
  unfold linkByte; dsimp only; (repeat' split) <;> simp
@[simp] theorem linkByte_pending (b : Byte) : (linkByte s b).pending = s.pending := by
  unfold linkByte; dsimp only; (repeat' split) <;> simp

@[simp] theorem answer_powered (p : List Byte) (e : AtReplyEnd) : (answer p e s).powered = s.powered := by
  simp [answer]
@[simp] theorem answer_clk (p : List Byte) (e : AtReplyEnd) : (answer p e s).clk = s.clk := by
  simp [answer]
@[simp] theorem answer_tb (p : List Byte) (e : AtReplyEnd) : (answer p e s).tb = s.tb := by
  simp [answer]
@[simp] theorem answer_si (p : List Byte) (e : AtReplyEnd) : (answer p e s).si = s.si := by
  simp [answer]
@[simp] theorem answer_fe (p : List Byte) (e : AtReplyEnd) : (answer p e s).fe = s.fe := by
  simp [answer]
@[simp] theorem answer_tu (p : List Byte) (e : AtReplyEnd) : (answer p e s).tu = s.tu := by
  simp [answer]
@[simp] theorem answer_ws (p : List Byte) (e : AtReplyEnd) : (answer p e s).ws = s.ws := by
  simp [answer]
@[simp] theorem answer_et (p : List Byte) (e : AtReplyEnd) : (answer p e s).et = s.et := by
  simp [answer]
@[simp] theorem answer_al (p : List Byte) (e : AtReplyEnd) : (answer p e s).al = s.al := by
  simp [answer]
@[simp] theorem answer_hm (p : List Byte) (e : AtReplyEnd) : (answer p e s).hm = s.hm := by
  simp [answer]
@[simp] theorem answer_ca (p : List Byte) (e : AtReplyEnd) : (answer p e s).ca = s.ca := by
  simp [answer]
@[simp] theorem answer_hc (p : List Byte) (e : AtReplyEnd) : (answer p e s).hc = s.hc := by
  simp [answer]
@[simp] theorem answer_pt (p : List Byte) (e : AtReplyEnd) : (answer p e s).pt = s.pt := by
  simp [answer]
@[simp] theorem answer_sm (p : List Byte) (e : AtReplyEnd) : (answer p e s).sm = s.sm := by
  simp [answer]
@[simp] theorem answer_lines (p : List Byte) (e : AtReplyEnd) : (answer p e s).lines = s.lines := by
  simp [answer]
@[simp] theorem answer_freeCount (p : List Byte) (e : AtReplyEnd) : (answer p e s).freeCount = s.freeCount := by
  simp [answer]
@[simp] theorem answer_pending (p : List Byte) (e : AtReplyEnd) : (answer p e s).pending = s.pending := by
  simp [answer]

@[simp] theorem startReply_powered (b : Bool) : (startReply b s).powered = s.powered := by
  unfold startReply; (repeat' split) <;> simp
@[simp] theorem startReply_clk (b : Bool) : (startReply b s).clk = s.clk := by
  unfold startReply; (repeat' split) <;> simp
@[simp] theorem startReply_tb (b : Bool) : (startReply b s).tb = s.tb := by
  unfold startReply; (repeat' split) <;> simp
@[simp] theorem startReply_si (b : Bool) : (startReply b s).si = s.si := by
  unfold startReply; (repeat' split) <;> simp
@[simp] theorem startReply_fe (b : Bool) : (startReply b s).fe = s.fe := by
  unfold startReply; (repeat' split) <;> simp
@[simp] theorem startReply_tu (b : Bool) : (startReply b s).tu = s.tu := by
  unfold startReply; (repeat' split) <;> simp
@[simp] theorem startReply_ws (b : Bool) : (startReply b s).ws = s.ws := by
  unfold startReply; (repeat' split) <;> simp
@[simp] theorem startReply_et (b : Bool) : (startReply b s).et = s.et := by
  unfold startReply; (repeat' split) <;> simp
@[simp] theorem startReply_al (b : Bool) : (startReply b s).al = s.al := by
  unfold startReply; (repeat' split) <;> simp
@[simp] theorem startReply_hm (b : Bool) : (startReply b s).hm = s.hm := by
  unfold startReply; (repeat' split) <;> simp
@[simp] theorem startReply_ca (b : Bool) : (startReply b s).ca = s.ca := by
  unfold startReply; (repeat' split) <;> simp
@[simp] theorem startReply_hc (b : Bool) : (startReply b s).hc = s.hc := by
  unfold startReply; (repeat' split) <;> simp
@[simp] theorem startReply_pt (b : Bool) : (startReply b s).pt = s.pt := by
  unfold startReply; (repeat' split) <;> simp
@[simp] theorem startReply_sm (b : Bool) : (startReply b s).sm = s.sm := by
  unfold startReply; (repeat' split) <;> simp
@[simp] theorem startReply_lines (b : Bool) : (startReply b s).lines = s.lines := by
  unfold startReply; (repeat' split) <;> simp
@[simp] theorem startReply_freeCount (b : Bool) : (startReply b s).freeCount = s.freeCount := by
  unfold startReply; (repeat' split) <;> simp
@[simp] theorem startReply_pending (b : Bool) : (startReply b s).pending = s.pending := by
  unfold startReply; (repeat' split) <;> simp

@[simp] theorem atReplyEnd_powered (e : AtReplyEnd) : (atReplyEnd e s).powered = s.powered := by
  unfold atReplyEnd; (repeat' split) <;> simp
@[simp] theorem atReplyEnd_clk (e : AtReplyEnd) : (atReplyEnd e s).clk = s.clk := by
  unfold atReplyEnd; (repeat' split) <;> simp
@[simp] theorem atReplyEnd_tb (e : AtReplyEnd) : (atReplyEnd e s).tb = s.tb := by
  unfold atReplyEnd; (repeat' split) <;> simp
@[simp] theorem atReplyEnd_si (e : AtReplyEnd) : (atReplyEnd e s).si = s.si := by
  unfold atReplyEnd; (repeat' split) <;> simp
@[simp] theorem atReplyEnd_fe (e : AtReplyEnd) : (atReplyEnd e s).fe = s.fe := by
  unfold atReplyEnd; (repeat' split) <;> simp
@[simp] theorem atReplyEnd_tu (e : AtReplyEnd) : (atReplyEnd e s).tu = s.tu := by
  unfold atReplyEnd; (repeat' split) <;> simp
@[simp] theorem atReplyEnd_ws (e : AtReplyEnd) : (atReplyEnd e s).ws = s.ws := by
  unfold atReplyEnd; (repeat' split) <;> simp
@[simp] theorem atReplyEnd_et (e : AtReplyEnd) : (atReplyEnd e s).et = s.et := by
  unfold atReplyEnd; (repeat' split) <;> simp
@[simp] theorem atReplyEnd_al (e : AtReplyEnd) : (atReplyEnd e s).al = s.al := by
  unfold atReplyEnd; (repeat' split) <;> simp
@[simp] theorem atReplyEnd_hm (e : AtReplyEnd) : (atReplyEnd e s).hm = s.hm := by
  unfold atReplyEnd; (repeat' split) <;> simp
@[simp] theorem atReplyEnd_ca (e : AtReplyEnd) : (atReplyEnd e s).ca = s.ca := by
  unfold atReplyEnd; (repeat' split) <;> simp
@[simp] theorem atReplyEnd_hc (e : AtReplyEnd) : (atReplyEnd e s).hc = s.hc := by
  unfold atReplyEnd; (repeat' split) <;> simp
@[simp] theorem atReplyEnd_sm (e : AtReplyEnd) : (atReplyEnd e s).sm = s.sm := by
  unfold atReplyEnd; (repeat' split) <;> simp
@[simp] theorem atReplyEnd_lines (e : AtReplyEnd) : (atReplyEnd e s).lines = s.lines := by
  unfold atReplyEnd; (repeat' split) <;> simp
@[simp] theorem atReplyEnd_freeCount (e : AtReplyEnd) : (atReplyEnd e s).freeCount = s.freeCount := by
  unfold atReplyEnd; (repeat' split) <;> simp
@[simp] theorem atReplyEnd_pending (e : AtReplyEnd) : (atReplyEnd e s).pending = s.pending := by
  unfold atReplyEnd; (repeat' split) <;> simp

@[simp] theorem completeReply_powered : (completeReply s).powered = s.powered := by
  unfold completeReply; split <;> simp
@[simp] theorem completeReply_clk : (completeReply s).clk = s.clk := by
  unfold completeReply; split <;> simp
@[simp] theorem completeReply_tb : (completeReply s).tb = s.tb := by
  unfold completeReply; split <;> simp
@[simp] theorem completeReply_si : (completeReply s).si = s.si := by
  unfold completeReply; split <;> simp
@[simp] theorem completeReply_fe : (completeReply s).fe = s.fe := by
  unfold completeReply; split <;> simp
@[simp] theorem completeReply_tu : (completeReply s).tu = s.tu := by
  unfold completeReply; split <;> simp
@[simp] theorem completeReply_ws : (completeReply s).ws = s.ws := by
  unfold completeReply; split <;> simp
@[simp] theorem completeReply_et : (completeReply s).et = s.et := by
  unfold completeReply; split <;> simp
@[simp] theorem completeReply_al : (completeReply s).al = s.al := by
  unfold completeReply; split <;> simp
@[simp] theorem completeReply_hm : (completeReply s).hm = s.hm := by
  unfold completeReply; split <;> simp
@[simp] theorem completeReply_ca : (completeReply s).ca = s.ca := by
  unfold completeReply; split <;> simp
@[simp] theorem completeReply_hc : (completeReply s).hc = s.hc := by
  unfold completeReply; split <;> simp
@[simp] theorem completeReply_sm : (completeReply s).sm = s.sm := by
  unfold completeReply; split <;> simp
@[simp] theorem completeReply_lines : (completeReply s).lines = s.lines := by
  unfold completeReply; split <;> simp
@[simp] theorem completeReply_freeCount : (completeReply s).freeCount = s.freeCount := by
  unfold completeReply; split <;> simp
@[simp] theorem completeReply_pending : (completeReply s).pending = s.pending := by
  unfold completeReply; split <;> simp

@[simp] theorem readStorage_powered (p : PageId) (i : Nat) : ((readStorage p i s).2).powered = s.powered := by
  unfold readStorage; dsimp only; (repeat' split) <;> simp
@[simp] theorem readStorage_clk (p : PageId) (i : Nat) : ((readStorage p i s).2).clk = s.clk := by
  unfold readStorage; dsimp only; (repeat' split) <;> simp
@[simp] theorem readStorage_tb (p : PageId) (i : Nat) : ((readStorage p i s).2).tb = s.tb := by
  unfold readStorage; dsimp only; (repeat' split) <;> simp
@[simp] theorem readStorage_si (p : PageId) (i : Nat) : ((readStorage p i s).2).si = s.si := by
  unfold readStorage; dsimp only; (repeat' split) <;> simp
@[simp] theorem readStorage_fe (p : PageId) (i : Nat) : ((readStorage p i s).2).fe = s.fe := by
  unfold readStorage; dsimp only; (repeat' split) <;> simp
@[simp] theorem readStorage_tu (p : PageId) (i : Nat) : ((readStorage p i s).2).tu = s.tu := by
  unfold readStorage; dsimp only; (repeat' split) <;> simp
@[simp] theorem readStorage_al (p : PageId) (i : Nat) : ((readStorage p i s).2).al = s.al := by
  unfold readStorage; dsimp only; (repeat' split) <;> simp
@[simp] theorem readStorage_hm (p : PageId) (i : Nat) : ((readStorage p i s).2).hm = s.hm := by
  unfold readStorage; dsimp only; (repeat' split) <;> simp
@[simp] theorem readStorage_ca (p : PageId) (i : Nat) : ((readStorage p i s).2).ca = s.ca := by
  unfold readStorage; dsimp only; (repeat' split) <;> simp
@[simp] theorem readStorage_hc (p : PageId) (i : Nat) : ((readStorage p i s).2).hc = s.hc := by
  unfold readStorage; dsimp only; (repeat' split) <;> simp
@[simp] theorem readStorage_sm (p : PageId) (i : Nat) : ((readStorage p i s).2).sm = s.sm := by
  unfold readStorage; dsimp only; (repeat' split) <;> simp
@[simp] theorem readStorage_lines (p : PageId) (i : Nat) : ((readStorage p i s).2).lines = s.lines := by
  unfold readStorage; dsimp only; (repeat' split) <;> simp
@[simp] theorem readStorage_freeCount (p : PageId) (i : Nat) : ((readStorage p i s).2).freeCount = s.freeCount := by
  unfold readStorage; dsimp only; (repeat' split) <;> simp
@[simp] theorem readStorage_pending (p : PageId) (i : Nat) : ((readStorage p i s).2).pending = s.pending := by
  unfold readStorage; dsimp only; (repeat' split) <;> simp

@[simp] theorem applyUpsets_powered (x : List Upset) : (applyUpsets s x).powered = s.powered := by
  simp [applyUpsets]
@[simp] theorem applyUpsets_clk (x : List Upset) : (applyUpsets s x).clk = s.clk := by
  simp [applyUpsets]
@[simp] theorem applyUpsets_tb (x : List Upset) : (applyUpsets s x).tb = s.tb := by
  simp [applyUpsets]
@[simp] theorem applyUpsets_si (x : List Upset) : (applyUpsets s x).si = s.si := by
  simp [applyUpsets]
@[simp] theorem applyUpsets_fe (x : List Upset) : (applyUpsets s x).fe = s.fe := by
  simp [applyUpsets]
@[simp] theorem applyUpsets_tu (x : List Upset) : (applyUpsets s x).tu = s.tu := by
  simp [applyUpsets]
@[simp] theorem applyUpsets_et (x : List Upset) : (applyUpsets s x).et = s.et := by
  simp [applyUpsets]
@[simp] theorem applyUpsets_al (x : List Upset) : (applyUpsets s x).al = s.al := by
  simp [applyUpsets]
@[simp] theorem applyUpsets_hm (x : List Upset) : (applyUpsets s x).hm = s.hm := by
  simp [applyUpsets]
@[simp] theorem applyUpsets_ca (x : List Upset) : (applyUpsets s x).ca = s.ca := by
  simp [applyUpsets]
@[simp] theorem applyUpsets_hc (x : List Upset) : (applyUpsets s x).hc = s.hc := by
  simp [applyUpsets]
@[simp] theorem applyUpsets_pt (x : List Upset) : (applyUpsets s x).pt = s.pt := by
  simp [applyUpsets]
@[simp] theorem applyUpsets_sl (x : List Upset) : (applyUpsets s x).sl = s.sl := by
  simp [applyUpsets]
@[simp] theorem applyUpsets_sm (x : List Upset) : (applyUpsets s x).sm = s.sm := by
  simp [applyUpsets]
@[simp] theorem applyUpsets_lines (x : List Upset) : (applyUpsets s x).lines = s.lines := by
  simp [applyUpsets]
@[simp] theorem applyUpsets_freeCount (x : List Upset) : (applyUpsets s x).freeCount = s.freeCount := by
  simp [applyUpsets]
@[simp] theorem applyUpsets_pending (x : List Upset) : (applyUpsets s x).pending = s.pending := by
  simp [applyUpsets]

@[simp] theorem freshPatrol_powered : (freshPatrol s).powered = s.powered := by
  simp [freshPatrol]
@[simp] theorem freshPatrol_clk : (freshPatrol s).clk = s.clk := by
  simp [freshPatrol]
@[simp] theorem freshPatrol_tb : (freshPatrol s).tb = s.tb := by
  simp [freshPatrol]
@[simp] theorem freshPatrol_si : (freshPatrol s).si = s.si := by
  simp [freshPatrol]
@[simp] theorem freshPatrol_fe : (freshPatrol s).fe = s.fe := by
  simp [freshPatrol]
@[simp] theorem freshPatrol_tu : (freshPatrol s).tu = s.tu := by
  simp [freshPatrol]
@[simp] theorem freshPatrol_et : (freshPatrol s).et = s.et := by
  simp [freshPatrol]
@[simp] theorem freshPatrol_al : (freshPatrol s).al = s.al := by
  simp [freshPatrol]
@[simp] theorem freshPatrol_hm : (freshPatrol s).hm = s.hm := by
  simp [freshPatrol]
@[simp] theorem freshPatrol_ca : (freshPatrol s).ca = s.ca := by
  simp [freshPatrol]
@[simp] theorem freshPatrol_hc : (freshPatrol s).hc = s.hc := by
  simp [freshPatrol]
@[simp] theorem freshPatrol_pt : (freshPatrol s).pt = s.pt := by
  simp [freshPatrol]
@[simp] theorem freshPatrol_sl : (freshPatrol s).sl = s.sl := by
  simp [freshPatrol]
@[simp] theorem freshPatrol_sm : (freshPatrol s).sm = s.sm := by
  simp [freshPatrol]
@[simp] theorem freshPatrol_lines : (freshPatrol s).lines = s.lines := by
  simp [freshPatrol]
@[simp] theorem freshPatrol_freeCount : (freshPatrol s).freeCount = s.freeCount := by
  simp [freshPatrol]
@[simp] theorem freshPatrol_pending : (freshPatrol s).pending = s.pending := by
  simp [freshPatrol]

@[simp] theorem readPage_powered (p : PageId) : (readPage p s).powered = s.powered := by
  unfold readPage; apply foldl_keeps (g := State.powered); simp
@[simp] theorem readPage_clk (p : PageId) : (readPage p s).clk = s.clk := by
  unfold readPage; apply foldl_keeps (g := State.clk); simp
@[simp] theorem readPage_tb (p : PageId) : (readPage p s).tb = s.tb := by
  unfold readPage; apply foldl_keeps (g := State.tb); simp
@[simp] theorem readPage_si (p : PageId) : (readPage p s).si = s.si := by
  unfold readPage; apply foldl_keeps (g := State.si); simp
@[simp] theorem readPage_fe (p : PageId) : (readPage p s).fe = s.fe := by
  unfold readPage; apply foldl_keeps (g := State.fe); simp
@[simp] theorem readPage_tu (p : PageId) : (readPage p s).tu = s.tu := by
  unfold readPage; apply foldl_keeps (g := State.tu); simp
@[simp] theorem readPage_al (p : PageId) : (readPage p s).al = s.al := by
  unfold readPage; apply foldl_keeps (g := State.al); simp
@[simp] theorem readPage_hm (p : PageId) : (readPage p s).hm = s.hm := by
  unfold readPage; apply foldl_keeps (g := State.hm); simp
@[simp] theorem readPage_ca (p : PageId) : (readPage p s).ca = s.ca := by
  unfold readPage; apply foldl_keeps (g := State.ca); simp
@[simp] theorem readPage_hc (p : PageId) : (readPage p s).hc = s.hc := by
  unfold readPage; apply foldl_keeps (g := State.hc); simp
@[simp] theorem readPage_sm (p : PageId) : (readPage p s).sm = s.sm := by
  unfold readPage; apply foldl_keeps (g := State.sm); simp
@[simp] theorem readPage_lines (p : PageId) : (readPage p s).lines = s.lines := by
  unfold readPage; apply foldl_keeps (g := State.lines); simp
@[simp] theorem readPage_freeCount (p : PageId) : (readPage p s).freeCount = s.freeCount := by
  unfold readPage; apply foldl_keeps (g := State.freeCount); simp
@[simp] theorem readPage_pending (p : PageId) : (readPage p s).pending = s.pending := by
  unfold readPage; apply foldl_keeps (g := State.pending); simp

@[simp] theorem patrolRead_powered : (patrolRead s).powered = s.powered := by
  unfold patrolRead; split <;> simp
@[simp] theorem patrolRead_clk : (patrolRead s).clk = s.clk := by
  unfold patrolRead; split <;> simp
@[simp] theorem patrolRead_tb : (patrolRead s).tb = s.tb := by
  unfold patrolRead; split <;> simp
@[simp] theorem patrolRead_si : (patrolRead s).si = s.si := by
  unfold patrolRead; split <;> simp
@[simp] theorem patrolRead_fe : (patrolRead s).fe = s.fe := by
  unfold patrolRead; split <;> simp
@[simp] theorem patrolRead_tu : (patrolRead s).tu = s.tu := by
  unfold patrolRead; split <;> simp
@[simp] theorem patrolRead_al : (patrolRead s).al = s.al := by
  unfold patrolRead; split <;> simp
@[simp] theorem patrolRead_hm : (patrolRead s).hm = s.hm := by
  unfold patrolRead; split <;> simp
@[simp] theorem patrolRead_ca : (patrolRead s).ca = s.ca := by
  unfold patrolRead; split <;> simp
@[simp] theorem patrolRead_hc : (patrolRead s).hc = s.hc := by
  unfold patrolRead; split <;> simp
@[simp] theorem patrolRead_sm : (patrolRead s).sm = s.sm := by
  unfold patrolRead; split <;> simp
@[simp] theorem patrolRead_lines : (patrolRead s).lines = s.lines := by
  unfold patrolRead; split <;> simp
@[simp] theorem patrolRead_freeCount : (patrolRead s).freeCount = s.freeCount := by
  unfold patrolRead; split <;> simp
@[simp] theorem patrolRead_pending : (patrolRead s).pending = s.pending := by
  unfold patrolRead; split <;> simp

@[simp] theorem takeScan_powered (r : RawScan) : (takeScan r s).powered = s.powered := by
  simp [takeScan]
@[simp] theorem takeScan_clk (r : RawScan) : (takeScan r s).clk = s.clk := by
  simp [takeScan]
@[simp] theorem takeScan_tb (r : RawScan) : (takeScan r s).tb = s.tb := by
  simp [takeScan]
@[simp] theorem takeScan_si (r : RawScan) : (takeScan r s).si = s.si := by
  simp [takeScan]
@[simp] theorem takeScan_fe (r : RawScan) : (takeScan r s).fe = s.fe := by
  simp [takeScan]
@[simp] theorem takeScan_tu (r : RawScan) : (takeScan r s).tu = s.tu := by
  simp [takeScan]
@[simp] theorem takeScan_ws (r : RawScan) : (takeScan r s).ws = s.ws := by
  simp [takeScan]
@[simp] theorem takeScan_et (r : RawScan) : (takeScan r s).et = s.et := by
  simp [takeScan]
@[simp] theorem takeScan_al (r : RawScan) : (takeScan r s).al = s.al := by
  simp [takeScan]
@[simp] theorem takeScan_ca (r : RawScan) : (takeScan r s).ca = s.ca := by
  simp [takeScan]
@[simp] theorem takeScan_hc (r : RawScan) : (takeScan r s).hc = s.hc := by
  simp [takeScan]
@[simp] theorem takeScan_pt (r : RawScan) : (takeScan r s).pt = s.pt := by
  simp [takeScan]
@[simp] theorem takeScan_sl (r : RawScan) : (takeScan r s).sl = s.sl := by
  simp [takeScan]
@[simp] theorem takeScan_sm (r : RawScan) : (takeScan r s).sm = s.sm := by
  simp [takeScan]
@[simp] theorem takeScan_freeCount (r : RawScan) : (takeScan r s).freeCount = s.freeCount := by
  simp [takeScan]
@[simp] theorem takeScan_pending (r : RawScan) : (takeScan r s).pending = s.pending := by
  simp [takeScan]

@[simp] theorem evalChargeSwitch_powered : (evalChargeSwitch s).powered = s.powered := by
  simp [evalChargeSwitch]
@[simp] theorem evalChargeSwitch_clk : (evalChargeSwitch s).clk = s.clk := by
  simp [evalChargeSwitch]
@[simp] theorem evalChargeSwitch_tb : (evalChargeSwitch s).tb = s.tb := by
  simp [evalChargeSwitch]
@[simp] theorem evalChargeSwitch_si : (evalChargeSwitch s).si = s.si := by
  simp [evalChargeSwitch]
@[simp] theorem evalChargeSwitch_fe : (evalChargeSwitch s).fe = s.fe := by
  simp [evalChargeSwitch]
@[simp] theorem evalChargeSwitch_tu : (evalChargeSwitch s).tu = s.tu := by
  simp [evalChargeSwitch]
@[simp] theorem evalChargeSwitch_ws : (evalChargeSwitch s).ws = s.ws := by
  simp [evalChargeSwitch]
@[simp] theorem evalChargeSwitch_et : (evalChargeSwitch s).et = s.et := by
  simp [evalChargeSwitch]
@[simp] theorem evalChargeSwitch_al : (evalChargeSwitch s).al = s.al := by
  simp [evalChargeSwitch]
@[simp] theorem evalChargeSwitch_hm : (evalChargeSwitch s).hm = s.hm := by
  simp [evalChargeSwitch]
@[simp] theorem evalChargeSwitch_hc : (evalChargeSwitch s).hc = s.hc := by
  simp [evalChargeSwitch]
@[simp] theorem evalChargeSwitch_pt : (evalChargeSwitch s).pt = s.pt := by
  simp [evalChargeSwitch]
@[simp] theorem evalChargeSwitch_sl : (evalChargeSwitch s).sl = s.sl := by
  simp [evalChargeSwitch]
@[simp] theorem evalChargeSwitch_sm : (evalChargeSwitch s).sm = s.sm := by
  simp [evalChargeSwitch]
@[simp] theorem evalChargeSwitch_lines : (evalChargeSwitch s).lines = s.lines := by
  simp [evalChargeSwitch]
@[simp] theorem evalChargeSwitch_freeCount : (evalChargeSwitch s).freeCount = s.freeCount := by
  simp [evalChargeSwitch]
@[simp] theorem evalChargeSwitch_pending : (evalChargeSwitch s).pending = s.pending := by
  simp [evalChargeSwitch]

@[simp] theorem chargeWork_powered (f : ChargeUnit → ChargeUnit) : (chargeWork f s).powered = s.powered := by
  simp [chargeWork]
@[simp] theorem chargeWork_clk (f : ChargeUnit → ChargeUnit) : (chargeWork f s).clk = s.clk := by
  simp [chargeWork]
@[simp] theorem chargeWork_tb (f : ChargeUnit → ChargeUnit) : (chargeWork f s).tb = s.tb := by
  simp [chargeWork]
@[simp] theorem chargeWork_si (f : ChargeUnit → ChargeUnit) : (chargeWork f s).si = s.si := by
  simp [chargeWork]
@[simp] theorem chargeWork_fe (f : ChargeUnit → ChargeUnit) : (chargeWork f s).fe = s.fe := by
  simp [chargeWork]
@[simp] theorem chargeWork_tu (f : ChargeUnit → ChargeUnit) : (chargeWork f s).tu = s.tu := by
  simp [chargeWork]
@[simp] theorem chargeWork_ws (f : ChargeUnit → ChargeUnit) : (chargeWork f s).ws = s.ws := by
  simp [chargeWork]
@[simp] theorem chargeWork_et (f : ChargeUnit → ChargeUnit) : (chargeWork f s).et = s.et := by
  simp [chargeWork]
@[simp] theorem chargeWork_al (f : ChargeUnit → ChargeUnit) : (chargeWork f s).al = s.al := by
  simp [chargeWork]
@[simp] theorem chargeWork_hm (f : ChargeUnit → ChargeUnit) : (chargeWork f s).hm = s.hm := by
  simp [chargeWork]
@[simp] theorem chargeWork_hc (f : ChargeUnit → ChargeUnit) : (chargeWork f s).hc = s.hc := by
  simp [chargeWork]
@[simp] theorem chargeWork_pt (f : ChargeUnit → ChargeUnit) : (chargeWork f s).pt = s.pt := by
  simp [chargeWork]
@[simp] theorem chargeWork_sl (f : ChargeUnit → ChargeUnit) : (chargeWork f s).sl = s.sl := by
  simp [chargeWork]
@[simp] theorem chargeWork_sm (f : ChargeUnit → ChargeUnit) : (chargeWork f s).sm = s.sm := by
  simp [chargeWork]
@[simp] theorem chargeWork_lines (f : ChargeUnit → ChargeUnit) : (chargeWork f s).lines = s.lines := by
  simp [chargeWork]
@[simp] theorem chargeWork_freeCount (f : ChargeUnit → ChargeUnit) : (chargeWork f s).freeCount = s.freeCount := by
  simp [chargeWork]
@[simp] theorem chargeWork_pending (f : ChargeUnit → ChargeUnit) : (chargeWork f s).pending = s.pending := by
  simp [chargeWork]

@[simp] theorem endScan_powered (n : Nat) : (endScan n s).powered = s.powered := State.modHm_powered s _
@[simp] theorem endScan_clk (n : Nat) : (endScan n s).clk = s.clk := State.modHm_clk s _
@[simp] theorem endScan_tb (n : Nat) : (endScan n s).tb = s.tb := State.modHm_tb s _
@[simp] theorem endScan_si (n : Nat) : (endScan n s).si = s.si := State.modHm_si s _
@[simp] theorem endScan_fe (n : Nat) : (endScan n s).fe = s.fe := State.modHm_fe s _
@[simp] theorem endScan_tu (n : Nat) : (endScan n s).tu = s.tu := State.modHm_tu s _
@[simp] theorem endScan_ws (n : Nat) : (endScan n s).ws = s.ws := State.modHm_ws s _
@[simp] theorem endScan_et (n : Nat) : (endScan n s).et = s.et := State.modHm_et s _
@[simp] theorem endScan_al (n : Nat) : (endScan n s).al = s.al := State.modHm_al s _
@[simp] theorem endScan_ca (n : Nat) : (endScan n s).ca = s.ca := State.modHm_ca s _
@[simp] theorem endScan_hc (n : Nat) : (endScan n s).hc = s.hc := State.modHm_hc s _
@[simp] theorem endScan_pt (n : Nat) : (endScan n s).pt = s.pt := State.modHm_pt s _
@[simp] theorem endScan_sl (n : Nat) : (endScan n s).sl = s.sl := State.modHm_sl s _
@[simp] theorem endScan_sm (n : Nat) : (endScan n s).sm = s.sm := State.modHm_sm s _
@[simp] theorem endScan_lines (n : Nat) : (endScan n s).lines = s.lines := State.modHm_lines s _
@[simp] theorem endScan_freeCount (n : Nat) : (endScan n s).freeCount = s.freeCount := State.modHm_freeCount s _
@[simp] theorem endScan_pending (n : Nat) : (endScan n s).pending = s.pending := State.modHm_pending s _

@[simp] theorem railByTier_powered (h : HostRail) : (railByTier h s).powered = s.powered := by
  simp [railByTier]
@[simp] theorem railByTier_clk (h : HostRail) : (railByTier h s).clk = s.clk := by
  simp [railByTier]
@[simp] theorem railByTier_tb (h : HostRail) : (railByTier h s).tb = s.tb := by
  simp [railByTier]
@[simp] theorem railByTier_si (h : HostRail) : (railByTier h s).si = s.si := by
  simp [railByTier]
@[simp] theorem railByTier_fe (h : HostRail) : (railByTier h s).fe = s.fe := by
  simp [railByTier]
@[simp] theorem railByTier_tu (h : HostRail) : (railByTier h s).tu = s.tu := by
  simp [railByTier]
@[simp] theorem railByTier_ws (h : HostRail) : (railByTier h s).ws = s.ws := by
  simp [railByTier]
@[simp] theorem railByTier_et (h : HostRail) : (railByTier h s).et = s.et := by
  simp [railByTier]
@[simp] theorem railByTier_al (h : HostRail) : (railByTier h s).al = s.al := by
  simp [railByTier]
@[simp] theorem railByTier_hm (h : HostRail) : (railByTier h s).hm = s.hm := by
  simp [railByTier]
@[simp] theorem railByTier_ca (h : HostRail) : (railByTier h s).ca = s.ca := by
  simp [railByTier]
@[simp] theorem railByTier_hc (h : HostRail) : (railByTier h s).hc = s.hc := by
  simp [railByTier]
@[simp] theorem railByTier_sm (h : HostRail) : (railByTier h s).sm = s.sm := by
  simp [railByTier]
@[simp] theorem railByTier_lines (h : HostRail) : (railByTier h s).lines = s.lines := by
  simp [railByTier]
@[simp] theorem railByTier_freeCount (h : HostRail) : (railByTier h s).freeCount = s.freeCount := by
  simp [railByTier]
@[simp] theorem railByTier_pending (h : HostRail) : (railByTier h s).pending = s.pending := by
  simp [railByTier]

@[simp] theorem hostRailForTier_powered (o n : Tier) : (hostRailForTier o n s).powered = s.powered := by
  unfold hostRailForTier; (repeat' split) <;> simp
@[simp] theorem hostRailForTier_clk (o n : Tier) : (hostRailForTier o n s).clk = s.clk := by
  unfold hostRailForTier; (repeat' split) <;> simp
@[simp] theorem hostRailForTier_tb (o n : Tier) : (hostRailForTier o n s).tb = s.tb := by
  unfold hostRailForTier; (repeat' split) <;> simp
@[simp] theorem hostRailForTier_si (o n : Tier) : (hostRailForTier o n s).si = s.si := by
  unfold hostRailForTier; (repeat' split) <;> simp
@[simp] theorem hostRailForTier_fe (o n : Tier) : (hostRailForTier o n s).fe = s.fe := by
  unfold hostRailForTier; (repeat' split) <;> simp
@[simp] theorem hostRailForTier_tu (o n : Tier) : (hostRailForTier o n s).tu = s.tu := by
  unfold hostRailForTier; (repeat' split) <;> simp
@[simp] theorem hostRailForTier_ws (o n : Tier) : (hostRailForTier o n s).ws = s.ws := by
  unfold hostRailForTier; (repeat' split) <;> simp
@[simp] theorem hostRailForTier_et (o n : Tier) : (hostRailForTier o n s).et = s.et := by
  unfold hostRailForTier; (repeat' split) <;> simp
@[simp] theorem hostRailForTier_al (o n : Tier) : (hostRailForTier o n s).al = s.al := by
  unfold hostRailForTier; (repeat' split) <;> simp
@[simp] theorem hostRailForTier_hm (o n : Tier) : (hostRailForTier o n s).hm = s.hm := by
  unfold hostRailForTier; (repeat' split) <;> simp
@[simp] theorem hostRailForTier_ca (o n : Tier) : (hostRailForTier o n s).ca = s.ca := by
  unfold hostRailForTier; (repeat' split) <;> simp
@[simp] theorem hostRailForTier_hc (o n : Tier) : (hostRailForTier o n s).hc = s.hc := by
  unfold hostRailForTier; (repeat' split) <;> simp
@[simp] theorem hostRailForTier_sm (o n : Tier) : (hostRailForTier o n s).sm = s.sm := by
  unfold hostRailForTier; (repeat' split) <;> simp
@[simp] theorem hostRailForTier_lines (o n : Tier) : (hostRailForTier o n s).lines = s.lines := by
  unfold hostRailForTier; (repeat' split) <;> simp
@[simp] theorem hostRailForTier_freeCount (o n : Tier) : (hostRailForTier o n s).freeCount = s.freeCount := by
  unfold hostRailForTier; (repeat' split) <;> simp
@[simp] theorem hostRailForTier_pending (o n : Tier) : (hostRailForTier o n s).pending = s.pending := by
  unfold hostRailForTier; (repeat' split) <;> simp

@[simp] theorem channelLeaves_powered (c : Channel) : (channelLeaves c s).powered = s.powered := by
  simp [channelLeaves]
@[simp] theorem channelLeaves_clk (c : Channel) : (channelLeaves c s).clk = s.clk := by
  simp [channelLeaves]
@[simp] theorem channelLeaves_tb (c : Channel) : (channelLeaves c s).tb = s.tb := by
  simp [channelLeaves]
@[simp] theorem channelLeaves_si (c : Channel) : (channelLeaves c s).si = s.si := by
  simp [channelLeaves]
@[simp] theorem channelLeaves_et (c : Channel) : (channelLeaves c s).et = s.et := by
  simp [channelLeaves]
@[simp] theorem channelLeaves_al (c : Channel) : (channelLeaves c s).al = s.al := by
  simp [channelLeaves]
@[simp] theorem channelLeaves_hm (c : Channel) : (channelLeaves c s).hm = s.hm := by
  simp [channelLeaves]
@[simp] theorem channelLeaves_ca (c : Channel) : (channelLeaves c s).ca = s.ca := by
  simp [channelLeaves]
@[simp] theorem channelLeaves_hc (c : Channel) : (channelLeaves c s).hc = s.hc := by
  simp [channelLeaves]
@[simp] theorem channelLeaves_pt (c : Channel) : (channelLeaves c s).pt = s.pt := by
  simp [channelLeaves]
@[simp] theorem channelLeaves_sl (c : Channel) : (channelLeaves c s).sl = s.sl := by
  simp [channelLeaves]
@[simp] theorem channelLeaves_sm (c : Channel) : (channelLeaves c s).sm = s.sm := by
  simp [channelLeaves]
@[simp] theorem channelLeaves_lines (c : Channel) : (channelLeaves c s).lines = s.lines := by
  simp [channelLeaves]
@[simp] theorem channelLeaves_freeCount (c : Channel) : (channelLeaves c s).freeCount = s.freeCount := by
  simp [channelLeaves]
@[simp] theorem channelLeaves_pending (c : Channel) : (channelLeaves c s).pending = s.pending := by
  simp [channelLeaves]

@[simp] theorem addPeakPart_powered (c : Channel) : (addPeakPart c s).powered = s.powered := by
  unfold addPeakPart; split <;> simp
@[simp] theorem addPeakPart_clk (c : Channel) : (addPeakPart c s).clk = s.clk := by
  unfold addPeakPart; split <;> simp
@[simp] theorem addPeakPart_tb (c : Channel) : (addPeakPart c s).tb = s.tb := by
  unfold addPeakPart; split <;> simp
@[simp] theorem addPeakPart_si (c : Channel) : (addPeakPart c s).si = s.si := by
  unfold addPeakPart; split <;> simp
@[simp] theorem addPeakPart_fe (c : Channel) : (addPeakPart c s).fe = s.fe := by
  unfold addPeakPart; split <;> simp
@[simp] theorem addPeakPart_tu (c : Channel) : (addPeakPart c s).tu = s.tu := by
  unfold addPeakPart; split <;> simp
@[simp] theorem addPeakPart_ws (c : Channel) : (addPeakPart c s).ws = s.ws := by
  unfold addPeakPart; split <;> simp
@[simp] theorem addPeakPart_al (c : Channel) : (addPeakPart c s).al = s.al := by
  unfold addPeakPart; split <;> simp
@[simp] theorem addPeakPart_hm (c : Channel) : (addPeakPart c s).hm = s.hm := by
  unfold addPeakPart; split <;> simp
@[simp] theorem addPeakPart_ca (c : Channel) : (addPeakPart c s).ca = s.ca := by
  unfold addPeakPart; split <;> simp
@[simp] theorem addPeakPart_hc (c : Channel) : (addPeakPart c s).hc = s.hc := by
  unfold addPeakPart; split <;> simp
@[simp] theorem addPeakPart_pt (c : Channel) : (addPeakPart c s).pt = s.pt := by
  unfold addPeakPart; split <;> simp
@[simp] theorem addPeakPart_sl (c : Channel) : (addPeakPart c s).sl = s.sl := by
  unfold addPeakPart; split <;> simp
@[simp] theorem addPeakPart_sm (c : Channel) : (addPeakPart c s).sm = s.sm := by
  unfold addPeakPart; split <;> simp
@[simp] theorem addPeakPart_lines (c : Channel) : (addPeakPart c s).lines = s.lines := by
  unfold addPeakPart; split <;> simp
@[simp] theorem addPeakPart_freeCount (c : Channel) : (addPeakPart c s).freeCount = s.freeCount := by
  unfold addPeakPart; split <;> simp
@[simp] theorem addPeakPart_pending (c : Channel) : (addPeakPart c s).pending = s.pending := by
  unfold addPeakPart; split <;> simp

@[simp] theorem channelJoins_powered (c : Channel) : (channelJoins c s).powered = s.powered := by
  simp [channelJoins]
@[simp] theorem channelJoins_clk (c : Channel) : (channelJoins c s).clk = s.clk := by
  simp [channelJoins]
@[simp] theorem channelJoins_tb (c : Channel) : (channelJoins c s).tb = s.tb := by
  simp [channelJoins]
@[simp] theorem channelJoins_si (c : Channel) : (channelJoins c s).si = s.si := by
  simp [channelJoins]
@[simp] theorem channelJoins_al (c : Channel) : (channelJoins c s).al = s.al := by
  simp [channelJoins]
@[simp] theorem channelJoins_hm (c : Channel) : (channelJoins c s).hm = s.hm := by
  simp [channelJoins]
@[simp] theorem channelJoins_ca (c : Channel) : (channelJoins c s).ca = s.ca := by
  simp [channelJoins]
@[simp] theorem channelJoins_hc (c : Channel) : (channelJoins c s).hc = s.hc := by
  simp [channelJoins]
@[simp] theorem channelJoins_sm (c : Channel) : (channelJoins c s).sm = s.sm := by
  simp [channelJoins]
@[simp] theorem channelJoins_lines (c : Channel) : (channelJoins c s).lines = s.lines := by
  simp [channelJoins]
@[simp] theorem channelJoins_freeCount (c : Channel) : (channelJoins c s).freeCount = s.freeCount := by
  simp [channelJoins]
@[simp] theorem channelJoins_pending (c : Channel) : (channelJoins c s).pending = s.pending := by
  simp [channelJoins]

@[simp] theorem channelAtTier_powered (o n : Tier) (c : Channel) : (channelAtTier o n s c).powered = s.powered := by
  unfold channelAtTier; (repeat' split) <;> simp
@[simp] theorem channelAtTier_clk (o n : Tier) (c : Channel) : (channelAtTier o n s c).clk = s.clk := by
  unfold channelAtTier; (repeat' split) <;> simp
@[simp] theorem channelAtTier_tb (o n : Tier) (c : Channel) : (channelAtTier o n s c).tb = s.tb := by
  unfold channelAtTier; (repeat' split) <;> simp
@[simp] theorem channelAtTier_si (o n : Tier) (c : Channel) : (channelAtTier o n s c).si = s.si := by
  unfold channelAtTier; (repeat' split) <;> simp
@[simp] theorem channelAtTier_al (o n : Tier) (c : Channel) : (channelAtTier o n s c).al = s.al := by
  unfold channelAtTier; (repeat' split) <;> simp
@[simp] theorem channelAtTier_hm (o n : Tier) (c : Channel) : (channelAtTier o n s c).hm = s.hm := by
  unfold channelAtTier; (repeat' split) <;> simp
@[simp] theorem channelAtTier_ca (o n : Tier) (c : Channel) : (channelAtTier o n s c).ca = s.ca := by
  unfold channelAtTier; (repeat' split) <;> simp
@[simp] theorem channelAtTier_hc (o n : Tier) (c : Channel) : (channelAtTier o n s c).hc = s.hc := by
  unfold channelAtTier; (repeat' split) <;> simp
@[simp] theorem channelAtTier_sm (o n : Tier) (c : Channel) : (channelAtTier o n s c).sm = s.sm := by
  unfold channelAtTier; (repeat' split) <;> simp
@[simp] theorem channelAtTier_lines (o n : Tier) (c : Channel) : (channelAtTier o n s c).lines = s.lines := by
  unfold channelAtTier; (repeat' split) <;> simp
@[simp] theorem channelAtTier_freeCount (o n : Tier) (c : Channel) : (channelAtTier o n s c).freeCount = s.freeCount := by
  unfold channelAtTier; (repeat' split) <;> simp
@[simp] theorem channelAtTier_pending (o n : Tier) (c : Channel) : (channelAtTier o n s c).pending = s.pending := by
  unfold channelAtTier; (repeat' split) <;> simp

@[simp] theorem applyEnabled_powered (o n : Tier) : (applyEnabled o n s).powered = s.powered := by
  unfold applyEnabled; dsimp only; split <;> simp [channels]
@[simp] theorem applyEnabled_clk (o n : Tier) : (applyEnabled o n s).clk = s.clk := by
  unfold applyEnabled; dsimp only; split <;> simp [channels]
@[simp] theorem applyEnabled_tb (o n : Tier) : (applyEnabled o n s).tb = s.tb := by
  unfold applyEnabled; dsimp only; split <;> simp [channels]
@[simp] theorem applyEnabled_si (o n : Tier) : (applyEnabled o n s).si = s.si := by
  unfold applyEnabled; dsimp only; split <;> simp [channels]
@[simp] theorem applyEnabled_hm (o n : Tier) : (applyEnabled o n s).hm = s.hm := by
  unfold applyEnabled; dsimp only; split <;> simp [channels]
@[simp] theorem applyEnabled_ca (o n : Tier) : (applyEnabled o n s).ca = s.ca := by
  unfold applyEnabled; dsimp only; split <;> simp [channels]
@[simp] theorem applyEnabled_hc (o n : Tier) : (applyEnabled o n s).hc = s.hc := by
  unfold applyEnabled; dsimp only; split <;> simp [channels]
@[simp] theorem applyEnabled_sm (o n : Tier) : (applyEnabled o n s).sm = s.sm := by
  unfold applyEnabled; dsimp only; split <;> simp [channels]
@[simp] theorem applyEnabled_lines (o n : Tier) : (applyEnabled o n s).lines = s.lines := by
  unfold applyEnabled; dsimp only; split <;> simp [channels]
@[simp] theorem applyEnabled_freeCount (o n : Tier) : (applyEnabled o n s).freeCount = s.freeCount := by
  unfold applyEnabled; dsimp only; split <;> simp [channels]
@[simp] theorem applyEnabled_pending (o n : Tier) : (applyEnabled o n s).pending = s.pending := by
  unfold applyEnabled; dsimp only; split <;> simp [channels]

@[simp] theorem endGasp_powered : (endGasp s).powered = s.powered := by
  simp [endGasp]
@[simp] theorem endGasp_clk : (endGasp s).clk = s.clk := by
  simp [endGasp]
@[simp] theorem endGasp_si : (endGasp s).si = s.si := by
  simp [endGasp]
@[simp] theorem endGasp_fe : (endGasp s).fe = s.fe := by
  simp [endGasp]
@[simp] theorem endGasp_tu : (endGasp s).tu = s.tu := by
  simp [endGasp]
@[simp] theorem endGasp_ws : (endGasp s).ws = s.ws := by
  simp [endGasp]
@[simp] theorem endGasp_hm : (endGasp s).hm = s.hm := by
  simp [endGasp]
@[simp] theorem endGasp_ca : (endGasp s).ca = s.ca := by
  simp [endGasp]
@[simp] theorem endGasp_hc : (endGasp s).hc = s.hc := by
  simp [endGasp]
@[simp] theorem endGasp_sm : (endGasp s).sm = s.sm := by
  simp [endGasp]
@[simp] theorem endGasp_lines : (endGasp s).lines = s.lines := by
  simp [endGasp]
@[simp] theorem endGasp_freeCount : (endGasp s).freeCount = s.freeCount := by
  simp [endGasp]
@[simp] theorem endGasp_pending : (endGasp s).pending = s.pending := by
  simp [endGasp]

@[simp] theorem gaspCheck_powered : (gaspCheck s).powered = s.powered := by
  unfold gaspCheck; (repeat' split) <;> simp
@[simp] theorem gaspCheck_clk : (gaspCheck s).clk = s.clk := by
  unfold gaspCheck; (repeat' split) <;> simp
@[simp] theorem gaspCheck_si : (gaspCheck s).si = s.si := by
  unfold gaspCheck; (repeat' split) <;> simp
@[simp] theorem gaspCheck_fe : (gaspCheck s).fe = s.fe := by
  unfold gaspCheck; (repeat' split) <;> simp
@[simp] theorem gaspCheck_tu : (gaspCheck s).tu = s.tu := by
  unfold gaspCheck; (repeat' split) <;> simp
@[simp] theorem gaspCheck_ws : (gaspCheck s).ws = s.ws := by
  unfold gaspCheck; (repeat' split) <;> simp
@[simp] theorem gaspCheck_hm : (gaspCheck s).hm = s.hm := by
  unfold gaspCheck; (repeat' split) <;> simp
@[simp] theorem gaspCheck_ca : (gaspCheck s).ca = s.ca := by
  unfold gaspCheck; (repeat' split) <;> simp
@[simp] theorem gaspCheck_hc : (gaspCheck s).hc = s.hc := by
  unfold gaspCheck; (repeat' split) <;> simp
@[simp] theorem gaspCheck_sm : (gaspCheck s).sm = s.sm := by
  unfold gaspCheck; (repeat' split) <;> simp
@[simp] theorem gaspCheck_lines : (gaspCheck s).lines = s.lines := by
  unfold gaspCheck; (repeat' split) <;> simp
@[simp] theorem gaspCheck_freeCount : (gaspCheck s).freeCount = s.freeCount := by
  unfold gaspCheck; (repeat' split) <;> simp
@[simp] theorem gaspCheck_pending : (gaspCheck s).pending = s.pending := by
  unfold gaspCheck; (repeat' split) <;> simp

@[simp] theorem entryWindow_powered : (entryWindow s).powered = s.powered := by
  unfold entryWindow; dsimp only; (repeat' split) <;> simp
@[simp] theorem entryWindow_clk : (entryWindow s).clk = s.clk := by
  unfold entryWindow; dsimp only; (repeat' split) <;> simp
@[simp] theorem entryWindow_tb : (entryWindow s).tb = s.tb := by
  unfold entryWindow; dsimp only; (repeat' split) <;> simp
@[simp] theorem entryWindow_si : (entryWindow s).si = s.si := by
  unfold entryWindow; dsimp only; (repeat' split) <;> simp
@[simp] theorem entryWindow_fe : (entryWindow s).fe = s.fe := by
  unfold entryWindow; dsimp only; (repeat' split) <;> simp
@[simp] theorem entryWindow_tu : (entryWindow s).tu = s.tu := by
  unfold entryWindow; dsimp only; (repeat' split) <;> simp
@[simp] theorem entryWindow_ws : (entryWindow s).ws = s.ws := by
  unfold entryWindow; dsimp only; (repeat' split) <;> simp
@[simp] theorem entryWindow_et : (entryWindow s).et = s.et := by
  unfold entryWindow; dsimp only; (repeat' split) <;> simp
@[simp] theorem entryWindow_hm : (entryWindow s).hm = s.hm := by
  unfold entryWindow; dsimp only; (repeat' split) <;> simp
@[simp] theorem entryWindow_ca : (entryWindow s).ca = s.ca := by
  unfold entryWindow; dsimp only; (repeat' split) <;> simp
@[simp] theorem entryWindow_hc : (entryWindow s).hc = s.hc := by
  unfold entryWindow; dsimp only; (repeat' split) <;> simp
@[simp] theorem entryWindow_pt : (entryWindow s).pt = s.pt := by
  unfold entryWindow; dsimp only; (repeat' split) <;> simp
@[simp] theorem entryWindow_sl : (entryWindow s).sl = s.sl := by
  unfold entryWindow; dsimp only; (repeat' split) <;> simp
@[simp] theorem entryWindow_sm : (entryWindow s).sm = s.sm := by
  unfold entryWindow; dsimp only; (repeat' split) <;> simp
@[simp] theorem entryWindow_lines : (entryWindow s).lines = s.lines := by
  unfold entryWindow; dsimp only; (repeat' split) <;> simp
@[simp] theorem entryWindow_freeCount : (entryWindow s).freeCount = s.freeCount := by
  unfold entryWindow; dsimp only; (repeat' split) <;> simp
@[simp] theorem entryWindow_pending : (entryWindow s).pending = s.pending := by
  unfold entryWindow; dsimp only; (repeat' split) <;> simp

@[simp] theorem sensorForTier_powered (t : Tier) : (sensorForTier t s).powered = s.powered := by
  unfold sensorForTier; (repeat' split) <;> simp
@[simp] theorem sensorForTier_clk (t : Tier) : (sensorForTier t s).clk = s.clk := by
  unfold sensorForTier; (repeat' split) <;> simp
@[simp] theorem sensorForTier_tb (t : Tier) : (sensorForTier t s).tb = s.tb := by
  unfold sensorForTier; (repeat' split) <;> simp
@[simp] theorem sensorForTier_fe (t : Tier) : (sensorForTier t s).fe = s.fe := by
  unfold sensorForTier; (repeat' split) <;> simp
@[simp] theorem sensorForTier_tu (t : Tier) : (sensorForTier t s).tu = s.tu := by
  unfold sensorForTier; (repeat' split) <;> simp
@[simp] theorem sensorForTier_ws (t : Tier) : (sensorForTier t s).ws = s.ws := by
  unfold sensorForTier; (repeat' split) <;> simp
@[simp] theorem sensorForTier_et (t : Tier) : (sensorForTier t s).et = s.et := by
  unfold sensorForTier; (repeat' split) <;> simp
@[simp] theorem sensorForTier_al (t : Tier) : (sensorForTier t s).al = s.al := by
  unfold sensorForTier; (repeat' split) <;> simp
@[simp] theorem sensorForTier_hm (t : Tier) : (sensorForTier t s).hm = s.hm := by
  unfold sensorForTier; (repeat' split) <;> simp
@[simp] theorem sensorForTier_ca (t : Tier) : (sensorForTier t s).ca = s.ca := by
  unfold sensorForTier; (repeat' split) <;> simp
@[simp] theorem sensorForTier_hc (t : Tier) : (sensorForTier t s).hc = s.hc := by
  unfold sensorForTier; (repeat' split) <;> simp
@[simp] theorem sensorForTier_sl (t : Tier) : (sensorForTier t s).sl = s.sl := by
  unfold sensorForTier; (repeat' split) <;> simp
@[simp] theorem sensorForTier_sm (t : Tier) : (sensorForTier t s).sm = s.sm := by
  unfold sensorForTier; (repeat' split) <;> simp
@[simp] theorem sensorForTier_lines (t : Tier) : (sensorForTier t s).lines = s.lines := by
  unfold sensorForTier; (repeat' split) <;> simp
@[simp] theorem sensorForTier_freeCount (t : Tier) : (sensorForTier t s).freeCount = s.freeCount := by
  unfold sensorForTier; (repeat' split) <;> simp
@[simp] theorem sensorForTier_pending (t : Tier) : (sensorForTier t s).pending = s.pending := by
  unfold sensorForTier; (repeat' split) <;> simp

@[simp] theorem detectorForTier_powered (o n : Tier) : (detectorForTier o n s).powered = s.powered := by
  unfold detectorForTier; (repeat' split) <;> simp
@[simp] theorem detectorForTier_clk (o n : Tier) : (detectorForTier o n s).clk = s.clk := by
  unfold detectorForTier; (repeat' split) <;> simp
@[simp] theorem detectorForTier_tb (o n : Tier) : (detectorForTier o n s).tb = s.tb := by
  unfold detectorForTier; (repeat' split) <;> simp
@[simp] theorem detectorForTier_fe (o n : Tier) : (detectorForTier o n s).fe = s.fe := by
  unfold detectorForTier; (repeat' split) <;> simp
@[simp] theorem detectorForTier_al (o n : Tier) : (detectorForTier o n s).al = s.al := by
  unfold detectorForTier; (repeat' split) <;> simp
@[simp] theorem detectorForTier_hm (o n : Tier) : (detectorForTier o n s).hm = s.hm := by
  unfold detectorForTier; (repeat' split) <;> simp
@[simp] theorem detectorForTier_ca (o n : Tier) : (detectorForTier o n s).ca = s.ca := by
  unfold detectorForTier; (repeat' split) <;> simp
@[simp] theorem detectorForTier_sm (o n : Tier) : (detectorForTier o n s).sm = s.sm := by
  unfold detectorForTier; (repeat' split) <;> simp
@[simp] theorem detectorForTier_lines (o n : Tier) : (detectorForTier o n s).lines = s.lines := by
  unfold detectorForTier; (repeat' split) <;> simp
@[simp] theorem detectorForTier_freeCount (o n : Tier) : (detectorForTier o n s).freeCount = s.freeCount := by
  unfold detectorForTier; (repeat' split) <;> simp
@[simp] theorem detectorForTier_pending (o n : Tier) : (detectorForTier o n s).pending = s.pending := by
  unfold detectorForTier; (repeat' split) <;> simp

@[simp] theorem patrolForTier_powered (o n : Tier) : (patrolForTier o n s).powered = s.powered := by
  unfold patrolForTier; split <;> simp
@[simp] theorem patrolForTier_clk (o n : Tier) : (patrolForTier o n s).clk = s.clk := by
  unfold patrolForTier; split <;> simp
@[simp] theorem patrolForTier_tb (o n : Tier) : (patrolForTier o n s).tb = s.tb := by
  unfold patrolForTier; split <;> simp
@[simp] theorem patrolForTier_si (o n : Tier) : (patrolForTier o n s).si = s.si := by
  unfold patrolForTier; split <;> simp
@[simp] theorem patrolForTier_fe (o n : Tier) : (patrolForTier o n s).fe = s.fe := by
  unfold patrolForTier; split <;> simp
@[simp] theorem patrolForTier_tu (o n : Tier) : (patrolForTier o n s).tu = s.tu := by
  unfold patrolForTier; split <;> simp
@[simp] theorem patrolForTier_et (o n : Tier) : (patrolForTier o n s).et = s.et := by
  unfold patrolForTier; split <;> simp
@[simp] theorem patrolForTier_al (o n : Tier) : (patrolForTier o n s).al = s.al := by
  unfold patrolForTier; split <;> simp
@[simp] theorem patrolForTier_hm (o n : Tier) : (patrolForTier o n s).hm = s.hm := by
  unfold patrolForTier; split <;> simp
@[simp] theorem patrolForTier_ca (o n : Tier) : (patrolForTier o n s).ca = s.ca := by
  unfold patrolForTier; split <;> simp
@[simp] theorem patrolForTier_hc (o n : Tier) : (patrolForTier o n s).hc = s.hc := by
  unfold patrolForTier; split <;> simp
@[simp] theorem patrolForTier_pt (o n : Tier) : (patrolForTier o n s).pt = s.pt := by
  unfold patrolForTier; split <;> simp
@[simp] theorem patrolForTier_sl (o n : Tier) : (patrolForTier o n s).sl = s.sl := by
  unfold patrolForTier; split <;> simp
@[simp] theorem patrolForTier_sm (o n : Tier) : (patrolForTier o n s).sm = s.sm := by
  unfold patrolForTier; split <;> simp
@[simp] theorem patrolForTier_lines (o n : Tier) : (patrolForTier o n s).lines = s.lines := by
  unfold patrolForTier; split <;> simp
@[simp] theorem patrolForTier_freeCount (o n : Tier) : (patrolForTier o n s).freeCount = s.freeCount := by
  unfold patrolForTier; split <;> simp
@[simp] theorem patrolForTier_pending (o n : Tier) : (patrolForTier o n s).pending = s.pending := by
  unfold patrolForTier; split <;> simp

@[simp] theorem enterHibernate_powered : (enterHibernate s).powered = s.powered := by
  simp [enterHibernate]
@[simp] theorem enterHibernate_clk : (enterHibernate s).clk = s.clk := by
  simp [enterHibernate]
@[simp] theorem enterHibernate_tb : (enterHibernate s).tb = s.tb := by
  simp [enterHibernate]
@[simp] theorem enterHibernate_si : (enterHibernate s).si = s.si := by
  simp [enterHibernate]
@[simp] theorem enterHibernate_fe : (enterHibernate s).fe = s.fe := by
  simp [enterHibernate]
@[simp] theorem enterHibernate_ws : (enterHibernate s).ws = s.ws := by
  simp [enterHibernate]
@[simp] theorem enterHibernate_et : (enterHibernate s).et = s.et := by
  simp [enterHibernate]
@[simp] theorem enterHibernate_al : (enterHibernate s).al = s.al := by
  simp [enterHibernate]
@[simp] theorem enterHibernate_hm : (enterHibernate s).hm = s.hm := by
  simp [enterHibernate]
@[simp] theorem enterHibernate_ca : (enterHibernate s).ca = s.ca := by
  simp [enterHibernate]
@[simp] theorem enterHibernate_hc : (enterHibernate s).hc = s.hc := by
  simp [enterHibernate]
@[simp] theorem enterHibernate_sl : (enterHibernate s).sl = s.sl := by
  simp [enterHibernate]
@[simp] theorem enterHibernate_sm : (enterHibernate s).sm = s.sm := by
  simp [enterHibernate]
@[simp] theorem enterHibernate_lines : (enterHibernate s).lines = s.lines := by
  simp [enterHibernate]
@[simp] theorem enterHibernate_freeCount : (enterHibernate s).freeCount = s.freeCount := by
  simp [enterHibernate]
@[simp] theorem enterHibernate_pending : (enterHibernate s).pending = s.pending := by
  simp [enterHibernate]

@[simp] theorem announceTier_powered (b : Bool) (t : Tier) : (announceTier b t s).powered = s.powered := by
  unfold announceTier; dsimp only; split <;> simp
@[simp] theorem announceTier_clk (b : Bool) (t : Tier) : (announceTier b t s).clk = s.clk := by
  unfold announceTier; dsimp only; split <;> simp
@[simp] theorem announceTier_tb (b : Bool) (t : Tier) : (announceTier b t s).tb = s.tb := by
  unfold announceTier; dsimp only; split <;> simp
@[simp] theorem announceTier_si (b : Bool) (t : Tier) : (announceTier b t s).si = s.si := by
  unfold announceTier; dsimp only; split <;> simp
@[simp] theorem announceTier_fe (b : Bool) (t : Tier) : (announceTier b t s).fe = s.fe := by
  unfold announceTier; dsimp only; split <;> simp
@[simp] theorem announceTier_tu (b : Bool) (t : Tier) : (announceTier b t s).tu = s.tu := by
  unfold announceTier; dsimp only; split <;> simp
@[simp] theorem announceTier_ws (b : Bool) (t : Tier) : (announceTier b t s).ws = s.ws := by
  unfold announceTier; dsimp only; split <;> simp
@[simp] theorem announceTier_hm (b : Bool) (t : Tier) : (announceTier b t s).hm = s.hm := by
  unfold announceTier; dsimp only; split <;> simp
@[simp] theorem announceTier_ca (b : Bool) (t : Tier) : (announceTier b t s).ca = s.ca := by
  unfold announceTier; dsimp only; split <;> simp
@[simp] theorem announceTier_hc (b : Bool) (t : Tier) : (announceTier b t s).hc = s.hc := by
  unfold announceTier; dsimp only; split <;> simp
@[simp] theorem announceTier_sm (b : Bool) (t : Tier) : (announceTier b t s).sm = s.sm := by
  unfold announceTier; dsimp only; split <;> simp
@[simp] theorem announceTier_lines (b : Bool) (t : Tier) : (announceTier b t s).lines = s.lines := by
  unfold announceTier; dsimp only; split <;> simp
@[simp] theorem announceTier_freeCount (b : Bool) (t : Tier) : (announceTier b t s).freeCount = s.freeCount := by
  unfold announceTier; dsimp only; split <;> simp
@[simp] theorem announceTier_pending (b : Bool) (t : Tier) : (announceTier b t s).pending = s.pending := by
  unfold announceTier; dsimp only; split <;> simp

@[simp] theorem tierChange_powered (b : Bool) (t : Tier) : (tierChange b t s).powered = s.powered := by
  unfold tierChange; dsimp only; (repeat' split) <;> simp
@[simp] theorem tierChange_clk (b : Bool) (t : Tier) : (tierChange b t s).clk = s.clk := by
  unfold tierChange; dsimp only; (repeat' split) <;> simp
@[simp] theorem tierChange_hm (b : Bool) (t : Tier) : (tierChange b t s).hm = s.hm := by
  unfold tierChange; dsimp only; (repeat' split) <;> simp
@[simp] theorem tierChange_ca (b : Bool) (t : Tier) : (tierChange b t s).ca = s.ca := by
  unfold tierChange; dsimp only; (repeat' split) <;> simp
@[simp] theorem tierChange_sm (b : Bool) (t : Tier) : (tierChange b t s).sm = s.sm := by
  unfold tierChange; dsimp only; (repeat' split) <;> simp
@[simp] theorem tierChange_lines (b : Bool) (t : Tier) : (tierChange b t s).lines = s.lines := by
  unfold tierChange; dsimp only; (repeat' split) <;> simp
@[simp] theorem tierChange_freeCount (b : Bool) (t : Tier) : (tierChange b t s).freeCount = s.freeCount := by
  unfold tierChange; dsimp only; (repeat' split) <;> simp
@[simp] theorem tierChange_pending (b : Bool) (t : Tier) : (tierChange b t s).pending = s.pending := by
  unfold tierChange; dsimp only; (repeat' split) <;> simp

@[simp] theorem beginExit_powered : (beginExit s).powered = s.powered := by
  simp [beginExit]
@[simp] theorem beginExit_clk : (beginExit s).clk = s.clk := by
  simp [beginExit]
@[simp] theorem beginExit_si : (beginExit s).si = s.si := by
  simp [beginExit]
@[simp] theorem beginExit_fe : (beginExit s).fe = s.fe := by
  simp [beginExit]
@[simp] theorem beginExit_tu : (beginExit s).tu = s.tu := by
  simp [beginExit]
@[simp] theorem beginExit_ws : (beginExit s).ws = s.ws := by
  simp [beginExit]
@[simp] theorem beginExit_et : (beginExit s).et = s.et := by
  simp [beginExit]
@[simp] theorem beginExit_al : (beginExit s).al = s.al := by
  simp [beginExit]
@[simp] theorem beginExit_hm : (beginExit s).hm = s.hm := by
  simp [beginExit]
@[simp] theorem beginExit_ca : (beginExit s).ca = s.ca := by
  simp [beginExit]
@[simp] theorem beginExit_hc : (beginExit s).hc = s.hc := by
  simp [beginExit]
@[simp] theorem beginExit_sl : (beginExit s).sl = s.sl := by
  simp [beginExit]
@[simp] theorem beginExit_sm : (beginExit s).sm = s.sm := by
  simp [beginExit]
@[simp] theorem beginExit_lines : (beginExit s).lines = s.lines := by
  simp [beginExit]
@[simp] theorem beginExit_freeCount : (beginExit s).freeCount = s.freeCount := by
  simp [beginExit]
@[simp] theorem beginExit_pending : (beginExit s).pending = s.pending := by
  simp [beginExit]

@[simp] theorem hibernateScan_powered (b : Bool) : (hibernateScan b s).powered = s.powered := by
  unfold hibernateScan; (repeat' split) <;> simp
@[simp] theorem hibernateScan_clk (b : Bool) : (hibernateScan b s).clk = s.clk := by
  unfold hibernateScan; (repeat' split) <;> simp
@[simp] theorem hibernateScan_hm (b : Bool) : (hibernateScan b s).hm = s.hm := by
  unfold hibernateScan; (repeat' split) <;> simp
@[simp] theorem hibernateScan_ca (b : Bool) : (hibernateScan b s).ca = s.ca := by
  unfold hibernateScan; (repeat' split) <;> simp
@[simp] theorem hibernateScan_sm (b : Bool) : (hibernateScan b s).sm = s.sm := by
  unfold hibernateScan; (repeat' split) <;> simp
@[simp] theorem hibernateScan_lines (b : Bool) : (hibernateScan b s).lines = s.lines := by
  unfold hibernateScan; (repeat' split) <;> simp
@[simp] theorem hibernateScan_freeCount (b : Bool) : (hibernateScan b s).freeCount = s.freeCount := by
  unfold hibernateScan; (repeat' split) <;> simp
@[simp] theorem hibernateScan_pending (b : Bool) : (hibernateScan b s).pending = s.pending := by
  unfold hibernateScan; (repeat' split) <;> simp

@[simp] theorem tierScan_powered (b : Bool) : (tierScan b s).powered = s.powered := by
  unfold tierScan; dsimp only; (repeat' split) <;> simp
@[simp] theorem tierScan_clk (b : Bool) : (tierScan b s).clk = s.clk := by
  unfold tierScan; dsimp only; (repeat' split) <;> simp
@[simp] theorem tierScan_hm (b : Bool) : (tierScan b s).hm = s.hm := by
  unfold tierScan; dsimp only; (repeat' split) <;> simp
@[simp] theorem tierScan_ca (b : Bool) : (tierScan b s).ca = s.ca := by
  unfold tierScan; dsimp only; (repeat' split) <;> simp
@[simp] theorem tierScan_sm (b : Bool) : (tierScan b s).sm = s.sm := by
  unfold tierScan; dsimp only; (repeat' split) <;> simp
@[simp] theorem tierScan_lines (b : Bool) : (tierScan b s).lines = s.lines := by
  unfold tierScan; dsimp only; (repeat' split) <;> simp
@[simp] theorem tierScan_freeCount (b : Bool) : (tierScan b s).freeCount = s.freeCount := by
  unfold tierScan; dsimp only; (repeat' split) <;> simp
@[simp] theorem tierScan_pending (b : Bool) : (tierScan b s).pending = s.pending := by
  unfold tierScan; dsimp only; (repeat' split) <;> simp

@[simp] theorem returnToMain_powered : (returnToMain s).powered = s.powered := by
  unfold returnToMain; dsimp only; (repeat' split) <;> simp
@[simp] theorem returnToMain_si : (returnToMain s).si = s.si := by
  unfold returnToMain; dsimp only; (repeat' split) <;> simp
@[simp] theorem returnToMain_fe : (returnToMain s).fe = s.fe := by
  unfold returnToMain; dsimp only; (repeat' split) <;> simp
@[simp] theorem returnToMain_tu : (returnToMain s).tu = s.tu := by
  unfold returnToMain; dsimp only; (repeat' split) <;> simp
@[simp] theorem returnToMain_ws : (returnToMain s).ws = s.ws := by
  unfold returnToMain; dsimp only; (repeat' split) <;> simp
@[simp] theorem returnToMain_hm : (returnToMain s).hm = s.hm := by
  unfold returnToMain; dsimp only; (repeat' split) <;> simp
@[simp] theorem returnToMain_ca : (returnToMain s).ca = s.ca := by
  unfold returnToMain; dsimp only; (repeat' split) <;> simp
@[simp] theorem returnToMain_hc : (returnToMain s).hc = s.hc := by
  unfold returnToMain; dsimp only; (repeat' split) <;> simp
@[simp] theorem returnToMain_sm : (returnToMain s).sm = s.sm := by
  unfold returnToMain; dsimp only; (repeat' split) <;> simp
@[simp] theorem returnToMain_lines : (returnToMain s).lines = s.lines := by
  unfold returnToMain; dsimp only; (repeat' split) <;> simp
@[simp] theorem returnToMain_freeCount : (returnToMain s).freeCount = s.freeCount := by
  unfold returnToMain; dsimp only; (repeat' split) <;> simp
@[simp] theorem returnToMain_pending : (returnToMain s).pending = s.pending := by
  unfold returnToMain; dsimp only; (repeat' split) <;> simp

@[simp] theorem completeExit_powered : (completeExit s).powered = s.powered := by
  unfold completeExit; dsimp only; split <;> simp
@[simp] theorem completeExit_hm : (completeExit s).hm = s.hm := by
  unfold completeExit; dsimp only; split <;> simp
@[simp] theorem completeExit_ca : (completeExit s).ca = s.ca := by
  unfold completeExit; dsimp only; split <;> simp
@[simp] theorem completeExit_sm : (completeExit s).sm = s.sm := by
  unfold completeExit; dsimp only; split <;> simp
@[simp] theorem completeExit_lines : (completeExit s).lines = s.lines := by
  unfold completeExit; dsimp only; split <;> simp
@[simp] theorem completeExit_freeCount : (completeExit s).freeCount = s.freeCount := by
  unfold completeExit; dsimp only; split <;> simp
@[simp] theorem completeExit_pending : (completeExit s).pending = s.pending := by
  unfold completeExit; dsimp only; split <;> simp

end Sys2Proof.Machine
end

