-- ==== Sys2Proof/Laws/FramesMeanings.lean ====
section
/-! SUPPORT. The frame of each shared operation of the uplink and of the meanings of single commands: one lemma for each block of State that the
operation leaves as it is. -/

namespace Sys2Proof.Machine

-- One theorem after the other, so that few threads wait at a time.
set_option Elab.async false

variable (s : State)

@[simp] theorem decideUplink_powered : (decideUplink s).powered = s.powered := by
  unfold decideUplink; dsimp only; (repeat' split) <;> simp
@[simp] theorem decideUplink_clk : (decideUplink s).clk = s.clk := by
  unfold decideUplink; dsimp only; (repeat' split) <;> simp
@[simp] theorem decideUplink_tb : (decideUplink s).tb = s.tb := by
  unfold decideUplink; dsimp only; (repeat' split) <;> simp
@[simp] theorem decideUplink_si : (decideUplink s).si = s.si := by
  unfold decideUplink; dsimp only; (repeat' split) <;> simp
@[simp] theorem decideUplink_fe : (decideUplink s).fe = s.fe := by
  unfold decideUplink; dsimp only; (repeat' split) <;> simp
@[simp] theorem decideUplink_tu : (decideUplink s).tu = s.tu := by
  unfold decideUplink; dsimp only; (repeat' split) <;> simp
@[simp] theorem decideUplink_ws : (decideUplink s).ws = s.ws := by
  unfold decideUplink; dsimp only; (repeat' split) <;> simp
@[simp] theorem decideUplink_et : (decideUplink s).et = s.et := by
  unfold decideUplink; dsimp only; (repeat' split) <;> simp
@[simp] theorem decideUplink_hm : (decideUplink s).hm = s.hm := by
  unfold decideUplink; dsimp only; (repeat' split) <;> simp
@[simp] theorem decideUplink_ca : (decideUplink s).ca = s.ca := by
  unfold decideUplink; dsimp only; (repeat' split) <;> simp
@[simp] theorem decideUplink_hc : (decideUplink s).hc = s.hc := by
  unfold decideUplink; dsimp only; (repeat' split) <;> simp
@[simp] theorem decideUplink_sl : (decideUplink s).sl = s.sl := by
  unfold decideUplink; dsimp only; (repeat' split) <;> simp
@[simp] theorem decideUplink_sm : (decideUplink s).sm = s.sm := by
  unfold decideUplink; dsimp only; (repeat' split) <;> simp
@[simp] theorem decideUplink_lines : (decideUplink s).lines = s.lines := by
  unfold decideUplink; dsimp only; (repeat' split) <;> simp
@[simp] theorem decideUplink_freeCount : (decideUplink s).freeCount = s.freeCount := by
  unfold decideUplink; dsimp only; (repeat' split) <;> simp
@[simp] theorem decideUplink_pending : (decideUplink s).pending = s.pending := by
  unfold decideUplink; dsimp only; (repeat' split) <;> simp

@[simp] theorem railMark_powered : (railMark s).powered = s.powered := by
  unfold railMark; split <;> simp
@[simp] theorem railMark_clk : (railMark s).clk = s.clk := by
  unfold railMark; split <;> simp
@[simp] theorem railMark_tb : (railMark s).tb = s.tb := by
  unfold railMark; split <;> simp
@[simp] theorem railMark_si : (railMark s).si = s.si := by
  unfold railMark; split <;> simp
@[simp] theorem railMark_fe : (railMark s).fe = s.fe := by
  unfold railMark; split <;> simp
@[simp] theorem railMark_tu : (railMark s).tu = s.tu := by
  unfold railMark; split <;> simp
@[simp] theorem railMark_ws : (railMark s).ws = s.ws := by
  unfold railMark; split <;> simp
@[simp] theorem railMark_et : (railMark s).et = s.et := by
  unfold railMark; split <;> simp
@[simp] theorem railMark_hm : (railMark s).hm = s.hm := by
  unfold railMark; split <;> simp
@[simp] theorem railMark_ca : (railMark s).ca = s.ca := by
  unfold railMark; split <;> simp
@[simp] theorem railMark_hc : (railMark s).hc = s.hc := by
  unfold railMark; split <;> simp
@[simp] theorem railMark_sl : (railMark s).sl = s.sl := by
  unfold railMark; split <;> simp
@[simp] theorem railMark_sm : (railMark s).sm = s.sm := by
  unfold railMark; split <;> simp
@[simp] theorem railMark_lines : (railMark s).lines = s.lines := by
  unfold railMark; split <;> simp
@[simp] theorem railMark_freeCount : (railMark s).freeCount = s.freeCount := by
  unfold railMark; split <;> simp
@[simp] theorem railMark_pending : (railMark s).pending = s.pending := by
  unfold railMark; split <;> simp

@[simp] theorem startAttempt_powered (n : Nat) (e : Entry) : (startAttempt n e s).powered = s.powered := by
  simp [startAttempt]
@[simp] theorem startAttempt_clk (n : Nat) (e : Entry) : (startAttempt n e s).clk = s.clk := by
  simp [startAttempt]
@[simp] theorem startAttempt_tb (n : Nat) (e : Entry) : (startAttempt n e s).tb = s.tb := by
  simp [startAttempt]
@[simp] theorem startAttempt_si (n : Nat) (e : Entry) : (startAttempt n e s).si = s.si := by
  simp [startAttempt]
@[simp] theorem startAttempt_fe (n : Nat) (e : Entry) : (startAttempt n e s).fe = s.fe := by
  simp [startAttempt]
@[simp] theorem startAttempt_tu (n : Nat) (e : Entry) : (startAttempt n e s).tu = s.tu := by
  simp [startAttempt]
@[simp] theorem startAttempt_ws (n : Nat) (e : Entry) : (startAttempt n e s).ws = s.ws := by
  simp [startAttempt]
@[simp] theorem startAttempt_hm (n : Nat) (e : Entry) : (startAttempt n e s).hm = s.hm := by
  simp [startAttempt]
@[simp] theorem startAttempt_ca (n : Nat) (e : Entry) : (startAttempt n e s).ca = s.ca := by
  simp [startAttempt]
@[simp] theorem startAttempt_hc (n : Nat) (e : Entry) : (startAttempt n e s).hc = s.hc := by
  simp [startAttempt]
@[simp] theorem startAttempt_pt (n : Nat) (e : Entry) : (startAttempt n e s).pt = s.pt := by
  simp [startAttempt]
@[simp] theorem startAttempt_sl (n : Nat) (e : Entry) : (startAttempt n e s).sl = s.sl := by
  simp [startAttempt]
@[simp] theorem startAttempt_sm (n : Nat) (e : Entry) : (startAttempt n e s).sm = s.sm := by
  simp [startAttempt]
@[simp] theorem startAttempt_lines (n : Nat) (e : Entry) : (startAttempt n e s).lines = s.lines := by
  simp [startAttempt]
@[simp] theorem startAttempt_freeCount (n : Nat) (e : Entry) : (startAttempt n e s).freeCount = s.freeCount := by
  simp [startAttempt]
@[simp] theorem startAttempt_pending (n : Nat) (e : Entry) : (startAttempt n e s).pending = s.pending := by
  simp [startAttempt]

@[simp] theorem issueChecks_powered (x : Decided) (b : Bool) : (issueChecks x b s).powered = s.powered := by
  unfold issueChecks; (repeat' split) <;> simp
@[simp] theorem issueChecks_clk (x : Decided) (b : Bool) : (issueChecks x b s).clk = s.clk := by
  unfold issueChecks; (repeat' split) <;> simp
@[simp] theorem issueChecks_tb (x : Decided) (b : Bool) : (issueChecks x b s).tb = s.tb := by
  unfold issueChecks; (repeat' split) <;> simp
@[simp] theorem issueChecks_si (x : Decided) (b : Bool) : (issueChecks x b s).si = s.si := by
  unfold issueChecks; (repeat' split) <;> simp
@[simp] theorem issueChecks_fe (x : Decided) (b : Bool) : (issueChecks x b s).fe = s.fe := by
  unfold issueChecks; (repeat' split) <;> simp
@[simp] theorem issueChecks_tu (x : Decided) (b : Bool) : (issueChecks x b s).tu = s.tu := by
  unfold issueChecks; (repeat' split) <;> simp
@[simp] theorem issueChecks_ws (x : Decided) (b : Bool) : (issueChecks x b s).ws = s.ws := by
  unfold issueChecks; (repeat' split) <;> simp
@[simp] theorem issueChecks_hm (x : Decided) (b : Bool) : (issueChecks x b s).hm = s.hm := by
  unfold issueChecks; (repeat' split) <;> simp
@[simp] theorem issueChecks_ca (x : Decided) (b : Bool) : (issueChecks x b s).ca = s.ca := by
  unfold issueChecks; (repeat' split) <;> simp
@[simp] theorem issueChecks_hc (x : Decided) (b : Bool) : (issueChecks x b s).hc = s.hc := by
  unfold issueChecks; (repeat' split) <;> simp
@[simp] theorem issueChecks_pt (x : Decided) (b : Bool) : (issueChecks x b s).pt = s.pt := by
  unfold issueChecks; (repeat' split) <;> simp
@[simp] theorem issueChecks_sl (x : Decided) (b : Bool) : (issueChecks x b s).sl = s.sl := by
  unfold issueChecks; (repeat' split) <;> simp
@[simp] theorem issueChecks_sm (x : Decided) (b : Bool) : (issueChecks x b s).sm = s.sm := by
  unfold issueChecks; (repeat' split) <;> simp
@[simp] theorem issueChecks_lines (x : Decided) (b : Bool) : (issueChecks x b s).lines = s.lines := by
  unfold issueChecks; (repeat' split) <;> simp
@[simp] theorem issueChecks_freeCount (x : Decided) (b : Bool) : (issueChecks x b s).freeCount = s.freeCount := by
  unfold issueChecks; (repeat' split) <;> simp
@[simp] theorem issueChecks_pending (x : Decided) (b : Bool) : (issueChecks x b s).pending = s.pending := by
  unfold issueChecks; (repeat' split) <;> simp

@[simp] theorem takeIssue_powered (x : Decided) (b : Bool) : (takeIssue x b s).powered = s.powered := by
  simp [takeIssue]
@[simp] theorem takeIssue_clk (x : Decided) (b : Bool) : (takeIssue x b s).clk = s.clk := by
  simp [takeIssue]
@[simp] theorem takeIssue_tb (x : Decided) (b : Bool) : (takeIssue x b s).tb = s.tb := by
  simp [takeIssue]
@[simp] theorem takeIssue_si (x : Decided) (b : Bool) : (takeIssue x b s).si = s.si := by
  simp [takeIssue]
@[simp] theorem takeIssue_fe (x : Decided) (b : Bool) : (takeIssue x b s).fe = s.fe := by
  simp [takeIssue]
@[simp] theorem takeIssue_tu (x : Decided) (b : Bool) : (takeIssue x b s).tu = s.tu := by
  simp [takeIssue]
@[simp] theorem takeIssue_ws (x : Decided) (b : Bool) : (takeIssue x b s).ws = s.ws := by
  simp [takeIssue]
@[simp] theorem takeIssue_hm (x : Decided) (b : Bool) : (takeIssue x b s).hm = s.hm := by
  simp [takeIssue]
@[simp] theorem takeIssue_ca (x : Decided) (b : Bool) : (takeIssue x b s).ca = s.ca := by
  simp [takeIssue]
@[simp] theorem takeIssue_hc (x : Decided) (b : Bool) : (takeIssue x b s).hc = s.hc := by
  simp [takeIssue]
@[simp] theorem takeIssue_sl (x : Decided) (b : Bool) : (takeIssue x b s).sl = s.sl := by
  simp [takeIssue]
@[simp] theorem takeIssue_sm (x : Decided) (b : Bool) : (takeIssue x b s).sm = s.sm := by
  simp [takeIssue]
@[simp] theorem takeIssue_lines (x : Decided) (b : Bool) : (takeIssue x b s).lines = s.lines := by
  simp [takeIssue]
@[simp] theorem takeIssue_freeCount (x : Decided) (b : Bool) : (takeIssue x b s).freeCount = s.freeCount := by
  simp [takeIssue]
@[simp] theorem takeIssue_pending (x : Decided) (b : Bool) : (takeIssue x b s).pending = s.pending := by
  simp [takeIssue]

@[simp] theorem leaveQueue_powered (o u : Bool) (e : Entry) : (leaveQueue o u e s).powered = s.powered := by
  unfold leaveQueue; dsimp only; split <;> simp
@[simp] theorem leaveQueue_clk (o u : Bool) (e : Entry) : (leaveQueue o u e s).clk = s.clk := by
  unfold leaveQueue; dsimp only; split <;> simp
@[simp] theorem leaveQueue_tb (o u : Bool) (e : Entry) : (leaveQueue o u e s).tb = s.tb := by
  unfold leaveQueue; dsimp only; split <;> simp
@[simp] theorem leaveQueue_si (o u : Bool) (e : Entry) : (leaveQueue o u e s).si = s.si := by
  unfold leaveQueue; dsimp only; split <;> simp
@[simp] theorem leaveQueue_fe (o u : Bool) (e : Entry) : (leaveQueue o u e s).fe = s.fe := by
  unfold leaveQueue; dsimp only; split <;> simp
@[simp] theorem leaveQueue_tu (o u : Bool) (e : Entry) : (leaveQueue o u e s).tu = s.tu := by
  unfold leaveQueue; dsimp only; split <;> simp
@[simp] theorem leaveQueue_ws (o u : Bool) (e : Entry) : (leaveQueue o u e s).ws = s.ws := by
  unfold leaveQueue; dsimp only; split <;> simp
@[simp] theorem leaveQueue_hm (o u : Bool) (e : Entry) : (leaveQueue o u e s).hm = s.hm := by
  unfold leaveQueue; dsimp only; split <;> simp
@[simp] theorem leaveQueue_ca (o u : Bool) (e : Entry) : (leaveQueue o u e s).ca = s.ca := by
  unfold leaveQueue; dsimp only; split <;> simp
@[simp] theorem leaveQueue_hc (o u : Bool) (e : Entry) : (leaveQueue o u e s).hc = s.hc := by
  unfold leaveQueue; dsimp only; split <;> simp
@[simp] theorem leaveQueue_sm (o u : Bool) (e : Entry) : (leaveQueue o u e s).sm = s.sm := by
  unfold leaveQueue; dsimp only; split <;> simp
@[simp] theorem leaveQueue_lines (o u : Bool) (e : Entry) : (leaveQueue o u e s).lines = s.lines := by
  unfold leaveQueue; dsimp only; split <;> simp
@[simp] theorem leaveQueue_freeCount (o u : Bool) (e : Entry) : (leaveQueue o u e s).freeCount = s.freeCount := by
  unfold leaveQueue; dsimp only; split <;> simp
@[simp] theorem leaveQueue_pending (o u : Bool) (e : Entry) : (leaveQueue o u e s).pending = s.pending := by
  unfold leaveQueue; dsimp only; split <;> simp

@[simp] theorem returnToQueue_powered (u : Bool) (e : Entry) : (returnToQueue u e s).powered = s.powered := by
  simp [returnToQueue]
@[simp] theorem returnToQueue_clk (u : Bool) (e : Entry) : (returnToQueue u e s).clk = s.clk := by
  simp [returnToQueue]
@[simp] theorem returnToQueue_tb (u : Bool) (e : Entry) : (returnToQueue u e s).tb = s.tb := by
  simp [returnToQueue]
@[simp] theorem returnToQueue_si (u : Bool) (e : Entry) : (returnToQueue u e s).si = s.si := by
  simp [returnToQueue]
@[simp] theorem returnToQueue_fe (u : Bool) (e : Entry) : (returnToQueue u e s).fe = s.fe := by
  simp [returnToQueue]
@[simp] theorem returnToQueue_tu (u : Bool) (e : Entry) : (returnToQueue u e s).tu = s.tu := by
  simp [returnToQueue]
@[simp] theorem returnToQueue_ws (u : Bool) (e : Entry) : (returnToQueue u e s).ws = s.ws := by
  simp [returnToQueue]
@[simp] theorem returnToQueue_hm (u : Bool) (e : Entry) : (returnToQueue u e s).hm = s.hm := by
  simp [returnToQueue]
@[simp] theorem returnToQueue_ca (u : Bool) (e : Entry) : (returnToQueue u e s).ca = s.ca := by
  simp [returnToQueue]
@[simp] theorem returnToQueue_hc (u : Bool) (e : Entry) : (returnToQueue u e s).hc = s.hc := by
  simp [returnToQueue]
@[simp] theorem returnToQueue_pt (u : Bool) (e : Entry) : (returnToQueue u e s).pt = s.pt := by
  simp [returnToQueue]
@[simp] theorem returnToQueue_sl (u : Bool) (e : Entry) : (returnToQueue u e s).sl = s.sl := by
  simp [returnToQueue]
@[simp] theorem returnToQueue_sm (u : Bool) (e : Entry) : (returnToQueue u e s).sm = s.sm := by
  simp [returnToQueue]
@[simp] theorem returnToQueue_lines (u : Bool) (e : Entry) : (returnToQueue u e s).lines = s.lines := by
  simp [returnToQueue]
@[simp] theorem returnToQueue_freeCount (u : Bool) (e : Entry) : (returnToQueue u e s).freeCount = s.freeCount := by
  simp [returnToQueue]
@[simp] theorem returnToQueue_pending (u : Bool) (e : Entry) : (returnToQueue u e s).pending = s.pending := by
  simp [returnToQueue]

@[simp] theorem followOn_powered (l : Bool) (e : Entry) (f : Option Subject) : (followOn l e f s).powered = s.powered := by
  unfold followOn; (repeat' split) <;> simp
@[simp] theorem followOn_clk (l : Bool) (e : Entry) (f : Option Subject) : (followOn l e f s).clk = s.clk := by
  unfold followOn; (repeat' split) <;> simp
@[simp] theorem followOn_tb (l : Bool) (e : Entry) (f : Option Subject) : (followOn l e f s).tb = s.tb := by
  unfold followOn; (repeat' split) <;> simp
@[simp] theorem followOn_si (l : Bool) (e : Entry) (f : Option Subject) : (followOn l e f s).si = s.si := by
  unfold followOn; (repeat' split) <;> simp
@[simp] theorem followOn_fe (l : Bool) (e : Entry) (f : Option Subject) : (followOn l e f s).fe = s.fe := by
  unfold followOn; (repeat' split) <;> simp
@[simp] theorem followOn_tu (l : Bool) (e : Entry) (f : Option Subject) : (followOn l e f s).tu = s.tu := by
  unfold followOn; (repeat' split) <;> simp
@[simp] theorem followOn_ws (l : Bool) (e : Entry) (f : Option Subject) : (followOn l e f s).ws = s.ws := by
  unfold followOn; (repeat' split) <;> simp
@[simp] theorem followOn_hm (l : Bool) (e : Entry) (f : Option Subject) : (followOn l e f s).hm = s.hm := by
  unfold followOn; (repeat' split) <;> simp
@[simp] theorem followOn_ca (l : Bool) (e : Entry) (f : Option Subject) : (followOn l e f s).ca = s.ca := by
  unfold followOn; (repeat' split) <;> simp
@[simp] theorem followOn_hc (l : Bool) (e : Entry) (f : Option Subject) : (followOn l e f s).hc = s.hc := by
  unfold followOn; (repeat' split) <;> simp
@[simp] theorem followOn_sm (l : Bool) (e : Entry) (f : Option Subject) : (followOn l e f s).sm = s.sm := by
  unfold followOn; (repeat' split) <;> simp
@[simp] theorem followOn_lines (l : Bool) (e : Entry) (f : Option Subject) : (followOn l e f s).lines = s.lines := by
  unfold followOn; (repeat' split) <;> simp
@[simp] theorem followOn_freeCount (l : Bool) (e : Entry) (f : Option Subject) : (followOn l e f s).freeCount = s.freeCount := by
  unfold followOn; (repeat' split) <;> simp
@[simp] theorem followOn_pending (l : Bool) (e : Entry) (f : Option Subject) : (followOn l e f s).pending = s.pending := by
  unfold followOn; (repeat' split) <;> simp

@[simp] theorem settleEntry_powered (o : Bool) (a : Attempt) (e : Entry) : (settleEntry o a e s).powered = s.powered := by
  unfold settleEntry; dsimp only; split <;> simp
@[simp] theorem settleEntry_clk (o : Bool) (a : Attempt) (e : Entry) : (settleEntry o a e s).clk = s.clk := by
  unfold settleEntry; dsimp only; split <;> simp
@[simp] theorem settleEntry_tb (o : Bool) (a : Attempt) (e : Entry) : (settleEntry o a e s).tb = s.tb := by
  unfold settleEntry; dsimp only; split <;> simp
@[simp] theorem settleEntry_si (o : Bool) (a : Attempt) (e : Entry) : (settleEntry o a e s).si = s.si := by
  unfold settleEntry; dsimp only; split <;> simp
@[simp] theorem settleEntry_fe (o : Bool) (a : Attempt) (e : Entry) : (settleEntry o a e s).fe = s.fe := by
  unfold settleEntry; dsimp only; split <;> simp
@[simp] theorem settleEntry_tu (o : Bool) (a : Attempt) (e : Entry) : (settleEntry o a e s).tu = s.tu := by
  unfold settleEntry; dsimp only; split <;> simp
@[simp] theorem settleEntry_ws (o : Bool) (a : Attempt) (e : Entry) : (settleEntry o a e s).ws = s.ws := by
  unfold settleEntry; dsimp only; split <;> simp
@[simp] theorem settleEntry_hm (o : Bool) (a : Attempt) (e : Entry) : (settleEntry o a e s).hm = s.hm := by
  unfold settleEntry; dsimp only; split <;> simp
@[simp] theorem settleEntry_ca (o : Bool) (a : Attempt) (e : Entry) : (settleEntry o a e s).ca = s.ca := by
  unfold settleEntry; dsimp only; split <;> simp
@[simp] theorem settleEntry_hc (o : Bool) (a : Attempt) (e : Entry) : (settleEntry o a e s).hc = s.hc := by
  unfold settleEntry; dsimp only; split <;> simp
@[simp] theorem settleEntry_sm (o : Bool) (a : Attempt) (e : Entry) : (settleEntry o a e s).sm = s.sm := by
  unfold settleEntry; dsimp only; split <;> simp
@[simp] theorem settleEntry_lines (o : Bool) (a : Attempt) (e : Entry) : (settleEntry o a e s).lines = s.lines := by
  unfold settleEntry; dsimp only; split <;> simp
@[simp] theorem settleEntry_freeCount (o : Bool) (a : Attempt) (e : Entry) : (settleEntry o a e s).freeCount = s.freeCount := by
  unfold settleEntry; dsimp only; split <;> simp
@[simp] theorem settleEntry_pending (o : Bool) (a : Attempt) (e : Entry) : (settleEntry o a e s).pending = s.pending := by
  unfold settleEntry; dsimp only; split <;> simp

@[simp] theorem endAttempt_powered (o : Bool) : (endAttempt o s).powered = s.powered := by
  unfold endAttempt; dsimp only; (repeat' split) <;> simp
@[simp] theorem endAttempt_clk (o : Bool) : (endAttempt o s).clk = s.clk := by
  unfold endAttempt; dsimp only; (repeat' split) <;> simp
@[simp] theorem endAttempt_si (o : Bool) : (endAttempt o s).si = s.si := by
  unfold endAttempt; dsimp only; (repeat' split) <;> simp
@[simp] theorem endAttempt_fe (o : Bool) : (endAttempt o s).fe = s.fe := by
  unfold endAttempt; dsimp only; (repeat' split) <;> simp
@[simp] theorem endAttempt_tu (o : Bool) : (endAttempt o s).tu = s.tu := by
  unfold endAttempt; dsimp only; (repeat' split) <;> simp
@[simp] theorem endAttempt_ws (o : Bool) : (endAttempt o s).ws = s.ws := by
  unfold endAttempt; dsimp only; (repeat' split) <;> simp
@[simp] theorem endAttempt_hm (o : Bool) : (endAttempt o s).hm = s.hm := by
  unfold endAttempt; dsimp only; (repeat' split) <;> simp
@[simp] theorem endAttempt_ca (o : Bool) : (endAttempt o s).ca = s.ca := by
  unfold endAttempt; dsimp only; (repeat' split) <;> simp
@[simp] theorem endAttempt_hc (o : Bool) : (endAttempt o s).hc = s.hc := by
  unfold endAttempt; dsimp only; (repeat' split) <;> simp
@[simp] theorem endAttempt_sm (o : Bool) : (endAttempt o s).sm = s.sm := by
  unfold endAttempt; dsimp only; (repeat' split) <;> simp
@[simp] theorem endAttempt_lines (o : Bool) : (endAttempt o s).lines = s.lines := by
  unfold endAttempt; dsimp only; (repeat' split) <;> simp
@[simp] theorem endAttempt_freeCount (o : Bool) : (endAttempt o s).freeCount = s.freeCount := by
  unfold endAttempt; dsimp only; (repeat' split) <;> simp
@[simp] theorem endAttempt_pending (o : Bool) : (endAttempt o s).pending = s.pending := by
  unfold endAttempt; dsimp only; (repeat' split) <;> simp

@[simp] theorem setStage_powered (x : Stage) : (setStage x s).powered = s.powered := by
  simp [setStage]
@[simp] theorem setStage_clk (x : Stage) : (setStage x s).clk = s.clk := by
  simp [setStage]
@[simp] theorem setStage_tb (x : Stage) : (setStage x s).tb = s.tb := by
  simp [setStage]
@[simp] theorem setStage_si (x : Stage) : (setStage x s).si = s.si := by
  simp [setStage]
@[simp] theorem setStage_fe (x : Stage) : (setStage x s).fe = s.fe := by
  simp [setStage]
@[simp] theorem setStage_tu (x : Stage) : (setStage x s).tu = s.tu := by
  simp [setStage]
@[simp] theorem setStage_ws (x : Stage) : (setStage x s).ws = s.ws := by
  simp [setStage]
@[simp] theorem setStage_et (x : Stage) : (setStage x s).et = s.et := by
  simp [setStage]
@[simp] theorem setStage_hm (x : Stage) : (setStage x s).hm = s.hm := by
  simp [setStage]
@[simp] theorem setStage_ca (x : Stage) : (setStage x s).ca = s.ca := by
  simp [setStage]
@[simp] theorem setStage_hc (x : Stage) : (setStage x s).hc = s.hc := by
  simp [setStage]
@[simp] theorem setStage_pt (x : Stage) : (setStage x s).pt = s.pt := by
  simp [setStage]
@[simp] theorem setStage_sl (x : Stage) : (setStage x s).sl = s.sl := by
  simp [setStage]
@[simp] theorem setStage_sm (x : Stage) : (setStage x s).sm = s.sm := by
  simp [setStage]
@[simp] theorem setStage_lines (x : Stage) : (setStage x s).lines = s.lines := by
  simp [setStage]
@[simp] theorem setStage_freeCount (x : Stage) : (setStage x s).freeCount = s.freeCount := by
  simp [setStage]
@[simp] theorem setStage_pending (x : Stage) : (setStage x s).pending = s.pending := by
  simp [setStage]

@[simp] theorem dropSent_powered : (dropSent s).powered = s.powered := by
  simp [dropSent]
@[simp] theorem dropSent_clk : (dropSent s).clk = s.clk := by
  simp [dropSent]
@[simp] theorem dropSent_tb : (dropSent s).tb = s.tb := by
  simp [dropSent]
@[simp] theorem dropSent_si : (dropSent s).si = s.si := by
  simp [dropSent]
@[simp] theorem dropSent_fe : (dropSent s).fe = s.fe := by
  simp [dropSent]
@[simp] theorem dropSent_tu : (dropSent s).tu = s.tu := by
  simp [dropSent]
@[simp] theorem dropSent_ws : (dropSent s).ws = s.ws := by
  simp [dropSent]
@[simp] theorem dropSent_et : (dropSent s).et = s.et := by
  simp [dropSent]
@[simp] theorem dropSent_hm : (dropSent s).hm = s.hm := by
  simp [dropSent]
@[simp] theorem dropSent_ca : (dropSent s).ca = s.ca := by
  simp [dropSent]
@[simp] theorem dropSent_hc : (dropSent s).hc = s.hc := by
  simp [dropSent]
@[simp] theorem dropSent_pt : (dropSent s).pt = s.pt := by
  simp [dropSent]
@[simp] theorem dropSent_sl : (dropSent s).sl = s.sl := by
  simp [dropSent]
@[simp] theorem dropSent_sm : (dropSent s).sm = s.sm := by
  simp [dropSent]
@[simp] theorem dropSent_lines : (dropSent s).lines = s.lines := by
  simp [dropSent]
@[simp] theorem dropSent_freeCount : (dropSent s).freeCount = s.freeCount := by
  simp [dropSent]
@[simp] theorem dropSent_pending : (dropSent s).pending = s.pending := by
  simp [dropSent]

@[simp] theorem strayFrame_powered : (strayFrame s).powered = s.powered := by
  simp [strayFrame]
@[simp] theorem strayFrame_clk : (strayFrame s).clk = s.clk := by
  simp [strayFrame]
@[simp] theorem strayFrame_tb : (strayFrame s).tb = s.tb := by
  simp [strayFrame]
@[simp] theorem strayFrame_si : (strayFrame s).si = s.si := by
  simp [strayFrame]
@[simp] theorem strayFrame_fe : (strayFrame s).fe = s.fe := by
  simp [strayFrame]
@[simp] theorem strayFrame_tu : (strayFrame s).tu = s.tu := by
  simp [strayFrame]
@[simp] theorem strayFrame_ws : (strayFrame s).ws = s.ws := by
  simp [strayFrame]
@[simp] theorem strayFrame_et : (strayFrame s).et = s.et := by
  simp [strayFrame]
@[simp] theorem strayFrame_hm : (strayFrame s).hm = s.hm := by
  simp [strayFrame]
@[simp] theorem strayFrame_ca : (strayFrame s).ca = s.ca := by
  simp [strayFrame]
@[simp] theorem strayFrame_hc : (strayFrame s).hc = s.hc := by
  simp [strayFrame]
@[simp] theorem strayFrame_pt : (strayFrame s).pt = s.pt := by
  simp [strayFrame]
@[simp] theorem strayFrame_sl : (strayFrame s).sl = s.sl := by
  simp [strayFrame]
@[simp] theorem strayFrame_sm : (strayFrame s).sm = s.sm := by
  simp [strayFrame]
@[simp] theorem strayFrame_lines : (strayFrame s).lines = s.lines := by
  simp [strayFrame]
@[simp] theorem strayFrame_freeCount : (strayFrame s).freeCount = s.freeCount := by
  simp [strayFrame]
@[simp] theorem strayFrame_pending : (strayFrame s).pending = s.pending := by
  simp [strayFrame]

@[simp] theorem takeModemFrame_powered (k h : Byte) (b : List Byte) : (takeModemFrame k h b s).powered = s.powered := by
  unfold takeModemFrame; (repeat' split) <;> simp
@[simp] theorem takeModemFrame_clk (k h : Byte) (b : List Byte) : (takeModemFrame k h b s).clk = s.clk := by
  unfold takeModemFrame; (repeat' split) <;> simp
@[simp] theorem takeModemFrame_si (k h : Byte) (b : List Byte) : (takeModemFrame k h b s).si = s.si := by
  unfold takeModemFrame; (repeat' split) <;> simp
@[simp] theorem takeModemFrame_fe (k h : Byte) (b : List Byte) : (takeModemFrame k h b s).fe = s.fe := by
  unfold takeModemFrame; (repeat' split) <;> simp
@[simp] theorem takeModemFrame_tu (k h : Byte) (b : List Byte) : (takeModemFrame k h b s).tu = s.tu := by
  unfold takeModemFrame; (repeat' split) <;> simp
@[simp] theorem takeModemFrame_ws (k h : Byte) (b : List Byte) : (takeModemFrame k h b s).ws = s.ws := by
  unfold takeModemFrame; (repeat' split) <;> simp
@[simp] theorem takeModemFrame_hm (k h : Byte) (b : List Byte) : (takeModemFrame k h b s).hm = s.hm := by
  unfold takeModemFrame; (repeat' split) <;> simp
@[simp] theorem takeModemFrame_ca (k h : Byte) (b : List Byte) : (takeModemFrame k h b s).ca = s.ca := by
  unfold takeModemFrame; (repeat' split) <;> simp
@[simp] theorem takeModemFrame_hc (k h : Byte) (b : List Byte) : (takeModemFrame k h b s).hc = s.hc := by
  unfold takeModemFrame; (repeat' split) <;> simp
@[simp] theorem takeModemFrame_sm (k h : Byte) (b : List Byte) : (takeModemFrame k h b s).sm = s.sm := by
  unfold takeModemFrame; (repeat' split) <;> simp
@[simp] theorem takeModemFrame_lines (k h : Byte) (b : List Byte) : (takeModemFrame k h b s).lines = s.lines := by
  unfold takeModemFrame; (repeat' split) <;> simp
@[simp] theorem takeModemFrame_freeCount (k h : Byte) (b : List Byte) : (takeModemFrame k h b s).freeCount = s.freeCount := by
  unfold takeModemFrame; (repeat' split) <;> simp
@[simp] theorem takeModemFrame_pending (k h : Byte) (b : List Byte) : (takeModemFrame k h b s).pending = s.pending := by
  unfold takeModemFrame; (repeat' split) <;> simp

@[simp] theorem completeModemFrame_powered (f : List Byte) : (completeModemFrame f s).powered = s.powered := by
  unfold completeModemFrame; dsimp only; split <;> simp
@[simp] theorem completeModemFrame_clk (f : List Byte) : (completeModemFrame f s).clk = s.clk := by
  unfold completeModemFrame; dsimp only; split <;> simp
@[simp] theorem completeModemFrame_si (f : List Byte) : (completeModemFrame f s).si = s.si := by
  unfold completeModemFrame; dsimp only; split <;> simp
@[simp] theorem completeModemFrame_fe (f : List Byte) : (completeModemFrame f s).fe = s.fe := by
  unfold completeModemFrame; dsimp only; split <;> simp
@[simp] theorem completeModemFrame_tu (f : List Byte) : (completeModemFrame f s).tu = s.tu := by
  unfold completeModemFrame; dsimp only; split <;> simp
@[simp] theorem completeModemFrame_ws (f : List Byte) : (completeModemFrame f s).ws = s.ws := by
  unfold completeModemFrame; dsimp only; split <;> simp
@[simp] theorem completeModemFrame_hm (f : List Byte) : (completeModemFrame f s).hm = s.hm := by
  unfold completeModemFrame; dsimp only; split <;> simp
@[simp] theorem completeModemFrame_ca (f : List Byte) : (completeModemFrame f s).ca = s.ca := by
  unfold completeModemFrame; dsimp only; split <;> simp
@[simp] theorem completeModemFrame_hc (f : List Byte) : (completeModemFrame f s).hc = s.hc := by
  unfold completeModemFrame; dsimp only; split <;> simp
@[simp] theorem completeModemFrame_sm (f : List Byte) : (completeModemFrame f s).sm = s.sm := by
  unfold completeModemFrame; dsimp only; split <;> simp
@[simp] theorem completeModemFrame_lines (f : List Byte) : (completeModemFrame f s).lines = s.lines := by
  unfold completeModemFrame; dsimp only; split <;> simp
@[simp] theorem completeModemFrame_freeCount (f : List Byte) : (completeModemFrame f s).freeCount = s.freeCount := by
  unfold completeModemFrame; dsimp only; split <;> simp
@[simp] theorem completeModemFrame_pending (f : List Byte) : (completeModemFrame f s).pending = s.pending := by
  unfold completeModemFrame; dsimp only; split <;> simp

@[simp] theorem modemByte_powered (b : Byte) : (modemByte s b).powered = s.powered := by
  unfold modemByte; dsimp only; (repeat' split) <;> simp
@[simp] theorem modemByte_clk (b : Byte) : (modemByte s b).clk = s.clk := by
  unfold modemByte; dsimp only; (repeat' split) <;> simp
@[simp] theorem modemByte_si (b : Byte) : (modemByte s b).si = s.si := by
  unfold modemByte; dsimp only; (repeat' split) <;> simp
@[simp] theorem modemByte_fe (b : Byte) : (modemByte s b).fe = s.fe := by
  unfold modemByte; dsimp only; (repeat' split) <;> simp
@[simp] theorem modemByte_tu (b : Byte) : (modemByte s b).tu = s.tu := by
  unfold modemByte; dsimp only; (repeat' split) <;> simp
@[simp] theorem modemByte_ws (b : Byte) : (modemByte s b).ws = s.ws := by
  unfold modemByte; dsimp only; (repeat' split) <;> simp
@[simp] theorem modemByte_hm (b : Byte) : (modemByte s b).hm = s.hm := by
  unfold modemByte; dsimp only; (repeat' split) <;> simp
@[simp] theorem modemByte_ca (b : Byte) : (modemByte s b).ca = s.ca := by
  unfold modemByte; dsimp only; (repeat' split) <;> simp
@[simp] theorem modemByte_hc (b : Byte) : (modemByte s b).hc = s.hc := by
  unfold modemByte; dsimp only; (repeat' split) <;> simp
@[simp] theorem modemByte_sm (b : Byte) : (modemByte s b).sm = s.sm := by
  unfold modemByte; dsimp only; (repeat' split) <;> simp
@[simp] theorem modemByte_lines (b : Byte) : (modemByte s b).lines = s.lines := by
  unfold modemByte; dsimp only; (repeat' split) <;> simp
@[simp] theorem modemByte_freeCount (b : Byte) : (modemByte s b).freeCount = s.freeCount := by
  unfold modemByte; dsimp only; (repeat' split) <;> simp
@[simp] theorem modemByte_pending (b : Byte) : (modemByte s b).pending = s.pending := by
  unfold modemByte; dsimp only; (repeat' split) <;> simp

@[simp] theorem modemReceives_powered (b : Byte) : (modemReceives s b).powered = s.powered := by
  unfold modemReceives; split <;> simp
@[simp] theorem receiveModem_powered (b : List Byte) : (receiveModem b s).powered = s.powered := by
  unfold receiveModem; exact foldl_keeps State.powered _ (fun s b => modemReceives_powered s b) _ _
@[simp] theorem modemReceives_clk (b : Byte) : (modemReceives s b).clk = s.clk := by
  unfold modemReceives; split <;> simp
@[simp] theorem receiveModem_clk (b : List Byte) : (receiveModem b s).clk = s.clk := by
  unfold receiveModem; exact foldl_keeps State.clk _ (fun s b => modemReceives_clk s b) _ _
@[simp] theorem modemReceives_si (b : Byte) : (modemReceives s b).si = s.si := by
  unfold modemReceives; split <;> simp
@[simp] theorem receiveModem_si (b : List Byte) : (receiveModem b s).si = s.si := by
  unfold receiveModem; exact foldl_keeps State.si _ (fun s b => modemReceives_si s b) _ _
@[simp] theorem modemReceives_fe (b : Byte) : (modemReceives s b).fe = s.fe := by
  unfold modemReceives; split <;> simp
@[simp] theorem receiveModem_fe (b : List Byte) : (receiveModem b s).fe = s.fe := by
  unfold receiveModem; exact foldl_keeps State.fe _ (fun s b => modemReceives_fe s b) _ _
@[simp] theorem modemReceives_tu (b : Byte) : (modemReceives s b).tu = s.tu := by
  unfold modemReceives; split <;> simp
@[simp] theorem receiveModem_tu (b : List Byte) : (receiveModem b s).tu = s.tu := by
  unfold receiveModem; exact foldl_keeps State.tu _ (fun s b => modemReceives_tu s b) _ _
@[simp] theorem modemReceives_ws (b : Byte) : (modemReceives s b).ws = s.ws := by
  unfold modemReceives; split <;> simp
@[simp] theorem receiveModem_ws (b : List Byte) : (receiveModem b s).ws = s.ws := by
  unfold receiveModem; exact foldl_keeps State.ws _ (fun s b => modemReceives_ws s b) _ _
@[simp] theorem modemReceives_hm (b : Byte) : (modemReceives s b).hm = s.hm := by
  unfold modemReceives; split <;> simp
@[simp] theorem receiveModem_hm (b : List Byte) : (receiveModem b s).hm = s.hm := by
  unfold receiveModem; exact foldl_keeps State.hm _ (fun s b => modemReceives_hm s b) _ _
@[simp] theorem modemReceives_ca (b : Byte) : (modemReceives s b).ca = s.ca := by
  unfold modemReceives; split <;> simp
@[simp] theorem receiveModem_ca (b : List Byte) : (receiveModem b s).ca = s.ca := by
  unfold receiveModem; exact foldl_keeps State.ca _ (fun s b => modemReceives_ca s b) _ _
@[simp] theorem modemReceives_hc (b : Byte) : (modemReceives s b).hc = s.hc := by
  unfold modemReceives; split <;> simp
@[simp] theorem receiveModem_hc (b : List Byte) : (receiveModem b s).hc = s.hc := by
  unfold receiveModem; exact foldl_keeps State.hc _ (fun s b => modemReceives_hc s b) _ _
@[simp] theorem modemReceives_sm (b : Byte) : (modemReceives s b).sm = s.sm := by
  unfold modemReceives; split <;> simp
@[simp] theorem receiveModem_sm (b : List Byte) : (receiveModem b s).sm = s.sm := by
  unfold receiveModem; exact foldl_keeps State.sm _ (fun s b => modemReceives_sm s b) _ _
@[simp] theorem modemReceives_lines (b : Byte) : (modemReceives s b).lines = s.lines := by
  unfold modemReceives; split <;> simp
@[simp] theorem receiveModem_lines (b : List Byte) : (receiveModem b s).lines = s.lines := by
  unfold receiveModem; exact foldl_keeps State.lines _ (fun s b => modemReceives_lines s b) _ _
@[simp] theorem modemReceives_freeCount (b : Byte) : (modemReceives s b).freeCount = s.freeCount := by
  unfold modemReceives; split <;> simp
@[simp] theorem receiveModem_freeCount (b : List Byte) : (receiveModem b s).freeCount = s.freeCount := by
  unfold receiveModem; exact foldl_keeps State.freeCount _ (fun s b => modemReceives_freeCount s b) _ _
@[simp] theorem modemReceives_pending (b : Byte) : (modemReceives s b).pending = s.pending := by
  unfold modemReceives; split <;> simp
@[simp] theorem receiveModem_pending (b : List Byte) : (receiveModem b s).pending = s.pending := by
  unfold receiveModem; exact foldl_keeps State.pending _ (fun s b => modemReceives_pending s b) _ _

@[simp] theorem transmitSent_powered : (transmitSent s).powered = s.powered := by
  unfold transmitSent; (repeat' split) <;> simp
@[simp] theorem transmitSent_clk : (transmitSent s).clk = s.clk := by
  unfold transmitSent; (repeat' split) <;> simp
@[simp] theorem transmitSent_tb : (transmitSent s).tb = s.tb := by
  unfold transmitSent; (repeat' split) <;> simp
@[simp] theorem transmitSent_si : (transmitSent s).si = s.si := by
  unfold transmitSent; (repeat' split) <;> simp
@[simp] theorem transmitSent_fe : (transmitSent s).fe = s.fe := by
  unfold transmitSent; (repeat' split) <;> simp
@[simp] theorem transmitSent_tu : (transmitSent s).tu = s.tu := by
  unfold transmitSent; (repeat' split) <;> simp
@[simp] theorem transmitSent_ws : (transmitSent s).ws = s.ws := by
  unfold transmitSent; (repeat' split) <;> simp
@[simp] theorem transmitSent_et : (transmitSent s).et = s.et := by
  unfold transmitSent; (repeat' split) <;> simp
@[simp] theorem transmitSent_hm : (transmitSent s).hm = s.hm := by
  unfold transmitSent; (repeat' split) <;> simp
@[simp] theorem transmitSent_ca : (transmitSent s).ca = s.ca := by
  unfold transmitSent; (repeat' split) <;> simp
@[simp] theorem transmitSent_hc : (transmitSent s).hc = s.hc := by
  unfold transmitSent; (repeat' split) <;> simp
@[simp] theorem transmitSent_pt : (transmitSent s).pt = s.pt := by
  unfold transmitSent; (repeat' split) <;> simp
@[simp] theorem transmitSent_sl : (transmitSent s).sl = s.sl := by
  unfold transmitSent; (repeat' split) <;> simp
@[simp] theorem transmitSent_sm : (transmitSent s).sm = s.sm := by
  unfold transmitSent; (repeat' split) <;> simp
@[simp] theorem transmitSent_lines : (transmitSent s).lines = s.lines := by
  unfold transmitSent; (repeat' split) <;> simp
@[simp] theorem transmitSent_freeCount : (transmitSent s).freeCount = s.freeCount := by
  unfold transmitSent; (repeat' split) <;> simp
@[simp] theorem transmitSent_pending : (transmitSent s).pending = s.pending := by
  unfold transmitSent; (repeat' split) <;> simp

@[simp] theorem stepPulse_powered (n : Nat) (x : Int) : (stepPulse n x s).powered = s.powered := by
  simp [stepPulse]
@[simp] theorem stepPulse_si (n : Nat) (x : Int) : (stepPulse n x s).si = s.si := by
  simp [stepPulse]
@[simp] theorem stepPulse_fe (n : Nat) (x : Int) : (stepPulse n x s).fe = s.fe := by
  simp [stepPulse]
@[simp] theorem stepPulse_tu (n : Nat) (x : Int) : (stepPulse n x s).tu = s.tu := by
  simp [stepPulse]
@[simp] theorem stepPulse_ws (n : Nat) (x : Int) : (stepPulse n x s).ws = s.ws := by
  simp [stepPulse]
@[simp] theorem stepPulse_hm (n : Nat) (x : Int) : (stepPulse n x s).hm = s.hm := by
  simp [stepPulse]
@[simp] theorem stepPulse_ca (n : Nat) (x : Int) : (stepPulse n x s).ca = s.ca := by
  simp [stepPulse]
@[simp] theorem stepPulse_hc (n : Nat) (x : Int) : (stepPulse n x s).hc = s.hc := by
  simp [stepPulse]
@[simp] theorem stepPulse_sm (n : Nat) (x : Int) : (stepPulse n x s).sm = s.sm := by
  simp [stepPulse]
@[simp] theorem stepPulse_lines (n : Nat) (x : Int) : (stepPulse n x s).lines = s.lines := by
  simp [stepPulse]
@[simp] theorem stepPulse_freeCount (n : Nat) (x : Int) : (stepPulse n x s).freeCount = s.freeCount := by
  simp [stepPulse]
@[simp] theorem stepPulse_pending (n : Nat) (x : Int) : (stepPulse n x s).pending = s.pending := by
  simp [stepPulse]

@[simp] theorem usePulse_powered (x : Int) : (usePulse x s).powered = s.powered := by
  unfold usePulse; dsimp only; split <;> simp
@[simp] theorem usePulse_clk (x : Int) : (usePulse x s).clk = s.clk := by
  unfold usePulse; dsimp only; split <;> simp
@[simp] theorem usePulse_si (x : Int) : (usePulse x s).si = s.si := by
  unfold usePulse; dsimp only; split <;> simp
@[simp] theorem usePulse_fe (x : Int) : (usePulse x s).fe = s.fe := by
  unfold usePulse; dsimp only; split <;> simp
@[simp] theorem usePulse_tu (x : Int) : (usePulse x s).tu = s.tu := by
  unfold usePulse; dsimp only; split <;> simp
@[simp] theorem usePulse_ws (x : Int) : (usePulse x s).ws = s.ws := by
  unfold usePulse; dsimp only; split <;> simp
@[simp] theorem usePulse_hm (x : Int) : (usePulse x s).hm = s.hm := by
  unfold usePulse; dsimp only; split <;> simp
@[simp] theorem usePulse_ca (x : Int) : (usePulse x s).ca = s.ca := by
  unfold usePulse; dsimp only; split <;> simp
@[simp] theorem usePulse_hc (x : Int) : (usePulse x s).hc = s.hc := by
  unfold usePulse; dsimp only; split <;> simp
@[simp] theorem usePulse_sm (x : Int) : (usePulse x s).sm = s.sm := by
  unfold usePulse; dsimp only; split <;> simp
@[simp] theorem usePulse_lines (x : Int) : (usePulse x s).lines = s.lines := by
  unfold usePulse; dsimp only; split <;> simp
@[simp] theorem usePulse_freeCount (x : Int) : (usePulse x s).freeCount = s.freeCount := by
  unfold usePulse; dsimp only; split <;> simp
@[simp] theorem usePulse_pending (x : Int) : (usePulse x s).pending = s.pending := by
  unfold usePulse; dsimp only; split <;> simp

@[simp] theorem rejectPulse_powered : (rejectPulse s).powered = s.powered := by
  simp [rejectPulse]
@[simp] theorem rejectPulse_clk : (rejectPulse s).clk = s.clk := by
  simp [rejectPulse]
@[simp] theorem rejectPulse_si : (rejectPulse s).si = s.si := by
  simp [rejectPulse]
@[simp] theorem rejectPulse_fe : (rejectPulse s).fe = s.fe := by
  simp [rejectPulse]
@[simp] theorem rejectPulse_tu : (rejectPulse s).tu = s.tu := by
  simp [rejectPulse]
@[simp] theorem rejectPulse_ws : (rejectPulse s).ws = s.ws := by
  simp [rejectPulse]
@[simp] theorem rejectPulse_et : (rejectPulse s).et = s.et := by
  simp [rejectPulse]
@[simp] theorem rejectPulse_al : (rejectPulse s).al = s.al := by
  simp [rejectPulse]
@[simp] theorem rejectPulse_hm : (rejectPulse s).hm = s.hm := by
  simp [rejectPulse]
@[simp] theorem rejectPulse_ca : (rejectPulse s).ca = s.ca := by
  simp [rejectPulse]
@[simp] theorem rejectPulse_hc : (rejectPulse s).hc = s.hc := by
  simp [rejectPulse]
@[simp] theorem rejectPulse_pt : (rejectPulse s).pt = s.pt := by
  simp [rejectPulse]
@[simp] theorem rejectPulse_sl : (rejectPulse s).sl = s.sl := by
  simp [rejectPulse]
@[simp] theorem rejectPulse_sm : (rejectPulse s).sm = s.sm := by
  simp [rejectPulse]
@[simp] theorem rejectPulse_lines : (rejectPulse s).lines = s.lines := by
  simp [rejectPulse]
@[simp] theorem rejectPulse_freeCount : (rejectPulse s).freeCount = s.freeCount := by
  simp [rejectPulse]
@[simp] theorem rejectPulse_pending : (rejectPulse s).pending = s.pending := by
  simp [rejectPulse]

@[simp] theorem acceptPulse_powered (n : Nat) : (acceptPulse n s).powered = s.powered := by
  unfold acceptPulse; dsimp only; (repeat' split) <;> simp
@[simp] theorem acceptPulse_si (n : Nat) : (acceptPulse n s).si = s.si := by
  unfold acceptPulse; dsimp only; (repeat' split) <;> simp
@[simp] theorem acceptPulse_fe (n : Nat) : (acceptPulse n s).fe = s.fe := by
  unfold acceptPulse; dsimp only; (repeat' split) <;> simp
@[simp] theorem acceptPulse_tu (n : Nat) : (acceptPulse n s).tu = s.tu := by
  unfold acceptPulse; dsimp only; (repeat' split) <;> simp
@[simp] theorem acceptPulse_ws (n : Nat) : (acceptPulse n s).ws = s.ws := by
  unfold acceptPulse; dsimp only; (repeat' split) <;> simp
@[simp] theorem acceptPulse_hm (n : Nat) : (acceptPulse n s).hm = s.hm := by
  unfold acceptPulse; dsimp only; (repeat' split) <;> simp
@[simp] theorem acceptPulse_ca (n : Nat) : (acceptPulse n s).ca = s.ca := by
  unfold acceptPulse; dsimp only; (repeat' split) <;> simp
@[simp] theorem acceptPulse_hc (n : Nat) : (acceptPulse n s).hc = s.hc := by
  unfold acceptPulse; dsimp only; (repeat' split) <;> simp
@[simp] theorem acceptPulse_sm (n : Nat) : (acceptPulse n s).sm = s.sm := by
  unfold acceptPulse; dsimp only; (repeat' split) <;> simp
@[simp] theorem acceptPulse_lines (n : Nat) : (acceptPulse n s).lines = s.lines := by
  unfold acceptPulse; dsimp only; (repeat' split) <;> simp
@[simp] theorem acceptPulse_freeCount (n : Nat) : (acceptPulse n s).freeCount = s.freeCount := by
  unfold acceptPulse; dsimp only; (repeat' split) <;> simp
@[simp] theorem acceptPulse_pending (n : Nat) : (acceptPulse n s).pending = s.pending := by
  unfold acceptPulse; dsimp only; (repeat' split) <;> simp

@[simp] theorem pulseEdge_powered : (pulseEdge s).powered = s.powered := by
  unfold pulseEdge; dsimp only; (repeat' split) <;> simp
@[simp] theorem pulseEdge_si : (pulseEdge s).si = s.si := by
  unfold pulseEdge; dsimp only; (repeat' split) <;> simp
@[simp] theorem pulseEdge_fe : (pulseEdge s).fe = s.fe := by
  unfold pulseEdge; dsimp only; (repeat' split) <;> simp
@[simp] theorem pulseEdge_tu : (pulseEdge s).tu = s.tu := by
  unfold pulseEdge; dsimp only; (repeat' split) <;> simp
@[simp] theorem pulseEdge_ws : (pulseEdge s).ws = s.ws := by
  unfold pulseEdge; dsimp only; (repeat' split) <;> simp
@[simp] theorem pulseEdge_hm : (pulseEdge s).hm = s.hm := by
  unfold pulseEdge; dsimp only; (repeat' split) <;> simp
@[simp] theorem pulseEdge_ca : (pulseEdge s).ca = s.ca := by
  unfold pulseEdge; dsimp only; (repeat' split) <;> simp
@[simp] theorem pulseEdge_hc : (pulseEdge s).hc = s.hc := by
  unfold pulseEdge; dsimp only; (repeat' split) <;> simp
@[simp] theorem pulseEdge_sm : (pulseEdge s).sm = s.sm := by
  unfold pulseEdge; dsimp only; (repeat' split) <;> simp
@[simp] theorem pulseEdge_lines : (pulseEdge s).lines = s.lines := by
  unfold pulseEdge; dsimp only; (repeat' split) <;> simp
@[simp] theorem pulseEdge_freeCount : (pulseEdge s).freeCount = s.freeCount := by
  unfold pulseEdge; dsimp only; (repeat' split) <;> simp
@[simp] theorem pulseEdge_pending : (pulseEdge s).pending = s.pending := by
  unfold pulseEdge; dsimp only; (repeat' split) <;> simp

@[simp] theorem loseReference_powered : (loseReference s).powered = s.powered := by
  simp [loseReference]
@[simp] theorem loseReference_clk : (loseReference s).clk = s.clk := by
  simp [loseReference]
@[simp] theorem loseReference_si : (loseReference s).si = s.si := by
  simp [loseReference]
@[simp] theorem loseReference_fe : (loseReference s).fe = s.fe := by
  simp [loseReference]
@[simp] theorem loseReference_tu : (loseReference s).tu = s.tu := by
  simp [loseReference]
@[simp] theorem loseReference_ws : (loseReference s).ws = s.ws := by
  simp [loseReference]
@[simp] theorem loseReference_hm : (loseReference s).hm = s.hm := by
  simp [loseReference]
@[simp] theorem loseReference_ca : (loseReference s).ca = s.ca := by
  simp [loseReference]
@[simp] theorem loseReference_hc : (loseReference s).hc = s.hc := by
  simp [loseReference]
@[simp] theorem loseReference_sm : (loseReference s).sm = s.sm := by
  simp [loseReference]
@[simp] theorem loseReference_lines : (loseReference s).lines = s.lines := by
  simp [loseReference]
@[simp] theorem loseReference_freeCount : (loseReference s).freeCount = s.freeCount := by
  simp [loseReference]
@[simp] theorem loseReference_pending : (loseReference s).pending = s.pending := by
  simp [loseReference]

@[simp] theorem holdoverSteer_powered (b : Option DriftBin) : (holdoverSteer b s).powered = s.powered := by
  unfold holdoverSteer; (repeat' split) <;> simp
@[simp] theorem holdoverSteer_clk (b : Option DriftBin) : (holdoverSteer b s).clk = s.clk := by
  unfold holdoverSteer; (repeat' split) <;> simp
@[simp] theorem holdoverSteer_si (b : Option DriftBin) : (holdoverSteer b s).si = s.si := by
  unfold holdoverSteer; (repeat' split) <;> simp
@[simp] theorem holdoverSteer_fe (b : Option DriftBin) : (holdoverSteer b s).fe = s.fe := by
  unfold holdoverSteer; (repeat' split) <;> simp
@[simp] theorem holdoverSteer_tu (b : Option DriftBin) : (holdoverSteer b s).tu = s.tu := by
  unfold holdoverSteer; (repeat' split) <;> simp
@[simp] theorem holdoverSteer_ws (b : Option DriftBin) : (holdoverSteer b s).ws = s.ws := by
  unfold holdoverSteer; (repeat' split) <;> simp
@[simp] theorem holdoverSteer_et (b : Option DriftBin) : (holdoverSteer b s).et = s.et := by
  unfold holdoverSteer; (repeat' split) <;> simp
@[simp] theorem holdoverSteer_al (b : Option DriftBin) : (holdoverSteer b s).al = s.al := by
  unfold holdoverSteer; (repeat' split) <;> simp
@[simp] theorem holdoverSteer_hm (b : Option DriftBin) : (holdoverSteer b s).hm = s.hm := by
  unfold holdoverSteer; (repeat' split) <;> simp
@[simp] theorem holdoverSteer_ca (b : Option DriftBin) : (holdoverSteer b s).ca = s.ca := by
  unfold holdoverSteer; (repeat' split) <;> simp
@[simp] theorem holdoverSteer_hc (b : Option DriftBin) : (holdoverSteer b s).hc = s.hc := by
  unfold holdoverSteer; (repeat' split) <;> simp
@[simp] theorem holdoverSteer_pt (b : Option DriftBin) : (holdoverSteer b s).pt = s.pt := by
  unfold holdoverSteer; (repeat' split) <;> simp
@[simp] theorem holdoverSteer_sl (b : Option DriftBin) : (holdoverSteer b s).sl = s.sl := by
  unfold holdoverSteer; (repeat' split) <;> simp
@[simp] theorem holdoverSteer_sm (b : Option DriftBin) : (holdoverSteer b s).sm = s.sm := by
  unfold holdoverSteer; (repeat' split) <;> simp
@[simp] theorem holdoverSteer_lines (b : Option DriftBin) : (holdoverSteer b s).lines = s.lines := by
  unfold holdoverSteer; (repeat' split) <;> simp
@[simp] theorem holdoverSteer_freeCount (b : Option DriftBin) : (holdoverSteer b s).freeCount = s.freeCount := by
  unfold holdoverSteer; (repeat' split) <;> simp
@[simp] theorem holdoverSteer_pending (b : Option DriftBin) : (holdoverSteer b s).pending = s.pending := by
  unfold holdoverSteer; (repeat' split) <;> simp

@[simp] theorem mainSecond_powered : (mainSecond s).powered = s.powered := by
  simp [mainSecond]
@[simp] theorem mainSecond_si : (mainSecond s).si = s.si := by
  simp [mainSecond]
@[simp] theorem mainSecond_fe : (mainSecond s).fe = s.fe := by
  simp [mainSecond]
@[simp] theorem mainSecond_tu : (mainSecond s).tu = s.tu := by
  simp [mainSecond]
@[simp] theorem mainSecond_ws : (mainSecond s).ws = s.ws := by
  simp [mainSecond]
@[simp] theorem mainSecond_hm : (mainSecond s).hm = s.hm := by
  simp [mainSecond]
@[simp] theorem mainSecond_ca : (mainSecond s).ca = s.ca := by
  simp [mainSecond]
@[simp] theorem mainSecond_hc : (mainSecond s).hc = s.hc := by
  simp [mainSecond]
@[simp] theorem mainSecond_sm : (mainSecond s).sm = s.sm := by
  simp [mainSecond]
@[simp] theorem mainSecond_lines : (mainSecond s).lines = s.lines := by
  simp [mainSecond]
@[simp] theorem mainSecond_freeCount : (mainSecond s).freeCount = s.freeCount := by
  simp [mainSecond]
@[simp] theorem mainSecond_pending : (mainSecond s).pending = s.pending := by
  simp [mainSecond]

@[simp] theorem watchSecond_powered : (watchSecond s).powered = s.powered := by
  simp [watchSecond]
@[simp] theorem watchSecond_clk : (watchSecond s).clk = s.clk := by
  simp [watchSecond]
@[simp] theorem watchSecond_si : (watchSecond s).si = s.si := by
  simp [watchSecond]
@[simp] theorem watchSecond_fe : (watchSecond s).fe = s.fe := by
  simp [watchSecond]
@[simp] theorem watchSecond_tu : (watchSecond s).tu = s.tu := by
  simp [watchSecond]
@[simp] theorem watchSecond_ws : (watchSecond s).ws = s.ws := by
  simp [watchSecond]
@[simp] theorem watchSecond_hm : (watchSecond s).hm = s.hm := by
  simp [watchSecond]
@[simp] theorem watchSecond_ca : (watchSecond s).ca = s.ca := by
  simp [watchSecond]
@[simp] theorem watchSecond_hc : (watchSecond s).hc = s.hc := by
  simp [watchSecond]
@[simp] theorem watchSecond_sm : (watchSecond s).sm = s.sm := by
  simp [watchSecond]
@[simp] theorem watchSecond_lines : (watchSecond s).lines = s.lines := by
  simp [watchSecond]
@[simp] theorem watchSecond_freeCount : (watchSecond s).freeCount = s.freeCount := by
  simp [watchSecond]
@[simp] theorem watchSecond_pending : (watchSecond s).pending = s.pending := by
  simp [watchSecond]

@[simp] theorem setStationTime_powered (t : Time) (n : Nat) : (setStationTime t n s).powered = s.powered := by
  simp [setStationTime]
@[simp] theorem setStationTime_si (t : Time) (n : Nat) : (setStationTime t n s).si = s.si := by
  simp [setStationTime]
@[simp] theorem setStationTime_fe (t : Time) (n : Nat) : (setStationTime t n s).fe = s.fe := by
  simp [setStationTime]
@[simp] theorem setStationTime_tu (t : Time) (n : Nat) : (setStationTime t n s).tu = s.tu := by
  simp [setStationTime]
@[simp] theorem setStationTime_ws (t : Time) (n : Nat) : (setStationTime t n s).ws = s.ws := by
  simp [setStationTime]
@[simp] theorem setStationTime_hm (t : Time) (n : Nat) : (setStationTime t n s).hm = s.hm := by
  simp [setStationTime]
@[simp] theorem setStationTime_ca (t : Time) (n : Nat) : (setStationTime t n s).ca = s.ca := by
  simp [setStationTime]
@[simp] theorem setStationTime_hc (t : Time) (n : Nat) : (setStationTime t n s).hc = s.hc := by
  simp [setStationTime]
@[simp] theorem setStationTime_sm (t : Time) (n : Nat) : (setStationTime t n s).sm = s.sm := by
  simp [setStationTime]
@[simp] theorem setStationTime_lines (t : Time) (n : Nat) : (setStationTime t n s).lines = s.lines := by
  simp [setStationTime]
@[simp] theorem setStationTime_freeCount (t : Time) (n : Nat) : (setStationTime t n s).freeCount = s.freeCount := by
  simp [setStationTime]
@[simp] theorem setStationTime_pending (t : Time) (n : Nat) : (setStationTime t n s).pending = s.pending := by
  simp [setStationTime]

@[simp] theorem labelByte_powered (b : Byte) : (labelByte s b).powered = s.powered := by
  unfold labelByte takeLabel; dsimp only; (repeat' split) <;> simp
@[simp] theorem labelByte_clk (b : Byte) : (labelByte s b).clk = s.clk := by
  unfold labelByte takeLabel; dsimp only; (repeat' split) <;> simp
@[simp] theorem labelByte_si (b : Byte) : (labelByte s b).si = s.si := by
  unfold labelByte takeLabel; dsimp only; (repeat' split) <;> simp
@[simp] theorem labelByte_fe (b : Byte) : (labelByte s b).fe = s.fe := by
  unfold labelByte takeLabel; dsimp only; (repeat' split) <;> simp
@[simp] theorem labelByte_tu (b : Byte) : (labelByte s b).tu = s.tu := by
  unfold labelByte takeLabel; dsimp only; (repeat' split) <;> simp
@[simp] theorem labelByte_ws (b : Byte) : (labelByte s b).ws = s.ws := by
  unfold labelByte takeLabel; dsimp only; (repeat' split) <;> simp
@[simp] theorem labelByte_et (b : Byte) : (labelByte s b).et = s.et := by
  unfold labelByte takeLabel; dsimp only; (repeat' split) <;> simp
@[simp] theorem labelByte_al (b : Byte) : (labelByte s b).al = s.al := by
  unfold labelByte takeLabel; dsimp only; (repeat' split) <;> simp
@[simp] theorem labelByte_hm (b : Byte) : (labelByte s b).hm = s.hm := by
  unfold labelByte takeLabel; dsimp only; (repeat' split) <;> simp
@[simp] theorem labelByte_ca (b : Byte) : (labelByte s b).ca = s.ca := by
  unfold labelByte takeLabel; dsimp only; (repeat' split) <;> simp
@[simp] theorem labelByte_hc (b : Byte) : (labelByte s b).hc = s.hc := by
  unfold labelByte takeLabel; dsimp only; (repeat' split) <;> simp
@[simp] theorem labelByte_pt (b : Byte) : (labelByte s b).pt = s.pt := by
  unfold labelByte takeLabel; dsimp only; (repeat' split) <;> simp
@[simp] theorem labelByte_sl (b : Byte) : (labelByte s b).sl = s.sl := by
  unfold labelByte takeLabel; dsimp only; (repeat' split) <;> simp
@[simp] theorem labelByte_sm (b : Byte) : (labelByte s b).sm = s.sm := by
  unfold labelByte takeLabel; dsimp only; (repeat' split) <;> simp
@[simp] theorem labelByte_lines (b : Byte) : (labelByte s b).lines = s.lines := by
  unfold labelByte takeLabel; dsimp only; (repeat' split) <;> simp
@[simp] theorem labelByte_freeCount (b : Byte) : (labelByte s b).freeCount = s.freeCount := by
  unfold labelByte takeLabel; dsimp only; (repeat' split) <;> simp
@[simp] theorem labelByte_pending (b : Byte) : (labelByte s b).pending = s.pending := by
  unfold labelByte takeLabel; dsimp only; (repeat' split) <;> simp

@[simp] theorem scan_powered (r : RawScan) : (scan r s).powered = s.powered := by
  simp [scan]
@[simp] theorem scan_clk (r : RawScan) : (scan r s).clk = s.clk := by
  simp [scan]
@[simp] theorem scan_sm (r : RawScan) : (scan r s).sm = s.sm := by
  simp [scan]
@[simp] theorem scan_freeCount (r : RawScan) : (scan r s).freeCount = s.freeCount := by
  simp [scan]
@[simp] theorem scan_pending (r : RawScan) : (scan r s).pending = s.pending := by
  simp [scan]

@[simp] theorem setHeater_powered (x : HeaterParams) : (setHeater x s).powered = s.powered := by
  simp [setHeater]
@[simp] theorem setHeater_clk (x : HeaterParams) : (setHeater x s).clk = s.clk := by
  simp [setHeater]
@[simp] theorem setHeater_tb (x : HeaterParams) : (setHeater x s).tb = s.tb := by
  simp [setHeater]
@[simp] theorem setHeater_fe (x : HeaterParams) : (setHeater x s).fe = s.fe := by
  simp [setHeater]
@[simp] theorem setHeater_ws (x : HeaterParams) : (setHeater x s).ws = s.ws := by
  simp [setHeater]
@[simp] theorem setHeater_al (x : HeaterParams) : (setHeater x s).al = s.al := by
  simp [setHeater]
@[simp] theorem setHeater_hm (x : HeaterParams) : (setHeater x s).hm = s.hm := by
  simp [setHeater]
@[simp] theorem setHeater_ca (x : HeaterParams) : (setHeater x s).ca = s.ca := by
  simp [setHeater]
@[simp] theorem setHeater_pt (x : HeaterParams) : (setHeater x s).pt = s.pt := by
  simp [setHeater]
@[simp] theorem setHeater_sl (x : HeaterParams) : (setHeater x s).sl = s.sl := by
  simp [setHeater]
@[simp] theorem setHeater_sm (x : HeaterParams) : (setHeater x s).sm = s.sm := by
  simp [setHeater]
@[simp] theorem setHeater_lines (x : HeaterParams) : (setHeater x s).lines = s.lines := by
  simp [setHeater]
@[simp] theorem setHeater_freeCount (x : HeaterParams) : (setHeater x s).freeCount = s.freeCount := by
  simp [setHeater]
@[simp] theorem setHeater_pending (x : HeaterParams) : (setHeater x s).pending = s.pending := by
  simp [setHeater]

@[simp] theorem setLimits_powered (x : BatteryLimits) : (setLimits x s).powered = s.powered := by
  simp [setLimits]
@[simp] theorem setLimits_clk (x : BatteryLimits) : (setLimits x s).clk = s.clk := by
  simp [setLimits]
@[simp] theorem setLimits_tb (x : BatteryLimits) : (setLimits x s).tb = s.tb := by
  simp [setLimits]
@[simp] theorem setLimits_si (x : BatteryLimits) : (setLimits x s).si = s.si := by
  simp [setLimits]
@[simp] theorem setLimits_fe (x : BatteryLimits) : (setLimits x s).fe = s.fe := by
  simp [setLimits]
@[simp] theorem setLimits_tu (x : BatteryLimits) : (setLimits x s).tu = s.tu := by
  simp [setLimits]
@[simp] theorem setLimits_ws (x : BatteryLimits) : (setLimits x s).ws = s.ws := by
  simp [setLimits]
@[simp] theorem setLimits_et (x : BatteryLimits) : (setLimits x s).et = s.et := by
  simp [setLimits]
@[simp] theorem setLimits_al (x : BatteryLimits) : (setLimits x s).al = s.al := by
  simp [setLimits]
@[simp] theorem setLimits_hm (x : BatteryLimits) : (setLimits x s).hm = s.hm := by
  simp [setLimits]
@[simp] theorem setLimits_hc (x : BatteryLimits) : (setLimits x s).hc = s.hc := by
  simp [setLimits]
@[simp] theorem setLimits_pt (x : BatteryLimits) : (setLimits x s).pt = s.pt := by
  simp [setLimits]
@[simp] theorem setLimits_sl (x : BatteryLimits) : (setLimits x s).sl = s.sl := by
  simp [setLimits]
@[simp] theorem setLimits_sm (x : BatteryLimits) : (setLimits x s).sm = s.sm := by
  simp [setLimits]
@[simp] theorem setLimits_lines (x : BatteryLimits) : (setLimits x s).lines = s.lines := by
  simp [setLimits]
@[simp] theorem setLimits_freeCount (x : BatteryLimits) : (setLimits x s).freeCount = s.freeCount := by
  simp [setLimits]
@[simp] theorem setLimits_pending (x : BatteryLimits) : (setLimits x s).pending = s.pending := by
  simp [setLimits]

@[simp] theorem setCalibration_powered (x : Six Calibration) : (setCalibration x s).powered = s.powered := by
  simp [setCalibration]
@[simp] theorem setCalibration_clk (x : Six Calibration) : (setCalibration x s).clk = s.clk := by
  simp [setCalibration]
@[simp] theorem setCalibration_tb (x : Six Calibration) : (setCalibration x s).tb = s.tb := by
  simp [setCalibration]
@[simp] theorem setCalibration_si (x : Six Calibration) : (setCalibration x s).si = s.si := by
  simp [setCalibration]
@[simp] theorem setCalibration_fe (x : Six Calibration) : (setCalibration x s).fe = s.fe := by
  simp [setCalibration]
@[simp] theorem setCalibration_tu (x : Six Calibration) : (setCalibration x s).tu = s.tu := by
  simp [setCalibration]
@[simp] theorem setCalibration_ws (x : Six Calibration) : (setCalibration x s).ws = s.ws := by
  simp [setCalibration]
@[simp] theorem setCalibration_et (x : Six Calibration) : (setCalibration x s).et = s.et := by
  simp [setCalibration]
@[simp] theorem setCalibration_al (x : Six Calibration) : (setCalibration x s).al = s.al := by
  simp [setCalibration]
@[simp] theorem setCalibration_ca (x : Six Calibration) : (setCalibration x s).ca = s.ca := by
  simp [setCalibration]
@[simp] theorem setCalibration_hc (x : Six Calibration) : (setCalibration x s).hc = s.hc := by
  simp [setCalibration]
@[simp] theorem setCalibration_pt (x : Six Calibration) : (setCalibration x s).pt = s.pt := by
  simp [setCalibration]
@[simp] theorem setCalibration_sl (x : Six Calibration) : (setCalibration x s).sl = s.sl := by
  simp [setCalibration]
@[simp] theorem setCalibration_sm (x : Six Calibration) : (setCalibration x s).sm = s.sm := by
  simp [setCalibration]
@[simp] theorem setCalibration_lines (x : Six Calibration) : (setCalibration x s).lines = s.lines := by
  simp [setCalibration]
@[simp] theorem setCalibration_freeCount (x : Six Calibration) : (setCalibration x s).freeCount = s.freeCount := by
  simp [setCalibration]
@[simp] theorem setCalibration_pending (x : Six Calibration) : (setCalibration x s).pending = s.pending := by
  simp [setCalibration]

@[simp] theorem setTable_powered (x : OcTable) : (setTable x s).powered = s.powered := by
  simp [setTable]
@[simp] theorem setTable_clk (x : OcTable) : (setTable x s).clk = s.clk := by
  simp [setTable]
@[simp] theorem setTable_tb (x : OcTable) : (setTable x s).tb = s.tb := by
  simp [setTable]
@[simp] theorem setTable_si (x : OcTable) : (setTable x s).si = s.si := by
  simp [setTable]
@[simp] theorem setTable_fe (x : OcTable) : (setTable x s).fe = s.fe := by
  simp [setTable]
@[simp] theorem setTable_tu (x : OcTable) : (setTable x s).tu = s.tu := by
  simp [setTable]
@[simp] theorem setTable_ws (x : OcTable) : (setTable x s).ws = s.ws := by
  simp [setTable]
@[simp] theorem setTable_et (x : OcTable) : (setTable x s).et = s.et := by
  simp [setTable]
@[simp] theorem setTable_al (x : OcTable) : (setTable x s).al = s.al := by
  simp [setTable]
@[simp] theorem setTable_hm (x : OcTable) : (setTable x s).hm = s.hm := by
  simp [setTable]
@[simp] theorem setTable_hc (x : OcTable) : (setTable x s).hc = s.hc := by
  simp [setTable]
@[simp] theorem setTable_pt (x : OcTable) : (setTable x s).pt = s.pt := by
  simp [setTable]
@[simp] theorem setTable_sl (x : OcTable) : (setTable x s).sl = s.sl := by
  simp [setTable]
@[simp] theorem setTable_sm (x : OcTable) : (setTable x s).sm = s.sm := by
  simp [setTable]
@[simp] theorem setTable_lines (x : OcTable) : (setTable x s).lines = s.lines := by
  simp [setTable]
@[simp] theorem setTable_freeCount (x : OcTable) : (setTable x s).freeCount = s.freeCount := by
  simp [setTable]
@[simp] theorem setTable_pending (x : OcTable) : (setTable x s).pending = s.pending := by
  simp [setTable]

@[simp] theorem setUplink_powered (x : UplinkParams) : (setUplink x s).powered = s.powered := by
  simp [setUplink]
@[simp] theorem setUplink_clk (x : UplinkParams) : (setUplink x s).clk = s.clk := by
  simp [setUplink]
@[simp] theorem setUplink_tb (x : UplinkParams) : (setUplink x s).tb = s.tb := by
  simp [setUplink]
@[simp] theorem setUplink_si (x : UplinkParams) : (setUplink x s).si = s.si := by
  simp [setUplink]
@[simp] theorem setUplink_fe (x : UplinkParams) : (setUplink x s).fe = s.fe := by
  simp [setUplink]
@[simp] theorem setUplink_tu (x : UplinkParams) : (setUplink x s).tu = s.tu := by
  simp [setUplink]
@[simp] theorem setUplink_ws (x : UplinkParams) : (setUplink x s).ws = s.ws := by
  simp [setUplink]
@[simp] theorem setUplink_et (x : UplinkParams) : (setUplink x s).et = s.et := by
  simp [setUplink]
@[simp] theorem setUplink_hm (x : UplinkParams) : (setUplink x s).hm = s.hm := by
  simp [setUplink]
@[simp] theorem setUplink_ca (x : UplinkParams) : (setUplink x s).ca = s.ca := by
  simp [setUplink]
@[simp] theorem setUplink_hc (x : UplinkParams) : (setUplink x s).hc = s.hc := by
  simp [setUplink]
@[simp] theorem setUplink_pt (x : UplinkParams) : (setUplink x s).pt = s.pt := by
  simp [setUplink]
@[simp] theorem setUplink_sl (x : UplinkParams) : (setUplink x s).sl = s.sl := by
  simp [setUplink]
@[simp] theorem setUplink_sm (x : UplinkParams) : (setUplink x s).sm = s.sm := by
  simp [setUplink]
@[simp] theorem setUplink_lines (x : UplinkParams) : (setUplink x s).lines = s.lines := by
  simp [setUplink]
@[simp] theorem setUplink_freeCount (x : UplinkParams) : (setUplink x s).freeCount = s.freeCount := by
  simp [setUplink]
@[simp] theorem setUplink_pending (x : UplinkParams) : (setUplink x s).pending = s.pending := by
  simp [setUplink]

@[simp] theorem setDetect_powered (x : DetectParams) : (setDetect x s).powered = s.powered := by
  simp [setDetect]
@[simp] theorem setDetect_clk (x : DetectParams) : (setDetect x s).clk = s.clk := by
  simp [setDetect]
@[simp] theorem setDetect_tb (x : DetectParams) : (setDetect x s).tb = s.tb := by
  simp [setDetect]
@[simp] theorem setDetect_si (x : DetectParams) : (setDetect x s).si = s.si := by
  simp [setDetect]
@[simp] theorem setDetect_fe (x : DetectParams) : (setDetect x s).fe = s.fe := by
  simp [setDetect]
@[simp] theorem setDetect_ws (x : DetectParams) : (setDetect x s).ws = s.ws := by
  simp [setDetect]
@[simp] theorem setDetect_et (x : DetectParams) : (setDetect x s).et = s.et := by
  simp [setDetect]
@[simp] theorem setDetect_al (x : DetectParams) : (setDetect x s).al = s.al := by
  simp [setDetect]
@[simp] theorem setDetect_hm (x : DetectParams) : (setDetect x s).hm = s.hm := by
  simp [setDetect]
@[simp] theorem setDetect_ca (x : DetectParams) : (setDetect x s).ca = s.ca := by
  simp [setDetect]
@[simp] theorem setDetect_hc (x : DetectParams) : (setDetect x s).hc = s.hc := by
  simp [setDetect]
@[simp] theorem setDetect_pt (x : DetectParams) : (setDetect x s).pt = s.pt := by
  simp [setDetect]
@[simp] theorem setDetect_sl (x : DetectParams) : (setDetect x s).sl = s.sl := by
  simp [setDetect]
@[simp] theorem setDetect_sm (x : DetectParams) : (setDetect x s).sm = s.sm := by
  simp [setDetect]
@[simp] theorem setDetect_lines (x : DetectParams) : (setDetect x s).lines = s.lines := by
  simp [setDetect]
@[simp] theorem setDetect_freeCount (x : DetectParams) : (setDetect x s).freeCount = s.freeCount := by
  simp [setDetect]
@[simp] theorem setDetect_pending (x : DetectParams) : (setDetect x s).pending = s.pending := by
  simp [setDetect]

@[simp] theorem setTier_powered (x : TierParams) : (setTier x s).powered = s.powered := by
  simp [setTier]
@[simp] theorem setTier_clk (x : TierParams) : (setTier x s).clk = s.clk := by
  simp [setTier]
@[simp] theorem setTier_tb (x : TierParams) : (setTier x s).tb = s.tb := by
  simp [setTier]
@[simp] theorem setTier_si (x : TierParams) : (setTier x s).si = s.si := by
  simp [setTier]
@[simp] theorem setTier_fe (x : TierParams) : (setTier x s).fe = s.fe := by
  simp [setTier]
@[simp] theorem setTier_tu (x : TierParams) : (setTier x s).tu = s.tu := by
  simp [setTier]
@[simp] theorem setTier_ws (x : TierParams) : (setTier x s).ws = s.ws := by
  simp [setTier]
@[simp] theorem setTier_et (x : TierParams) : (setTier x s).et = s.et := by
  simp [setTier]
@[simp] theorem setTier_al (x : TierParams) : (setTier x s).al = s.al := by
  simp [setTier]
@[simp] theorem setTier_hm (x : TierParams) : (setTier x s).hm = s.hm := by
  simp [setTier]
@[simp] theorem setTier_ca (x : TierParams) : (setTier x s).ca = s.ca := by
  simp [setTier]
@[simp] theorem setTier_hc (x : TierParams) : (setTier x s).hc = s.hc := by
  simp [setTier]
@[simp] theorem setTier_sl (x : TierParams) : (setTier x s).sl = s.sl := by
  simp [setTier]
@[simp] theorem setTier_sm (x : TierParams) : (setTier x s).sm = s.sm := by
  simp [setTier]
@[simp] theorem setTier_lines (x : TierParams) : (setTier x s).lines = s.lines := by
  simp [setTier]
@[simp] theorem setTier_freeCount (x : TierParams) : (setTier x s).freeCount = s.freeCount := by
  simp [setTier]
@[simp] theorem setTier_pending (x : TierParams) : (setTier x s).pending = s.pending := by
  simp [setTier]

@[simp] theorem setStore_powered (n : Nat) (b : Bool) : (setStore n b s).powered = s.powered := by
  simp [setStore]
@[simp] theorem setStore_clk (n : Nat) (b : Bool) : (setStore n b s).clk = s.clk := by
  simp [setStore]
@[simp] theorem setStore_tb (n : Nat) (b : Bool) : (setStore n b s).tb = s.tb := by
  simp [setStore]
@[simp] theorem setStore_si (n : Nat) (b : Bool) : (setStore n b s).si = s.si := by
  simp [setStore]
@[simp] theorem setStore_fe (n : Nat) (b : Bool) : (setStore n b s).fe = s.fe := by
  simp [setStore]
@[simp] theorem setStore_tu (n : Nat) (b : Bool) : (setStore n b s).tu = s.tu := by
  simp [setStore]
@[simp] theorem setStore_et (n : Nat) (b : Bool) : (setStore n b s).et = s.et := by
  simp [setStore]
@[simp] theorem setStore_al (n : Nat) (b : Bool) : (setStore n b s).al = s.al := by
  simp [setStore]
@[simp] theorem setStore_hm (n : Nat) (b : Bool) : (setStore n b s).hm = s.hm := by
  simp [setStore]
@[simp] theorem setStore_ca (n : Nat) (b : Bool) : (setStore n b s).ca = s.ca := by
  simp [setStore]
@[simp] theorem setStore_hc (n : Nat) (b : Bool) : (setStore n b s).hc = s.hc := by
  simp [setStore]
@[simp] theorem setStore_pt (n : Nat) (b : Bool) : (setStore n b s).pt = s.pt := by
  simp [setStore]
@[simp] theorem setStore_sl (n : Nat) (b : Bool) : (setStore n b s).sl = s.sl := by
  simp [setStore]
@[simp] theorem setStore_sm (n : Nat) (b : Bool) : (setStore n b s).sm = s.sm := by
  simp [setStore]
@[simp] theorem setStore_lines (n : Nat) (b : Bool) : (setStore n b s).lines = s.lines := by
  simp [setStore]
@[simp] theorem setStore_freeCount (n : Nat) (b : Bool) : (setStore n b s).freeCount = s.freeCount := by
  simp [setStore]
@[simp] theorem setStore_pending (n : Nat) (b : Bool) : (setStore n b s).pending = s.pending := by
  simp [setStore]

@[simp] theorem markExternal_powered : (markExternal s).powered = s.powered := by
  simp [markExternal]
@[simp] theorem markExternal_clk : (markExternal s).clk = s.clk := by
  simp [markExternal]
@[simp] theorem markExternal_tb : (markExternal s).tb = s.tb := by
  simp [markExternal]
@[simp] theorem markExternal_si : (markExternal s).si = s.si := by
  simp [markExternal]
@[simp] theorem markExternal_fe : (markExternal s).fe = s.fe := by
  simp [markExternal]
@[simp] theorem markExternal_tu : (markExternal s).tu = s.tu := by
  simp [markExternal]
@[simp] theorem markExternal_ws : (markExternal s).ws = s.ws := by
  simp [markExternal]
@[simp] theorem markExternal_al : (markExternal s).al = s.al := by
  simp [markExternal]
@[simp] theorem markExternal_hm : (markExternal s).hm = s.hm := by
  simp [markExternal]
@[simp] theorem markExternal_ca : (markExternal s).ca = s.ca := by
  simp [markExternal]
@[simp] theorem markExternal_hc : (markExternal s).hc = s.hc := by
  simp [markExternal]
@[simp] theorem markExternal_pt : (markExternal s).pt = s.pt := by
  simp [markExternal]
@[simp] theorem markExternal_sl : (markExternal s).sl = s.sl := by
  simp [markExternal]
@[simp] theorem markExternal_sm : (markExternal s).sm = s.sm := by
  simp [markExternal]
@[simp] theorem markExternal_lines : (markExternal s).lines = s.lines := by
  simp [markExternal]
@[simp] theorem markExternal_freeCount : (markExternal s).freeCount = s.freeCount := by
  simp [markExternal]
@[simp] theorem markExternal_pending : (markExternal s).pending = s.pending := by
  simp [markExternal]

@[simp] theorem takeAuxEdge_powered : (takeAuxEdge s).powered = s.powered := by
  unfold takeAuxEdge; split <;> simp
@[simp] theorem takeAuxEdge_clk : (takeAuxEdge s).clk = s.clk := by
  unfold takeAuxEdge; split <;> simp
@[simp] theorem takeAuxEdge_tb : (takeAuxEdge s).tb = s.tb := by
  unfold takeAuxEdge; split <;> simp
@[simp] theorem takeAuxEdge_si : (takeAuxEdge s).si = s.si := by
  unfold takeAuxEdge; split <;> simp
@[simp] theorem takeAuxEdge_fe : (takeAuxEdge s).fe = s.fe := by
  unfold takeAuxEdge; split <;> simp
@[simp] theorem takeAuxEdge_ws : (takeAuxEdge s).ws = s.ws := by
  unfold takeAuxEdge; split <;> simp
@[simp] theorem takeAuxEdge_al : (takeAuxEdge s).al = s.al := by
  unfold takeAuxEdge; split <;> simp
@[simp] theorem takeAuxEdge_hm : (takeAuxEdge s).hm = s.hm := by
  unfold takeAuxEdge; split <;> simp
@[simp] theorem takeAuxEdge_ca : (takeAuxEdge s).ca = s.ca := by
  unfold takeAuxEdge; split <;> simp
@[simp] theorem takeAuxEdge_hc : (takeAuxEdge s).hc = s.hc := by
  unfold takeAuxEdge; split <;> simp
@[simp] theorem takeAuxEdge_pt : (takeAuxEdge s).pt = s.pt := by
  unfold takeAuxEdge; split <;> simp
@[simp] theorem takeAuxEdge_sl : (takeAuxEdge s).sl = s.sl := by
  unfold takeAuxEdge; split <;> simp
@[simp] theorem takeAuxEdge_sm : (takeAuxEdge s).sm = s.sm := by
  unfold takeAuxEdge; split <;> simp
@[simp] theorem takeAuxEdge_lines : (takeAuxEdge s).lines = s.lines := by
  unfold takeAuxEdge; split <;> simp
@[simp] theorem takeAuxEdge_freeCount : (takeAuxEdge s).freeCount = s.freeCount := by
  unfold takeAuxEdge; split <;> simp
@[simp] theorem takeAuxEdge_pending : (takeAuxEdge s).pending = s.pending := by
  unfold takeAuxEdge; split <;> simp

@[simp] theorem disarm_powered : (disarm s).powered = s.powered := by
  simp [disarm]
@[simp] theorem disarm_clk : (disarm s).clk = s.clk := by
  simp [disarm]
@[simp] theorem disarm_tb : (disarm s).tb = s.tb := by
  simp [disarm]
@[simp] theorem disarm_fe : (disarm s).fe = s.fe := by
  simp [disarm]
@[simp] theorem disarm_al : (disarm s).al = s.al := by
  simp [disarm]
@[simp] theorem disarm_hm : (disarm s).hm = s.hm := by
  simp [disarm]
@[simp] theorem disarm_ca : (disarm s).ca = s.ca := by
  simp [disarm]
@[simp] theorem disarm_sm : (disarm s).sm = s.sm := by
  simp [disarm]
@[simp] theorem disarm_lines : (disarm s).lines = s.lines := by
  simp [disarm]
@[simp] theorem disarm_freeCount : (disarm s).freeCount = s.freeCount := by
  simp [disarm]
@[simp] theorem disarm_pending : (disarm s).pending = s.pending := by
  simp [disarm]

@[simp] theorem arm_powered : (arm s).powered = s.powered := by
  simp [arm]
@[simp] theorem arm_clk : (arm s).clk = s.clk := by
  simp [arm]
@[simp] theorem arm_tb : (arm s).tb = s.tb := by
  simp [arm]
@[simp] theorem arm_si : (arm s).si = s.si := by
  simp [arm]
@[simp] theorem arm_fe : (arm s).fe = s.fe := by
  simp [arm]
@[simp] theorem arm_ws : (arm s).ws = s.ws := by
  simp [arm]
@[simp] theorem arm_et : (arm s).et = s.et := by
  simp [arm]
@[simp] theorem arm_al : (arm s).al = s.al := by
  simp [arm]
@[simp] theorem arm_hm : (arm s).hm = s.hm := by
  simp [arm]
@[simp] theorem arm_ca : (arm s).ca = s.ca := by
  simp [arm]
@[simp] theorem arm_hc : (arm s).hc = s.hc := by
  simp [arm]
@[simp] theorem arm_pt : (arm s).pt = s.pt := by
  simp [arm]
@[simp] theorem arm_sl : (arm s).sl = s.sl := by
  simp [arm]
@[simp] theorem arm_sm : (arm s).sm = s.sm := by
  simp [arm]
@[simp] theorem arm_lines : (arm s).lines = s.lines := by
  simp [arm]
@[simp] theorem arm_freeCount : (arm s).freeCount = s.freeCount := by
  simp [arm]
@[simp] theorem arm_pending : (arm s).pending = s.pending := by
  simp [arm]

@[simp] theorem warmEnabled_powered : (warmEnabled s).powered = s.powered := by
  unfold warmEnabled; apply foldl_keeps (g := State.powered); simp
@[simp] theorem warmEnabled_clk : (warmEnabled s).clk = s.clk := by
  unfold warmEnabled; apply foldl_keeps (g := State.clk); simp
@[simp] theorem warmEnabled_tb : (warmEnabled s).tb = s.tb := by
  unfold warmEnabled; apply foldl_keeps (g := State.tb); simp
@[simp] theorem warmEnabled_si : (warmEnabled s).si = s.si := by
  unfold warmEnabled; apply foldl_keeps (g := State.si); simp
@[simp] theorem warmEnabled_fe : (warmEnabled s).fe = s.fe := by
  unfold warmEnabled; apply foldl_keeps (g := State.fe); simp
@[simp] theorem warmEnabled_ws : (warmEnabled s).ws = s.ws := by
  unfold warmEnabled; apply foldl_keeps (g := State.ws); simp
@[simp] theorem warmEnabled_et : (warmEnabled s).et = s.et := by
  unfold warmEnabled; apply foldl_keeps (g := State.et); simp
@[simp] theorem warmEnabled_al : (warmEnabled s).al = s.al := by
  unfold warmEnabled; apply foldl_keeps (g := State.al); simp
@[simp] theorem warmEnabled_hm : (warmEnabled s).hm = s.hm := by
  unfold warmEnabled; apply foldl_keeps (g := State.hm); simp
@[simp] theorem warmEnabled_ca : (warmEnabled s).ca = s.ca := by
  unfold warmEnabled; apply foldl_keeps (g := State.ca); simp
@[simp] theorem warmEnabled_hc : (warmEnabled s).hc = s.hc := by
  unfold warmEnabled; apply foldl_keeps (g := State.hc); simp
@[simp] theorem warmEnabled_pt : (warmEnabled s).pt = s.pt := by
  unfold warmEnabled; apply foldl_keeps (g := State.pt); simp
@[simp] theorem warmEnabled_sl : (warmEnabled s).sl = s.sl := by
  unfold warmEnabled; apply foldl_keeps (g := State.sl); simp
@[simp] theorem warmEnabled_sm : (warmEnabled s).sm = s.sm := by
  unfold warmEnabled; apply foldl_keeps (g := State.sm); simp
@[simp] theorem warmEnabled_lines : (warmEnabled s).lines = s.lines := by
  unfold warmEnabled; apply foldl_keeps (g := State.lines); simp
@[simp] theorem warmEnabled_freeCount : (warmEnabled s).freeCount = s.freeCount := by
  unfold warmEnabled; apply foldl_keeps (g := State.freeCount); simp
@[simp] theorem warmEnabled_pending : (warmEnabled s).pending = s.pending := by
  unfold warmEnabled; apply foldl_keeps (g := State.pending); simp

@[simp] theorem restartDetection_powered : (restartDetection s).powered = s.powered := by
  simp [restartDetection]
@[simp] theorem restartDetection_clk : (restartDetection s).clk = s.clk := by
  simp [restartDetection]
@[simp] theorem restartDetection_tb : (restartDetection s).tb = s.tb := by
  simp [restartDetection]
@[simp] theorem restartDetection_fe : (restartDetection s).fe = s.fe := by
  simp [restartDetection]
@[simp] theorem restartDetection_al : (restartDetection s).al = s.al := by
  simp [restartDetection]
@[simp] theorem restartDetection_hm : (restartDetection s).hm = s.hm := by
  simp [restartDetection]
@[simp] theorem restartDetection_ca : (restartDetection s).ca = s.ca := by
  simp [restartDetection]
@[simp] theorem restartDetection_sm : (restartDetection s).sm = s.sm := by
  simp [restartDetection]
@[simp] theorem restartDetection_lines : (restartDetection s).lines = s.lines := by
  simp [restartDetection]
@[simp] theorem restartDetection_freeCount : (restartDetection s).freeCount = s.freeCount := by
  simp [restartDetection]
@[simp] theorem restartDetection_pending : (restartDetection s).pending = s.pending := by
  simp [restartDetection]

@[simp] theorem endGrace_powered : (endGrace s).powered = s.powered := by
  unfold endGrace; (repeat' split) <;> simp
@[simp] theorem endGrace_clk : (endGrace s).clk = s.clk := by
  unfold endGrace; (repeat' split) <;> simp
@[simp] theorem endGrace_tb : (endGrace s).tb = s.tb := by
  unfold endGrace; (repeat' split) <;> simp
@[simp] theorem endGrace_si : (endGrace s).si = s.si := by
  unfold endGrace; (repeat' split) <;> simp
@[simp] theorem endGrace_fe : (endGrace s).fe = s.fe := by
  unfold endGrace; (repeat' split) <;> simp
@[simp] theorem endGrace_tu : (endGrace s).tu = s.tu := by
  unfold endGrace; (repeat' split) <;> simp
@[simp] theorem endGrace_ws : (endGrace s).ws = s.ws := by
  unfold endGrace; (repeat' split) <;> simp
@[simp] theorem endGrace_et : (endGrace s).et = s.et := by
  unfold endGrace; (repeat' split) <;> simp
@[simp] theorem endGrace_al : (endGrace s).al = s.al := by
  unfold endGrace; (repeat' split) <;> simp
@[simp] theorem endGrace_hm : (endGrace s).hm = s.hm := by
  unfold endGrace; (repeat' split) <;> simp
@[simp] theorem endGrace_ca : (endGrace s).ca = s.ca := by
  unfold endGrace; (repeat' split) <;> simp
@[simp] theorem endGrace_hc : (endGrace s).hc = s.hc := by
  unfold endGrace; (repeat' split) <;> simp
@[simp] theorem endGrace_sm : (endGrace s).sm = s.sm := by
  unfold endGrace; (repeat' split) <;> simp
@[simp] theorem endGrace_lines : (endGrace s).lines = s.lines := by
  unfold endGrace; (repeat' split) <;> simp
@[simp] theorem endGrace_freeCount : (endGrace s).freeCount = s.freeCount := by
  unfold endGrace; (repeat' split) <;> simp
@[simp] theorem endGrace_pending : (endGrace s).pending = s.pending := by
  unfold endGrace; (repeat' split) <;> simp

@[simp] theorem endDoze_powered : (endDoze s).powered = s.powered := by
  unfold endDoze; (repeat' split) <;> simp
@[simp] theorem endDoze_clk : (endDoze s).clk = s.clk := by
  unfold endDoze; (repeat' split) <;> simp
@[simp] theorem endDoze_tb : (endDoze s).tb = s.tb := by
  unfold endDoze; (repeat' split) <;> simp
@[simp] theorem endDoze_si : (endDoze s).si = s.si := by
  unfold endDoze; (repeat' split) <;> simp
@[simp] theorem endDoze_fe : (endDoze s).fe = s.fe := by
  unfold endDoze; (repeat' split) <;> simp
@[simp] theorem endDoze_tu : (endDoze s).tu = s.tu := by
  unfold endDoze; (repeat' split) <;> simp
@[simp] theorem endDoze_ws : (endDoze s).ws = s.ws := by
  unfold endDoze; (repeat' split) <;> simp
@[simp] theorem endDoze_et : (endDoze s).et = s.et := by
  unfold endDoze; (repeat' split) <;> simp
@[simp] theorem endDoze_al : (endDoze s).al = s.al := by
  unfold endDoze; (repeat' split) <;> simp
@[simp] theorem endDoze_hm : (endDoze s).hm = s.hm := by
  unfold endDoze; (repeat' split) <;> simp
@[simp] theorem endDoze_ca : (endDoze s).ca = s.ca := by
  unfold endDoze; (repeat' split) <;> simp
@[simp] theorem endDoze_hc : (endDoze s).hc = s.hc := by
  unfold endDoze; (repeat' split) <;> simp
@[simp] theorem endDoze_sm : (endDoze s).sm = s.sm := by
  unfold endDoze; (repeat' split) <;> simp
@[simp] theorem endDoze_lines : (endDoze s).lines = s.lines := by
  unfold endDoze; (repeat' split) <;> simp
@[simp] theorem endDoze_freeCount : (endDoze s).freeCount = s.freeCount := by
  unfold endDoze; (repeat' split) <;> simp
@[simp] theorem endDoze_pending : (endDoze s).pending = s.pending := by
  unfold endDoze; (repeat' split) <;> simp

@[simp] theorem endCycle_powered : (endCycle s).powered = s.powered := by
  unfold endCycle; (repeat' split) <;> simp
@[simp] theorem endCycle_clk : (endCycle s).clk = s.clk := by
  unfold endCycle; (repeat' split) <;> simp
@[simp] theorem endCycle_tb : (endCycle s).tb = s.tb := by
  unfold endCycle; (repeat' split) <;> simp
@[simp] theorem endCycle_si : (endCycle s).si = s.si := by
  unfold endCycle; (repeat' split) <;> simp
@[simp] theorem endCycle_fe : (endCycle s).fe = s.fe := by
  unfold endCycle; (repeat' split) <;> simp
@[simp] theorem endCycle_tu : (endCycle s).tu = s.tu := by
  unfold endCycle; (repeat' split) <;> simp
@[simp] theorem endCycle_ws : (endCycle s).ws = s.ws := by
  unfold endCycle; (repeat' split) <;> simp
@[simp] theorem endCycle_et : (endCycle s).et = s.et := by
  unfold endCycle; (repeat' split) <;> simp
@[simp] theorem endCycle_al : (endCycle s).al = s.al := by
  unfold endCycle; (repeat' split) <;> simp
@[simp] theorem endCycle_hm : (endCycle s).hm = s.hm := by
  unfold endCycle; (repeat' split) <;> simp
@[simp] theorem endCycle_ca : (endCycle s).ca = s.ca := by
  unfold endCycle; (repeat' split) <;> simp
@[simp] theorem endCycle_hc : (endCycle s).hc = s.hc := by
  unfold endCycle; (repeat' split) <;> simp
@[simp] theorem endCycle_sm : (endCycle s).sm = s.sm := by
  unfold endCycle; (repeat' split) <;> simp
@[simp] theorem endCycle_lines : (endCycle s).lines = s.lines := by
  unfold endCycle; (repeat' split) <;> simp
@[simp] theorem endCycle_freeCount : (endCycle s).freeCount = s.freeCount := by
  unfold endCycle; (repeat' split) <;> simp
@[simp] theorem endCycle_pending : (endCycle s).pending = s.pending := by
  unfold endCycle; (repeat' split) <;> simp

@[simp] theorem supervise_powered : (supervise s).powered = s.powered := by
  unfold supervise countCycle; split <;> simp
@[simp] theorem supervise_clk : (supervise s).clk = s.clk := by
  unfold supervise countCycle; split <;> simp
@[simp] theorem supervise_tb : (supervise s).tb = s.tb := by
  unfold supervise countCycle; split <;> simp
@[simp] theorem supervise_si : (supervise s).si = s.si := by
  unfold supervise countCycle; split <;> simp
@[simp] theorem supervise_fe : (supervise s).fe = s.fe := by
  unfold supervise countCycle; split <;> simp
@[simp] theorem supervise_tu : (supervise s).tu = s.tu := by
  unfold supervise countCycle; split <;> simp
@[simp] theorem supervise_ws : (supervise s).ws = s.ws := by
  unfold supervise countCycle; split <;> simp
@[simp] theorem supervise_et : (supervise s).et = s.et := by
  unfold supervise countCycle; split <;> simp
@[simp] theorem supervise_al : (supervise s).al = s.al := by
  unfold supervise countCycle; split <;> simp
@[simp] theorem supervise_hm : (supervise s).hm = s.hm := by
  unfold supervise countCycle; split <;> simp
@[simp] theorem supervise_ca : (supervise s).ca = s.ca := by
  unfold supervise countCycle; split <;> simp
@[simp] theorem supervise_hc : (supervise s).hc = s.hc := by
  unfold supervise countCycle; split <;> simp
@[simp] theorem supervise_sm : (supervise s).sm = s.sm := by
  unfold supervise countCycle; split <;> simp
@[simp] theorem supervise_lines : (supervise s).lines = s.lines := by
  unfold supervise countCycle; split <;> simp
@[simp] theorem supervise_freeCount : (supervise s).freeCount = s.freeCount := by
  unfold supervise countCycle; split <;> simp
@[simp] theorem supervise_pending : (supervise s).pending = s.pending := by
  unfold supervise countCycle; split <;> simp

@[simp] theorem beginSave_powered : (beginSave s).powered = s.powered := by
  simp [beginSave]
@[simp] theorem beginSave_clk : (beginSave s).clk = s.clk := by
  simp [beginSave]
@[simp] theorem beginSave_tb : (beginSave s).tb = s.tb := by
  simp [beginSave]
@[simp] theorem beginSave_si : (beginSave s).si = s.si := by
  simp [beginSave]
@[simp] theorem beginSave_fe : (beginSave s).fe = s.fe := by
  simp [beginSave]
@[simp] theorem beginSave_tu : (beginSave s).tu = s.tu := by
  simp [beginSave]
@[simp] theorem beginSave_ws : (beginSave s).ws = s.ws := by
  simp [beginSave]
@[simp] theorem beginSave_et : (beginSave s).et = s.et := by
  simp [beginSave]
@[simp] theorem beginSave_al : (beginSave s).al = s.al := by
  simp [beginSave]
@[simp] theorem beginSave_hm : (beginSave s).hm = s.hm := by
  simp [beginSave]
@[simp] theorem beginSave_ca : (beginSave s).ca = s.ca := by
  simp [beginSave]
@[simp] theorem beginSave_hc : (beginSave s).hc = s.hc := by
  simp [beginSave]
@[simp] theorem beginSave_pt : (beginSave s).pt = s.pt := by
  simp [beginSave]
@[simp] theorem beginSave_lines : (beginSave s).lines = s.lines := by
  simp [beginSave]
@[simp] theorem beginSave_freeCount : (beginSave s).freeCount = s.freeCount := by
  simp [beginSave]
@[simp] theorem beginSave_pending : (beginSave s).pending = s.pending := by
  simp [beginSave]

@[simp] theorem completeSave_powered (b : Bool) : (completeSave b s).powered = s.powered := by
  unfold completeSave; split <;> simp
@[simp] theorem completeSave_clk (b : Bool) : (completeSave b s).clk = s.clk := by
  unfold completeSave; split <;> simp
@[simp] theorem completeSave_si (b : Bool) : (completeSave b s).si = s.si := by
  unfold completeSave; split <;> simp
@[simp] theorem completeSave_fe (b : Bool) : (completeSave b s).fe = s.fe := by
  unfold completeSave; split <;> simp
@[simp] theorem completeSave_tu (b : Bool) : (completeSave b s).tu = s.tu := by
  unfold completeSave; split <;> simp
@[simp] theorem completeSave_ws (b : Bool) : (completeSave b s).ws = s.ws := by
  unfold completeSave; split <;> simp
@[simp] theorem completeSave_hm (b : Bool) : (completeSave b s).hm = s.hm := by
  unfold completeSave; split <;> simp
@[simp] theorem completeSave_ca (b : Bool) : (completeSave b s).ca = s.ca := by
  unfold completeSave; split <;> simp
@[simp] theorem completeSave_hc (b : Bool) : (completeSave b s).hc = s.hc := by
  unfold completeSave; split <;> simp
@[simp] theorem completeSave_lines (b : Bool) : (completeSave b s).lines = s.lines := by
  unfold completeSave; split <;> simp
@[simp] theorem completeSave_freeCount (b : Bool) : (completeSave b s).freeCount = s.freeCount := by
  unfold completeSave; split <;> simp
@[simp] theorem completeSave_pending (b : Bool) : (completeSave b s).pending = s.pending := by
  unfold completeSave; split <;> simp

end Sys2Proof.Machine
end

