-- ==== Sys2Proof/Laws/Link.lean ====
section
/-! SUPPORT. What the shared operations of the station link and of the flags can do, said once: which request executes next, how a
served request's reply stands in the link, and what raising a flag and waking the host change. -/

namespace Sys2Proof.Machine

/-! ## The next request -/

/-- The first waiting request of a list is the one behind the executed ones. -/
theorem find_waiting {pre post : List Request} {r : Request} (hp : ∀ x ∈ pre, x.progress ≠ .waiting) (hr : r.progress = .waiting) :
    (pre ++ r :: post).find? (fun x => x.progress = .waiting) = some r := by
  induction pre with
  | nil => simp [hr]
  | cons x xs ih =>
    have hx := hp x (by simp)
    simp only [List.cons_append, List.find?_cons, hx, decide_false]
    exact ih fun y hy => hp y (by simp [hy])

theorem moveFirst_waiting {pre post : List Request} {r : Request} (p : Progress) (e : AtReplyEnd)
    (hp : ∀ x ∈ pre, x.progress ≠ .waiting) (hr : r.progress = .waiting) :
    moveFirst p e (pre ++ r :: post) = pre ++ { r with progress := p, atEnd := e } :: post := by
  induction pre with
  | nil => simp [moveFirst, hr]
  | cons x xs ih =>
    have hx := hp x (by simp)
    simp only [List.cons_append, moveFirst, hx, if_false, List.cons.injEq, true_and]
    exact ih fun y hy => hp y (by simp [hy])

variable {s : State} {pre post : List Request} {r : Request}

/-- The request at the front is the next one. -/
theorem Front.next (h : Front s pre r post) : nextRequest s = some r := by
  simp [nextRequest, h.barrier, h.mark, h.list, find_waiting h.executed h.waiting]

/-- Time passing moves no request. -/
theorem Front.elapse (h : Front s pre r post) (d : Elapsed) : Front (s.elapse d) pre r post :=
  ⟨h.powered, h.list, h.executed, h.waiting, h.barrier, h.mark⟩

/-- An outside upset moves no request. -/
theorem Front.upsets (h : Front s pre r post) (xs : List Upset) : Front (applyUpsets s xs) pre r post :=
  ⟨h.powered, h.list, h.executed, h.waiting, h.barrier, h.mark⟩

/-- With a request at the front, a powered device's meaning runs. -/
theorem Front.timed (h : Front s pre r post) (d : Elapsed) (f : State → State) : Machine.timed d s f = .next (f (s.elapse d)) := by
  simp [Machine.timed, h.powered]

/-! ## Serving -/

/-- A served request: `f`'s reply is in the link, and `f`'s state is the state but for the link. -/
theorem serveWith_front (h : Front s pre r post) {mine : Request → Bool} (hm : mine r = true)
    {f : List Byte → State → (List Byte × AtReplyEnd) × State} {t : State} {reply : List Byte} {e : AtReplyEnd}
    (hf : f r.payload s = ((reply, e), t)) (ht : t.sl.list = s.sl.list) :
    serveWith mine f s = { t with sl := t.sl.replied pre r post e reply } := by
  have hl : t.sl.list = pre ++ r :: post := ht.trans h.list
  simp [serveWith, h.next, hm, hf, answer, StationLink.replied, hl, moveFirst_waiting _ _ h.executed h.waiting, State.modSl]

theorem serve_front (h : Front s pre r post) {kind : Byte} (hk : r.kind = kind) {f : List Byte → State → List Byte × State}
    {t : State} {reply : List Byte} (hf : f r.payload s = (reply, t)) (ht : t.sl.list = s.sl.list) :
    serve kind f s = { t with sl := t.sl.replied pre r post .nothing reply } :=
  serveWith_front h (by simp [hk]) (by simp [hf]) ht

/-- A request that is not of the command's kind stays as it is. -/
theorem serve_other (h : Front s pre r post) {kind : Byte} (hk : r.kind ≠ kind) (f : List Byte → State → List Byte × State) :
    serve kind f s = s := by
  simp [serve, serveWith, h.next, hk]

/-- With no request to execute nothing happens. -/
theorem serveWith_none (h : nextRequest s = none) (mine : Request → Bool)
    (f : List Byte → State → (List Byte × AtReplyEnd) × State) : serveWith mine f s = s := by
  simp [serveWith, h]

/-! ## Raising a flag and waking the host -/

/-- The host rail stays on through a change between two states that have it on. -/
theorem setHostRail_on {h : HostRail} (h1 : s.pt.host.isOn = true) (h2 : h.isOn = true) :
    setHostRail h s = s.modPt fun p => { p with host := h } := by
  simp [setHostRail, h1, h2]

/-- Waking a dozing host leaves the link as it is. -/
theorem wakeHost_sl_of_on (c : WakeCause) (h : s.pt.host.isOn = true) : (wakeHost c s).sl = s.sl := by
  unfold wakeHost
  split
  · simp_all [HostRail.isOn]
  · rename_i t ht
    rw [setHostRail_on] <;> simp [ht, HostRail.isOn]
  all_goals rfl

/-- A host whose rail is on stays on when it is woken. -/
theorem wakeHost_isOn (c : WakeCause) (h : s.pt.host.isOn = true) : (wakeHost c s).pt.host.isOn = true := by
  unfold wakeHost
  split
  · simp_all [HostRail.isOn]
  · rename_i t ht
    rw [setHostRail_on] <;> simp [ht, HostRail.isOn]
  all_goals exact h

/-- Raising a flag while the host rail is on changes nothing of the link but the flag. -/
theorem raise_sl_of_on (f : AttnFlag) (h : s.pt.host.isOn = true) :
    (raise f s).sl = { s.sl with flags := s.sl.flags ||| f.bit } := by
  unfold raise
  dsimp only
  split
  · rfl
  · rw [wakeHost_sl_of_on]
    · rfl
    · exact h

theorem raise_isOn (f : AttnFlag) (h : s.pt.host.isOn = true) : (raise f s).pt.host.isOn = true := by
  unfold raise
  dsimp only
  split
  · exact h
  · exact wakeHost_isOn _ h

/-! ## What a wake never touches of PT -/

theorem setHostRail_tier (h : HostRail) : (setHostRail h s).pt.tier = s.pt.tier := by
  unfold setHostRail
  dsimp only
  (repeat' split) <;> rfl

theorem wakeHost_tier (c : WakeCause) : (wakeHost c s).pt.tier = s.pt.tier := by
  unfold wakeHost
  split <;> simp [setHostRail_tier]

theorem raise_tier (f : AttnFlag) : (raise f s).pt.tier = s.pt.tier := by
  unfold raise
  dsimp only
  split
  · rfl
  · rw [wakeHost_tier]
    rfl

end Sys2Proof.Machine
end

