-- ==== Sys2Proof/Laws/Memory.lean ====
section
/-! SUPPORT. The laws of the page array: a read after a write, other addresses untouched, and the canonical form that every
operation keeps. -/

namespace Sys2Proof.Machine

/-- The form from a least address on is the form from any lower one. -/
theorem wfFrom_mono {lo lo' : Nat} (h : lo' ≤ lo) : ∀ {m : PageArray}, wfFrom lo m = true → wfFrom lo' m = true
  | [], _ => rfl
  | (a, v) :: rest, hw => by
    simp only [wfFrom, Bool.and_eq_true, decide_eq_true_eq] at hw ⊢
    exact ⟨⟨le_trans h hw.1.1, hw.1.2⟩, hw.2⟩

/-- An address below the least one of the form is not listed. -/
theorem readWord_below {lo a : Nat} (h : a < lo) : ∀ {m : PageArray}, wfFrom lo m = true → readWord m a = blankWord
  | [], _ => rfl
  | (b, w) :: rest, hw => by
    simp only [wfFrom, Bool.and_eq_true, decide_eq_true_eq] at hw
    have hb : a ≠ b := by omega
    simp only [readWord, hb, if_false]
    exact readWord_below (by omega) hw.2

/-- A write keeps the canonical form. -/
theorem writeWord_wfFrom {lo a : Nat} (v : StorageWord) (ha : lo ≤ a) :
    ∀ {m : PageArray}, wfFrom lo m = true → wfFrom lo (writeWord m a v) = true
  | [], _ => by
    unfold writeWord
    split
    · rfl
    · simp_all [wfFrom]
  | (b, w) :: rest, hw => by
    have hw' := hw
    simp only [wfFrom, Bool.and_eq_true, decide_eq_true_eq] at hw'
    unfold writeWord
    split
    · split
      · exact hw
      · rename_i hab hv
        have : wfFrom (a + 1) ((b, w) :: rest) = true := by
          simp only [wfFrom, Bool.and_eq_true, decide_eq_true_eq]
          exact ⟨⟨by omega, hw'.1.2⟩, hw'.2⟩
        rw [wfFrom, this]
        simp [ha, hv]
    · split
      · rename_i h1 h2
        subst h2
        split
        · exact wfFrom_mono (by omega) hw'.2
        · rename_i hv
          rw [wfFrom, hw'.2]
          simp [ha, hv]
      · rename_i h1 h2
        rw [wfFrom, writeWord_wfFrom v (by omega : b + 1 ≤ a) hw'.2]
        simp [hw'.1.1, hw'.1.2]

theorem writeWord_wf {m : PageArray} (h : m.wf = true) (a : Nat) (v : StorageWord) : PageArray.wf (writeWord m a v) = true :=
  writeWord_wfFrom v (Nat.zero_le a) h

/-- A write changes no other address. -/
theorem readWord_writeWord_ne {a a' : Nat} (h : a' ≠ a) (v : StorageWord) :
    ∀ m : PageArray, readWord (writeWord m a v) a' = readWord m a'
  | [] => by
    unfold writeWord
    split <;> simp [readWord, h]
  | (b, w) :: rest => by
    unfold writeWord
    split
    · split <;> simp [readWord, h]
    · split
      · rename_i h2
        subst h2
        split <;> simp [readWord, h]
      · simp only [readWord]
        rw [readWord_writeWord_ne h v rest]

/-- A read after a write of the same address gives the word written. -/
theorem readWord_writeWord_same {lo a : Nat} (v : StorageWord) :
    ∀ {m : PageArray}, wfFrom lo m = true → readWord (writeWord m a v) a = v
  | [], _ => by
    unfold writeWord
    split <;> simp_all [readWord]
  | (b, w) :: rest, hw => by
    have hw' := hw
    simp only [wfFrom, Bool.and_eq_true, decide_eq_true_eq] at hw'
    unfold writeWord
    split
    · rename_i hab
      split
      · rename_i hv
        rw [hv]
        have hb : a ≠ b := by omega
        simp only [readWord, hb, if_false]
        exact readWord_below (by omega) hw'.2
      · simp [readWord]
    · split
      · rename_i h2
        subst h2
        split
        · rename_i hv
          rw [hv]
          exact readWord_below (Nat.lt_succ_self a) hw'.2
        · simp [readWord]
      · rename_i h2
        simp only [readWord, h2, if_false]
        exact readWord_writeWord_same v hw'.2

theorem readWord_writeWord {m : PageArray} (h : m.wf = true) (a a' : Nat) (v : StorageWord) :
    readWord (writeWord m a v) a' = if a' = a then v else readWord m a' := by
  split
  · rename_i h1
    subst h1
    exact readWord_writeWord_same v h
  · rename_i h1
    exact readWord_writeWord_ne h1 v m

/-- One upset keeps the canonical form. -/
theorem applyUpset_wf {m : PageArray} (h : m.wf = true) (x : Upset) : PageArray.wf (applyUpset m x) = true :=
  writeWord_wf h _ _

/-- A list of upsets keeps the canonical form. -/
theorem foldl_applyUpset_wf (xs : List Upset) : ∀ {m : PageArray}, m.wf = true → PageArray.wf (xs.foldl applyUpset m) = true := by
  induction xs with
  | nil => exact fun h => h
  | cons x xs ih => exact fun h => ih (applyUpset_wf h x)

theorem applyUpsets_wf {s : State} (h : s.ws.array.wf = true) (xs : List Upset) : (applyUpsets s xs).ws.array.wf = true :=
  foldl_applyUpset_wf xs h

/-- Writing the waiting half of a pair keeps the canonical form. -/
theorem flushPair_wf {w : WaveStore} (h : w.array.wf = true) (c : Channel) : (w.flushPair c).array.wf = true := by
  unfold WaveStore.flushPair
  split
  · exact writeWord_wf h _ _
  · exact h

/-- A page's bookkeeping does not touch the array. -/
@[simp] theorem modPage_array (w : WaveStore) (p : PageId) (f : Page → Page) : (w.modPage p f).array = w.array := rfl
@[simp] theorem modChan_array (w : WaveStore) (c : Channel) (f : StoreChannel → StoreChannel) : (w.modChan c f).array = w.array := rfl
@[simp] theorem release_array (w : WaveStore) (p : PageId) : (w.release p).array = w.array := rfl
@[simp] theorem allocate_array (w : WaveStore) (p : PageId) (o : PageState) : (w.allocate p o).array = w.array := rfl
@[simp] theorem appendPage_array (w : WaveStore) (n : Nat) (c : Channel) (p : PageId) : (w.appendPage n c p).array = w.array := rfl

@[simp] theorem releaseAll_array (ps : List PageId) : ∀ w : WaveStore, (w.releaseAll ps).array = w.array := by
  induction ps with
  | nil => exact fun _ => rfl
  | cons p ps ih => exact fun w => (ih (w.release p)).trans rfl

theorem closeFilling_wf {w : WaveStore} (h : w.array.wf = true) (c : Channel) : (w.closeFilling c).array.wf = true := by
  unfold WaveStore.closeFilling
  split
  · exact flushPair_wf h c
  · exact h

/-- An event's pages leave it, closing first where they fill, and the array keeps its canonical form. -/
theorem dropEvent_wf {w : WaveStore} (h : w.array.wf = true) (n : Nat) : (w.dropEvent n).array.wf = true := by
  have step : ∀ (ps : List PageId) {v : WaveStore}, v.array.wf = true → ∀ c, (WaveStore.closeIfIn ps v c).array.wf = true := by
    intro ps v hv c
    unfold WaveStore.closeIfIn
    split
    · exact closeFilling_wf hv c
    · exact hv
  simp only [WaveStore.dropEvent, releaseAll_array]
  exact step _ (step _ (step _ h .z) .n) .e

/-- The check of a storage word without error, with one bit in error and with two (R87). -/
theorem eccCheck_clean {w : StorageWord} (h : errorWeight w.err = 0) : eccCheck w = ⟨.clean, w.first, w.second⟩ := by
  simp [eccCheck, h]

theorem eccCheck_single {w : StorageWord} (h : errorWeight w.err = 1) : eccCheck w = ⟨.single, w.first, w.second⟩ := by
  simp [eccCheck, h]

theorem eccCheck_double {w : StorageWord} (h : errorWeight w.err = 2) :
    eccCheck w = ⟨.uncorrectable, w.rawFirst, w.rawSecond⟩ := by
  simp [eccCheck, h]

/-- The array of State.reset has its canonical form. -/
theorem reset_memory : MemoryInv State.reset := rfl

end Sys2Proof.Machine
end

