-- ==== Sys2Proof/Tests/Slice0.lean ====
section
/-! SUPPORT. Tests: the refusals of WellFormed, the spec's worked examples, and for every statement with hypotheses a state and operands
that meet them, clause by clause. -/

namespace Sys2Proof.Machine.Tests

-- One theorem after the other: the evaluations below would otherwise wait for each other, a thread each.
set_option Elab.async false

/-! ## Helpers -/

def d0 : Elapsed := ⟨0, 0⟩

/-- A request that waits. -/
def ask (k : Byte) (p : List Byte) : Request := ⟨1, k, p, .waiting, .nothing⟩

/-- A state whose only pending request is one. -/
def asked (k : Byte) (p : List Byte) (s : State) : State :=
  { s with powered := true, sl := { s.sl with list := [ask k p], barrier := false, executing := false } }

theorem asked_front (k : Byte) (p : List Byte) (s : State) : Front (asked k p s) [] (ask k p) [] :=
  ⟨rfl, rfl, by simp, rfl, rfl, rfl⟩

abbrev r0 : State := State.reset

/-- The state after reset in a grade and a tier, at a time. -/
def at' (g : Grade) (t : Tier) (sec ns : Nat) : State :=
  { r0 with tb := { r0.tb with grade := g }, pt := { r0.pt with tier := t }, clk := { r0.clk with time := ⟨sec, ns⟩ } }

/-- The state with a detector state and a current event. -/
def det (x : DetectorState) (n : Option Nat) : State := { r0 with tu := { r0.tu with det := x, current := n } }

/-- A closed record with a number, its host pin off and no alert. -/
def rec1 (n : Nat) : EventRecord :=
  ⟨n, .closed, ⟨5, 0⟩, .locked, 100, .full, some ⟨9, 0⟩, ⟨true, false, false⟩, ⟨some ⟨7, some ⟨6, 0⟩⟩, none, none⟩, noEventFlags, false,
    false, .none, none⟩

/-- The state with records. -/
def recs (l : List EventRecord) : State := { r0 with et := ⟨l, 9, 0⟩ }

/-- A queued entry. -/
def ent (id : Nat) (c : AlertClass) : Entry := ⟨id, c, .none, ⟨1, 0⟩, [], false, 0⟩

/-- The state with an alert queue. -/
def queue (l : List Entry) : State := { r0 with al := { r0.al with queue := l } }

/-! ## WellFormed refuses what no line can carry -/

theorem test_wellFormed_taken_too_long : Instr.wellFormed (.taken d0 0 (List.replicate 49 0)) = false := by decide
theorem test_wellFormed_refused_too_long : Instr.wellFormed (.refused d0 0 (List.replicate 49 0)) = false := by decide
theorem test_wellFormed_done_too_long : Instr.wellFormed (.done d0 0 (List.replicate 49 0)) = false := by decide
theorem test_wellFormed_done_longest : Instr.wellFormed (.done d0 0 (List.replicate 48 0)) = true := by decide

/-! ## The table gives no bits; reset -/

theorem test_no_word_spells_a_command : decodeTableWord 16 0x1234 = none := by decide
theorem test_withFetchWord_changes_nothing : State.reset.withFetchWord 16 0x1234 = State.reset := rfl
theorem test_idle : step State.reset = .next State.reset := rfl

/-! ## Worked examples of the spec -/

/-- 1.5: θ = +800 with I = 12,000 gives I = 12,800 and s = −300. -/
theorem test_loop_worked_case : loopIntegral 12000 800 = 12800 ∧ loopSteer 12800 800 = -300 := by decide

/-- 1.8: v = −90 and s_int = −100 give −91. -/
theorem test_drift_worked_case : (learnBin 12800 ⟨-90, 5⟩).v = -91 := by decide

/-- "Return of the reference", pulses 1 and 2. -/
theorem test_return_of_reference :
    loopIntegral 12800 2400 = 15200 ∧ loopSteer 15200 2400 = -718 ∧ loopIntegral 15200 1782 = 16982 ∧
      loopSteer 16982 1782 = -577 := by decide

/-- "Three passes", channel Z: y = −9,725. -/
theorem test_three_passes_z :
    ((resetContext [16384, 16384, -8192]).pass 0).y = 0 ∧
      (({ resetContext [16384, 16384, -8192] with
          delay := ((Vector.replicate 32 (0 : Int)).set 6 400).set 5 (-300), w := 7 } : FilterContext).pass (-20000)).y = -9725 := by
  decide +kernel

/-- "Three passes", channel N: saturation sets SAT and CLIP. -/
theorem test_three_passes_n :
    let f := ((resetContext [32767, 32767]).pass 8000000).pass 8000000
    f.y = 8388607 ∧ f.sat = true ∧ f.clip = true := by decide +kernel

/-- "Three passes", channel E: the rounding near 0. -/
theorem test_three_passes_e :
    ((resetContext [1]).pass 16384).y = 1 ∧ ((resetContext [1]).pass (-16384)).y = 0 ∧
      ((resetContext [1]).pass (-16385)).y = -1 := by decide +kernel

/-- "The STA/LTA arithmetic", passes 1 and 2. -/
theorem test_sta_lta :
    avgStep 25600 (charValue (-20000) * 256) 6 = 105200 ∧ avgStep 25600 (charValue (-20000) * 256) 12 = 26843 ∧
      avgStep 105200 (charValue 18000 * 256) 6 = 175556 ∧ avgStep 26843 (charValue 18000 * 256) 12 = 27961 := by decide

/-- R139: VBAT raw 3,120 is 12,480 mV, IBAT raw 1,900 is −723 mA. -/
theorem test_calibration_worked_case :
    calibrate ⟨0, 16384⟩ 0 65535 3120 = 12480 ∧ calibrate ⟨2048, 20000⟩ (-32768) 32767 1900 = -723 := by decide

/-- R142: q = 36,000,000 with I = 1,500 becomes 36,001,453; with I = −45 over 60 s it loses 2,700. -/
theorem test_counting_worked_case :
    countedCharge defaultLimits 36000000 1500 1 = 36001453 ∧ countedCharge defaultLimits 36000000 (-45) 60 = 35997300 := by
  decide

/-- R146: 12,180 mV is 306 permille, and the points' ends. -/
theorem test_estimate_worked_case :
    estimateSoc defaultTable 12180 = 306 ∧ estimateSoc defaultTable 11800 = 0 ∧ estimateSoc defaultTable 12750 = 1000 := by
  decide

/-- The CRCs of nine bytes that stand for the digits 1 to 9, as the two 8-bit and the 16-bit polynomials of R203 give them: the
published check values of the polynomials. -/
theorem test_crc_check_values :
    crc16 [0x31, 0x32, 0x33, 0x34, 0x35, 0x36, 0x37, 0x38, 0x39] = 0x29B1 ∧
      crcDigitizer [0x31, 0x32, 0x33, 0x34, 0x35, 0x36, 0x37, 0x38, 0x39] = 0xF4 ∧
      crcLabel [0x31, 0x32, 0x33, 0x34, 0x35, 0x36, 0x37, 0x38, 0x39] = 0xF7 := by decide +kernel

/-! ## Page maps that meet the invariant -/

/-- The page map of a state whose pages are those of `f` and whose events have numbers below `k`, page by page and channel by
channel. -/
structure PageCheck (s : State) (f : PageId → Page) (k : Nat) : Prop where
  get : ∀ p, s.ws.pages.get p = f p
  events : (s.ws.events.map EventPages.num).Nodup ∧ ∀ x ∈ s.ws.events, x.num < k
  pages : ∀ p : PageId,
    ((f p).state = .free → (f p).faulty = false) ∧ ((f p).state = .faultySet → (f p).faulty = true) ∧
      (match (f p).state with
        | .event n _ => decide (n < k)
        | _ => true) = true ∧
      ((f p).filling = true ↔ ∃ c ∈ channels, (s.ws.chans.get c).filling = some p) ∧
      ∀ c ∈ channels,
        ((f p).state = .ring c ↔
            p ∈ (s.ws.chans.get c).ring ∨ ((s.ws.chans.get c).route = .ring ∧ (s.ws.chans.get c).filling = some p)) ∧
          ∀ n < k, ((f p).state = .event n c ↔ p ∈ s.ws.eventList n c)
  chans : ∀ c ∈ channels,
    ((s.ws.chans.get c).ring ++ (s.ws.chans.get c).filling.toList).Nodup ∧ (∀ n < k, (s.ws.eventList n c).Nodup) ∧
      (∀ p ∈ (s.ws.chans.get c).filling.toList,
        (s.ws.chans.get c).route = .ring ∨ ∃ n ∈ List.range k, (s.ws.chans.get c).route = .event n ∧ (f p).state = .event n c) ∧
      ((s.ws.chans.get c).filling = none → (s.ws.chans.get c).pair = none) ∧
      ((s.ws.chans.get c).ring ≠ [] → (s.ws.chans.get c).route = .ring ∨ (s.ws.chans.get c).route = .starved) ∧
      ((s.ws.chans.get c).route = .off ↔ enabledIn s.pt.tier c = false)

theorem get_ofFn (f : PageId → Page) (p : PageId) : (Vector.ofFn f).get p = f p := by
  simp only [Vector.get_eq_getElem, Vector.getElem_ofFn, Fin.eta]

theorem mem_channels (c : Channel) : c ∈ channels := by cases c <;> decide

theorem eventList_beyond {w : WaveStore} {k n : Nat} (h : ∀ x ∈ w.events, x.num < k) (hn : ¬n < k) (c : Channel) :
    w.eventList n c = [] := by
  have e : w.events.find? (fun x => x.num = n) = none := by
    simp only [List.find?_eq_none, decide_eq_true_eq]
    intro x hx hxn; have := h x hx; omega
  unfold WaveStore.eventList
  rw [e]

theorem pageInv_of_check {s : State} {f : PageId → Page} {k : Nat} (h : PageCheck s f k) : PageInv s where
  events := h.events.1
  free p := by rw [h.get]; exact (h.pages p).1
  faulty p := by rw [h.get]; exact (h.pages p).2.1
  ring p c := by rw [h.get]; exact ((h.pages p).2.2.2.2 c (mem_channels c)).1
  event p n c := by
    rw [h.get]
    by_cases hn : n < k
    · exact ((h.pages p).2.2.2.2 c (mem_channels c)).2 n hn
    · have hp := (h.pages p).2.2.1
      rw [eventList_beyond h.events.2 hn]
      constructor
      · intro e; rw [e] at hp; simp at hp; omega
      · intro e; cases e
  once := by
    refine ⟨fun c => (h.chans c (mem_channels c)).1, fun n c => ?_⟩
    by_cases hn : n < k
    · exact (h.chans c (mem_channels c)).2.1 n hn
    · rw [eventList_beyond h.events.2 hn]; exact .nil
  filling p := by
    rw [h.get]
    exact (h.pages p).2.2.2.1.trans ⟨fun ⟨c, _, e⟩ => ⟨c, e⟩, fun ⟨c, e⟩ => ⟨c, mem_channels c, e⟩⟩
  fills c p e := by
    rw [h.get]
    obtain h | ⟨n, _, h⟩ := (h.chans c (mem_channels c)).2.2.1 p (by simp [e])
    · exact .inl h
    · exact .inr ⟨n, h⟩
  pair c := (h.chans c (mem_channels c)).2.2.2.1
  rings c := (h.chans c (mem_channels c)).2.2.2.2.1
  off c := (h.chans c (mem_channels c)).2.2.2.2.2

/-- The pages right after reset: each channel fills the first page of its ring. -/
def resetPage (p : PageId) : Page :=
  if p = 0 then { freePage with state := .ring .z, filling := true }
  else if p = 1 then { freePage with state := .ring .n, filling := true }
  else if p = 2 then { freePage with state := .ring .e, filling := true }
  else freePage

theorem pageCheck_r0 : PageCheck r0 resetPage 1 := ⟨by decide +kernel, by decide, by decide +kernel, by decide +kernel⟩

theorem pageInv_r0 : PageInv r0 := pageInv_of_check pageCheck_r0

/-- Z's first page with a number of samples from second 6 on, with or without a faulty mark. -/
def filledPage (n : Nat) (faulty : Bool) (p : PageId) : Page :=
  if p = 0 then { resetPage 0 with first := some ⟨6, 0⟩, count := n, faulty := faulty } else resetPage p

/-- The state after reset with that page, and with or without a waiting half. -/
def filled (n : Nat) (faulty : Bool) (half : Option (BitVec 32)) : State :=
  { r0 with
    ws :=
      { r0.ws with
        pages := Vector.ofFn (filledPage n faulty), chans := ⟨⟨.ring, [], some 0, half, 0⟩, r0.ws.chans.n, r0.ws.chans.e⟩ } }

theorem pageInv_filled (n : Nat) (faulty : Bool) (half : Option (BitVec 32)) : PageInv (filled n faulty half) := by
  have hz : r0.ws.chans.z.ring = [] ∧ r0.ws.chans.z.route = .ring ∧ r0.ws.chans.z.filling = some 0 := by decide +kernel
  have hc : ∀ c, ((filled n faulty half).ws.chans.get c).ring = (r0.ws.chans.get c).ring ∧
      ((filled n faulty half).ws.chans.get c).route = (r0.ws.chans.get c).route ∧
      ((filled n faulty half).ws.chans.get c).filling = (r0.ws.chans.get c).filling := by
    intro c; cases c <;> simp [filled, Tri.get, hz]
  have he : (filled n faulty half).ws.events = r0.ws.events := rfl
  have hl : ∀ k c, (filled n faulty half).ws.eventList k c = r0.ws.eventList k c := by simp [WaveStore.eventList, he]
  have hs : ∀ p, (filledPage n faulty p).state = (resetPage p).state ∧ (filledPage n faulty p).filling = (resetPage p).filling := by
    intro p; unfold filledPage; split <;> simp_all
  have hr : (resetPage 0).state = .ring .z := by decide
  refine pageInv_of_check (f := filledPage n faulty) (k := 1) ⟨get_ofFn _, pageCheck_r0.events, fun p => ?_, fun c hm => ?_⟩
  · have h := pageCheck_r0.pages p
    simp only [hs, hc, hl]
    refine ⟨fun e => ?_, fun e => ?_, h.2.2.1, h.2.2.2.1, h.2.2.2.2⟩
    all_goals
      have hp : p ≠ 0 := by rintro rfl; rw [hr] at e; cases e
      simp only [filledPage, hp, if_false]
    · exact h.1 e
    · exact h.2.1 e
  · have h := pageCheck_r0.chans c hm
    simp only [hs, hc, hl]
    refine ⟨h.1, h.2.1, h.2.2.1, fun e => ?_, h.2.2.2.2.1, h.2.2.2.2.2⟩
    cases c
    · rw [show r0.ws.chans.get .z = r0.ws.chans.z from rfl, hz.2.2] at e; cases e
    · exact h.2.2.2.1 e
    · exact h.2.2.2.1 e

/-- Pages none of which is free: Z's filling page, two of event 3, four of Z's ring, and the others worn out. -/
def wornPage (p : PageId) : Page :=
  if p = 0 then { freePage with state := .ring .z, filling := true }
  else if p = 3 then ⟨.event 3 .z, false, some ⟨6, 0⟩, 2, 0, false⟩
  else if p = 4 then ⟨.event 3 .z, false, some ⟨7, 0⟩, 1, 0, false⟩
  else if p < 9 ∧ 4 < p then ⟨.ring .z, false, some ⟨8, 0⟩, 1, 0, false⟩
  else { freePage with state := .faultySet, faulty := true }

/-- Event 3 of three samples on two pages of Z, in a store without a free page: N's route is STARVED, E's as given. -/
def wave (e : Route) : State :=
  { r0 with
    et := ⟨[rec1 3], 9, 0⟩
    ws :=
      { r0.ws with
        array := [(1536, ⟨1, 2, 0⟩), (2048, ⟨3, 4, 3⟩)], pages := Vector.ofFn wornPage
        chans := ⟨⟨.ring, [5, 6, 7, 8], some 0, none, 0⟩, ⟨.starved, [], none, none, 0⟩, ⟨e, [], none, none, 0⟩⟩
        events := [⟨3, ⟨[3, 4], [], []⟩⟩] } }

theorem pageInv_wave (e : Route) (h : e = .event 3 ∨ e = .stopped) : PageInv (wave e) := by
  rcases h with rfl | rfl <;>
    exact pageInv_of_check (f := wornPage) (k := 4) ⟨get_ofFn wornPage, by decide, by decide +kernel, by decide +kernel⟩

/-- Counts of a page map given as a function. -/
theorem countInv_of_pages {s : State} {f : PageId → Page} (hg : ∀ p, s.ws.pages.get p = f p)
    (h : ∀ p, (f p).count ≤ 1024 ∧ ((f p).filling = true → (f p).count < 1024)) : CountInv s := fun p => hg p ▸ h p

theorem countInv_wave (e : Route) : CountInv (wave e) :=
  countInv_of_pages (f := wornPage) (get_ofFn wornPage) (by decide +kernel)

/-- The page invariant speaks of the store and the tier alone. -/
theorem pageInv_congr {s t : State} (h : PageInv s) (hw : t.ws = s.ws) (ht : t.pt.tier = s.pt.tier) : PageInv t := by
  obtain ⟨h1, h2, h3, h4, h5, h6, h7, h8, h9, h10, h11⟩ := h
  rw [← hw] at h1 h2 h3 h4 h5 h6 h7 h8 h9 h10 h11
  rw [← ht] at h11
  exact ⟨h1, h2, h3, h4, h5, h6, h7, h8, h9, h10, h11⟩

/-- Event 3 in its post window, E still recording and Z's route a ring. -/
def running : State :=
  { wave (.event 3) with
    et := ⟨[{ rec1 3 with state := .post, endTime := none }], 9, 0⟩, tu := { r0.tu with det := .post, current := some 3 } }

/-! ## Witnesses: step, queue, requests -/

theorem witness_StepRunsFrontCommand :
    ({ r0 with pending := [.ident d0, .status d0] } : State).pending = Instr.ident d0 :: [.status d0] := rfl

theorem witness_CommandsAnswerAndSupplyLossStops :
    r0.pending = [] ∧ r0.powered = true ∧ ({ r0 with powered := false } : State).powered = false ∧
      ∀ d raw, Instr.ident d0 ≠ .powerOnReset d raw := ⟨rfl, rfl, rfl, by intros; simp⟩

theorem witness_RequestsNeedTheirTurnAndLength :
    ((Instr.ident, 0x01, 0) : (Elapsed → Instr) × Byte × Nat) ∈ fixedRequests ∧
      Front (asked 0x01 [7] r0) [] (ask 0x01 [7]) [] ∧ (ask 0x01 [7]).payload.length ≠ 0 ∧
      (∀ r ∈ r0.sl.list, r.progress ≠ .waiting) ∧
      ({ r0 with sl := { r0.sl with barrier := true } } : State).sl.barrier = true ∧
      ({ r0 with sl := { r0.sl with executing := true } } : State).sl.executing = true ∧
      (Front (asked 0x02 [] r0) [] (ask 0x02 []) [] ∧ (ask 0x02 []).kind ≠ 0x01) ∧
      ((Instr.filterLoad, 0x20) : (Elapsed → Instr) × Byte) ∈ requestKinds ∧
      (∃ x ∈ requestKinds, (ask 0x02 []).kind = x.2) ∧
      (Front (asked 0x05 [1] r0) [] (ask 0x05 [1]) [] ∧
        ((Instr.restartLink, 0x05, 0) : (Elapsed → Instr) × Byte × Byte) ∈ partRequests ∧
        ((Instr.restartDetection, 0x05, 1) : (Elapsed → Instr) × Byte × Byte) ∈ partRequests) :=
  ⟨by simp [fixedRequests], asked_front .., by decide, (by intro r h; cases h), rfl, rfl, ⟨asked_front .., by decide⟩,
    by simp [requestKinds, otherRequests], ⟨(Instr.status, 0x02), by simp [requestKinds, fixedRequests], rfl⟩, asked_front ..,
    by simp [partRequests], by simp [partRequests]⟩

/-! ## Witnesses: time base -/

/-- A state in a grade with a label for second 100 that arrived at 99.4 s, at the time given, after a pulse at 99 s. -/
def pulseAt (g : Grade) (sec ns : Nat) : State :=
  { r0 with
    clk := { r0.clk with time := ⟨sec, ns⟩ }
    tb := { r0.tb with grade := g, label := some ⟨100, true, ⟨99, 400000000⟩⟩, lastPulse := some ⟨99, 0⟩ } }

theorem candidate_pulseAt (g : Grade) (sec ns : Nat) (h1 : ((pulseAt g sec ns).elapse d0).clk.time.toNs ≤ 100400000000)
    (h2 : 99500000000 ≤ ((pulseAt g sec ns).elapse d0).clk.time.toNs) :
    Candidate (pulseAt g sec ns).tb ((pulseAt g sec ns).elapse d0).clk.time.toNs ⟨100, true, ⟨99, 400000000⟩⟩ :=
  ⟨rfl, rfl, h1, h2⟩

theorem witness_LabelsAndUnusedPulses :
    r0.powered = true ∧ r0.tb.labelRx = [] ∧ r0.tb.clock = .main ∧ ([1, 2, 3, 4, 1] : List Byte).length = 5 ∧
      (∀ b ∈ ([0x4D, 0x00] : List Byte), b ≠ 0x4C) ∧
      ({ r0 with tb := { r0.tb with clock := .watch } } : State).tb.clock ≠ .main ∧
      (∀ l, ¬Candidate r0.tb (r0.elapse d0).clk.time.toNs l) ∧
      (Candidate (pulseAt .tracking 100 100001).tb ((pulseAt .tracking 100 100001).elapse d0).clk.time.toNs
          ⟨100, true, ⟨99, 400000000⟩⟩ ∧
        ¬Accepts (pulseAt .tracking 100 100001).tb ((pulseAt .tracking 100 100001).elapse d0).clk.time.toNs) ∧
      (Candidate (pulseAt .locked 100 10001).tb ((pulseAt .locked 100 10001).elapse d0).clk.time.toNs
          ⟨100, true, ⟨99, 400000000⟩⟩ ∧
        Accepts (pulseAt .locked 100 10001).tb ((pulseAt .locked 100 10001).elapse d0).clk.time.toNs ∧
        10000 < (((pulseAt .locked 100 10001).elapse d0).clk.time.toNs - (100 : Nat) * 1000000000 : Int).natAbs) := by
  refine ⟨rfl, rfl, rfl, rfl, by decide, by decide, ?_, ⟨candidate_pulseAt _ _ _ (by decide) (by decide), ?_⟩,
    candidate_pulseAt _ _ _ (by decide) (by decide), ?_, by decide⟩
  · intro l h; cases h.1
  · intro h
    obtain ⟨p, hp, -, h2⟩ := h (.inl rfl)
    cases hp
    exact absurd h2 (by decide)
  · exact fun _ => ⟨⟨99, 0⟩, rfl, by decide, by decide⟩

theorem witness_PulseStepsTime :
    Candidate (pulseAt .unset 100 1000001).tb ((pulseAt .unset 100 1000001).elapse d0).clk.time.toNs
        ⟨100, true, ⟨99, 400000000⟩⟩ ∧
      Accepts (pulseAt .unset 100 1000001).tb ((pulseAt .unset 100 1000001).elapse d0).clk.time.toNs ∧
      1000000 < (((pulseAt .unset 100 1000001).elapse d0).clk.time.toNs - (100 : Nat) * 1000000000 : Int).natAbs :=
  ⟨candidate_pulseAt _ _ _ (by decide) (by decide), (by rintro (h | h) <;> cases h), by decide⟩

/-- A step from second 60 to second 180 passes the decided frame 1 at its issue instant, and frame 2, not decided, at its decision
instant. -/
theorem witness_PulseStepsTime_passed :
    let s : State :=
      { r0 with
        clk := { r0.clk with time := ⟨60, 0⟩ }, tb := { r0.tb with label := some ⟨180, true, ⟨59, 400000000⟩⟩ }
        al := { r0.al with decided := some ⟨1, 1, ⟨62, 50000000⟩, false⟩, windows := [1, 2] } }
    Candidate s.tb (s.elapse d0).clk.time.toNs ⟨180, true, ⟨59, 400000000⟩⟩ ∧ Accepts s.tb (s.elapse d0).clk.time.toNs ∧
      1000000 < ((s.elapse d0).clk.time.toNs - (180 : Nat) * 1000000000 : Int).natAbs ∧
      ((s.elapse d0).clk.time.toNs < (⟨62, 50000000⟩ : Time).toNs ∧ (⟨62, 50000000⟩ : Time).toNs < 180 * 1000000000) ∧
      (s.elapse d0).clk.time.toNs < 2 * 60000000000 + 100000000 ∧ 2 * 60000000000 + 100000000 < 180 * 1000000000 :=
  ⟨⟨rfl, rfl, by decide, by decide⟩, (by rintro (h | h) <;> cases h), by decide, by decide, by decide, by decide⟩

theorem witness_PulseUpdatesLoop :
    (Candidate (pulseAt .hold 100 1000000).tb ((pulseAt .hold 100 1000000).elapse d0).clk.time.toNs ⟨100, true, ⟨99, 400000000⟩⟩ ∧
        Accepts (pulseAt .hold 100 1000000).tb ((pulseAt .hold 100 1000000).elapse d0).clk.time.toNs ∧
        (1000000 : Int) = ((pulseAt .hold 100 1000000).elapse d0).clk.time.toNs - (100 : Nat) * 1000000000) ∧
      Candidate (pulseAt .locked 100 10000).tb ((pulseAt .locked 100 10000).elapse d0).clk.time.toNs ⟨100, true, ⟨99, 400000000⟩⟩ ∧
        Accepts (pulseAt .locked 100 10000).tb ((pulseAt .locked 100 10000).elapse d0).clk.time.toNs ∧
        (10000 : Int) = ((pulseAt .locked 100 10000).elapse d0).clk.time.toNs - (100 : Nat) * 1000000000 :=
  ⟨⟨candidate_pulseAt _ _ _ (by decide) (by decide), (by rintro (h | h) <;> cases h), by decide⟩,
    candidate_pulseAt _ _ _ (by decide) (by decide), fun _ => ⟨⟨99, 0⟩, rfl, by decide, by decide⟩, by decide⟩

/-- The sixtieth good pulse in TRACKING with the free-recovery mark set. -/
theorem witness_PulseUpdatesLoop_locks :
    let s := { pulseAt .tracking 100 1000 with tb := { (pulseAt .tracking 100 1000).tb with goodRun := 59, freeRecovery := true } }
    Candidate s.tb (s.elapse d0).clk.time.toNs ⟨100, true, ⟨99, 400000000⟩⟩ ∧ Accepts s.tb (s.elapse d0).clk.time.toNs ∧
      (1000 : Int) = (s.elapse d0).clk.time.toNs - (100 : Nat) * 1000000000 ∧ 60 ≤ min 65535 (s.tb.goodRun + 1) ∧
      s.tb.freeRecovery = true :=
  ⟨⟨rfl, rfl, by decide, by decide⟩, fun _ => ⟨⟨99, 0⟩, rfl, by decide, by decide⟩, by decide, by decide, rfl⟩

/-- A state with a drift bin of a count for the present temperature of 0.0 °C. -/
def warm (g : Grade) (n : Nat) : State :=
  { at' g .full 50 0 with
    tb := { r0.tb with grade := g, drift := emptyDrift.set 8 ⟨5, n⟩, lossTimer := some ⟨47, 0⟩ }
    hm := { r0.hm with readings := { r0.hm.readings with tenc := ⟨some 0, true, 0⟩ } } }

theorem witness_ReferenceLossAndHoldover :
    ((warm .tracking 64).tb.lossTimer = some ⟨47, 0⟩ ∧
        (⟨47, 0⟩ : Time).toNs + 3000000000 ≤ ((warm .tracking 64).elapse d0).clk.time.toNs) ∧
      ((warm .hold 64).tb.grade ≠ .tracking ∧ (warm .hold 64).tb.grade ≠ .locked) ∧
      (((warm .hold 64).elapse d0).clk.time.ns = 0 ∧ tencBin (warm .hold 64) = some 8 ∧
        64 ≤ ((warm .hold 64).tb.drift.get 8).n) ∧
      (tencBin (warm .free 63) = some 8 ∧ ((warm .free 63).tb.drift.get 8).n < 64) ∧ r0.tb.grade ≠ .hold ∧ r0.tb.grade ≠ .free ∧
      ({ warm .hold 0 with tb := { (warm .hold 0).tb with clock := .watch } } : State).tb.clock ≠ .main ∧
      (r0.elapse d0).clk.watch.ticks = 0 ∧
      (let s := { warm .hold 63 with tb := { (warm .hold 63).tb with u := 9999801 } }
       s.tb.grade = .hold ∧ 10000000 < min 4294967295 (s.tb.u + 200) ∧ ¬10000000 < min 4294967295 (9999800 + 200)) := by decide +kernel

/-- A TIME SET from second 60 to second 180: it passes the issue instant of the decided frame 1 and the decision of frame 2. -/
theorem witness_TimeBaseRequests_passed :
    let s : State :=
      { at' .free .full 60 0 with al := { r0.al with decided := some ⟨1, 1, ⟨62, 50000000⟩, false⟩, windows := [1, 2] } }
    Front (asked 0x11 [0, 0, 0, 180, 0, 0, 0, 0, 0, 0, 0, 0] s) [] (ask 0x11 [0, 0, 0, 180, 0, 0, 0, 0, 0, 0, 0, 0]) [] ∧
      s.pt.host.isOn = true ∧ s.tb.grade = .free ∧ be [0, 0, 0, 180] = 180 ∧
      ((s.elapse d0).now.toNs < (⟨62, 50000000⟩ : Time).toNs ∧ (⟨62, 50000000⟩ : Time).toNs < (⟨180, 0⟩ : Time).toNs) ∧
      (s.elapse d0).now.toNs < 2 * 60000000000 + 100000000 ∧ 2 * 60000000000 + 100000000 < (⟨180, 0⟩ : Time).toNs :=
  ⟨asked_front .., rfl, rfl, by decide, by decide, by decide, by decide⟩

theorem witness_TimeBaseRequests :
    Front (asked 0x11 [0, 0, 0, 9, 0x3B, 0x9A, 0xC9, 0xFF, 0, 0x0F, 0x42, 0x3F] r0) []
        (ask 0x11 [0, 0, 0, 9, 0x3B, 0x9A, 0xC9, 0xFF, 0, 0x0F, 0x42, 0x3F]) [] ∧
      (be [0x3B, 0x9A, 0xC9, 0xFF] = 999999999 ∧ be [0x3B, 0x9A, 0xCA, 0x00] = 1000000000 ∧ be [0, 0x0F, 0x42, 0x3F] = 999999) ∧
      r0.tb.grade = .unset ∧ r0.pt.host.isOn = true ∧ (at' .locked .full 1 0).tb.grade ≠ .unset ∧
      (at' .locked .full 1 0).tb.grade ≠ .free ∧ Front (asked 0x12 [] r0) [] (ask 0x12 []) [] ∧
      (r0.tb.lastPulse = none ∧ r0.tb.lastTheta = none) ∧ (pulseAt .hold 100 0).tb.lastPulse = some ⟨99, 0⟩ :=
  ⟨asked_front .., by decide, rfl, rfl, by decide, by decide, asked_front .., ⟨rfl, rfl⟩, rfl⟩

/-! ## Witnesses: receivers and samples -/

theorem witness_ReceiversDiscardFragments :
    r0.powered = true ∧ r0.tb.clock = .main ∧ r0.pt.enSens = true ∧ r0.pt.enModem = true ∧ r0.pt.host.isOn = true ∧
      (at' .hold .conserve 1 0).pt.enModem = true ∧ ({ r0.pt with enModem := false } : PowerTier).enModem = false ∧
      r0.sl.rx = .hunt ∧ ({ r0.sl with rx := .length } : StationLink).rx ≠ .hunt ∧ 240 < (241 : Byte).toNat ∧
      ({ r0.sl with rx := .check 0 1 2 [] (some 3) } : StationLink).rx = .check 0 1 2 [] (some 3) ∧
      (3 : Byte) ++ (4 : Byte) ≠ crc16 [0, 1, 2] := by decide +kernel

theorem witness_SampleStrobeOpensWindow :
    ((at' .unset .full 7 990000000).elapse d0).clk.time = ⟨7, 99 * 10000000⟩ ∧ r0.tb.lastStrobe = none ∧ r0.si.window = none ∧
      r0.pt.enSens = true ∧ ({ r0.si with window := some ⟨⟨1, 0⟩, 3, true⟩ } : SampleInterface).window = some ⟨⟨1, 0⟩, 3, true⟩ ∧
      ({ r0.tb with lastStrobe := some ⟨7, 990000000⟩ } : TimeBase).lastStrobe = some ⟨7, 990000000⟩ ∧
      7 * 1000000000 + 99 * 10000000 ≤ (⟨7, 990000000⟩ : Time).toNs ∧ r0.tb.movedTo = none ∧
      ({ r0.tb with movedTo := some ⟨7, 990000000⟩ } : TimeBase).movedTo = some ⟨7, 990000000⟩ ∧
      ({ r0.tb with movedTo := some ⟨7, 989999999⟩ } : TimeBase).movedTo = some ⟨7, 989999999⟩ ∧
      (⟨7, 989999999⟩ : Time).toNs < 7 * 1000000000 + 99 * 10000000 := by decide +kernel

/-- A digitizer frame of number 9 whose CRC byte is given. -/
def dFrame (c : Byte) : List Byte := [0x5A, 9, 0, 0, 1, 0, 0, 2, 0, 0, 3, 0, c]

theorem witness_DigitizerFrameDecided :
    (dFrame 0).length = 13 ∧ (dFrame 0).head? = some 0x5A ∧ r0.si.rx = [] ∧ r0.si.window = none ∧ r0.si.aligned = false ∧
      crc8 0x07 0x00 (((dFrame 0).drop 1).take 11) ≠ 0 ∧
      (let c := crc8 0x07 0x00 (((dFrame 0).drop 1).take 11)
       crc8 0x07 0x00 (((dFrame c).drop 1).take 11) = (dFrame c).getD 12 0) ∧
      ((9 : Byte).toNat = (9 + 0) % 256 ∧ (9 : Byte).toNat ≠ (8 + 0) % 256) := by decide +kernel

theorem witness_DigitizerFrameDecided_store :
    MemoryInv r0 ∧ PageInv r0 ∧ (r0.ws.chans.get .z).filling = some 0 ∧ (r0.ws.pages.get 0).count = 0 ∧
      (PageInv (wave (.event 3)) ∧ MemoryInv (wave (.event 3)) ∧ ((wave (.event 3)).ws.chans.get .n).route = .starved ∧
        ((wave (.event 3)).ws.chans.get .e).route = .event 3 ∧ ((wave (.event 3)).ws.chans.get .e).filling = none) ∧
      (PageInv (wave .stopped) ∧ ((wave .stopped).ws.chans.get .e).route = .stopped) ∧
      (∀ n half faulty, PageInv (filled n faulty half) ∧ MemoryInv (filled n faulty half) ∧
        ((filled n faulty half).ws.chans.get .z).filling = some 0 ∧ ((filled n faulty half).ws.chans.get .z).pair = half ∧
        (filled n faulty half).ws.pages.get 0 = filledPage n faulty 0) ∧
      (⟨16, 230000000⟩ : Time).toNs = (⟨6, 0⟩ : Time).toNs + 10000000 * 1023 ∧
      (⟨6, 20000000⟩ : Time).toNs ≠ (⟨6, 0⟩ : Time).toNs + 10000000 * 1 := by
  refine ⟨rfl, pageInv_r0, rfl, by decide +kernel, ⟨pageInv_wave _ (.inl rfl), by unfold MemoryInv; decide +kernel, rfl, rfl, rfl⟩,
    ⟨pageInv_wave _ (.inr rfl), rfl⟩, fun n half faulty => ⟨pageInv_filled .., rfl, rfl, rfl, get_ofFn ..⟩, by decide, by decide⟩

/-- A state with one waiting delivery of channel Z. -/
def waitingZ (v : Int) : State :=
  { r0 with fe := { r0.fe with waiting := [⟨⟨1, 0⟩, [(.z, ⟨v, false, false, false, false, false⟩)]⟩] } }

theorem witness_FilterPassConvolves :
    (waitingZ 5).fe.waiting = [⟨⟨1, 0⟩, [(.z, ⟨5, false, false, false, false, false⟩)]⟩] ∧
      ((waitingZ 5).fe.ctx.get .z).active = .a ∧ ((waitingZ 5).fe.ctx.get .z).clip = false ∧
      (8388607 : Int) < (((resetContext [32767, 32767]).pass 8388607).delay.get 0 * 32767 * 2 + 16384) / 32768 := by decide +kernel

theorem witness_FilterBanksLoadAndSwap :
    Front (asked 0x20 [3, 1, 0, 0] r0) [] (ask 0x20 [3, 1, 0, 0]) [] ∧ 2 < (3 : Byte).toNat ∧ 32 < (33 : Byte).toNat ∧
      Front (asked 0x20 [3] r0) [] (ask 0x20 [3]) [] ∧ Front (asked 0x20 [] r0) [] (ask 0x20 []) [] ∧
      Front (asked 0x20 [Channel.n.code] r0) [] (ask 0x20 [Channel.n.code]) [] ∧
      Front (asked 0x20 [Channel.e.code, 2, 0, 0] r0) [] (ask 0x20 [Channel.e.code, 2, 0, 0]) [] ∧
      ([0, 0] : List Byte).length ≠ 2 * (2 : Byte).toNat ∧
      (ask 0x20 [0, 1, 0x80, 0x00]).payload = Channel.z.code :: BitVec.ofNat 8 [(-32768 : Int)].length :: [(-32768 : Int)].flatMap (putS 2) ∧
      (r0.fe.ctx.get .z).swapPending = false ∧ ({ r0.fe.ctx.get .z with swapPending := true } : FilterContext).swapPending = true ∧
      Front (asked 0x21 [Channel.z.code] r0) [] (ask 0x21 [Channel.z.code]) [] ∧ Channel.z ∈ enabledChannels r0.pt.tier ∧
      Channel.n ∉ enabledChannels .survive := by
  refine ⟨asked_front .., ?_, ?_, asked_front .., asked_front .., asked_front .., asked_front .., ?_, ?_, ?_, ?_, asked_front .., ?_,
    ?_⟩ <;> decide +kernel

theorem witness_ChannelGetReplies :
    Front (asked 0x22 [3, 0] r0) [] (ask 0x22 [3, 0]) [] ∧ 2 < (3 : Byte).toNat ∧
      Front (asked 0x22 [Channel.e.code, 2] r0) [] (ask 0x22 [Channel.e.code, 2]) [] ∧
      Front (asked 0x22 [Channel.z.code, 0] r0) [] (ask 0x22 [Channel.z.code, 0]) [] :=
  ⟨asked_front .., by decide, asked_front .., asked_front ..⟩

/-! ## Witnesses: trigger unit -/

theorem witness_PassUpdatesAverages :
    (let s := { waitingZ 5 with tu := { r0.tu with lastSeen := some ⟨1, 0⟩ } }
     s.tu.lastSeen = some ⟨1, 0⟩ ∧ (⟨1, 0⟩ : Time).toNs ≤ (⟨1, 0⟩ : Time).toNs ∧ (s.fe.ctx.get .z).swapPending = false ∧
       (s.tu.chans.get .z).state = .warmup ∧ (s.tu.chans.get .z).startPending = true ∧ s.tu.quietEnd = none) ∧
      (∀ x ∈ ([.quiet, .triggered, .disabled] : List ChannelState),
        ({ r0.tu.chans.get .z with state := x, startPending := false } : TriggerChannel).state = x) ∧
      (27961 : Int) * 64 ≤ 175556 * 16 ∧ (50 * 256 : Int) ≤ 27961 ∧ ¬((26843 : Int) * 64 ≤ 105200 * 16) ∧
      (41941 : Int) * 16 < 27961 * 24 ∧ ¬((41942 : Int) * 16 < 27961 * 24) := by decide +kernel

/-- A delivery at second 2 that ends the post window, one that reaches the cap of 600 s and not the one before it, and one with the
aux-pending mark set; a pass in event 3, whose record has a peak of Z. -/
theorem witness_PassUpdatesAverages_delivery :
    r0.tu.lastSeen = none ∧
      (let u := { (det .post (some 3)).tu with delivery := 5, postEnd := 5, lastSeen := some ⟨1, 0⟩ }
       u.det = .post ∧ (⟨1, 0⟩ : Time).toNs < (⟨2, 0⟩ : Time).toNs ∧ (6 : Nat) = (u.delivery + 1) % 4294967296 ∧
         0 < (6 + 4294967296 - u.postEnd % 4294967296) % 4294967296 ∧
         (6 + 4294967296 - u.postEnd % 4294967296) % 4294967296 < 2147483648) ∧
      (let u := (det .open (some 3)).tu
       u.det = .open ∧ u.params.cap * 100 ≤ (60000 + 4294967296 - u.onsetDelivery) % 4294967296 ∧
         ¬u.params.cap * 100 ≤ (59999 + 4294967296 - u.onsetDelivery) % 4294967296) ∧
      ({ r0.tu with auxPending := true } : TriggerUnit).auxPending = true ∧
      (let s := { det .open (some 3) with et := (recs [rec1 3]).et }
       s.tu.current = some 3 ∧ s.et.records.find? (fun r => r.number = 3) = some (rec1 3) ∧ (rec1 3).peaks.get .n = none ∧
         (rec1 3).peaks.get .z = some ⟨7, some ⟨6, 0⟩⟩ ∧ (rec1 3).flags.strong = false ∧ s.tu.params.strongLevel ≤ 2000000 ∧
         1999999 < s.tu.params.strongLevel) ∧
      (openEvent ⟨1, 0⟩ 0 ⟨false, false, false⟩ true { r0 with tu := { r0.tu with lastSeen := some ⟨1, 0⟩ } }).tu.current =
        some 1 := by decide +kernel

/-- The channels of which the first k are TRIGGERED since second 3. -/
def triggered (k : Nat) : Tri TriggerChannel :=
  let on : TriggerChannel := { r0.tu.chans.z with state := .triggered, onTime := some ⟨3, 0⟩, onDelivery := some 4 }
  ⟨if 0 < k then on else r0.tu.chans.z, if 1 < k then on else r0.tu.chans.z, if 2 < k then on else r0.tu.chans.z⟩

theorem witness_VoteDrivesDetector :
    (channels.countP fun c => ((triggered 2).get c).state = .triggered) = 2 ∧
      (channels.countP fun c => ((triggered 1).get c).state = .triggered) = 1 ∧
      min r0.tu.params.vote (enabledChannels r0.pt.tier).length = 2 ∧ r0.tu.det = .idle ∧ r0.pt.tier ≠ .hibernate ∧
      (det .open (some 3)).tu.current = some 3 ∧ (det .post (some 3)).tu.det = .post ∧ (det .disarmed none).tu.det = .disarmed ∧
      r0.et.records.length < 64 ∧ ((triggered 2).get .z).onTime = some ⟨3, 0⟩ ∧ ((triggered 2).get .z).onDelivery = some 4 ∧
      r0.et.counter < 4294967295 := by
  decide +kernel

/-- A full table whose first victim is the released record 5, and a table with room; the peak that a channel's pass of the delivery
has given, and one that reaches strong_level; the handover of a ring, and of none in STARVED. -/
theorem witness_VoteDrivesDetector_opening :
    (let l := (List.range 64).map fun i => { rec1 (i + 1) with released := decide (i = 4) }
     64 ≤ l.length ∧ ∃ rest,
       (l.filter fun r => !r.pinned && r.released) ++ (l.filter fun r => !r.pinned && !r.released) =
         { rec1 5 with released := true } :: rest) ∧
      r0.et.records.length < 64 ∧ r0.tu.params.strongLevel ≤ 2000000 ∧
      (∀ r ∈ r0.et.records, r.number ≠ r0.et.counter + 1) ∧ PageInv r0 ∧ (r0.ws.chans.get .z).route = .ring ∧
      PageInv (wave .stopped) ∧ ((wave .stopped).ws.chans.get .n).route = .starved ∧
      ((wave .stopped).ws.chans.get .z).ring = [5, 6, 7, 8] ∧
      (⟨38, 0⟩ : Time).toNs ≤ (⟨8, 0⟩ : Time).toNs + 10000000 * (1 - 1) + r0.tu.params.pre * 1000000000 ∧
      ¬(⟨38, 1⟩ : Time).toNs ≤ (⟨8, 0⟩ : Time).toNs + 10000000 * (1 - 1) + r0.tu.params.pre * 1000000000 :=
  ⟨⟨by decide, _, rfl⟩, by decide, by decide, by decide, pageInv_r0, rfl, pageInv_wave _ (.inr rfl), rfl, rfl, by decide, by decide⟩

theorem witness_AuxtrigEdgeByDetectorState :
    r0.powered = true ∧ r0.tu.params.auxEdge = .off ∧ (det .idle none).tu.det = .idle ∧ (det .open (some 3)).tu.current = some 3 ∧
      (det .disarmed none).tu.det = .disarmed := by decide +kernel

theorem witness_DetectorRequests :
    Front (asked 0x2A [] (det .open (some 3))) [] (ask 0x2A []) [] ∧ (asked 0x2A [] (det .open (some 3))).tu.current = some 3 ∧
      (asked 0x2A [] (det .idle none)).tu.det = .idle ∧ (asked 0x2A [] (det .disarmed none)).tu.det = .disarmed ∧
      Front (asked 0x29 [2] r0) [] (ask 0x29 [2]) [] ∧ 1 < (2 : Byte).toNat ∧
      ({ det .disarmed none with pt := { r0.pt with tier := .hibernate } } : State).pt.tier = .hibernate ∧
      (Front (asked 0x29 [1] running) [] (ask 0x29 [1]) [] ∧ (asked 0x29 [1] running).tu.det = .post ∧
        (det .open (some 3)).tu.det = .open) ∧
      Front (asked 0x29 [0] running) [] (ask 0x29 [0]) [] ∧ Front (asked 0x05 [1] running) [] (ask 0x05 [1]) [] ∧
      (let s := asked 0x05 [1] running
       s.tu.current = some 3 ∧ PageInv s ∧ s.pt.host.isOn = true ∧ (∃ x ∈ s.et.records, x.number = 3) ∧
         (s.ws.chans.get .e).route = .event 3 ∧ Channel.e ∈ enabledChannels s.pt.tier) :=
  ⟨asked_front .., rfl, rfl, rfl, asked_front .., by decide, rfl, ⟨asked_front .., rfl, rfl⟩, asked_front .., asked_front .., rfl,
    pageInv_congr (pageInv_wave _ (.inl rfl)) rfl rfl, rfl, ⟨_, .head _, rfl⟩, rfl, by decide⟩

/-- Detection parameters at and past ends of their ranges, and two that break a cross-condition. -/
theorem witness_DetectSetReplacesParameters :
    Front (asked 0x28 (List.replicate 16 0) r0) [] (ask 0x28 (List.replicate 16 0)) [] ∧
      (max 2 (min 9 8) = 8 ∧ max 8 (min 10 14) < max 2 (min 9 8) + 3) ∧ (max 16 (min 20 255) ≤ max 16 (min 20 255)) ∧
      (r0.tu.params.ks + 3 ≤ r0.tu.params.kl ∧ r0.tu.params.offRatio < r0.tu.params.onRatio) ∧ 3 < (4 : Byte).toNat ∧
      (det .open (some 3)).tu.det = .open ∧ 5 ≠ r0.tu.params.ks :=
  ⟨asked_front .., by decide, by decide, by decide, by decide, rfl, by decide⟩

/-! ## Witnesses: store and event table -/

/-- A store whose word 0 of page 0 has a pattern of bits in error, page 0 being Z's filling ring page with 3 samples. -/
def stored (err : BitVec 72) : State :=
  { r0 with
    ws :=
      { r0.ws with
        array := if err = 0 then [(0, ⟨1, 2, 0⟩)] else [(0, ⟨1, 2, err⟩)]
        pages := r0.ws.pages.set 0 { r0.ws.pages.get 0 with count := 3 } } }

theorem witness_StorageWordChecked :
    MemoryInv (stored 0) ∧ MemoryInv (stored 1) ∧ errorWeight (readWord (stored 0).ws.array 0).err = 0 ∧
      errorWeight (readWord (stored (1#72 <<< (71 : Nat))).ws.array 0).err = 1 ∧
      errorWeight (readWord (stored 3).ws.array 0).err = 2 ∧ errorWeight (readWord (stored 7).ws.array 0).err = 3 := by
  unfold MemoryInv; decide +kernel

/-- Words with one and with two bits in error on a page of a ring and on one of an event, at the timer's expiry. -/
theorem witness_PatrolReadsAndStoreSet_errors :
    ((stored 1).ws.array.wf = true ∧ errorWeight (readWord (stored 1).ws.array 0).err = 1) ∧
      ((stored 3).ws.array.wf = true ∧ errorWeight (readWord (stored 3).ws.array 0).err = 2) ∧
      ((stored 3).ws.scrub = true ∧ (stored 3).ws.patrolDue = some 160000000 ∧ ((stored 3).ws.pages.get 0).state = .ring .z) ∧
      ((wave .stopped).ws.pages.get 3).state = .event 3 .z := by
  have get : ∀ p, (wave .stopped).ws.pages.get p = wornPage p := get_ofFn wornPage
  rw [get]
  decide +kernel

theorem witness_PatrolReadsAndStoreSet :
    r0.ws.patrolDue = some 160000000 ∧ (r0.elapse ⟨159999999, 0⟩).clk.mainRun < 160000000 ∧
      160000000 ≤ (r0.elapse ⟨160000000, 0⟩).clk.mainRun ∧ (r0.ws.pages.get 0).state = .ring .z ∧ r0.ws.cursor = none ∧
      ((stored 3).ws.pages.get 0).filling = true ∧ ((stored 3).ws.pages.get 0).count / 2 = 1 ∧
      (∀ p : Fin 256, (resetStore [] defaultStore).pages.get p = freePage) ∧
      Front (asked 0x30 [61, 1] r0) [] (ask 0x30 [61, 1]) [] ∧ (1 : Byte).toNat ≤ 1 ∧ 1 < (2 : Byte).toNat ∧
      Front (asked 0x30 [1] r0) [] (ask 0x30 [1]) [] ∧ (ask 0x30 [1]).payload.length ≠ 2 := by
  refine ⟨?_, ?_, ?_, ?_, ?_, ?_, ?_, fun p => by simp [resetStore, Vector.get], asked_front .., ?_, ?_, asked_front .., ?_⟩ <;>
    decide +kernel

theorem witness_PinnedRecordsAreNoVictims :
    ((recs [{ rec1 3 with hostPin := true }, rec1 4]).et.records.map EventRecord.number).Nodup ∧
      ({ rec1 3 with hostPin := true } : EventRecord).pinned = true := by decide +kernel

/-- A free page, the lowest being 3; and with none free, a ring of four completed pages where ring_depth is 3, a shallower one, a record
that holds pages and may go, and one that may not. -/
theorem witness_PinnedRecordsAreNoVictims_needs :
    PageInv r0 ∧ LowestFree r0.ws 3 ∧
      (let s := wave .stopped
       PageInv s ∧ (∀ q, (s.ws.pages.get q).state ≠ .free) ∧ (s.ws.chans.get .z).ring = 5 :: [6, 7, 8] ∧
         s.tu.params.pre * 100 / 1024 + 1 = 3 ∧ (s.ws.pages.get 5).faulty = false ∧ (s.ws.chans.get .n).ring = [] ∧
         (∀ r ∈ [{ rec1 3 with hostPin := true }], r.pinned = false → s.ws.eventPages r.number = []) ∧
         ((s.et.records.filter fun r => !r.pinned && r.released) ++ (s.et.records.filter fun r => !r.pinned && !r.released) =
           [] ++ rec1 3 :: []) ∧
         (∃ q ∈ s.ws.eventPages (rec1 3).number, (s.ws.pages.get q).faulty = false) ∧
         (s.ws.chans.get .z).ring = [5] ++ [6, 7, 8] ∧ ([6, 7, 8] : List PageId).length = min (s.ws.chans.get .z).ring.length 3) := by
  have get : ∀ p, (wave .stopped).ws.pages.get p = wornPage p := get_ofFn wornPage
  refine ⟨pageInv_r0, ⟨by decide +kernel, by decide +kernel⟩, pageInv_wave _ (.inr rfl), ?_, rfl, rfl, by rw [get]; rfl, rfl,
    by decide, by decide, ⟨3, by decide, by rw [get]; rfl⟩, rfl, rfl⟩
  simp only [get]
  decide +kernel

theorem witness_EventListAndGetReply :
    Front (asked 0x38 [0, 0, 0, 1] (recs [rec1 3])) [] (ask 0x38 [0, 0, 0, 1]) [] ∧
      Front (asked 0x39 [0, 0, 0, 3] (recs [rec1 3])) [] (ask 0x39 [0, 0, 0, 3]) [] ∧
      (recs [rec1 3]).et.records.find? (fun x => x.number = be [0, 0, 0, 3]) = some (rec1 3) ∧
      (∀ x ∈ (recs [rec1 3]).et.records, x.number ≠ be [0, 0, 0, 4]) ∧ (rec1 3).peaks.z = some ⟨7, some ⟨6, 0⟩⟩ ∧
      (rec1 3).peaks.n = none ∧
      (let k : Tri (Option Peak) := ⟨some ⟨7, none⟩, some ⟨9, none⟩, some ⟨9, none⟩⟩
       ∀ c' k', k.get c' = some k' → k'.peak < 9 ∨ (k'.peak = 9 ∧ Channel.n.code.toNat ≤ c'.code.toNat)) := by
  refine ⟨asked_front .., asked_front .., by decide, by decide, rfl, rfl, ?_⟩
  intro k c' k' h
  cases c' <;> cases h <;> decide

/-- A read of event 3 from sample 0 on gets its first page, whose last sample the next page does not follow by 10 ms; a read from
sample 2 on gets the second page, whose storage word has two bits in error; and a waiting half. -/
theorem witness_WaveReadReplies :
    (let s := asked 0x3A [0, 0, 0, 3, 0, 0, 0, 0, 0, 56] (wave .stopped)
     Front s [] (ask 0x3A [0, 0, 0, 3, 0, 0, 0, 0, 0, 56]) [] ∧ (∃ x ∈ s.et.records, x.number = 3) ∧ s.ws.eventList 3 .z = [3, 4] ∧
       s.ws.eventList 3 .n = [] ∧ PageInv s ∧ MemoryInv s ∧ (∀ p, (s.ws.pages.get p).count ≤ 1024) ∧ s.pt.host.isOn = true) ∧
      (let samples : List (PageId × Nat × Nat) := [(3, 0, 6000000000), (3, 1, 6010000000), (4, 0, 7000000000)]
       (([3, 4] : List PageId).flatMap fun p => match (wornPage p).first with
          | some f => (List.range (wornPage p).count).map fun i => (p, i, f.toNs + 10000000 * i)
          | none => []) = samples ∧
         2 ≤ samples.length - 0 ∧ 6010000000 = 6000000000 + 10000000 ∧ samples[0 + 2]? = some (4, 0, 7000000000) ∧
         7000000000 ≠ 6010000000 + 10000000 ∧ 1 ≤ samples.length - 2) ∧
      errorWeight (readWord (wave .stopped).ws.array (3 * 512 + 0)).err = 0 ∧
      errorWeight (readWord (wave .stopped).ws.array (4 * 512 + 0)).err = 2 ∧ 56 < (57 : Byte).toNat ∧
      (Front (asked 0x01 [] r0) [] (ask 0x01 []) [] ∧ (ask 0x01 []).kind ≠ 0x3A) ∧
      (ask 0x3A [0]).payload.length ≠ 10 ∧ ((filled 1 false (some 5)).ws.chans.get .z).pair ≠ none := by
  refine ⟨⟨asked_front .., ⟨rec1 3, by decide, rfl⟩, by decide, by decide, pageInv_congr (pageInv_wave .stopped (.inr rfl)) rfl rfl,
    by unfold MemoryInv; decide +kernel, fun p => (countInv_wave .stopped p).1, rfl⟩, by decide +kernel, by decide +kernel,
    by decide +kernel, by decide, ⟨asked_front .., by decide⟩, by decide, by decide⟩

theorem witness_EventPinsReleaseAndDelete :
    (let s := asked 0x3B [0, 0, 0, 3] (recs [rec1 3])
     Front s [] (ask 0x3B [0, 0, 0, 3]) [] ∧ s.et.records.find? (fun x => x.number = 3) = some (rec1 3) ∧
       (rec1 3).hostPin = false ∧ s.et.pins < 16) ∧
      16 ≤ ({ (recs [rec1 3]).et with pins := 16 } : EventTable).pins ∧
      ({ rec1 3 with hostPin := true } : EventRecord).hostPin = true ∧ (rec1 3).state = .closed ∧
      ({ rec1 3 with state := .post } : EventRecord).state ≠ .closed ∧
      Front (asked 0x3E [0, 0, 0, 3] (recs [rec1 3])) [] (ask 0x3E [0, 0, 0, 3]) [] ∧ (rec1 3).alert ≠ .queued ∧
      (∀ y ∈ (recs [rec1 3]).et.records, y.number = 3 → y = rec1 3) ∧ (∀ x ∈ (recs [rec1 3]).et.records, x.number ≠ 4) ∧
      Front (asked 0x3E [0, 0, 0, 4] (recs [rec1 3])) [] (ask 0x3E [0, 0, 0, 4]) [] ∧
      ∀ c p, ((wave .stopped).ws.chans.get c).filling = some p → p ∉ (wave .stopped).ws.eventPages 3 :=
  ⟨⟨asked_front .., by decide, rfl, by decide⟩, by decide, rfl, rfl, by decide, asked_front .., by decide, by decide, by decide,
    asked_front .., by intro c p h; cases c <;> cases h; decide⟩

/-! ## Witnesses: alerts and uplink -/

/-- Sixteen queued entries of a class. -/
def sixteen (c : AlertClass) : List Entry := (List.range 16).map fun i => ent (i + 1) c

theorem witness_AlertCreationAndCoalescing :
    (r0.al.queue.length < 16 ∧ ∀ x ∈ r0.al.queue, x.id ≠ r0.al.idCounter) ∧
      (let s := { queue (sixteen .soh) with al := { (queue (sixteen .soh)).al with idCounter := 17 } }
       16 ≤ s.al.queue.length ∧ (∀ x ∈ s.al.queue, x.id ≠ 17) ∧ s.al.queue = [] ++ ent 1 .soh :: s.al.queue.drop 1 ∧
         AlertClass.host.priority < AlertClass.soh.priority ∧ ∀ x ∈ s.al.queue, x.inFlight = false → x.cls.priority ≤ 6) ∧
      (queue [ent 5 .pwr]).al.queue.find? (fun x => x.cls = .pwr) = some (ent 5 .pwr) ∧
      (queue [{ ent 5 .pwr with inFlight := true }]).al.queue.find? (fun x => x.cls = .pwr) =
        some { ent 5 .pwr with inFlight := true } ∧
      (∀ x ∈ (queue [ent 5 .pwr]).al.queue, x.cls ≠ .time) := by decide +kernel

/-- The attempt of an entry in a stage. -/
def flying (x : Stage) : State :=
  { r0 with
    al :=
      { r0.al with
        queue := [{ ent 5 .host with inFlight := true }], attempt := some ⟨5, 7, x, false, none, 2, []⟩ } }

/-- An attempt in CONSERVE that waits for TAKEN, with no rail window open. -/
def lastWindow : State := { flying (.awaitTaken 9) with pt := { r0.pt with tier := .conserve } }

/-- R126, R129: REFUSED ends the attempt and so the rail demand, and the frame that follows on the line is not received. -/
theorem test_receiveModem_stops_with_rail :
    (receiveModem (modemFrame 0x03 7 []) lastWindow).pt.enModem = false ∧
      (receiveModem (modemFrame 0x03 7 [] ++ modemFrame 0x02 7 []) lastWindow).al.strayCount = 0 ∧
      (receiveModem (modemFrame 0x02 7 [] ++ modemFrame 0x02 7 []) lastWindow).al.strayCount = 1 := by decide +kernel

theorem witness_AttemptStagesAndEnds_off :
    lastWindow.powered = true ∧
      ∃ t, exec (.modemFrameDiscard d0 (modemFrame 0x03 7 [])) lastWindow = .next t ∧ t.pt.enModem = false :=
  ⟨rfl, _, rfl, by decide +kernel⟩

/-- The quake alert and the STRONG report of event 3 in each case, the SOH boundary of 24 h, and the results with and without room. -/
theorem witness_AlertCreationAndCoalescing_reports :
    (recs [rec1 3]).et.records.find? (fun x => x.number = 3) = some (rec1 3) ∧ (rec1 3).trigger ≠ ⟨false, false, false⟩ ∧
      (rec1 3).alert = .none ∧ ({ rec1 3 with alert := .sent } : EventRecord).alert ≠ .none ∧
      (∀ e ∈ r0.al.queue, e.subject ≠ .event 3) ∧
      (let e : Entry := { ent 5 .q2 with subject := .event 3 }
       (queue [e]).al.queue.find? (fun e => e.subject = .event 3) = some e ∧ e.cls ≠ .q1 ∧ e.inFlight = false ∧
         ({ e with cls := .q1 } : Entry).cls = .q1 ∧ ({ e with inFlight := true } : Entry).inFlight = true) ∧
      (flying .sending).al.attempt = some ⟨5, 7, .sending, false, none, 2, []⟩ ∧
      (r0.al.lastSoh = some 0 ∧ r0.al.params.sohInterval = 24 ∧ 0 + 24 * 3600 ≤ (at' .hold .full 86400 0).now.sec ∧
        (at' .hold .full 86399 0).now.sec < 0 + 24 * 3600) ∧
      (let r : Result := ⟨5, .host, .none, .sent, 0, ⟨1, 0⟩⟩
       (List.replicate 8 r).length = 8 ∧ (List.replicate 7 r).length < 8) := by decide +kernel

theorem witness_HeadSelectableIsFirst :
    headSelectable (queue [ent 5 .q1]) = some (ent 5 .q1) ∧ headSelectable (queue []) = none := by decide +kernel

theorem witness_AlertPostAndCancel :
    Front (asked 0x40 (List.replicate 41 0) r0) [] (ask 0x40 (List.replicate 41 0)) [] ∧
      Front (asked 0x40 (List.replicate 40 0) r0) [] (ask 0x40 (List.replicate 40 0)) [] ∧
      (ask 0x40 (List.replicate 40 0)).payload.length ≤ 40 ∧ r0.pt.tier = .full ∧ r0.pt.host.isOn = true ∧
      (at' .hold .survive 1 0).pt.tier = .survive ∧
      Front (asked 0x42 [0, 5] (queue [ent 5 .host])) [] (ask 0x42 [0, 5]) [] ∧
      (queue [ent 5 .host]).al.queue.find? (fun x => x.id = be [0, 5]) = some (ent 5 .host) ∧ r0.pt.gasp = none ∧
      (∀ x ∈ (queue [ent 5 .host]).al.queue, x.id ≠ be [0, 6]) :=
  ⟨asked_front .., asked_front .., by decide, rfl, rfl, rfl, asked_front .., by decide, rfl, by decide⟩

theorem witness_AlertReportsAndSettings :
    Front (asked 0x41 [15] r0) [] (ask 0x41 [15]) [] ∧ (15 : Byte).toNat ≤ 15 ∧ 15 < (16 : Byte).toNat ∧
      Front (asked 0x43 [] r0) [] (ask 0x43 []) [] ∧ Front (asked 0x44 [30, 1, 2, 25] r0) [] (ask 0x44 [30, 1, 2, 25]) [] ∧
      Front (asked 0x44 [30] r0) [] (ask 0x44 [30]) [] ∧ (ask 0x44 [30]).payload.length ≠ 4 :=
  ⟨asked_front .., by decide, by decide, asked_front .., asked_front .., asked_front .., by decide⟩

theorem witness_FramesDecidedAndRailWindows :
    ((at' .hold .full 120 100000000).elapse d0).clk.time = ⟨2 * 60, 100000000⟩ ∧ r0.al.decided = none ∧
      ((at' .hold .full 1 0).tb.grade = .hold ∧ ({ r0.tb with u := 400000000 } : TimeBase).u ≤ 400000000) ∧
      400000000 < ({ r0.tb with u := 400000001 } : TimeBase).u ∧
      ((at' .hold .conserve 175 100000000).elapse d0).clk.time = ⟨2 * 60 + 55, 100000000⟩ ∧
      (let s := { at' .hold .conserve 175 100000000 with al := (queue [ent 5 .host]).al }
       (s.pt.tier = .conserve) ∧ ∃ e ∈ s.al.queue, e.inFlight = false ∧ Admitted s e) := by
  refine ⟨by decide +kernel, rfl, by decide, by decide, by decide +kernel, rfl, ent 5 .host, by decide +kernel, rfl, ?_, ?_⟩
  · simp [at', ent]
  · simp [at']

/-- Time that was moved to 10 ns past a decision instant, and has run on since. -/
def skipped : State :=
  { at' .hold .full 120 100000020 with tb := { (at' .hold .full 120 100000020).tb with movedTo := some ⟨120, 100000010⟩ } }

theorem witness_FramesDecidedAndRailWindows_skipped :
    skipped.tb.clock = .main ∧ (skipped.elapse d0).clk.time.sec / 60 * 60000000000 + 100000000 < (⟨120, 100000010⟩ : Time).toNs ∧
      (⟨120, 100000010⟩ : Time).toNs ≤ (skipped.elapse d0).clk.time.toNs := by decide +kernel

/-- R122: a forward step past a decision instant skips the frame, and without the step the instant 20 ns ago is reached. -/
theorem test_decision_skipped :
    atDecision skipped = false ∧ atDecision (at' .hold .full 120 100000020) = true := by decide +kernel

/-- Frame 2 decided and taken, decided and awaited, and with its attempt; and a demand of each value. -/
theorem witness_FramesDecidedAndRailWindows_again :
    ((at' .hold .full 120 100000000).elapse d0).clk.time = ⟨2 * 60, 100000000⟩ ∧
      (let x : Decided := ⟨2, 1, ⟨122, 50000000⟩, true⟩
       2 ≤ x.frame ∧ ¬(x.frame = 2 ∧ x.taken = false) ∧ r0.al.attempt = none ∧
         ({ x with taken := false } : Decided).taken = false) ∧
      ((flying .sending).al.attempt = some ⟨5, 7, .sending, false, none, 2, []⟩) ∧
      (modemDemand r0 = true ∧ modemDemand (at' .hold .conserve 1 0) = false) := by decide +kernel

theorem witness_IssueInstantChecked :
    (let s := { flying .sending with
        clk := { r0.clk with time := ⟨122, 50000000⟩, mainRun := 120000000 }
        tb := { r0.tb with grade := .hold, u := 100 }
        al := { (queue [ent 5 .host]).al with decided := some ⟨2, 1, ⟨122, 50000000⟩, false⟩ } }
     s.al.decided = some ⟨2, 1, ⟨122, 50000000⟩, false⟩ ∧
       (s.elapse d0).clk.time.toNs = (⟨122, 50000000⟩ : Time).toNs ∧ s.al.attempt = none ∧
       (s.pt.enModem = true ∧ s.pt.modemOnAt + 120000000 ≤ (s.elapse d0).clk.mainRun) ∧ headSelectable s = some (ent 5 .host)) ∧
      (∀ e ∈ ([ent 5 .pwr, ent 5 .soh, ent 5 .time, { ent 5 .q1 with subject := .event 3 }] : List Entry),
        headSelectable { queue [e] with tb := { r0.tb with grade := .hold } } = some e) ∧
      (recs [rec1 3]).et.records.find? (fun y => y.number = 3) = some (rec1 3) ∧
      ({ (⟨2, 1, ⟨122, 50000000⟩, false⟩ : Decided) with taken := true }).taken = true ∧
      headSelectable (queue []) = none := by decide +kernel

theorem witness_AttemptStagesAndEnds :
    ((flying .sending).al.attempt.isSome = true ∧ (flying .sending).al.rx = .hunt ∧ r0.pt.enModem = true ∧ (7 : Byte).toNat = 7) ∧
      (flying (.awaitTaken 8000000)).al.attempt = some ⟨5, 7, .awaitTaken 8000000, false, none, 2, []⟩ ∧
      8000000 ≤ ((flying (.awaitTaken 8000000)).elapse ⟨8000000, 0⟩).clk.mainRun ∧
      ((flying (.awaitTaken 8000000)).elapse ⟨7999999, 0⟩).clk.mainRun < 8000000 ∧
      (flying (.awaitDone 9)).al.attempt = some ⟨5, 7, .awaitDone 9, false, none, 2, []⟩ ∧ (8 : Byte).toNat ≠ 7 ∧
      r0.al.attempt = none ∧ (∀ b ∈ ([0xA4, 0x5A] : List Byte), b ≠ 0xA5) ∧ (0 : Byte) ++ (0 : Byte) ≠ crc16 [2, 7, 0] := by
  decide +kernel

theorem witness_AttemptEndSettlesEntry :
    (let s := flying (.awaitDone 9)
     s.al.attempt = some ⟨5, 7, .awaitDone 9, false, none, 2, []⟩ ∧ s.pt.gasp = none ∧
       s.al.queue.find? (fun x => x.id = 5) = some { ent 5 .host with inFlight := true }) ∧
      ({ ent 5 .host with attempts := 2 } : Entry).attempts + 1 = 3 ∧ (ent 5 .host).attempts + 1 < 3 := by decide +kernel

/-- An attempt's end during the last gasp: with its entry queued before the limit and at it, with its entry gone, and while a save
runs. -/
theorem witness_AttemptEndSettlesEntry_gasp :
    (let s := { flying (.awaitDone 9) with pt := { r0.pt with tier := .hibernate, gasp := some 9 } }
     s.al.attempt = some ⟨5, 7, .awaitDone 9, false, none, 2, []⟩ ∧
       s.al.queue.find? (fun x => x.id = 5) = some { ent 5 .host with inFlight := true } ∧ s.pt.gasp = some 9 ∧
       s.sm.writing = none ∧ s.clk.watchRun < 9 ∧ 9 ≤ (s.elapse ⟨0, 9⟩).clk.watchRun ∧ s.pt.tier = .hibernate ∧
       ∀ x ∈ s.al.queue, ¬(x.cls = .pwr ∧ x.subject = .tier .hibernate)) ∧
      (∃ x ∈ (queue [{ ent 6 .pwr with subject := .tier .hibernate }]).al.queue, x.cls = .pwr ∧ x.subject = .tier .hibernate) ∧
      ({ r0.sm with writing := some defaultSettings } : SettingsMemory).writing ≠ none := by decide +kernel

/-! ## Witnesses: battery and heater -/

/-- A state with readings of VBAT and IBAT, and no estimate pending. -/
def battery (full empty : Nat) : State :=
  { r0 with ca := { r0.ca with estimateMark := false, fullRun := full, emptyRun := empty } }

/-- VBAT at 14,400 mV and IBAT at 200 mA by the default calibration. -/
def rawFull : RawScan := ⟨3600, 2089, 1600, 1600, 2500, 100⟩

/-- VBAT at 11,800 mV. -/
def rawEmpty : RawScan := ⟨2950, 2000, 1600, 1600, 2500, 100⟩

theorem witness_ScanMeasuresAndCounts :
    r0.hm.scanDue = 32768 ∧ (r0.elapse ⟨0, 32767⟩).clk.watchRun < 32768 ∧ 32768 ≤ (r0.elapse ⟨0, 32768⟩).clk.watchRun ∧
      (battery 59 9).ca.estimateMark = false ∧ (battery 59 9).ca.limits.vEmpty < (battery 59 9).ca.limits.vFull ∧
      (calibrate ⟨0, 16384⟩ 0 65535 rawFull.vbat.val = 14400 ∧ calibrate ⟨2048, 20000⟩ (-32768) 32767 rawFull.ibat.val = 200) ∧
      calibrate ⟨0, 16384⟩ 0 65535 rawEmpty.vbat.val = 11800 ∧ 60 ≤ (battery 59 9).ca.fullRun + 1 ∧
      10 ≤ (battery 0 9).ca.emptyRun + 1 ∧ (battery 0 8).ca.emptyRun < 9 ∧ r0.pt.tier ≠ .hibernate := by decide +kernel

theorem witness_VoltageEstimateByTable :
    TableOk defaultTable ∧ (defaultTable.get 0).mv ≤ 11800 ∧ (defaultTable.get 7).mv ≤ 12750 ∧
      ((defaultTable.get (2 : Fin 7).castSucc).mv ≤ 12100 ∧ 12100 < (defaultTable.get (2 : Fin 7).succ).mv) ∧
      r0.ca.estimateMark = true ∧ r0.ca.fullRun < 59 ∧ r0.ca.emptyRun < 9 ∧ 0 < rawFull.vbat.val ∧ rawFull.vbat.val < 4095 ∧
      r0.hm.scanDue ≤ (r0.elapse ⟨0, 32768⟩).clk.watchRun := by
  refine ⟨⟨by decide, by decide⟩, ?_⟩; decide +kernel

theorem witness_BatterySetReplacesPart :
    Front (asked 0x49 [3] r0) [] (ask 0x49 [3]) [] ∧ 2 < (3 : Byte).toNat ∧
      Front (asked 0x49 [0] r0) [] (ask 0x49 [0]) [] ∧ ([] : List Byte).length ≠ 16 ∧
      Front (asked 0x49 (0 :: limitBytes defaultLimits) r0) [] (ask 0x49 (0 :: limitBytes defaultLimits)) [] ∧
      defaultLimits.vEmpty < defaultLimits.vFull ∧ defaultLimits.chgTmin < defaultLimits.chgTmax ∧
      (max 12000 (min 12000 16000) ≤ max 10000 (min 13000 13000)) ∧
      Front (asked 0x49 (1 :: calibrationBytes defaultCalibration) r0) [] (ask 0x49 (1 :: calibrationBytes defaultCalibration)) [] ∧
      Front (asked 0x49 (2 :: tableBytes defaultTable) r0) [] (ask 0x49 (2 :: tableBytes defaultTable)) [] ∧
      (∀ i : Fin 7, (defaultTable.get i.castSucc).mv < (defaultTable.get i.succ).mv ∧
        (defaultTable.get i.castSucc).soc ≤ (defaultTable.get i.succ).soc) :=
  ⟨asked_front .., by decide, asked_front .., by decide, asked_front .., by decide, by decide, by decide, asked_front .., asked_front ..,
    by decide⟩

/-- A heater in a state at a battery temperature, with or without a source, and an event in progress. -/
def heat (x : HeaterState) (t : Int) (src : Bool) : State :=
  { det .open (some 3) with
    hm :=
      { r0.hm with
        readings := { r0.hm.readings with tbat := ⟨some t, true, 0⟩, vsrc := ⟨some 15000, src, 0⟩ } }
    hc := { r0.hc with state := x } }

theorem witness_HeaterDecides :
    ((heaterDecide false (heat .off 20 true)).hc.change = some ⟨.onSrc, ⟨0, 0⟩, 3932160⟩) ∧
      (heaterDecide false (heat .off (-200) false)).hc.state = .onBat ∧ (heat .fault 20 true).hc.state = .fault ∧
      (heaterDecide true (heat .off 20 true)).hc.state = .onSrc ∧ (heaterDecide false (heat .off 60 true)).hc.target = .off := by
  decide +kernel

theorem witness_HeaterFaultAndRequests :
    (heat .onSrc 20 true).hc.state = .onSrc ∧ (heat .onSrc 20 true).hm.readings.ihtr.valid = false ∧
      ({ r0.hc with lowRun := 2 } : Heater).lowRun = 2 ∧
      ({ r0.hc with change := some ⟨.onSrc, ⟨0, 0⟩, 9⟩ } : Heater).change = some ⟨.onSrc, ⟨0, 0⟩, 9⟩ ∧
      9 ≤ (r0.elapse ⟨0, 9⟩).clk.watchRun ∧ (r0.elapse ⟨0, 8⟩).clk.watchRun < 9 ∧
      Front (asked 0x51 [] (heat .fault 20 true)) [] (ask 0x51 []) [] ∧ r0.hc.state ≠ .fault ∧
      Front (asked 0x50 (heaterBytes defaultHeater) r0) [] (ask 0x50 (heaterBytes defaultHeater)) [] ∧
      (defaultHeater.damageLow + 50 ≤ defaultHeater.heatOn ∧ defaultHeater.heatOn < defaultHeater.heatOff ∧
        defaultHeater.heatOff < defaultHeater.overheat) :=
  ⟨rfl, by decide +kernel, rfl, rfl, by decide +kernel, by decide +kernel, asked_front .., by decide, asked_front .., by decide⟩

/-- A heater on at its third low scan, with the main clock and on the watch clock. -/
theorem witness_HeaterFaultAndRequests_fault :
    (let s := { heat .onSrc 20 true with hc := { (heat .onSrc 20 true).hc with lowRun := 2 } }
     s.hc.state = .onSrc ∧ 2 ≤ s.hc.lowRun ∧ s.tb.clock = .main ∧ s.tu.current = some 3 ∧ (lowCurrentTest s).hc.state = .fault) ∧
      (at' .hold .full 1 0).tb.clock = .main ∧
      ({ heat .off (-200) true with tb := { r0.tb with clock := .watch } } : State).tb.clock ≠ .main := by decide +kernel

/-! ## Witnesses: power and host rail -/

/-- A state in a tier with a state of the host rail and an SoC. -/
def tier (t : Tier) (h : HostRail) (soc : Nat) : State :=
  { r0 with pt := { r0.pt with tier := t, host := h }, ca := { r0.ca with soc := soc, q := soc * 72000 }, sl := { r0.sl with wakeMask := 0 } }

theorem witness_ScanEvaluatesTier :
    r0.powered = true ∧ (r0.hm.scanDue ≤ (r0.elapse ⟨0, 32768⟩).clk.watchRun) ∧
      Tier.rank .survive < Tier.rank .full ∧ (tier .hibernate .shed 110).pt.tier = .hibernate ∧
      (tier .hibernate .shed 110).pt.gasp = none ∧ 80 + 30 ≤ (tier .hibernate .shed 110).ca.soc ∧
      (tier .hibernate .shed 109).ca.soc < 80 + 30 ∧ (tier .conserve .on 429).ca.soc < 400 + 30 ∧
      (let s := { tier .hibernate .shed 110 with pt := { (tier .hibernate .shed 110).pt with gasp := some 99 } }
       s.pt.gasp ≠ none ∧ s.pt.host = .shed ∧ (scan ⟨0, 0, 0, 0, 0, 0⟩ s).pt.tier = .survive) := by decide +kernel

/-- A change at which N and E leave with a swap pending, one at which they join, and one that switches the heater. -/
theorem witness_TierChangeEffects_blocks :
    (let s := { tier .full .on 199 with
        fe := { r0.fe with ctx := r0.fe.ctx.set .n { r0.fe.ctx.get .n with swapPending := true, active := .b } } }
     (s.fe.ctx.get .n).swapPending = true ∧ (scan ⟨0, 0, 0, 0, 0, 0⟩ s).pt.tier = .survive ∧
       Channel.n ∈ enabledChannels .full ∧ Channel.n ∉ enabledChannels .survive) ∧
      ((scan ⟨0, 0, 0, 0, 0, 0⟩ (tier .survive .shed 230)).pt.tier = .conserve ∧ (tier .survive .shed 230).ws.interval ≠ 0) ∧
      (let s := { tier .full .on 79 with hc := { r0.hc with state := .onBat }, si := { r0.si with window := some ⟨⟨1, 0⟩, 3, true⟩ } }
       s.tb.clock = .main ∧ s.pt.enSens = true ∧ (scan ⟨0, 0, 0, 0, 0, 0⟩ s).pt.tier = .hibernate ∧
         (scan ⟨0, 0, 0, 0, 0, 0⟩ s).hc.state ≠ s.hc.state) := by decide +kernel

/-- A tier change with no PWR entry in the queue, and with one in flight. -/
theorem witness_TierChangeEffects_alert :
    (let s := { tier .full .on 399 with al := (queue [ent 5 .host]).al }
     (∀ x ∈ s.al.queue, x.cls ≠ .pwr) ∧ s.al.queue.length < 15 ∧ (scan ⟨0, 0, 0, 0, 0, 0⟩ s).pt.tier = .conserve ∧
       enabledChannels .conserve = enabledChannels .full) ∧
      (let e : Entry := { ent 5 .pwr with inFlight := true }
       let s := { tier .full .on 399 with
         al := { (queue [e]).al with attempt := some ⟨5, 7, .sending, false, none, 2, []⟩ } }
       s.al.queue.find? (fun x => x.cls = .pwr) = some e ∧ e.inFlight = true ∧ (∀ x ∈ s.al.queue, x.id = e.id → x = e) ∧
         (scan ⟨0, 0, 0, 0, 0, 0⟩ s).pt.tier = .conserve) := by decide +kernel

theorem witness_TierChangeEffects :
    (tier .full .on 1000).pt.tier ≠ .hibernate ∧ (tier .full .on 1000).pt.gasp = none ∧ (tier .full .on 0).sl.wakeMask = 0 ∧
      (scan ⟨0, 0, 0, 0, 0, 0⟩ (tier .full .on 399)).pt.tier = .conserve ∧
      (scan ⟨0, 0, 0, 0, 0, 0⟩ (tier .full .on 199)).pt.host = .grace 983040 ∧
      (scan ⟨0, 0, 0, 0, 0, 0⟩ (tier .conserve .asleep 430)).pt.host = .on ∧
      (scan ⟨0, 0, 0, 0, 0, 0⟩ (tier .full (.dozing (some 5)) 79)).pt.host = .shed ∧
      (scan ⟨0, 0, 0, 0, 0, 0⟩ (tier .survive .shed 230)).pt.host = .on ∧
      (let s := { tier .full .asleep 399 with sl := { r0.sl with wakeMask := 0x10 } }
       s.sl.wakeMask &&& 0x10 ≠ 0 ∧ (scan ⟨0, 0, 0, 0, 0, 0⟩ s).pt.tier = .conserve) ∧
      (scan ⟨0, 0, 0, 0, 0, 0⟩ (tier .full .on 399)).al.windows = [0] ∧
      (scan ⟨0, 0, 0, 0, 0, 0⟩ { tier .full .on 399 with clk := { r0.clk with time := ⟨1, 0⟩ } }).al.windows = [1] ∧
      r0.al.queue.find? (fun x => x.cls = .pwr) = some ⟨1, .pwr, .tier .full, ⟨0, 0⟩, [], false, 0⟩ := by decide +kernel

theorem witness_HostRailTimers :
    (tier .survive (.grace 9) 100).pt.host = .grace 9 ∧ (r0.elapse ⟨0, 8⟩).clk.watchRun < 9 ∧ 9 ≤ (r0.elapse ⟨0, 9⟩).clk.watchRun ∧
      (tier .full (.dozing (some 9)) 100).pt.host = .dozing (some 9) ∧ (tier .full (.dozing none) 100).pt.host = .dozing none ∧
      (tier .full (.cycling 9) 100).pt.host = .cycling 9 ∧ r0.pt.silenceFrom = some 0 ∧ r0.pt.params.silenceLimit = 600 ∧
      600 ≤ ((r0.elapse ⟨0, 19660800⟩).clk.watchRun - 0) / 32768 ∧ ((r0.elapse ⟨0, 19660799⟩).clk.watchRun - 0) / 32768 < 600 := by
  decide +kernel

theorem witness_LastGaspAndSettleEnd :
    (let s := { tier .hibernate .shed 100 with pt := { r0.pt with tier := .hibernate, gasp := some 9, host := .shed }, al := (queue []).al }
     s.pt.gasp = some 9 ∧ s.al.attempt = none ∧ s.sm.writing = none ∧
       ∀ e ∈ s.al.queue, ¬(e.cls = .pwr ∧ e.subject = .tier .hibernate)) ∧
      (queue [{ ent 5 .pwr with subject := .tier .hibernate }]).al.queue.length = 1 ∧
      (let s := { tier .hibernate .shed 110 with tb := { r0.tb with clock := .settle 4096 }, pt := { (tier .hibernate .shed 110).pt with exitMark := true } }
       s.tb.clock = .settle 4096 ∧ s.pt.gasp = none ∧ s.pt.params.hibernateBelow + s.pt.params.hysteresis ≤ s.ca.soc ∧
         s.hm.readings.vbat.valid = false ∧ (s.elapse ⟨0, 4095⟩).clk.watchRun < 4096 ∧
         4096 ≤ (s.elapse ⟨0, 4096⟩).clk.watchRun) := by decide +kernel

theorem witness_TierSetAndHostSleep :
    Front (asked 0x58 (tierBytes defaultTier) r0) [] (ask 0x58 (tierBytes defaultTier)) [] ∧
      (defaultTier.hibernateBelow < defaultTier.surviveBelow ∧ defaultTier.surviveBelow < defaultTier.conserveBelow ∧
        defaultTier.conserveBelow + defaultTier.hysteresis ≤ 1000) ∧
      1000 < max 100 (min 950 950) + max 10 (min 100 100) ∧
      Front (asked 0x59 [1, 0, 0, 0, 1] r0) [] (ask 0x59 [1, 0, 0, 0, 1]) [] ∧ (r0.elapse d0).now.sec < be [0, 0, 0, 1] ∧
      be [0, 0, 0, 0] ≤ (r0.elapse d0).now.sec ∧ r0.pt.host = .on ∧ (tier .survive .shed 100).pt.tier = .survive :=
  ⟨asked_front .., by decide, by decide, asked_front .., by decide +kernel, by decide +kernel, rfl, rfl⟩

theorem witness_PowerGetReplies :
    Front (asked 0x48 [] (heat .onSrc 20 true)) [] (ask 0x48 []) [] ∧ (ask 0x48 []).payload = [] := ⟨asked_front .., rfl⟩

/-! ## Witnesses: link, settings, resets -/

theorem witness_RaiseSetsFlagAndWakes :
    r0.sl.wakeMask &&& 0x02 = 0 ∧ r0.sl.wakeMask &&& 0x01 ≠ 0 ∧ (tier .full .asleep 100).pt.host = .asleep ∧
      (tier .full (.dozing (some 3)) 100).pt.host = .dozing (some 3) ∧
      (let s := { at' .hold .full 5 0 with pt := { r0.pt with host := .asleep, wakeTime := some 5 } }
       s.pt.wakeTime = some 5 ∧ 5 ≤ s.now.sec ∧ s.pt.host = .asleep ∧ (at' .hold .full 4 999999999).now.sec < 5) := by decide +kernel

theorem witness_LinkFrameJoinsList :
    r0.powered = true ∧ r0.pt.host.isOn = true ∧ r0.tb.clock = .main ∧ r0.sl.rx = .hunt ∧ r0.sl.list.length < 4 ∧
      (List.replicate 240 (0 : Byte)).length ≤ 240 ∧ (240 : Byte).toNat = 240 ∧
      4 ≤ ({ r0.sl with list := List.replicate 4 (ask 1 []) } : StationLink).list.length ∧
      ((crc16 [0, 1, 2]).extractLsb' 8 8) ++ ((crc16 [0, 1, 2]).extractLsb' 0 8) = crc16 [0, 1, 2] ∧
      (0 : Byte) ++ (0 : Byte) ≠ crc16 [0, 1, 2] ∧ HostRail.isOn .asleep = false := by decide +kernel

theorem witness_RepliesLeaveInOrder :
    (let r : Request := { ask 1 [] with progress := .executed [0] }
     let l : StationLink := { r0.sl with list := [r] }
     l.tx = none ∧ l.list = [r] ∧ r.progress = .executed [0] ∧ r.atEnd = .nothing ∧
       ({ l with tx := some [1] } : StationLink).tx = some [1] ∧ ({ r with atEnd := .startDoze } : Request).atEnd = .startDoze ∧
       ({ r with atEnd := .emptyList } : Request).atEnd = .emptyList) ∧
      (tier .full (.dozing none) 1).pt.host = .dozing none ∧ r0.sl.list = [] ∧ (ask 1 []).progress = .waiting := by
  decide +kernel

theorem witness_IdentReplies :
    Front (asked 0x01 [] r0) [] (ask 0x01 []) [] ∧ Front (asked 0x01 [0] r0) [] (ask 0x01 [0]) [] :=
  ⟨asked_front .., asked_front ..⟩

theorem witness_StatusReplies :
    Front (asked 0x02 [] r0) [] (ask 0x02 []) [] ∧ Front (asked 0x02 [0] r0) [] (ask 0x02 [0]) [] :=
  ⟨asked_front .., asked_front ..⟩

theorem witness_AttnMaskSetsMasks :
    Front (asked 0x04 [0xFF, 0] r0) [] (ask 0x04 [0xFF, 0]) [] ∧ Front (asked 0x04 [0] r0) [] (ask 0x04 [0]) [] ∧
      (asked 0x04 [0xFF, 0] (tier .full (.dozing none) 1)).pt.host = .dozing none := ⟨asked_front .., asked_front .., rfl⟩

/-- RESTART with a payload of two bytes, for each scope and for a code that is none. -/
theorem witness_AttnReadRestartAndUnknownKind_length :
    Front (asked 0x05 [0, 0] r0) [] (ask 0x05 [0, 0]) [] ∧ Front (asked 0x05 [1, 0] r0) [] (ask 0x05 [1, 0]) [] ∧
      Front (asked 0x05 [2, 0] r0) [] (ask 0x05 [2, 0]) [] ∧ ([0] : List Byte) ≠ [] :=
  ⟨asked_front .., asked_front .., asked_front .., by decide⟩

theorem witness_AttnReadRestartAndUnknownKind :
    Front (asked 0x03 [] r0) [] (ask 0x03 []) [] ∧ Front (asked 0x05 [0] r0) [] (ask 0x05 [0]) [] ∧
      Front (asked 0x05 [2] r0) [] (ask 0x05 [2]) [] ∧ 1 < (2 : Byte).toNat ∧ Front (asked 0x05 [] r0) [] (ask 0x05 []) [] ∧
      Front (asked 0x81 [] r0) [] (ask 0x81 []) [] ∧ (ask 0x81 []).kind ∉ knownKinds :=
  ⟨asked_front .., asked_front .., asked_front .., by decide, asked_front .., asked_front .., by decide⟩

/-- A save that ends while the last gasp holds: its entry is still queued, or its limit has run out. -/
theorem witness_SettingsSaveAndDefaults_gasp :
    let s : State :=
      { tier .hibernate .shed 100 with
        pt := { r0.pt with tier := .hibernate, gasp := some 9, host := .shed }
        al := (queue [{ ent 5 .pwr with subject := .tier .hibernate }]).al
        sm := { r0.sm with writing := some defaultSettings } }
    s.powered = true ∧ s.sm.writing = some defaultSettings ∧ s.pt.gasp = some 9 ∧ s.pt.tier = .hibernate ∧ s.pt.host = .shed ∧
      s.al.attempt = none ∧ (∃ e ∈ s.al.queue, e.cls = .pwr ∧ e.subject = .tier .hibernate) ∧
      (s.elapse ⟨0, 8⟩).clk.watchRun < 9 ∧ 9 ≤ (s.elapse ⟨0, 9⟩).clk.watchRun := by decide +kernel

theorem witness_SettingsSaveAndDefaults :
    Front (asked 0x08 [] r0) [] (ask 0x08 []) [] ∧ r0.sm.writing = none ∧ r0.pt.gasp = none ∧
      ({ r0.sm with writing := some defaultSettings } : SettingsMemory).writing = some defaultSettings ∧
      Front (asked 0x09 [] r0) [] (ask 0x09 []) [] ∧ (asked 0x09 [] r0).tu.det = .idle ∧
      (asked 0x09 [] (det .post (some 3))).tu.det = .post :=
  ⟨asked_front .., rfl, rfl, rfl, asked_front .., rfl, rfl⟩

/-- A start-up scan that leaves the tier, one that lowers it from FULL, one that enters HIBERNATE, and one in HIBERNATE. -/
theorem witness_PinResetKeepsTimeAndCharge_tiers :
    evaluatedTier r0.pt.params 900 .full = .full ∧ evaluatedTier r0.pt.params 399 .full = .conserve ∧
      evaluatedTier r0.pt.params 79 .full = .hibernate ∧ exitMet (tier .hibernate .shed 50) = false := by decide +kernel

theorem witness_PinResetKeepsTimeAndCharge :
    r0.powered = true ∧ (r0.sm.image.getD defaultSettings).detect.vote ≠ 0 ∧ r0.pt.tier ≠ .hibernate ∧
      (tier .hibernate .shed 100).pt.tier = .hibernate ∧
      (r0.sm.image.getD defaultSettings).limits.capacityMah = r0.ca.limits.capacityMah := by decide +kernel

/-! ## Witnesses: the invariants hold of a state whose step answers -/

theorem witness_invariants :
    (∃ t, step { r0 with pending := [.supplyLoss d0] } = .next t) ∧ TimeBaseInv r0 ∧ ClockInv r0 ∧ MemoryInv r0 ∧ PageInv r0 ∧
      RailInv r0 ∧ HeaterInv r0 ∧ ListInv r0 := by
  refine ⟨⟨_, rfl⟩, ?_, ?_, rfl, pageInv_r0, ?_, ?_, ?_⟩
  · refine ⟨by decide, by decide, by decide, ?_, ?_⟩
    · intro i; revert i; decide +kernel
    · constructor <;> (intro x h; cases h)
  · exact ⟨⟨by decide, by decide⟩, by decide, by decide, by decide, by intro l h; cases h⟩
  · exact ⟨rfl, by decide, by decide, by decide⟩
  · intro h; cases h
  · exact ⟨by decide, by decide, by decide⟩

/-- A page that fills one sample short of its end. -/
theorem witness_StepKeepsMemoryAndLists :
    (∃ t, step { filled 1023 false (some 5) with pending := [.supplyLoss d0] } = .next t) ∧ PageInv (filled 1023 false (some 5)) ∧
      CountInv (filled 1023 false (some 5)) :=
  ⟨⟨_, rfl⟩, pageInv_filled .., countInv_of_pages (f := filledPage 1023 false) (get_ofFn _) (by decide +kernel)⟩

/-- A full queue with the ids 1 to 16 and the counter at its highest value, so that the next id lies past all of them. -/
theorem witness_StepKeepsMemoryAndLists_ids :
    let s := { queue (sixteen .soh) with al := { (queue (sixteen .soh)).al with idCounter := 65535 }, pending := [.supplyLoss d0] }
    (∃ t, step s = .next t) ∧ ListInv s ∧ IdInv s ∧ nextAlertId (s.al.queue.map Entry.id) 17 s.al.idCounter = 17 :=
  ⟨⟨_, rfl⟩, ⟨by decide, by decide, by decide⟩, ⟨by decide, by decide, by decide, by decide⟩, by decide⟩

/-- A battery at 12,345,678 mA·s of the default capacity of 72,000,000, with a settings image that is valid. -/
def charged : State :=
  { r0 with ca := { r0.ca with q := 12345678, soc := 171 }, sm := { r0.sm with image := some defaultSettings } }

theorem witness_StepKeepsCharge :
    (∃ t, step { charged with pending := [.supplyLoss d0] } = .next t) ∧ ChargeInv charged := by
  refine ⟨⟨_, rfl⟩, by decide, by decide, by decide, ?_, ?_, ?_, ?_⟩
  · constructor <;> decide
  · unfold TableInRange TableOk; decide +kernel
  · intro x h; cases h; exact ⟨by constructor <;> decide, by unfold TableInRange TableOk; decide +kernel⟩
  · intro x h; cases h

/-! ## Long evaluations, last so that nothing waits for them -/

theorem witness_StoreReportReplies :
    Front (asked 0x31 [] r0) [] (ask 0x31 []) [] ∧ (ask 0x31 []).payload = [] ∧
      ∀ p, ((asked 0x31 [] r0).ws.pages.get p).correctable ≤ 255 := ⟨asked_front .., rfl, by decide +kernel⟩

/-- State.reset is what POWER_ON_RESET makes of it with all six inputs out of range (log entry 5). -/
theorem test_reset_is_power_on : powerOn ⟨0, 0, 0, 0, 0, 0⟩ State.reset = State.reset := by decide +kernel

end Sys2Proof.Machine.Tests
end

/-! PROOFS. The AUXTRIG edge: which edges the aux edge parameter takes, and what a taken edge does in each detector state (R64). -/

namespace Sys2Proof.Machine

/-! ## The kind of an edge -/

/-- The edges that each aux edge setting takes; OFF stands on no side (R64). -/
theorem AuxEdge.takes_iff (e : AuxEdge) (rising : Bool) :
    e.takes rising = true ↔ (e = .rise ∧ rising = true) ∨ (e = .fall ∧ rising = false) ∨ e = .both := by
  cases e with
  | off | rise | fall | both => simp [AuxEdge.takes]

section

variable {s : State}

/-! ## A taken edge, by the detector state -/

/-- The flags change in the record of the current event and in no other (R95). -/
theorem setCurrentFlag_of_current {n : Nat} (f : EventFlags → EventFlags) (h : s.tu.current = some n) :
    setCurrentFlag f s =
      { s with et :=
          { s.et with records := s.et.records.map fun r => if r.number = n then { r with flags := f r.flags } else r } } := by
  rw [setCurrentFlag, h]
  rfl

theorem takeAuxEdge_of_disarmed (h : s.tu.det = .disarmed) : takeAuxEdge s = s := by
  simp only [takeAuxEdge, h]

theorem takeAuxEdge_of_idle (h : s.tu.det = .idle) : takeAuxEdge s = s.modTu fun t => { t with auxPending := true } := by
  simp only [takeAuxEdge, h]

theorem takeAuxEdge_of_event {n : Nat} (hdet : s.tu.det = .open ∨ s.tu.det = .post) (hcur : s.tu.current = some n) :
    takeAuxEdge s =
      { s with et :=
          { s.et with
            records := s.et.records.map fun r =>
              if r.number = n then { r with flags := { r.flags with external := true } } else r } } := by
  have hmark : takeAuxEdge s = markExternal s := by
    obtain h | h := hdet <;> simp only [takeAuxEdge, h]
  rw [hmark, markExternal, setCurrentFlag_of_current _ hcur]

/-! ## The command -/

theorem exec_auxtrigEdge (d : Elapsed) (rising : Bool) (s : State) :
    exec (.auxtrigEdge d rising) s = execAuxtrigEdge d rising s := rfl

/-- The line takes its new level whatever the parameter says; only a taken edge then acts by the detector state. -/
theorem exec_auxtrigEdge_of_takes (d : Elapsed) {rising : Bool} (hp : s.powered = true)
    (h : s.tu.params.auxEdge.takes rising = true) :
    exec (.auxtrigEdge d rising) s = .next (takeAuxEdge ((s.elapse d).modLines fun l => { l with auxtrig := rising })) := by
  rw [exec_auxtrigEdge, execAuxtrigEdge, timed_powered _ _ _ hp, State.elapse_tu, if_pos h]

theorem exec_auxtrigEdge_of_not_takes (d : Elapsed) {rising : Bool} (hp : s.powered = true)
    (h : ¬s.tu.params.auxEdge.takes rising = true) :
    exec (.auxtrigEdge d rising) s = .next ((s.elapse d).modLines fun l => { l with auxtrig := rising }) := by
  rw [exec_auxtrigEdge, execAuxtrigEdge, timed_powered _ _ _ hp, State.elapse_tu, if_neg h]

end

/-- Settles O17: the setting decides whether the edge is taken, the detector state what a taken edge does. -/
theorem auxtrigEdgeByDetectorState : Obligations.AuxtrigEdgeByDetectorState := by
  intro d s rising taken hp htaken
  rw [← AuxEdge.takes_iff] at htaken
  refine ⟨fun h => ?_, fun ht hidle => ?_, fun n ht hdet hcur => ?_⟩
  · by_cases ht : taken
    · have hdet : s.tu.det = .disarmed := h.resolve_left (not_not_intro ht)
      rw [exec_auxtrigEdge_of_takes d hp (htaken.mp ht)]
      exact congrArg Host.Outcome.next (takeAuxEdge_of_disarmed hdet)
    · exact exec_auxtrigEdge_of_not_takes d hp (mt htaken.mpr ht)
  · rw [exec_auxtrigEdge_of_takes d hp (htaken.mp ht)]
    exact congrArg Host.Outcome.next (takeAuxEdge_of_idle hidle)
  · rw [exec_auxtrigEdge_of_takes d hp (htaken.mp ht)]
    exact congrArg Host.Outcome.next (takeAuxEdge_of_event hdet hcur)

end Sys2Proof.Machine

/-! PROOFS. Three requests of the station link, IDENT, STATUS and ATTN MASK: one rule for a request of fixed length, the masks through
every operation that a reset runs, and the raise of a flag at a dozing host (R189, R192, R194 to R196, R198). -/

namespace Sys2Proof.Machine

/-! ## A request of fixed length (R189) -/

theorem withLength_of_length {n : Nat} {p : List Byte} (h : p.length = n) (f : List Byte → State → List Byte × State) (s : State) :
    withLength n f p s = f p s := if_pos h

theorem withLength_of_length_ne {n : Nat} {p : List Byte} (h : p.length ≠ n) (f : List Byte → State → List Byte × State)
    (s : State) : withLength n f p s = ([stBadLength], s) := if_neg h

section

variable {s : State} {pre post : List Request} {r : Request} {kind : Byte} {f : List Byte → State → List Byte × State}
  {c : Instr} {d : Elapsed} {t : State} {reply : List Byte}

/-- A command that serves requests of one kind executes the request at the front: the reply and the next state are `f`'s, after the
elapsed time. -/
theorem Front.answers (h : Front s pre r post) (hk : r.kind = kind)
    (hc : exec c s = Machine.timed d s (serve kind f)) (hf : f r.payload (s.elapse d) = (reply, t))
    (ht : t.sl.list = s.sl.list) : Answers c s pre r post t reply := by
  rw [Answers, hc, h.timed, serve_front (h.elapse d) hk hf ht]

variable {n : Nat}

theorem Front.answers_badLength (h : Front s pre r post) (hk : r.kind = kind)
    (hc : exec c s = Machine.timed d s (serve kind (withLength n f))) (hn : r.payload.length ≠ n) :
    Answers c s pre r post (s.elapse d) [stBadLength] :=
  h.answers hk hc (withLength_of_length_ne hn f _) rfl

theorem Front.answers_ofLength (h : Front s pre r post) (hk : r.kind = kind)
    (hc : exec c s = Machine.timed d s (serve kind (withLength n f))) (hn : r.payload.length = n)
    (hf : f r.payload (s.elapse d) = (reply, t)) (ht : t.sl.list = s.sl.list) : Answers c s pre r post t reply :=
  h.answers hk hc ((withLength_of_length hn f _).trans hf) ht

/-- A request without payload that only reads (R188, R189). -/
theorem Front.answers_read (h : Front s pre r post) (hk : r.kind = kind) {fields : State → List Byte}
    (hc : exec c s = Machine.timed d s (serve kind (withLength 0 (readOnly fields)))) :
    (r.payload ≠ [] → Answers c s pre r post (s.elapse d) [stBadLength]) ∧
      (r.payload = [] → Answers c s pre r post (s.elapse d) (stOk :: fields (s.elapse d))) :=
  ⟨fun hp => h.answers_badLength hk hc (mt List.eq_nil_of_length_eq_zero hp),
    fun hp => h.answers_ofLength hk hc (f := readOnly fields) (congrArg List.length hp) rfl rfl⟩

end

/-! ## The three commands -/

theorem exec_ident (d : Elapsed) (s : State) :
    exec (.ident d) s = timed d s (serve kIdent (withLength 0 (readOnly identFields))) := rfl

theorem exec_status (d : Elapsed) (s : State) :
    exec (.status d) s = timed d s (serve kStatus (withLength 0 (readOnly statusFields))) := rfl

theorem exec_attnMask (d : Elapsed) (s : State) :
    exec (.attnMask d) s = timed d s (serve kAttnMask (withLength 2 attnMask)) := rfl

theorem exec_powerOnReset (d : Elapsed) (raw : RawScan) (s : State) : exec (.powerOnReset d raw) s = .next (powerOn raw s) := rfl

/-- The reply of IDENT spelled out: vendor 0x2A71, part 0x0062, revision 1, and the serial (R195). -/
theorem identFields_bytes (s : State) : stOk :: identFields s = [0x00, 0x2A, 0x71, 0x00, 0x62, 0x01] ++ putU 4 Config.serial.toNat :=
  rfl

/-- The reply of STATUS in its own order (R196). -/
theorem statusFields_items (s : State) :
    stOk :: statusFields s =
      [(0x00 : Byte)] ++ putTime s.now ++ [s.tb.grade.code] ++ putU 4 s.tb.u ++ [s.pt.tier.code] ++ putU 2 s.ca.soc ++
        [s.tu.det.code] ++ ([Channel.z, .n, .e].map fun c => (s.tu.chans.get c).state.code) ++ putU 1 s.al.queue.length ++
        putU 2 ((List.finRange 256).countP fun p => (s.ws.pages.get p).state = .free) ++ [s.hc.state.code] ++
        putMark s.sm.defaultFlag ++ [s.sl.flags] ++ putU 4 s.sl.takenCount ++ putU 4 s.sl.discardCount ++
        putU 4 s.sl.overrunCount := by
  simp only [List.cons_append]
  rfl

theorem attnMask_pair {p : List Byte} {line wake : Byte} (h : p = [line, wake]) (s : State) :
    attnMask p s = ([0x00, line, wake], s.modSl fun l => { l with lineMask := line, wakeMask := wake }) := by
  rw [h]
  rfl

/-! ## ATTN, and a raise at a dozing host (R192) -/

theorem State.attn_iff (s : State) : s.attn = true ↔ s.sl.flags &&& s.sl.lineMask ≠ 0 := by
  simp [State.attn]

theorem setHostRail_host (h : HostRail) (s : State) : (setHostRail h s).pt.host = h := by
  unfold setHostRail
  dsimp only
  (repeat' split) <;> rfl

theorem wakeHost_host_of_dozing {s : State} {x : Option Nat} (c : WakeCause) (h : s.pt.host = .dozing x) :
    (wakeHost c s).pt.host = .on := by
  simp only [wakeHost, h, setHostRail_host]

/-- A raise ends the doze if and only if the flag's bit stands in the wake mask, whether the flag was set before or not (R192). -/
theorem raise_host_of_dozing {s : State} {x : Option Nat} (f : AttnFlag) (h : s.pt.host = .dozing x) :
    (raise f s).pt.host = if s.sl.wakeMask &&& f.bit = 0 then .dozing x else .on := by
  unfold raise
  dsimp only
  split
  · exact h
  · exact wakeHost_host_of_dozing _ h

/-! ## The masks through the operations that a power-on reset runs (R198) -/

/-- The line mask and the wake mask (R192). -/
def StationLink.masks (l : StationLink) : BitVec 8 × BitVec 8 := (l.lineMask, l.wakeMask)

section

variable (s : State)

@[simp] theorem setHostRail_masks (h : HostRail) : (setHostRail h s).sl.masks = s.sl.masks := by
  unfold setHostRail
  dsimp only
  (repeat' split) <;> rfl

@[simp] theorem wakeHost_masks (c : WakeCause) : (wakeHost c s).sl.masks = s.sl.masks := by
  unfold wakeHost
  split <;> simp

@[simp] theorem raise_masks (f : AttnFlag) : (raise f s).sl.masks = s.sl.masks := by
  have flag : (s.modSl fun l => { l with flags := l.flags ||| f.bit }).sl.masks = s.sl.masks := rfl
  unfold raise
  dsimp only
  split
  · exact flag
  · rw [wakeHost_masks, flag]

@[simp] theorem outcome_masks (e : Entry) (o : AlertState) (w : Bool) : (outcome e o w s).sl.masks = s.sl.masks := by
  cases w <;> simp [outcome]

@[simp] theorem createEntry_masks (c : AlertClass) (j : Subject) (t : List Byte) : (createEntry c j t s).sl.masks = s.sl.masks := by
  unfold createEntry
  dsimp only
  (repeat' split) <;> simp

@[simp] theorem offerAlert_masks (c : AlertClass) (j : Subject) : (offerAlert c j s).sl.masks = s.sl.masks := by
  unfold offerAlert
  (repeat' split) <;> simp

@[simp] theorem ringNeed_masks (c : Channel) : (ringNeed c s).sl.masks = s.sl.masks := by
  unfold ringNeed
  dsimp only
  (repeat' split) <;> simp

@[simp] theorem startStore_masks : (startStore s).sl.masks = s.sl.masks := by
  rw [startStore, freshPatrol_sl]
  exact foldl_keeps (fun s => s.sl.masks) _ (fun s c => by simp [storeJoin]) _ s

@[simp] theorem changeGrade_masks (g : Grade) : (changeGrade g s).sl.masks = s.sl.masks := by
  unfold changeGrade
  dsimp only
  (repeat' split) <;> simp

@[simp] theorem toWatchClock_masks : (toWatchClock s).sl.masks = s.sl.masks := by
  unfold toWatchClock
  dsimp only
  split <;> simp

@[simp] theorem gaspCheck_masks : (gaspCheck s).sl.masks = s.sl.masks := by
  unfold gaspCheck
  (repeat' split) <;> simp [endGasp]

@[simp] theorem resetBlocks_masks (x : Settings) (t : Tier) : (resetBlocks x t s).sl.masks = (defaultMask, defaultMask) := rfl

/-- Power-on leaves the masks as the blocks' reset sets them (R198). -/
theorem powerOn_masks (raw : RawScan) : (powerOn raw s).sl.masks = (defaultMask, defaultMask) := by
  unfold powerOn
  dsimp only
  split <;> simp [bootRails]

end

/-- The default of the masks is made of the four flags that R194 names. -/
theorem defaultMask_eq :
    defaultMask = AttnFlag.eventOpened.bit ||| AttnFlag.alertResult.bit ||| AttnFlag.timeGrade.bit ||| AttnFlag.powerTier.bit := by
  decide

/-! ## The statements -/

/-- Settles O49: IDENT only reads, and its fields are constants. -/
theorem identReplies : Obligations.IdentReplies := by
  intro d s pre r post h hk
  rw [← identFields_bytes (s.elapse d)]
  exact h.answers_read hk (exec_ident d s)

/-- Settles O50: STATUS only reads, after the elapsed time. -/
theorem statusReplies : Obligations.StatusReplies := by
  intro d s pre r post h hk
  obtain ⟨refused, taken⟩ := h.answers_read hk (exec_status d s)
  rw [statusFields_items] at taken
  exact ⟨refused, taken⟩

/-- Settles O51: the request sets the two masks and nothing else, and a reset's later work keeps the defaults it starts from. -/
theorem attnMaskSetsMasks : Obligations.AttnMaskSetsMasks := by
  refine ⟨fun d s pre r post h hk => ⟨h.answers_badLength hk (exec_attnMask d s), fun line wake hp => ?_⟩, fun d raw s => ?_⟩
  · have hlen : r.payload.length = 2 := congrArg List.length hp
    exact ⟨_, h.answers_ofLength hk (exec_attnMask d s) hlen (attnMask_pair hp _) rfl, rfl, State.attn_iff _, rfl,
      fun f x hx => raise_host_of_dozing f hx⟩
  · obtain ⟨hline, hwake⟩ := Prod.ext_iff.mp (powerOn_masks s raw)
    exact ⟨_, exec_powerOnReset d raw s, hline.trans defaultMask_eq, hwake.trans hline.symm⟩

end Sys2Proof.Machine

/-! PROOFS. Every command as the time it brings and the work it then does, the parts of the state that its work can change, and
the rule that a property is an invariant of the step once every command's work keeps it (R201; log entries 1 and 4). -/

namespace Sys2Proof

/-- The time that has passed since the command before. -/
def Instr.elapsed : Instr → Elapsed
  | .powerOnReset d _ | .pinReset d _ | .refpPulse d | .labelRecord d _ | .labelGapTimeout d | .referenceLoss d
  | .wholeSecond d | .watchWholeSecond d | .sampleStrobe d | .digitizerFrame d _ | .digitizerGapTimeout d | .filterPass d
  | .auxtrigEdge d _ | .patrolRead d _ | .railWindowMark d | .uplinkDecision d | .issueInstant d _ | .transmitSent d
  | .taken d _ _ | .refused d _ _ | .done d _ _ | .modemFrameDiscard d _ | .modemGapTimeout d | .awaitTakenTimeout d
  | .awaitDoneTimeout d | .housekeepingScan d _ | .heaterDeferDeadline d | .lastGaspLimit d | .settleEnd d
  | .graceDeadline d | .dozeDeadline d | .cycleEnd d | .hostSilenceExpiry d | .linkFrame d _ | .linkGapTimeout d
  | .replyStart d _ | .replyComplete d | .unknownKind d | .ident d | .status d | .attnRead d | .attnMask d
  | .restartLink d | .restartDetection d | .settingsSave d | .settingsSaveComplete d _ | .settingsDefaults d | .timeGet d
  | .timeSet d | .clockReport d | .driftRead d | .driftClear d | .filterLoad d | .filterSwap d | .channelGet d
  | .clipClear d | .detectSet d | .detectArm d | .eventForce d | .storeSet d | .storeReport d | .eventList d | .eventGet d
  | .waveRead d _ | .eventPin d | .eventUnpin d | .eventRelease d | .eventDelete d | .alertPost d | .alertList d
  | .alertCancel d | .resultsRead d | .uplinkSet d | .powerGet d | .batterySetLimits d | .batterySetCalibration d
  | .batterySetTable d | .heaterSet d | .heaterFaultClear d | .tierSet d | .hostSleep d | .linkFrameDiscard d _ _
  | .digitizerFramingError d | .modemFramingError d | .supplyLoss d => d

end Sys2Proof

namespace Sys2Proof.Machine

/-! ## The work of a command -/

/-- SAMPLE_STROBE: the boundary reached is issued. -/
def takeStrobe (s : State) : State :=
  match strobeBoundary s with
  | some b => issueStrobe b s
  | none => s

/-- AUXTRIG_EDGE: the line's new level, and the edge if the parameter takes it. -/
def auxEdgeArrives (rising : Bool) (s : State) : State :=
  let s1 := s.modLines fun l => { l with auxtrig := rising }
  if s.tu.params.auxEdge.takes rising then takeAuxEdge s1 else s1

/-- PATROL_READ after its upsets. -/
def patrolAfter (s : State) : State := if patrolExpired s then freshPatrol (patrolRead s) else s

/-- ISSUE_INSTANT after the level of MBF is read. -/
def issueAfter (mbf : Bool) (s : State) : State :=
  match issueFrame s with
  | some x => takeIssue x mbf s
  | none => s

/-- SUPPLY_LOSS. -/
def stopDevice (s : State) : State := { s.modSm fun m => { m with writing := none } with powered := false }

/-- What a command does once its time has passed. -/
def work : Instr → State → State
  | .powerOnReset _ raw => powerOn raw
  | .pinReset _ raw => pinReset raw
  | .refpPulse _ => whileMain pulseEdge
  | .labelRecord _ bytes => whileMain fun s => bytes.foldl labelByte s
  | .labelGapTimeout _ => whileMain fun s => s.modTb fun t => { t with labelRx := [] }
  | .referenceLoss _ => whileMain fun s => if lossExpired s then loseReference s else s
  | .wholeSecond _ => fun s => if s.mainRuns && s.reached (s.clk.time.sec * nsPerSec) then mainSecond s else s
  | .watchWholeSecond _ => fun s => if !s.mainRuns && s.clk.watch.ticks = 0 then watchSecond s else s
  | .sampleStrobe _ => takeStrobe
  | .digitizerFrame _ bytes => fun s => if siListens s then bytes.foldl digitizerByte s else s
  | .digitizerGapTimeout _ => fun s => if siListens s then dropDigitizerFrame s else s
  | .filterPass _ => whileMain nextFilterPass
  | .auxtrigEdge _ rising => auxEdgeArrives rising
  | .patrolRead _ upsets => fun s => patrolAfter (applyUpsets s upsets)
  | .railWindowMark _ => fun s => if atRailMark s then railMark s else s
  | .uplinkDecision _ => fun s => if atDecision s then decideUplink s else s
  | .issueInstant _ mbf => fun s => issueAfter mbf (s.modLines fun l => { l with mbf := mbf })
  | .transmitSent _ => whileMain Machine.transmitSent
  | .taken _ handle body => receiveModem (modemFrame modemTaken handle body)
  | .refused _ handle body => receiveModem (modemFrame modemRefused handle body)
  | .done _ handle body => receiveModem (modemFrame modemDone handle body)
  | .modemFrameDiscard _ bytes => receiveModem bytes
  | .modemGapTimeout _ => whileMain dropModemFrame
  | .awaitTakenTimeout _ => whileMain fun s => if takenExpired s then endAttempt false s else s
  | .awaitDoneTimeout _ => whileMain fun s => if doneExpired s then endAttempt false s else s
  | .housekeepingScan _ raw => fun s => if s.hm.scanDue ≤ s.clk.watchRun then scan raw s else s
  | .heaterDeferDeadline _ => fun s => if deferExpired s then heaterDecide true s else s
  | .lastGaspLimit _ => gaspCheck
  | .settleEnd _ => fun s => if settleOver s then completeExit s else s
  | .graceDeadline _ => endGrace
  | .dozeDeadline _ => endDoze
  | .cycleEnd _ => endCycle
  | .hostSilenceExpiry _ => fun s => if silenceExpired s then supervise s else s
  | .linkFrame _ bytes => fun s => if linkTakesBytes s then bytes.foldl linkByte s else s
  | .linkGapTimeout _ => fun s => if linkTakesBytes s then discardIfBusy s else s
  | .replyStart _ hrdy => fun s => startReply hrdy (s.modLines fun l => { l with hrdy := hrdy })
  | .replyComplete _ => completeReply
  | .unknownKind _ => serveWith (fun r => !knownKinds.contains r.kind) fun _ s => (([stUnknownKind], .nothing), s)
  | .ident _ => serve kIdent (withLength 0 (readOnly identFields))
  | .status _ => serve kStatus (withLength 0 (readOnly statusFields))
  | .attnRead _ => serve kAttnRead (withLength 0 Machine.attnRead)
  | .attnMask _ => serve kAttnMask (withLength 2 Machine.attnMask)
  | .restartLink _ => serveWith (fun r => r.kind = kRestart && namesOrNone scopeLink scopes r.payload) Machine.restartLink
  | .restartDetection _ => serveWith (fun r => r.kind = kRestart && namesOrNone scopeDetection scopes r.payload) fun p s =>
    (((withLength 1 restartDetectionRequest p s).1, .nothing), (withLength 1 restartDetectionRequest p s).2)
  | .settingsSave _ => Machine.settingsSave
  | .settingsSaveComplete _ agrees => completeSave agrees
  | .settingsDefaults _ => serve kSettingsDefaults (withLength 0 Machine.settingsDefaults)
  | .timeGet _ => serve kTimeGet (withLength 0 (readOnly timeFields))
  | .timeSet _ => serve kTimeSet (withLength 12 Machine.timeSet)
  | .clockReport _ => serve kClockReport (withLength 0 Machine.clockReport)
  | .driftRead _ => serve kDriftRead (withLength 0 (readOnly driftFields))
  | .driftClear _ => serve kDriftClear (withLength 0 Machine.driftClear)
  | .filterLoad _ => serve kFilterLoad Machine.filterLoad
  | .filterSwap _ => serve kFilterSwap (withLength 1 (withChannel Machine.filterSwap))
  | .channelGet _ => serve kChannelGet (withLength 2 Machine.channelGet)
  | .clipClear _ => serve kClipClear (withLength 1 (withChannel Machine.clipClear))
  | .detectSet _ => serve kDetectSet Machine.detectSet
  | .detectArm _ => serve kDetectArm (withLength 1 Machine.detectArm)
  | .eventForce _ => serve kEventForce (withLength 0 Machine.eventForce)
  | .storeSet _ => serve kStoreSet Machine.storeSet
  | .storeReport _ => serve kStoreReport (withLength 0 (readOnly storeFields))
  | .eventList _ => serve kEventList (withLength 4 Machine.eventList)
  | .eventGet _ => serve kEventGet (withLength 4 (withRecord Machine.eventGet))
  | .waveRead _ upsets => fun s => serve kWaveRead (withLength 10 Machine.waveRead) (applyUpsets s upsets)
  | .eventPin _ => serve kEventPin (withLength 4 (withRecord Machine.eventPin))
  | .eventUnpin _ => serve kEventUnpin (withLength 4 (withRecord Machine.eventUnpin))
  | .eventRelease _ => serve kEventRelease (withLength 4 (withRecord Machine.eventRelease))
  | .eventDelete _ => serve kEventDelete (withLength 4 (withRecord Machine.eventDelete))
  | .alertPost _ => serve kAlertPost Machine.alertPost
  | .alertList _ => serve kAlertList (withLength 1 Machine.alertList)
  | .alertCancel _ => serve kAlertCancel (withLength 2 Machine.alertCancel)
  | .resultsRead _ => serve kResultsRead (withLength 0 (readOnly resultsFields))
  | .uplinkSet _ => serve kUplinkSet Machine.uplinkSet
  | .powerGet _ => serve kPowerGet (withLength 0 (readOnly powerFields))
  | .batterySetLimits _ => serveBattery partLimits (batterySet partLimits limitsStatus fun s => limitBytes s.ca.limits)
  | .batterySetCalibration _ =>
    serveBattery partCalibration (batterySet partCalibration calibrationStatus fun s => calibrationBytes s.hm.cal)
  | .batterySetTable _ => serveBattery partTable (batterySet partTable tableStatus fun s => tableBytes s.ca.table)
  | .heaterSet _ => serve kHeaterSet Machine.heaterSet
  | .heaterFaultClear _ => serve kHeaterFaultClear (withLength 0 Machine.heaterFaultClear)
  | .tierSet _ => serve kTierSet Machine.tierSet
  | .hostSleep _ => serveWith (fun r => r.kind = kHostSleep) Machine.hostSleep
  | .linkFrameDiscard _ byte stopLow =>
    fun s => if linkTakesBytes s then (if stopLow then discardIfBusy s else linkByte s byte) else s
  | .digitizerFramingError _ => fun s => if siListens s then dropDigitizerFrame s else s
  | .modemFramingError _ => fun s => if modemListens s then dropModemFrame s else s
  | .supplyLoss _ => stopDevice

/-- A command but for power-on lets its time pass and does its work, if the device has supply. -/
theorem exec_eq_timed (c : Instr) (s : State) (h : ∀ d raw, c ≠ .powerOnReset d raw) :
    exec c s = timed c.elapsed s (work c) := by
  cases c
  case powerOnReset d raw => exact absurd rfl (h d raw)
  all_goals rfl

/-- The next states that a command can answer: its work, after its time unless it is power-on, or nothing without supply. -/
theorem exec_cases (c : Instr) (s : State) :
    exec c s = .next (work c s) ∨ exec c s = .next (work c (s.elapse c.elapsed)) ∨ exec c s = .next s := by
  by_cases h : ∃ d raw, c = .powerOnReset d raw
  · obtain ⟨d, raw, rfl⟩ := h
    exact .inl (exec_powerOnReset d raw s)
  · rw [exec_eq_timed c s fun d raw hc => h ⟨d, raw, hc⟩]
    by_cases hp : s.powered = true
    · exact .inr (.inl (timed_powered _ _ _ hp))
    · exact .inr (.inr (timed_unpowered _ _ _ (by simpa using hp)))

/-- A property is kept by every step if it does not depend on the queue, and the passing of time and every command's work keep it. -/
theorem step_keeps {P : State → Prop} (queue : ∀ s q, P s → P { s with pending := q }) (time : ∀ s d, P s → P (s.elapse d))
    (works : ∀ c s, P s → P (work c s)) {s t : State} (hs : step s = .next t) (h : P s) : P t := by
  unfold step at hs
  split at hs
  · cases hs
    exact h
  · rename_i c rest _
    have hq := queue s rest h
    obtain he | he | he := exec_cases c { s with pending := rest } <;> rw [he] at hs <;> cases hs
    · exact works c _ hq
    · exact works c _ (time _ _ hq)
    · exact hq

/-! ## A property through the frames of the meanings -/

section

variable {P : State → Prop} {s t u : State}

theorem keeps_ite {c : Prop} [Decidable c] (ht : P t) (hu : P u) : P (if c then t else u) := by
  split
  · exact ht
  · exact hu

theorem whileMain_keeps {f : State → State} (hf : P (f s)) (h : P s) : P (whileMain f s) := keeps_ite hf h

theorem whileMainIf_keeps {c : State → Bool} {f : State → State} (hf : P (f s)) (h : P s) :
    P (whileMain (fun s => if c s then f s else s) s) :=
  whileMain_keeps (f := fun s => if c s then f s else s) (keeps_ite hf h) h

/-- Serving a request keeps what the request's own function and the answer keep. -/
theorem serveWith_keeps {mine : Request → Bool} {f : List Byte → State → (List Byte × AtReplyEnd) × State}
    (answered : ∀ x e t, P t → P (answer x e t)) (hf : ∀ p, P (f p s).2) (h : P s) : P (serveWith mine f s) := by
  unfold Machine.serveWith
  split
  · split
    · exact answered _ _ _ (hf _)
    · exact h
  · exact h

theorem serve_keeps {kind : Byte} {f : List Byte → State → List Byte × State} (answered : ∀ x e t, P t → P (answer x e t))
    (hf : ∀ p, P (f p s).2) (h : P s) : P (serve kind f s) := serveWith_keeps answered hf h

theorem withLength_keeps {n : Nat} {f : List Byte → State → List Byte × State} (hf : ∀ p, p.length = n → P (f p s).2) (h : P s)
    (p : List Byte) : P (withLength n f p s).2 := by
  unfold withLength
  split
  · exact hf p ‹_›
  · exact h

theorem withRecord_keeps {f : EventRecord → State → List Byte × State} (hf : ∀ r, P (f r s).2) (h : P s) (p : List Byte) :
    P (withRecord f p s).2 := by
  unfold withRecord
  split
  · exact hf _
  · exact h

theorem withChannel_keeps {f : Channel → State → List Byte × State} (hf : ∀ c, P (f c s).2) (h : P s) (p : List Byte) :
    P (withChannel f p s).2 := by
  unfold withChannel
  split
  · exact hf _
  · exact h

/-- BATTERY SET keeps what the status function of its part keeps. -/
theorem batterySet_keeps {part : Byte} {status : List Byte → State → Byte × State} {values : State → List Byte}
    (hf : ∀ p, P (status p s).2) (h : P s) (p : List Byte) : P (batterySet part status values p s).2 := by
  unfold batterySet
  split
  · exact h
  · split
    · exact hf p
    · exact h

end

/-! ## What changes only listed parts -/

section

variable {bs cs : List Block} {s t u : State}

theorem ChangesOnly.rfl : ChangesOnly bs s s := fun b _ => by cases b <;> exact Eq.refl _

theorem ChangesOnly.mono (h : ChangesOnly bs s t) (hsub : ∀ b ∈ bs, b ∈ cs) : ChangesOnly cs s t :=
  fun b hb => h b (mt (hsub b) hb)

theorem ChangesOnly.trans (h : ChangesOnly bs s t) (k : ChangesOnly bs t u) : ChangesOnly bs s u := by
  intro b hb
  have hst := h b hb
  have htu := k b hb
  cases b <;> exact Eq.trans htu hst

theorem ChangesOnly.ite {c : Prop} [Decidable c] (h : ChangesOnly bs s t) (k : ChangesOnly bs s u) :
    ChangesOnly bs s (if c then t else u) := keeps_ite h k

theorem ChangesOnly.whileMain {f : State → State} (h : ChangesOnly bs s (f s)) : ChangesOnly bs s (whileMain f s) :=
  whileMain_keeps h .rfl

theorem ChangesOnly.whileMainIf {c : State → Bool} {f : State → State} (h : ChangesOnly bs s (f s)) :
    ChangesOnly bs s (Machine.whileMain (fun s => if c s then f s else s) s) := whileMainIf_keeps h .rfl

theorem ChangesOnly.foldl {α : Type} {f : State → α → State} (h : ∀ s a, ChangesOnly bs s (f s a)) (l : List α) (s : State) :
    ChangesOnly bs s (l.foldl f s) :=
  List.foldlRecOn (motive := ChangesOnly bs s) l f .rfl fun t ht a _ => ht.trans (h t a)

theorem answer_changes (x : List Byte) (e : AtReplyEnd) (s : State) : ChangesOnly [.sl] s (answer x e s) :=
  fun b hb => by cases b <;> simp_all [Block.same]

/-- `Effect bs s u`: from `s` nothing outside the parts listed has changed, and then a request may have got its reply. -/
def Effect (bs : List Block) (s u : State) : Prop := ∃ t, ChangesOnly bs s t ∧ (u = t ∨ ∃ x e, u = answer x e t)

theorem Effect.plain (h : ChangesOnly bs s u) : Effect bs s u := ⟨u, h, .inl (Eq.refl _)⟩

theorem Effect.changes (h : Effect bs s u) : ChangesOnly (.sl :: bs) s u := by
  obtain ⟨t, ht, rfl | ⟨x, e, rfl⟩⟩ := h
  · exact ht.mono fun b hb => .tail _ hb
  · exact (ht.mono fun b hb => .tail _ hb).trans ((answer_changes x e t).mono fun b hb => by simp_all)

/-- A property that the listed parts do not bear on, and that an answer keeps, is kept. -/
theorem Effect.keeps {P : State → Prop} (h : Effect bs s u) (answered : ∀ x e t, P t → P (answer x e t))
    (frame : ∀ t, ChangesOnly bs s t → P t) : P u := by
  obtain ⟨t, ht, rfl | ⟨x, e, rfl⟩⟩ := h
  · exact frame _ ht
  · exact answered x e t (frame t ht)

/-- Serving a request has the effect of the request's own function. -/
theorem Effect.serveWith {mine : Request → Bool} {f : List Byte → State → (List Byte × AtReplyEnd) × State}
    (h : ∀ p, ChangesOnly bs s (f p s).2) : Effect bs s (serveWith mine f s) := by
  unfold Machine.serveWith
  split
  · split
    · exact ⟨_, h _, .inr ⟨_, _, Eq.refl _⟩⟩
    · exact .plain .rfl
  · exact .plain .rfl

theorem Effect.serve {kind : Byte} {f : List Byte → State → List Byte × State}
    (h : ∀ p, ChangesOnly bs s (f p s).2) : Effect bs s (serve kind f s) := .serveWith h

/-- What comes before a served request adds to its effect. -/
theorem Effect.after (h : ChangesOnly bs s t) (k : Effect bs t u) : Effect bs s u := by
  obtain ⟨x, hx, hu⟩ := k
  exact ⟨x, h.trans hx, hu⟩

theorem ChangesOnly.withLength {n : Nat} {f : List Byte → State → List Byte × State}
    (h : ∀ p, ChangesOnly bs s (f p s).2) (p : List Byte) : ChangesOnly bs s (withLength n f p s).2 :=
  withLength_keeps (fun p _ => h p) .rfl p

theorem ChangesOnly.withRecord {f : EventRecord → State → List Byte × State} (h : ∀ r, ChangesOnly bs s (f r s).2)
    (p : List Byte) : ChangesOnly bs s (withRecord f p s).2 := withRecord_keeps h .rfl p

theorem ChangesOnly.withChannel {f : Channel → State → List Byte × State} (h : ∀ c, ChangesOnly bs s (f c s).2)
    (p : List Byte) : ChangesOnly bs s (withChannel f p s).2 := withChannel_keeps h .rfl p

theorem ChangesOnly.batterySet {part : Byte} {status : List Byte → State → Byte × State} {values : State → List Byte}
    (h : ∀ p, ChangesOnly bs s (status p s).2) (p : List Byte) : ChangesOnly bs s (batterySet part status values p s).2 :=
  batterySet_keeps h .rfl p

/-- A part that does not stand in the list is the same. -/
theorem ChangesOnly.powered (h : ChangesOnly bs s t) (hb : Block.powered ∉ bs) : t.powered = s.powered := h _ hb
theorem ChangesOnly.clk (h : ChangesOnly bs s t) (hb : Block.clk ∉ bs) : t.clk = s.clk := h _ hb
theorem ChangesOnly.tb (h : ChangesOnly bs s t) (hb : Block.tb ∉ bs) : t.tb = s.tb := h _ hb
theorem ChangesOnly.tu (h : ChangesOnly bs s t) (hb : Block.tu ∉ bs) : t.tu = s.tu := h _ hb
theorem ChangesOnly.ws (h : ChangesOnly bs s t) (hb : Block.ws ∉ bs) : t.ws = s.ws := h _ hb
theorem ChangesOnly.al (h : ChangesOnly bs s t) (hb : Block.al ∉ bs) : t.al = s.al := h _ hb
theorem ChangesOnly.ca (h : ChangesOnly bs s t) (hb : Block.ca ∉ bs) : t.ca = s.ca := h _ hb
theorem ChangesOnly.hc (h : ChangesOnly bs s t) (hb : Block.hc ∉ bs) : t.hc = s.hc := h _ hb
theorem ChangesOnly.pt (h : ChangesOnly bs s t) (hb : Block.pt ∉ bs) : t.pt = s.pt := h _ hb
theorem ChangesOnly.sl (h : ChangesOnly bs s t) (hb : Block.sl ∉ bs) : t.sl = s.sl := h _ hb
theorem ChangesOnly.sm (h : ChangesOnly bs s t) (hb : Block.sm ∉ bs) : t.sm = s.sm := h _ hb
theorem ChangesOnly.pending (h : ChangesOnly bs s t) (hb : Block.pending ∉ bs) : t.pending = s.pending := h _ hb

end

/-! ## The requests' own functions -/

section

variable (p : List Byte) (s : State)

theorem attnRead_changes : ChangesOnly [.sl] s (Machine.attnRead p s).2 :=
  fun b hb => by cases b <;> simp_all [Block.same, Machine.attnRead]

theorem attnMask_changes : ChangesOnly [.sl] s (Machine.attnMask p s).2 :=
  fun b hb => by cases b <;> simp_all [Block.same, Machine.attnMask]

theorem restartLink_changes : ChangesOnly [.sl] s (Machine.restartLink p s).2 := by
  unfold Machine.restartLink
  (repeat' split) <;> exact fun b hb => by cases b <;> simp_all [Block.same]

theorem restartDetectionRequest_changes :
    ChangesOnly [.si, .tu, .ws, .et, .hc, .pt, .sl] s (restartDetectionRequest p s).2 := by
  unfold restartDetectionRequest
  split <;> exact fun b hb => by cases b <;> simp_all [Block.same]

theorem detectArm_changes : ChangesOnly [.si, .tu, .ws, .et, .hc, .pt, .sl] s (Machine.detectArm p s).2 := by
  unfold Machine.detectArm
  dsimp only
  (repeat' split) <;> exact fun b hb => by cases b <;> simp_all [Block.same]

theorem defaultFilter_changes (c : Channel) : ChangesOnly [.fe] s (defaultFilter s c) :=
  fun b hb => by cases b <;> simp_all [Block.same, defaultFilter]

theorem applyDefaults_changes :
    ChangesOnly [.si, .fe, .tu, .ws, .et, .al, .hm, .ca, .hc, .pt, .sm] s (applyDefaults s) := by
  intro b hb
  have filters (x : State) := ChangesOnly.foldl defaultFilter_changes channels x b
  cases b <;> simp_all [Block.same, applyDefaults]

theorem settingsDefaults_changes :
    ChangesOnly [.si, .fe, .tu, .ws, .et, .al, .hm, .ca, .hc, .pt, .sm] s (Machine.settingsDefaults p s).2 := by
  unfold Machine.settingsDefaults
  split
  · exact .rfl
  · exact applyDefaults_changes s

theorem timeSet_changes : ChangesOnly [.clk, .tb, .et, .al, .pt, .sl] s (Machine.timeSet p s).2 := by
  unfold Machine.timeSet
  (repeat' split) <;> exact fun b hb => by cases b <;> simp_all [Block.same]

theorem clockReport_changes : ChangesOnly [.freeCount] s (Machine.clockReport p s).2 := by
  unfold Machine.clockReport secondsSincePulse
  split <;> exact fun b hb => by cases b <;> simp_all [Block.same, State.takeFree]

theorem driftClear_changes : ChangesOnly [.tb] s (Machine.driftClear p s).2 :=
  fun b hb => by cases b <;> simp_all [Block.same, Machine.driftClear]

theorem filterLoad_changes : ChangesOnly [.fe] s (Machine.filterLoad p s).2 := by
  unfold Machine.filterLoad loadChannel
  dsimp only
  (repeat' split) <;> exact fun b hb => by cases b <;> simp_all [Block.same]

theorem filterSwap_changes (c : Channel) : ChangesOnly [.fe] s (Machine.filterSwap c s).2 := by
  unfold Machine.filterSwap
  (repeat' split) <;> exact fun b hb => by cases b <;> simp_all [Block.same]

theorem clipClear_changes (c : Channel) : ChangesOnly [.fe] s (Machine.clipClear c s).2 :=
  fun b hb => by cases b <;> simp_all [Block.same, Machine.clipClear]

theorem channelGet_state : (Machine.channelGet p s).2 = s := by
  unfold Machine.channelGet
  dsimp only
  (repeat' split) <;> rfl

theorem detectSet_changes : ChangesOnly [.tu] s (Machine.detectSet p s).2 := by
  unfold Machine.detectSet detectSetStatus
  dsimp only
  (repeat' split) <;> exact fun b hb => by cases b <;> simp_all [Block.same]

theorem eventForce_changes : ChangesOnly [.tu, .et] s (Machine.eventForce p s).2 := by
  unfold Machine.eventForce
  split <;> exact fun b hb => by cases b <;> simp_all [Block.same]

theorem storeSet_changes : ChangesOnly [.ws] s (Machine.storeSet p s).2 := by
  unfold Machine.storeSet storeSetStatus
  dsimp only
  (repeat' split) <;> exact fun b hb => by cases b <;> simp_all [Block.same]

theorem gatherOne_changes (c : Channel) (x : SamplePlace) (g : Gather) :
    ChangesOnly [.ws, .et, .pt, .sl] g.state (gatherOne c g x).state := by
  unfold gatherOne
  split
  · exact .rfl
  · dsimp only
    split
    · exact .rfl
    · exact fun b hb => by cases b <;> simp_all [Block.same]

theorem gather_changes (c : Channel) (xs : List SamplePlace) (g : Gather) :
    ChangesOnly [.ws, .et, .pt, .sl] g.state (xs.foldl (gatherOne c) g).state := by
  induction xs generalizing g with
  | nil => exact .rfl
  | cons x xs ih => exact (gatherOne_changes c x g).trans (ih _)

theorem waveRead_changes : ChangesOnly [.ws, .et, .pt, .sl] s (Machine.waveRead p s).2 := by
  unfold Machine.waveRead
  dsimp only
  (repeat' split) <;> first | exact .rfl | exact gather_changes _ _ _

theorem eventPin_changes (r : EventRecord) : ChangesOnly [.et] s (Machine.eventPin r s).2 := by
  unfold Machine.eventPin
  (repeat' split) <;> exact fun b hb => by cases b <;> simp_all [Block.same]

theorem eventUnpin_changes (r : EventRecord) : ChangesOnly [.et] s (Machine.eventUnpin r s).2 := by
  unfold Machine.eventUnpin
  split <;> exact fun b hb => by cases b <;> simp_all [Block.same]

theorem eventRelease_changes (r : EventRecord) : ChangesOnly [.et] s (Machine.eventRelease r s).2 := by
  unfold Machine.eventRelease
  split <;> exact fun b hb => by cases b <;> simp_all [Block.same]

theorem eventDelete_changes (r : EventRecord) : ChangesOnly [.ws, .et] s (Machine.eventDelete r s).2 := by
  unfold Machine.eventDelete
  split <;> exact fun b hb => by cases b <;> simp_all [Block.same]

theorem alertPost_changes : ChangesOnly [.et, .al, .pt, .sl] s (Machine.alertPost p s).2 := by
  unfold Machine.alertPost
  (repeat' split) <;> exact fun b hb => by cases b <;> simp_all [Block.same]

theorem alertList_state : (Machine.alertList p s).2 = s := by
  unfold Machine.alertList
  dsimp only
  split <;> rfl

theorem alertCancel_changes : ChangesOnly [.tb, .et, .al, .pt, .sl] s (Machine.alertCancel p s).2 := by
  unfold Machine.alertCancel
  (repeat' split) <;> exact fun b hb => by cases b <;> simp_all [Block.same]

theorem uplinkSet_changes : ChangesOnly [.al] s (Machine.uplinkSet p s).2 := by
  unfold Machine.uplinkSet uplinkSetStatus
  dsimp only
  split <;> exact fun b hb => by cases b <;> simp_all [Block.same]

theorem limitsStatus_changes : ChangesOnly [.ca] s (limitsStatus p s).2 := by
  unfold limitsStatus
  dsimp only
  (repeat' split) <;> exact fun b hb => by cases b <;> simp_all [Block.same]

theorem tableStatus_changes : ChangesOnly [.ca] s (tableStatus p s).2 := by
  unfold tableStatus
  dsimp only
  (repeat' split) <;> exact fun b hb => by cases b <;> simp_all [Block.same]

theorem calibrationStatus_changes : ChangesOnly [.hm] s (calibrationStatus p s).2 := by
  unfold calibrationStatus
  dsimp only
  (repeat' split) <;> exact fun b hb => by cases b <;> simp_all [Block.same]

theorem heaterSet_changes : ChangesOnly [.si, .tu, .et, .hc] s (Machine.heaterSet p s).2 := by
  unfold Machine.heaterSet heaterSetStatus
  dsimp only
  (repeat' split) <;> exact fun b hb => by cases b <;> simp_all [Block.same]

theorem heaterFaultClear_changes : ChangesOnly [.si, .tu, .et, .hc] s (Machine.heaterFaultClear p s).2 := by
  unfold Machine.heaterFaultClear
  split <;> exact fun b hb => by cases b <;> simp_all [Block.same]

theorem tierSet_changes : ChangesOnly [.pt] s (Machine.tierSet p s).2 := by
  unfold Machine.tierSet tierSetStatus
  dsimp only
  (repeat' split) <;> exact fun b hb => by cases b <;> simp_all [Block.same]

theorem hostSleep_changes : ChangesOnly [.pt, .sl] s (Machine.hostSleep p s).2 := by
  unfold Machine.hostSleep takeSleep
  (repeat' split) <;> exact fun b hb => by cases b <;> simp_all [Block.same]

end

/-! ## The resets -/

section

variable (raw : RawScan) (s : State)

theorem startStore_changes : ChangesOnly [.ws, .et, .pt, .sl] s (startStore s) := by
  unfold startStore
  refine .trans (t := (enabledChannels s.pt.tier).foldl (fun s c => storeJoin c s) s) (.foldl (fun s c => ?_) _ s) ?_
  all_goals exact fun b hb => by cases b <;> simp_all [Block.same]

theorem bootScanned_changes : ChangesOnly [.powered, .clk, .tb, .ca, .hc, .pt, .hm, .lines] s (bootScanned raw s) :=
  fun b hb => by cases b <;> simp_all [Block.same, bootScanned]

theorem powerOn_changes :
    ChangesOnly [.powered, .clk, .tb, .si, .fe, .tu, .ws, .et, .al, .hm, .ca, .hc, .pt, .sl, .sm, .lines] s (powerOn raw s) := by
  intro b hb
  have boot := bootScanned_changes raw s b
  have store (x : State) := startStore_changes x b
  unfold powerOn
  cases b <;> simp_all [Block.same, resetBlocks, bootRails] <;> split <;> simp_all

theorem pinLoaded_changes :
    ChangesOnly [.clk, .tb, .si, .fe, .tu, .ws, .et, .al, .hm, .ca, .hc, .pt, .sl, .sm] s (pinLoaded s) := by
  intro b hb
  have store (x : State) := startStore_changes x b
  cases b <;> simp_all [Block.same, resetBlocks, pinLoaded]

theorem pinTierScan_changes : ChangesOnly [.tb, .si, .fe, .tu, .ws, .et, .al, .hc, .pt, .sl] s (pinTierScan s) := by
  unfold pinTierScan
  dsimp only
  split <;> exact fun b hb => by cases b <;> simp_all [Block.same]

theorem pinReset_changes :
    ChangesOnly [.clk, .tb, .si, .fe, .tu, .ws, .et, .al, .hm, .ca, .hc, .pt, .sl, .sm, .lines] s (pinReset raw s) := by
  intro b hb
  have loaded := pinLoaded_changes s b
  have tier (x : State) := pinTierScan_changes x b
  cases b <;> simp_all [Block.same, pinReset]

end

/-! ## The footprint of a command -/

/-- The parts of the state that the work of a command can change, the reply of a request in the link apart. -/
def footprint : Instr → List Block
  | .labelRecord _ _ | .labelGapTimeout _ | .driftClear _ =>
    [.tb]
  | .refpPulse _ | .wholeSecond _ | .timeSet _ =>
    [.clk, .tb, .et, .al, .pt, .sl]
  | .referenceLoss _ | .watchWholeSecond _ | .taken _ _ _ | .refused _ _ _ | .done _ _ _ | .modemFrameDiscard _ _
  | .awaitTakenTimeout _ | .awaitDoneTimeout _ | .lastGaspLimit _ | .alertCancel _ =>
    [.tb, .et, .al, .pt, .sl]
  | .sampleStrobe _ =>
    [.tb, .si, .fe, .ws, .et, .pt, .sl]
  | .digitizerFrame _ _ =>
    [.si, .fe, .ws, .et, .pt, .sl]
  | .digitizerGapTimeout _ | .digitizerFramingError _ =>
    [.si]
  | .filterPass _ =>
    [.si, .fe, .tu, .ws, .et, .al, .hc, .pt, .sl]
  | .auxtrigEdge _ _ =>
    [.tu, .et, .lines]
  | .patrolRead _ _ | .waveRead _ _ =>
    [.ws, .et, .pt, .sl]
  | .railWindowMark _ | .uplinkDecision _ =>
    [.al, .pt]
  | .issueInstant _ _ =>
    [.et, .al, .pt, .lines]
  | .transmitSent _ | .modemGapTimeout _ | .modemFramingError _ | .uplinkSet _ =>
    [.al]
  | .housekeepingScan _ _ =>
    [.tb, .si, .fe, .tu, .ws, .et, .al, .hm, .ca, .hc, .pt, .sl, .lines]
  | .heaterDeferDeadline _ | .heaterSet _ | .heaterFaultClear _ =>
    [.si, .tu, .et, .hc]
  | .settleEnd _ =>
    [.clk, .tb, .si, .fe, .tu, .ws, .et, .al, .hc, .pt, .sl]
  | .graceDeadline _ | .dozeDeadline _ | .cycleEnd _ | .hostSilenceExpiry _ | .linkFrame _ _ | .linkFrameDiscard _ _ _
  | .replyComplete _ | .hostSleep _ =>
    [.pt, .sl]
  | .tierSet _ =>
    [.pt]
  | .unknownKind _ | .ident _ | .status _ | .timeGet _ | .driftRead _ | .channelGet _ | .storeReport _ | .eventList _
  | .eventGet _ | .alertList _ | .resultsRead _ | .powerGet _ =>
    []
  | .linkGapTimeout _ | .attnRead _ | .attnMask _ | .restartLink _ =>
    [.sl]
  | .replyStart _ _ =>
    [.sl, .lines]
  | .restartDetection _ | .detectArm _ =>
    [.si, .tu, .ws, .et, .hc, .pt, .sl]
  | .settingsSave _ =>
    [.sl, .sm]
  | .settingsSaveComplete _ _ =>
    [.tb, .et, .al, .pt, .sl, .sm]
  | .settingsDefaults _ =>
    [.si, .fe, .tu, .ws, .et, .al, .hm, .ca, .hc, .pt, .sm]
  | .clockReport _ =>
    [.freeCount]
  | .filterLoad _ | .filterSwap _ | .clipClear _ =>
    [.fe]
  | .detectSet _ =>
    [.tu]
  | .eventForce _ =>
    [.tu, .et]
  | .storeSet _ =>
    [.ws]
  | .eventPin _ | .eventUnpin _ | .eventRelease _ =>
    [.et]
  | .eventDelete _ =>
    [.ws, .et]
  | .alertPost _ =>
    [.et, .al, .pt, .sl]
  | .batterySetLimits _ | .batterySetTable _ =>
    [.ca]
  | .batterySetCalibration _ =>
    [.hm]
  | .supplyLoss _ =>
    [.powered, .sm]
  | .pinReset _ _ =>
    [.clk, .tb, .si, .fe, .tu, .ws, .et, .al, .hm, .ca, .hc, .pt, .sl, .sm, .lines]
  | .powerOnReset _ _ =>
    [.powered, .clk, .tb, .si, .fe, .tu, .ws, .et, .al, .hm, .ca, .hc, .pt, .sl, .sm, .lines]

/-- The work of a command has an effect on its footprint alone. -/
theorem work_effect (c : Instr) (s : State) : Effect (footprint c) s (work c s) := by
  cases c
  case powerOnReset d raw => exact .plain (powerOn_changes raw s)
  case pinReset d raw => exact .plain (pinReset_changes raw s)
  case labelRecord d bytes =>
    refine .plain ?_
    exact .whileMain (.foldl (fun s b k hk => by cases k <;> simp_all [Block.same, footprint]) _ _)
  case digitizerFrame d bytes =>
    refine .plain ?_
    exact .ite (.foldl (fun s b k hk => by cases k <;> simp_all [Block.same, footprint]) _ _) .rfl
  case linkFrame d bytes =>
    refine .plain ?_
    exact .ite (.foldl (fun s b k hk => by cases k <;> simp_all [Block.same, footprint]) _ _) .rfl
  case refpPulse | labelGapTimeout | filterPass | transmitSent | modemGapTimeout =>
    refine .plain ?_
    exact .whileMain fun b hb => by cases b <;> simp_all [Block.same, footprint, dropModemFrame]
  case referenceLoss | awaitTakenTimeout | awaitDoneTimeout =>
    refine .plain ?_
    exact .whileMainIf fun b hb => by cases b <;> simp_all [Block.same, footprint]
  case wholeSecond | watchWholeSecond | digitizerGapTimeout | digitizerFramingError | railWindowMark | uplinkDecision
    | housekeepingScan | heaterDeferDeadline | settleEnd | hostSilenceExpiry | linkGapTimeout | modemFramingError =>
    refine .plain ?_
    exact .ite (fun b hb => by cases b <;> simp_all [Block.same, footprint, dropDigitizerFrame, dropModemFrame]) .rfl
  case linkFrameDiscard d byte stopLow =>
    refine .plain ?_
    exact .ite (.ite (fun b hb => by cases b <;> simp_all [Block.same, footprint])
      (fun b hb => by cases b <;> simp_all [Block.same, footprint])) .rfl
  case sampleStrobe =>
    refine .plain ?_
    show ChangesOnly _ s (takeStrobe s)
    unfold takeStrobe
    split <;> exact fun b hb => by cases b <;> simp_all [Block.same, footprint]
  case auxtrigEdge d rising =>
    refine .plain ?_
    show ChangesOnly _ s (auxEdgeArrives rising s)
    unfold auxEdgeArrives
    exact .ite (fun b hb => by cases b <;> simp_all [Block.same, footprint])
      fun b hb => by cases b <;> simp_all [Block.same, footprint]
  case patrolRead d upsets =>
    refine .plain (.trans (t := applyUpsets s upsets) ?_ (.ite ?_ .rfl))
    all_goals exact fun b hb => by cases b <;> simp_all [Block.same, footprint]
  case issueInstant d mbf =>
    refine .plain (.trans (t := s.modLines fun l => { l with mbf := mbf }) ?_ ?_)
    · exact fun b hb => by cases b <;> simp_all [Block.same, footprint]
    · show ChangesOnly _ _ (issueAfter mbf _)
      unfold issueAfter
      split <;> exact fun b hb => by cases b <;> simp_all [Block.same, footprint]
  case taken | refused | done | modemFrameDiscard | lastGaspLimit | graceDeadline | dozeDeadline | cycleEnd | replyStart
    | replyComplete | settingsSaveComplete | supplyLoss =>
    exact .plain fun b hb => by cases b <;> simp_all [Block.same, footprint, work, stopDevice]
  case settingsSave =>
    show Effect _ s (Machine.settingsSave s)
    unfold Machine.settingsSave
    (repeat' split) <;> exact .plain fun b hb => by cases b <;> simp_all [Block.same, footprint]
  case unknownKind =>
    dsimp only [work]
    refine .serveWith fun p => ?_
    exact .rfl
  case ident | status | timeGet | driftRead | storeReport | resultsRead | powerGet =>
    exact .serve (.withLength fun p => .rfl)
  case eventList => exact .serve (.withLength fun p => .rfl)
  case eventGet => exact .serve (.withLength (.withRecord (fun _ => .rfl)))
  case channelGet => exact .serve (.withLength fun p => (channelGet_state p s).symm ▸ .rfl)
  case alertList => exact .serve (.withLength fun p => (alertList_state p s).symm ▸ .rfl)
  case attnRead => exact .serve (.withLength (attnRead_changes · s))
  case attnMask => exact .serve (.withLength (attnMask_changes · s))
  case restartLink => exact .serveWith (restartLink_changes · s)
  case restartDetection =>
    dsimp only [work]
    refine .serveWith fun p => ?_
    exact .withLength (restartDetectionRequest_changes · s) p
  case settingsDefaults => exact .serve (.withLength (settingsDefaults_changes · s))
  case timeSet => exact .serve (.withLength (timeSet_changes · s))
  case clockReport => exact .serve (.withLength (clockReport_changes · s))
  case driftClear => exact .serve (.withLength (driftClear_changes · s))
  case filterLoad => exact .serve (filterLoad_changes · s)
  case filterSwap => exact .serve (.withLength (.withChannel (filterSwap_changes s)))
  case clipClear => exact .serve (.withLength (.withChannel (clipClear_changes s)))
  case detectSet => exact .serve (detectSet_changes · s)
  case detectArm => exact .serve (.withLength (detectArm_changes · s))
  case eventForce => exact .serve (.withLength (eventForce_changes · s))
  case storeSet => exact .serve (storeSet_changes · s)
  case waveRead d upsets =>
    refine .after (t := applyUpsets s upsets) ?_ (.serve (.withLength (waveRead_changes · _)))
    exact fun b hb => by cases b <;> simp_all [Block.same, footprint]
  case eventPin => exact .serve (.withLength (.withRecord (eventPin_changes s)))
  case eventUnpin => exact .serve (.withLength (.withRecord (eventUnpin_changes s)))
  case eventRelease => exact .serve (.withLength (.withRecord (eventRelease_changes s)))
  case eventDelete => exact .serve (.withLength (.withRecord (eventDelete_changes s)))
  case alertPost => exact .serve (alertPost_changes · s)
  case alertCancel =>
    exact .serve (.withLength (alertCancel_changes · s))
  case uplinkSet => exact .serve (uplinkSet_changes · s)
  case batterySetLimits =>
    dsimp only [work, serveBattery]
    refine .serveWith fun p => ?_
    exact .batterySet (limitsStatus_changes · s) p
  case batterySetCalibration =>
    dsimp only [work, serveBattery]
    refine .serveWith fun p => ?_
    exact .batterySet (calibrationStatus_changes · s) p
  case batterySetTable =>
    dsimp only [work, serveBattery]
    refine .serveWith fun p => ?_
    exact .batterySet (tableStatus_changes · s) p
  case heaterSet => exact .serve (heaterSet_changes · s)
  case heaterFaultClear => exact .serve (.withLength (heaterFaultClear_changes · s))
  case tierSet => exact .serve (tierSet_changes · s)
  case hostSleep => exact .serveWith (hostSleep_changes · s)

/-- The work of a command changes nothing outside its footprint and the link. -/
theorem work_changes (c : Instr) (s : State) : ChangesOnly (.sl :: footprint c) s (work c s) := (work_effect c s).changes

end Sys2Proof.Machine

/-! PROOFS. The time base and the clocks stay in their ranges: what each operation does to I, s, u, the drift table and the held
label, and to the two clocks (R2, R3, R8, R11 to R13, R17, R18, R21 to R24). -/

namespace Sys2Proof.Machine

/-! ## Fields and clamps -/

/-- An unsigned field is less than 256 to the number of its bytes. -/
theorem be_lt (bytes : List Byte) : be bytes < 256 ^ bytes.length := by
  have fold (acc : Nat) : bytes.foldl (fun acc b => acc * 256 + b.toNat) acc < (acc + 1) * 256 ^ bytes.length := by
    induction bytes generalizing acc with
    | nil => simp
    | cons b bs ih =>
      have hb : b.toNat < 256 := b.isLt
      calc
        _ < (acc * 256 + b.toNat + 1) * 256 ^ bs.length := ih _
        _ ≤ (acc + 1) * 256 * 256 ^ bs.length := Nat.mul_le_mul_right _ (by omega)
        _ = (acc + 1) * 256 ^ (bs.length + 1) := by rw [Nat.pow_succ]; ac_rfl
  simpa [be] using fold 0

theorem getU_lt (p : List Byte) (off len : Nat) : getU p off len < 256 ^ len := by
  have hlen : (slice p off len).length ≤ len := by simp [slice]
  exact lt_of_lt_of_le (be_lt _) (Nat.pow_le_pow_right (by decide) hlen)

theorem le_clampInt (x : Int) {a b : Int} : a ≤ clampInt x a b := le_max_left _ _

theorem clampInt_le (x : Int) {a b : Int} (h : a ≤ b) : clampInt x a b ≤ b := max_le h (min_le_right _ _)

theorem le_clampNat (x : Nat) {a b : Nat} : a ≤ clampNat x a b := le_max_left _ _

theorem clampNat_le (x : Nat) {a b : Nat} (h : a ≤ b) : clampNat x a b ≤ b := max_le h (min_le_right _ _)

/-! ## The settings memory -/

section

variable {q : Settings → Prop} {m : SettingsMemory}

/-- The values a reset loads are those of the image or the defaults (R199). -/
theorem SettingsMemory.All.loaded (h : m.All q) (hd : q defaultSettings) : q (loadedSettings m) := by
  unfold loadedSettings
  cases hi : m.image with
  | none => exact hd
  | some x => exact h.1 x hi

theorem SettingsMemory.All.loadMemory (h : m.All q) : (Machine.loadMemory m).All q := ⟨h.1, fun _ hx => nomatch hx⟩

theorem completeSave_sm (agrees : Bool) (s : State) :
    (completeSave agrees s).sm =
      match s.sm.writing with
      | some x => ⟨if agrees then some x else none, none, s.sm.defaultFlag && !agrees⟩
      | none => s.sm := by
  unfold completeSave
  cases s.sm.writing <;> simp

/-- A save that ends leaves the snapshot as the image, or no image (R200). -/
theorem SettingsMemory.All.completeSave {s : State} (h : s.sm.All q) (agrees : Bool) : (completeSave agrees s).sm.All q := by
  rw [completeSave_sm]
  cases hw : s.sm.writing with
  | none => exact h
  | some x =>
    refine ⟨fun y hy => ?_, fun y hy => nomatch hy⟩
    obtain ⟨-, rfl⟩ : agrees = true ∧ x = y := by simpa using hy
    exact h.2 x hw

/-- A save that begins takes the snapshot of the running values (R200). -/
theorem SettingsMemory.All.settingsSave {s : State} (h : s.sm.All q) (hq : q (snapshot s)) : (settingsSave s).sm.All q := by
  unfold Machine.settingsSave
  (repeat' split)
  · exact ⟨fun x hx => by simp [beginSave] at hx, fun x hx => by simp [beginSave] at hx; exact hx ▸ hq⟩
  all_goals exact h

/-- SETTINGS DEFAULTS leaves the image and a snapshot as they are (R202). -/
theorem SettingsMemory.All.applyDefaults {s : State} (h : s.sm.All q) : (applyDefaults s).sm.All q := by
  have filters (x : State) : (channels.foldl defaultFilter x).sm = x.sm :=
    (ChangesOnly.foldl defaultFilter_changes channels x).sm (by simp)
  have hsm : (Machine.applyDefaults s).sm = { s.sm with defaultFlag := true } := by simp [Machine.applyDefaults, filters]
  rw [hsm]
  exact h

/-- Loss of supply stops a save (R201). -/
theorem SettingsMemory.All.stopDevice {s : State} (h : s.sm.All q) : (stopDevice s).sm.All q := ⟨h.1, fun _ hx => nomatch hx⟩

end

/-! ## Changes of grade -/

section

variable (s : State)

/-- TB after a change of grade: the grade, and the two marks that go with it (R9, R14). -/
theorem changeGrade_tb (g : Grade) :
    (changeGrade g s).tb =
      if s.tb.grade = g then s.tb
      else
        { s.tb with
          grade := g
          rejectRun := if s.tb.grade = .locked then 0 else s.tb.rejectRun
          freeRecovery := if s.tb.grade = .free ∧ g = .tracking then true else if g = .locked then false else s.tb.freeRecovery } := by
  unfold changeGrade
  dsimp only
  (repeat' split) <;> simp

@[simp] theorem changeGrade_grade (g : Grade) : (changeGrade g s).tb.grade = g := by
  rw [changeGrade_tb]
  split <;> simp_all

/-- The fields of TB that have a range: I, s, u, the drift table and the held label. -/
def TimeBase.ranged (t : TimeBase) : Int × Int × Nat × DriftTable × Option Label := (t.integral, t.steer, t.u, t.drift, t.label)

@[simp] theorem changeGrade_ranged (g : Grade) : (changeGrade g s).tb.ranged = s.tb.ranged := by
  rw [changeGrade_tb]
  split <;> rfl

@[simp] theorem toWatchClock_ranged : (toWatchClock s).tb.ranged = s.tb.ranged := by
  unfold toWatchClock
  dsimp only
  split
  all_goals
    simp
    rfl

@[simp] theorem gaspCheck_ranged : (gaspCheck s).tb.ranged = s.tb.ranged := by
  unfold gaspCheck
  (repeat' split) <;> simp [endGasp]

@[simp] theorem endAttempt_ranged (ok : Bool) : (endAttempt ok s).tb.ranged = s.tb.ranged := by
  unfold endAttempt
  dsimp only
  (repeat' split) <;> simp

@[simp] theorem takeModemFrame_ranged (k h : Byte) (body : List Byte) : (takeModemFrame k h body s).tb.ranged = s.tb.ranged := by
  unfold takeModemFrame
  (repeat' split) <;> simp

@[simp] theorem modemReceives_ranged (b : Byte) : (modemReceives s b).tb.ranged = s.tb.ranged := by
  unfold modemReceives modemByte completeModemFrame
  dsimp only
  (repeat' split) <;> simp

@[simp] theorem receiveModem_ranged (bytes : List Byte) : (receiveModem bytes s).tb.ranged = s.tb.ranged :=
  foldl_keeps (fun s => s.tb.ranged) _ (fun s b => by simp) bytes s

@[simp] theorem tierChange_ranged (startUp : Bool) (new : Tier) : (tierChange startUp new s).tb.ranged = s.tb.ranged := by
  unfold tierChange
  dsimp only
  (repeat' split) <;> simp

theorem beginExit_ranged : (beginExit s).tb.ranged = s.tb.ranged := rfl

@[simp] theorem tierScan_ranged (startUp : Bool) : (tierScan startUp s).tb.ranged = s.tb.ranged := by
  unfold tierScan hibernateScan
  dsimp only
  (repeat' split) <;> simp [beginExit_ranged]

@[simp] theorem scan_ranged (raw : RawScan) : (scan raw s).tb.ranged = s.tb.ranged := by simp [scan]

@[simp] theorem completeSave_ranged (agrees : Bool) : (completeSave agrees s).tb.ranged = s.tb.ranged := by
  unfold completeSave
  split <;> simp

@[simp] theorem alertCancel_ranged (p : List Byte) : (Machine.alertCancel p s).2.tb.ranged = s.tb.ranged := by
  unfold Machine.alertCancel
  (repeat' split) <;> simp

@[simp] theorem loseReference_ranged : (loseReference s).tb.ranged = s.tb.ranged := changeGrade_ranged s .hold

@[simp] theorem takeStrobe_ranged : (takeStrobe s).tb.ranged = s.tb.ranged := by
  unfold takeStrobe issueStrobe
  split
  · simp
    rfl
  · rfl

end

/-! ## The ranges of TB -/

/-- I, s, u, the running drift table and a held label's second lie in their ranges (R3, R8, R12, R13). -/
structure TimeBase.InRange (t : TimeBase) : Prop where
  integral : -integralLimit ≤ t.integral ∧ t.integral ≤ integralLimit
  steer : -steerLimit ≤ t.steer ∧ t.steer ≤ steerLimit
  u : t.u ≤ max32
  drift : DriftOk t.drift
  label : ∀ l, t.label = some l → l.sec < 4294967296

theorem TimeBase.InRange.congr {t v : TimeBase} (h : t.InRange) (e : v.ranged = t.ranged) : v.InRange := by
  simp only [TimeBase.ranged, Prod.mk.injEq] at e
  obtain ⟨hi, hs, hu, hd, hl⟩ := e
  exact ⟨hi ▸ h.integral, hs ▸ h.steer, hu ▸ h.u, hd ▸ h.drift, hl ▸ h.label⟩

theorem TimeBase.InRange.of_ranged {t : TimeBase} {i s : Int} {u : Nat} {d : DriftTable} {l : Option Label}
    (e : t.ranged = (i, s, u, d, l)) (hi : -integralLimit ≤ i ∧ i ≤ integralLimit) (hs : -steerLimit ≤ s ∧ s ≤ steerLimit)
    (hu : u ≤ max32) (hd : DriftOk d) (hl : ∀ x, l = some x → x.sec < 4294967296) : t.InRange := by
  simp only [TimeBase.ranged, Prod.mk.injEq] at e
  obtain ⟨rfl, rfl, rfl, rfl, rfl⟩ := e
  exact ⟨hi, hs, hu, hd, hl⟩

theorem emptyDrift_ok : DriftOk emptyDrift := by
  intro i
  simp [emptyDrift, steerLimit, Vector.get_eq_getElem]

/-- A bin that learns moves a sixteenth of the way towards −floor(I/128), which lies in the range of the steer (R13). -/
theorem learnBin_ok {i : Int} (hi : -integralLimit ≤ i ∧ i ≤ integralLimit) {b : DriftBin}
    (hb : -steerLimit ≤ b.v ∧ b.v ≤ steerLimit ∧ b.n ≤ 65535) :
    -steerLimit ≤ (learnBin i b).v ∧ (learnBin i b).v ≤ steerLimit ∧ (learnBin i b).n ≤ 65535 := by
  simp only [integralLimit, steerLimit, learnBin, satInc] at *
  split <;> omega

theorem DriftOk.set {t : DriftTable} (h : DriftOk t) (i : Fin 16) {b : DriftBin}
    (hb : -steerLimit ≤ b.v ∧ b.v ≤ steerLimit ∧ b.n ≤ 65535) : DriftOk (t.set i.val b i.isLt) := by
  intro j
  have hj := h j
  simp only [Vector.get_eq_getElem, Vector.getElem_set] at hj ⊢
  split
  · exact hb
  · exact hj

section

variable {s : State}

theorem learnDrift_inRange (h : s.tb.InRange) : (learnDrift s).tb.InRange := by
  unfold learnDrift
  split
  · exact { h with drift := h.drift.set _ (learnBin_ok h.integral (h.drift _)) }
  · exact h

theorem growU_inRange (g : Nat) (h : s.tb.InRange) : (growU g s).tb.InRange := by
  have grown : (s.modTb fun t => { t with u := min max32 (t.u + g) }).tb.InRange := { h with u := min_le_left _ _ }
  unfold growU
  dsimp only
  split
  · split
    · exact grown.congr (by simp)
    · exact grown
  · exact h

/-- The holdover steer is a populated bin's v (R11). -/
theorem holdoverSteer_inRange (x : State) (hx : x.tb.drift = s.tb.drift) (h : s.tb.InRange) :
    (holdoverSteer (populatedBin x) s).tb.InRange := by
  unfold holdoverSteer populatedBin
  split
  · rename_i b hb
    split
    · split at hb
      · split at hb
        · cases hb
          have hbin := h.drift
          rw [← hx] at hbin
          exact { h with steer := ⟨(hbin _).1, (hbin _).2.1⟩ }
        · exact nomatch hb
      · exact nomatch hb
    · exact h
  · exact h

/-- A used pulse limits I and s; u is |θ| and the grade's share (R8). -/
theorem usePulse_inRange {theta : Int} (htheta : theta.natAbs ≤ stepLimit) (h : s.tb.InRange) :
    (usePulse theta s).tb.InRange := by
  have hu (g : Grade) : uncertaintyAfter g theta ≤ max32 := by
    unfold stepLimit at htheta
    unfold uncertaintyAfter max32
    split <;> omega
  have loop (g : Grade) {v : TimeBase}
      (e : v.ranged = (loopIntegral s.tb.integral theta, loopSteer (loopIntegral s.tb.integral theta) theta,
        uncertaintyAfter g theta, s.tb.drift, s.tb.label)) : v.InRange :=
    .of_ranged e ⟨le_clampInt _, clampInt_le _ (by decide)⟩ ⟨le_clampInt _, clampInt_le _ (by decide)⟩ (hu g) h.drift h.label
  have changed (g : Grade) (x : State) : ({ (changeGrade g x).tb with u := uncertaintyAfter g theta } : TimeBase).ranged =
      ({ x.tb with u := uncertaintyAfter g theta } : TimeBase).ranged := by
    have e := changeGrade_ranged x g
    simp only [TimeBase.ranged, Prod.mk.injEq] at e ⊢
    simp [e]
  unfold usePulse
  dsimp only
  split
  · exact learnDrift_inRange (loop _ (changed _ _))
  · exact loop _ (changed _ _)

theorem stepPulse_ranged (sec : Nat) (theta : Int) (s : State) :
    (stepPulse sec theta s).tb.ranged = (0, s.tb.steer, 1000, s.tb.drift, s.tb.label) := by
  simp only [stepPulse, afterStep_tb, markStep, setCurrentFlag_tb, State.modTb_tb]
  have e := changeGrade_ranged ((s.setTime ⟨sec, 0⟩).modTb fun t =>
    { t with integral := 0, lastPulse := some ⟨sec, 0⟩, lastTheta := some theta, movedTo := some ⟨sec, 0⟩ }) .tracking
  simp only [TimeBase.ranged, Prod.mk.injEq, State.modTb_tb, State.setTime_tb] at e ⊢
  simp [e]

theorem stepPulse_clk (sec : Nat) (theta : Int) (s : State) : (stepPulse sec theta s).clk = (s.setTime ⟨sec, 0⟩).clk := by
  simp [stepPulse]

theorem stepPulse_inRange (sec : Nat) (theta : Int) (h : s.tb.InRange) : (stepPulse sec theta s).tb.InRange :=
  .of_ranged (stepPulse_ranged sec theta s) (by decide) h.steer (by decide) h.drift h.label

end

/-! ## The ranges of the clocks -/

/-- Disciplined time and the watch-time counter lie in their ranges (R1, R2). -/
structure Clocks.InRange (c : Clocks) : Prop where
  time : c.time.Ok
  frac : c.frac < 1000000000
  sec : c.watch.sec < 4294967296
  ticks : c.watch.ticks < ticksPerSec

theorem secondsCount_lt (n : Nat) : secondsCount n < 4294967296 := by
  unfold secondsCount
  split
  · assumption
  · exact Nat.mod_lt _ (by decide)

theorem timeOfNs_ok (n : Nat) : (timeOfNs n).Ok := ⟨secondsCount_lt _, Nat.mod_lt _ (by decide)⟩

theorem Clocks.InRange.toTime {c : Clocks} (h : c.InRange) : c.watch.toTime.Ok := by
  refine ⟨h.sec, ?_⟩
  have ht := h.ticks
  simp only [WatchCounter.toTime, ticksPerSec, nsPerSec] at *
  omega

theorem Clocks.InRange.setTime {s : State} (h : s.clk.InRange) {t : Time} (ht : t.Ok) : (s.setTime t).clk.InRange :=
  ⟨ht, Nat.zero_lt_succ _, h.sec, h.ticks⟩

theorem Clocks.InRange.runMain {c : Clocks} (h : c.InRange) (steer : Int) (n : Nat) : (c.runMain steer n).InRange := by
  unfold Clocks.runMain
  exact ⟨timeOfNs_ok _, Nat.mod_lt _ (by decide), h.sec, h.ticks⟩

theorem Clocks.InRange.runWatch {c : Clocks} (h : c.InRange) (n : Nat) : (c.runWatch n).InRange := by
  unfold Clocks.runWatch
  exact ⟨h.time, h.frac, secondsCount_lt _, Nat.mod_lt _ (by decide)⟩

theorem Clocks.InRange.elapse {c : Clocks} (h : c.InRange) (mainRuns : Bool) (steer : Int) (d : Elapsed) :
    (c.elapse mainRuns steer d).InRange := by
  unfold Clocks.elapse
  split
  · exact (h.runMain _ _).runWatch _
  · exact h.runWatch _

/-! ## The invariant -/

/-- The time base, the clocks and the stored drift table are in their ranges. -/
structure TimeInRange (s : State) : Prop where
  tb : s.tb.InRange
  clk : s.clk.InRange
  stored : s.sm.All fun x => DriftOk x.drift

theorem timeInRange_iff (s : State) : TimeInRange s ↔ TimeBaseInv s ∧ ClockInv s := by
  constructor
  · rintro ⟨⟨hi, hs, hu, hd, hl⟩, ⟨ht, hf, hsec, htk⟩, hm⟩
    exact ⟨⟨hi, hs, hu, hd, hm⟩, ht, hf, hsec, htk, hl⟩
  · rintro ⟨⟨hi, hs, hu, hd, hm⟩, ht, hf, hsec, htk, hl⟩
    exact ⟨⟨hi, hs, hu, hd, hl⟩, ⟨ht, hf, hsec, htk⟩, hm⟩

section

variable {s t : State}

theorem TimeInRange.congr (h : TimeInRange s) (htb : t.tb.ranged = s.tb.ranged) (hclk : t.clk = s.clk) (hsm : t.sm = s.sm) :
    TimeInRange t := ⟨h.tb.congr htb, hclk ▸ h.clk, hsm ▸ h.stored⟩

theorem TimeInRange.of_changes {bs : List Block} (h : TimeInRange s) (hc : ChangesOnly bs s t)
    (hb : Block.tb ∉ bs ∧ Block.clk ∉ bs ∧ Block.sm ∉ bs) : TimeInRange t :=
  h.congr (congrArg _ (hc.tb hb.1)) (hc.clk hb.2.1) (hc.sm hb.2.2)

/-- Outside the clocks and TB nothing matters but the stored drift table. -/
theorem TimeInRange.of_tb_clk (h : TimeInRange s) (htb : t.tb.InRange) (hclk : t.clk.InRange) (hsm : t.sm = s.sm) :
    TimeInRange t := ⟨htb, hclk, hsm ▸ h.stored⟩

theorem TimeInRange.answer {t : State} (x : List Byte) (e : AtReplyEnd) (h : TimeInRange t) : TimeInRange (answer x e t) :=
  h.congr (by simp) (by simp) (by simp)

theorem TimeInRange.serve {kind : Byte} {f : List Byte → State → List Byte × State} (h : TimeInRange s)
    (hf : ∀ p, TimeInRange (f p s).2) : TimeInRange (serve kind f s) := serve_keeps (fun x e _ h => h.answer x e) hf h

theorem TimeInRange.whileMain {f : State → State} (h : TimeInRange s) (hf : TimeInRange (f s)) :
    TimeInRange (whileMain f s) := whileMain_keeps hf h

/-! ## The commands that touch the time base, the clocks or the settings memory -/

theorem TimeInRange.labelByte (h : TimeInRange s) (b : Byte) : TimeInRange (labelByte s b) := by
  have kept : ∀ v : TimeBase, v.ranged = s.tb.ranged → TimeInRange { s with tb := v } := fun v hv => h.congr hv rfl rfl
  unfold Machine.labelByte
  dsimp only
  split
  · split
    · exact kept _ rfl
    · exact h
  · split
    · unfold takeLabel
      split
      · refine h.of_tb_clk { h.tb with label := ?_ } h.clk rfl
        rintro l ⟨⟩
        exact getU_lt _ 1 4
      · exact kept _ rfl
    · exact kept _ rfl

theorem TimeInRange.pulseEdge (h : TimeInRange s) : TimeInRange (pulseEdge s) := by
  have h1 : TimeInRange (s.modTb fun t => { t with label := none }) := h.of_tb_clk { h.tb with label := nofun } h.clk rfl
  have used {theta : Int} (ht : theta.natAbs ≤ stepLimit) :
      TimeInRange (usePulse theta (s.modTb fun t => { t with label := none })) :=
    h1.of_tb_clk (usePulse_inRange ht h1.tb) (by simpa using h.clk) (by simp)
  unfold Machine.pulseEdge acceptPulse
  dsimp only
  split
  · rename_i l hl
    split
    · split
      · split
        · split
          · exact h1.congr rfl rfl rfl
          · rename_i hlim
            exact used (le_trans (not_lt.mp hlim) (by decide))
        · split
          · exact h1.of_tb_clk (stepPulse_inRange _ _ h1.tb)
              (stepPulse_clk _ _ _ ▸ h1.clk.setTime ⟨h.tb.label l hl, Nat.zero_lt_succ _⟩) (by simp)
          · rename_i hlim
            exact used (not_lt.mp hlim)
      · exact h1.congr rfl rfl rfl
    · exact h1.congr rfl rfl rfl
  · exact h1.congr rfl rfl rfl

theorem TimeInRange.loseReference (h : TimeInRange s) : TimeInRange (loseReference s) := h.congr (by simp) (by simp) (by simp)

theorem TimeInRange.mainSecond (h : TimeInRange s) : TimeInRange (mainSecond s) := by
  have aligned : ({ s.clk with watch := ⟨s.clk.time.sec, 0⟩ } : Clocks).InRange :=
    ⟨h.clk.time, h.clk.frac, h.clk.time.1, Nat.zero_lt_succ _⟩
  have h1 : TimeInRange (s.modClk fun c => { c with watch := ⟨c.time.sec, 0⟩ }) := h.of_tb_clk h.tb aligned rfl
  unfold Machine.mainSecond
  refine h.of_tb_clk ?_ (by simpa using aligned) (by simp)
  rw [wakeAtTime_tb, sohCheck_tb]
  exact growU_inRange _ (holdoverSteer_inRange _ rfl h1.tb)

theorem TimeInRange.watchSecond (h : TimeInRange s) : TimeInRange (watchSecond s) :=
  h.of_tb_clk (by simpa [Machine.watchSecond] using growU_inRange _ h.tb) (by simpa using h.clk) (by simp)

theorem setStationTime_ranged (t : Time) (stated : Nat) (s : State) :
    (setStationTime t stated s).tb.ranged = (s.tb.integral, s.tb.steer, max stated leastStated, s.tb.drift, s.tb.label) := by
  simp only [setStationTime, afterStep_tb, markStep, setCurrentFlag_tb, State.modTb_tb]
  exact changeGrade_ranged ((s.setTime t).modTb fun b => { b with u := max stated leastStated, movedTo := some t }) .free

/-- TIME SET takes a time in its range and a 32-bit uncertainty (R21). -/
theorem TimeInRange.timeSet (h : TimeInRange s) (p : List Byte) : TimeInRange (Machine.timeSet p s).2 := by
  have hu : max (getU p 8 4) leastStated ≤ max32 := by
    have := getU_lt p 8 4
    unfold max32 leastStated
    omega
  unfold Machine.timeSet
  split
  · exact h
  · split
    · exact h
    · rename_i hns
      refine h.of_tb_clk (.of_ranged (setStationTime_ranged _ _ s) h.tb.integral h.tb.steer hu h.tb.drift h.tb.label) ?_ (by simp)
      simpa [setStationTime] using h.clk.setTime ⟨getU_lt p 0 4, not_le.mp hns⟩

theorem TimeInRange.driftClear (h : TimeInRange s) (p : List Byte) : TimeInRange (Machine.driftClear p s).2 :=
  h.of_tb_clk { h.tb with drift := emptyDrift_ok } h.clk rfl

theorem TimeInRange.returnToMain (h : TimeInRange s) : TimeInRange (returnToMain s) := by
  have ranged : (Machine.returnToMain s).tb.ranged = (s.tb.integral, s.tb.steer, s.tb.u, s.tb.drift, none) := by
    unfold Machine.returnToMain
    dsimp only
    (repeat' split) <;> simp <;> exact Eq.refl _
  refine h.of_tb_clk (.of_ranged ranged h.tb.integral h.tb.steer h.tb.u h.tb.drift nofun) ?_ (by simp)
  unfold Machine.returnToMain
  dsimp only
  (repeat' split) <;> simpa using h.clk.setTime h.clk.toTime

theorem TimeInRange.completeExit (h : TimeInRange s) : TimeInRange (completeExit s) := by
  have h1 := h.returnToMain
  unfold Machine.completeExit
  dsimp only
  split
  · exact h1.congr (by simp) (by simp) (by simp)
  · exact h1.congr (by simp) (by simp) (by simp)

/-- The drift table of a valid image, or an empty one (R23, R199). -/
theorem TimeInRange.loadedDrift (h : TimeInRange s) : DriftOk (loadedSettings s.sm).drift := h.stored.loaded emptyDrift_ok

theorem bootTimeBase_inRange {t : DriftTable} (h : DriftOk t) : (bootTimeBase t).InRange :=
  ⟨⟨by simp [bootTimeBase, integralLimit], by simp [bootTimeBase, integralLimit]⟩,
    ⟨by simp [bootTimeBase, steerLimit], by simp [bootTimeBase, steerLimit]⟩, le_refl _, h, nofun⟩

theorem powerOn_sm (raw : RawScan) (s : State) : (powerOn raw s).sm = loadMemory s.sm := by
  have store (x : State) := (startStore_changes x).sm (by simp)
  unfold powerOn
  dsimp only
  split <;> simp [bootRails, resetBlocks, bootScanned, store]

theorem pinLoaded_sm (s : State) : (pinLoaded s).sm = loadMemory s.sm := by
  have store (x : State) := (startStore_changes x).sm (by simp)
  simp [pinLoaded, resetBlocks, store]

theorem pinReset_sm (raw : RawScan) (s : State) : (pinReset raw s).sm = loadMemory s.sm := by
  have tier (x : State) := (pinTierScan_changes x).sm (by simp)
  simp [pinReset, tier, pinLoaded_sm]

theorem TimeInRange.powerOn (h : TimeInRange s) (raw : RawScan) : TimeInRange (powerOn raw s) := by
  have store (x : State) := startStore_changes x
  have tb : (Machine.powerOn raw s).tb.ranged = (bootTimeBase (loadedSettings s.sm).drift).ranged := by
    unfold Machine.powerOn
    dsimp only
    split <;> simp [bootRails, resetBlocks, bootScanned, (store _).tb]
  have clk : (Machine.powerOn raw s).clk = ⟨⟨0, 0⟩, 0, ⟨0, 0⟩, 0, 0⟩ := by
    unfold Machine.powerOn
    dsimp only
    split <;> simp [bootRails, resetBlocks, bootScanned, (store _).clk]
  refine ⟨(bootTimeBase_inRange h.loadedDrift).congr tb, ?_, powerOn_sm raw s ▸ h.stored.loadMemory⟩
  rw [clk]
  exact ⟨⟨by decide, by decide⟩, by decide, by decide, by decide⟩

theorem pinGrade_le (g : Grade) {u : Nat} (hu : u ≤ max32) : (pinGrade g u).2 ≤ max32 := by
  cases g with
  | unset | free => exact hu
  | tracking | locked | hold => exact min_le_left _ _

theorem TimeInRange.pinReset (h : TimeInRange s) (raw : RawScan) : TimeInRange (pinReset raw s) := by
  have store (x : State) := startStore_changes x
  have loaded : TimeInRange (pinLoaded s) := by
    refine ⟨?_, ?_, ?_⟩
    · have base : (pinTimeBase s.pt.tier s.clk.watchRun s.tb).InRange :=
        ⟨h.tb.integral, h.tb.steer, pinGrade_le _ h.tb.u, h.tb.drift, nofun⟩
      simpa [pinLoaded, resetBlocks, (store _).tb] using base
    · simpa [pinLoaded, resetBlocks, (store _).clk] using h.clk.setTime h.clk.toTime
    · exact pinLoaded_sm s ▸ h.stored.loadMemory
  have tier (x : State) : (pinTierScan x).tb.ranged = x.tb.ranged := by
    unfold pinTierScan
    dsimp only
    split <;> simp
  have changes (x : State) := pinTierScan_changes x
  exact loaded.congr (by simp [Machine.pinReset, tier]) (by simp [Machine.pinReset, (changes _).clk])
    (by simp [Machine.pinReset, (changes _).sm])

theorem TimeInRange.settingsDefaults (h : TimeInRange s) (p : List Byte) : TimeInRange (Machine.settingsDefaults p s).2 := by
  have hc := applyDefaults_changes s
  unfold Machine.settingsDefaults
  split
  · exact h
  · exact ⟨(hc.tb (by simp)).symm ▸ h.tb, (hc.clk (by simp)).symm ▸ h.clk, h.stored.applyDefaults⟩

theorem TimeInRange.work (c : Instr) (h : TimeInRange s) : TimeInRange (work c s) := by
  have frame := h.of_changes (work_changes c s)
  cases c <;> dsimp only [Machine.work] at frame ⊢
  case powerOnReset d raw => exact h.powerOn raw
  case pinReset d raw => exact h.pinReset raw
  case refpPulse => exact h.whileMain h.pulseEdge
  case labelRecord d bytes =>
    exact h.whileMain (List.foldlRecOn bytes Machine.labelByte h fun _ h b _ => h.labelByte b)
  case labelGapTimeout => exact h.whileMain (h.congr rfl rfl rfl)
  case referenceLoss => exact h.whileMain (keeps_ite h.loseReference h)
  case awaitTakenTimeout | awaitDoneTimeout => exact h.whileMain (keeps_ite (h.congr (by simp) (by simp) (by simp)) h)
  case wholeSecond => exact keeps_ite h.mainSecond h
  case watchWholeSecond => exact keeps_ite h.watchSecond h
  case sampleStrobe d =>
    have hc := work_changes (.sampleStrobe d) s
    exact h.congr (takeStrobe_ranged s) (hc.clk (by simp [footprint])) (hc.sm (by simp [footprint]))
  case taken | refused | done | modemFrameDiscard => exact h.congr (receiveModem_ranged s _) (receiveModem_clk s _) (receiveModem_sm s _)
  case lastGaspLimit => exact h.congr (gaspCheck_ranged s) (gaspCheck_clk s) (gaspCheck_sm s)
  case housekeepingScan d raw => exact keeps_ite (h.congr (by simp) (by simp) (by simp)) h
  case settleEnd => exact keeps_ite h.completeExit h
  case alertCancel =>
    have hc (p : List Byte) := alertCancel_changes p s
    exact h.serve (withLength_keeps (fun p _ => h.congr (alertCancel_ranged s p) ((hc p).clk (by simp)) ((hc p).sm (by simp))) h)
  case timeSet => exact h.serve (withLength_keeps (fun p _ => h.timeSet p) h)
  case driftClear => exact h.serve (withLength_keeps (fun p _ => h.driftClear p) h)
  case settingsSave d =>
    have hc := work_changes (.settingsSave d) s
    exact ⟨(hc.tb (by simp [footprint])).symm ▸ h.tb, (hc.clk (by simp [footprint])).symm ▸ h.clk, h.stored.settingsSave h.tb.drift⟩
  case settingsSaveComplete d agrees =>
    exact ⟨h.tb.congr (completeSave_ranged s agrees), completeSave_clk s agrees ▸ h.clk, h.stored.completeSave agrees⟩
  case settingsDefaults =>
    exact h.serve (withLength_keeps (fun p _ => h.settingsDefaults p) h)
  case supplyLoss => exact ⟨h.tb, h.clk, h.stored.stopDevice⟩
  all_goals exact frame (by simp [footprint])

end

/-- Settles O57: the passing of time and the work of every command keep the ranges. -/
theorem stepKeepsTimeBase : Obligations.StepKeepsTimeBase := by
  intro s t htb hclk hstep
  rw [← timeInRange_iff]
  refine step_keeps (P := TimeInRange) (fun s q h => ⟨h.tb, h.clk, h.stored⟩) (fun s d h => ⟨h.tb, h.clk.elapse _ _ d, h.stored⟩)
    (fun c s h => h.work c) hstep ?_
  exact (timeInRange_iff s).mpr ⟨htb, hclk⟩

end Sys2Proof.Machine

/-! PROOFS. The charge stays between 0 and the capacity, SoC is the floor of its share, and the limits and the open-circuit table keep
their ranges: each operation of the charge accounting unit once, and then every command (R142 to R150, R153, R154). -/

namespace Sys2Proof.Machine

/-! ## The voltage estimate lies between 0 and 1,000 permille (R146) -/

/-- The floored line between two points stays between their SoC values. -/
theorem line_between {a b c : Int} (ha : 0 ≤ a) (hac : a ≤ c) (hb : 0 ≤ b) (hc : 0 < c) : 0 ≤ a * b / c ∧ a * b / c ≤ b := by
  refine ⟨Int.ediv_nonneg (mul_nonneg ha hb) hc.le, Int.ediv_le_of_le_mul hc ?_⟩
  rw [mul_comm a b]
  exact mul_le_mul_of_nonneg_left hac hb

/-- From a point whose voltage is not above V the estimate does not fall below the point's SoC, nor does it exceed any bound of the
table's SoC values. -/
theorem interpolate_bounds {m : Nat} (p : OcPoint) (rest : List OcPoint) (v : Int) (hc : pointsConsistent (p :: rest) = true)
    (hm : ∀ x ∈ p :: rest, x.soc ≤ m) (hv : (p.mv : Int) ≤ v) :
    (p.soc : Int) ≤ interpolate p rest v ∧ interpolate p rest v ≤ m := by
  induction rest generalizing p with
  | nil =>
    have := hm p (by simp)
    simp only [interpolate]
    omega
  | cons x rest ih =>
    simp only [pointsConsistent, Bool.and_eq_true, decide_eq_true_eq] at hc
    obtain ⟨⟨hmv, hsoc⟩, hrest⟩ := hc
    unfold interpolate
    split
    · rename_i hlt
      have hx := hm x (by simp)
      have line := line_between (a := v - p.mv) (b := (x.soc : Int) - p.soc) (c := (x.mv : Int) - p.mv) (by omega) (by omega)
        (by omega) (by omega)
      omega
    · rename_i hge
      have := ih x hrest (fun y hy => hm y (by simp [hy])) (by omega)
      omega

theorem estimateSoc_bounds {t : OcTable} (ht : TableOk t) (v : Int) : 0 ≤ estimateSoc t v ∧ estimateSoc t v ≤ 1000 := by
  obtain ⟨hc, hm⟩ := ht
  have hlist : t.toList = t.get 0 :: t.toList.drop 1 := by
    simpa [Vector.get_eq_getElem] using List.drop_eq_getElem_cons (l := t.toList) (i := 0) (by simp)
  rw [hlist] at hc hm
  unfold estimateSoc
  dsimp only
  split
  · have := hm (t.get 0) (by simp)
    omega
  · rename_i hv
    have := interpolate_bounds (t.get 0) (t.toList.drop 1) v hc hm (by omega)
    omega

/-! ## The ranges of CA -/

/-- The running part of `ChargeInv`. -/
structure ChargeUnit.InRange (c : ChargeUnit) : Prop where
  nonneg : 0 ≤ c.q
  le : c.q ≤ c.limits.capacity
  soc : (c.soc : Int) = c.q * 1000 / (c.limits.capacity : Int)
  limits : LimitsOk c.limits
  table : TableInRange c.table

theorem LimitsOk.capacity_pos {l : BatteryLimits} (h : LimitsOk l) : 0 < (l.capacity : Int) := by
  have := h.capacity
  unfold BatteryLimits.capacity
  omega

section

variable {c : ChargeUnit}

theorem ChargeUnit.InRange.withCharge {q : Int} (hl : LimitsOk c.limits) (ht : TableInRange c.table) (h0 : 0 ≤ q)
    (h1 : q ≤ c.limits.capacity) : (c.withCharge q).InRange :=
  ⟨h0, h1, Int.toNat_of_nonneg (Int.ediv_nonneg (by omega) hl.capacity_pos.le), hl, ht⟩

theorem ChargeUnit.InRange.countCharge (h : c.InRange) (i : Option Int) (dt : Nat) : (countCharge i dt c).InRange := by
  cases i with
  | none => exact { h with }
  | some i => exact .withCharge h.limits h.table (le_clampInt _) (clampInt_le _ h.limits.capacity_pos.le)

theorem ChargeUnit.InRange.newCapacity (hq : 0 ≤ c.q) (hl : LimitsOk c.limits) (ht : TableInRange c.table) :
    c.newCapacity.InRange :=
  { ChargeUnit.InRange.withCharge hl ht (le_min hq hl.capacity_pos.le) (min_le_right _ _) with }

theorem ChargeUnit.InRange.voltageEstimate (hl : LimitsOk c.limits) (ht : TableInRange c.table) (v : Int) :
    (voltageEstimate v c).InRange := by
  obtain ⟨h0, h1⟩ := estimateSoc_bounds ht.1 v
  have hcap := hl.capacity_pos
  refine { ChargeUnit.InRange.withCharge hl ht (Int.ediv_nonneg (mul_nonneg h0 hcap.le) (by decide)) ?_ with }
  refine Int.ediv_le_of_le_mul (by decide) ?_
  rw [mul_comm]
  exact mul_le_mul_of_nonneg_left h1 hcap.le

theorem ChargeUnit.InRange.startCharge (hl : LimitsOk c.limits) (ht : TableInRange c.table) (v : Option Int) :
    (startCharge v c).InRange := by
  cases v with
  | none => exact { ChargeUnit.InRange.withCharge (q := ((c.limits.capacity / 2 : Nat) : Int)) hl ht (by omega) (by omega) with }
  | some v => exact .voltageEstimate hl ht v

theorem ChargeUnit.InRange.chargeStep (h : c.InRange) (dt : Nat) (r : Six Reading) : (chargeStep dt r c).InRange := by
  unfold Machine.chargeStep
  split
  · split
    · exact .voltageEstimate h.limits h.table _
    · exact h.countCharge _ _
  · exact h.countCharge _ _

/-- A full resync puts q at the capacity and SoC at 1,000, an empty one both at 0 (R144, R145). -/
theorem ChargeUnit.InRange.resyncStep (h : c.InRange) (now : Time) (r : Six Reading) : (resyncStep now r c).InRange := by
  have hcap := h.limits.capacity_pos
  have full (b : Bool) : (fullStep now b c).InRange := by
    unfold fullStep
    split
    · exact { h with }
    · split
      · exact ⟨hcap.le, le_refl _, (Int.mul_ediv_cancel_left 1000 hcap.ne').symm, h.limits, h.table⟩
      · exact { h with }
  have empty (c : ChargeUnit) (h : c.InRange) (b : Bool) : (emptyStep now b c).InRange := by
    unfold emptyStep
    split
    · exact { h with }
    · split
      · exact ⟨le_refl _, h.limits.capacity_pos.le, by simp, h.limits, h.table⟩
      · exact { h with }
  exact empty _ (full _) _

end

/-! ## New limits and a new table (R149, R150) -/

/-- Limits that BATTERY SET takes are in their ranges. -/
theorem clampLimits_ok (x : BatteryLimits) (hc : limitsConsistent (clampLimits x) = true) : LimitsOk (clampLimits x) := by
  simp only [limitsConsistent, Bool.and_eq_true, decide_eq_true_eq] at hc
  exact
    { capacity := ⟨le_clampNat _, clampNat_le _ (by decide)⟩, eff := ⟨le_clampNat _, clampNat_le _ (by decide)⟩
      vFull := ⟨le_clampNat _, clampNat_le _ (by decide)⟩, iTaper := ⟨le_clampNat _, clampNat_le _ (by decide)⟩
      vEmpty := ⟨le_clampNat _, clampNat_le _ (by decide)⟩, vSrcMin := ⟨le_clampNat _, clampNat_le _ (by decide)⟩
      chgTmin := ⟨le_clampInt _, clampInt_le _ (by decide)⟩, chgTmax := ⟨le_clampInt _, clampInt_le _ (by decide)⟩
      voltages := hc.1, temperatures := hc.2 }

theorem defaultLimits_ok : LimitsOk defaultLimits :=
  ⟨by decide, by decide, by decide, by decide, by decide, by decide, by decide, by decide, by decide, by decide⟩

/-- A table that BATTERY SET takes is in its ranges. -/
theorem clampTable_ok (x : OcTable) (hc : pointsConsistent (clampTable x).toList = true) : TableInRange (clampTable x) := by
  have points {p : OcPoint} (hp : p ∈ (clampTable x).toList) : p.soc ≤ 1000 ∧ p.mv ≤ 65535 := by
    rw [clampTable, Vector.toList_map, List.mem_map] at hp
    obtain ⟨a, -, rfl⟩ := hp
    exact ⟨clampNat_le _ (by decide), clampNat_le _ (by decide)⟩
  exact ⟨⟨hc, fun p hp => (points hp).1⟩, fun p hp => (points hp).2⟩

theorem defaultTable_ok : TableInRange defaultTable := ⟨⟨by decide, by decide⟩, by decide⟩

section

variable {s t : State}

theorem setLimits_inRange (h : s.ca.InRange) {x : BatteryLimits} (hx : LimitsOk x) : (setLimits x s).ca.InRange := by
  unfold setLimits evalChargeSwitch
  simp only [State.modCa_ca]
  split
  · rename_i hcap
    have same : x.capacity = s.ca.limits.capacity := by simp [BatteryLimits.capacity, hcap]
    refine ⟨h.nonneg, ?_, ?_, hx, h.table⟩
    · show s.ca.q ≤ (x.capacity : Int)
      rw [same]
      exact h.le
    · show (s.ca.soc : Int) = s.ca.q * 1000 / (x.capacity : Int)
      rw [same]
      exact h.soc
  · exact { ChargeUnit.InRange.newCapacity (c := { s.ca with limits := x }) h.nonneg hx h.table with }

theorem chargeWork_inRange {f : ChargeUnit → ChargeUnit} (h : (f s.ca).InRange) : (chargeWork f s).ca.InRange := by
  unfold chargeWork evalChargeSwitch
  simp only [State.modCa_ca]
  exact { h.resyncStep _ _ with }

/-! ## The invariant -/

/-- `ChargeInv` by its parts: the running unit and the stored settings. -/
structure ChargeInRange (s : State) : Prop where
  ca : s.ca.InRange
  stored : s.sm.All fun x => LimitsOk x.limits ∧ TableInRange x.table

theorem chargeInRange_iff (s : State) : ChargeInRange s ↔ ChargeInv s := by
  constructor
  · rintro ⟨⟨h0, h1, hs, hl, ht⟩, hm⟩
    exact ⟨h0, h1, hs, hl, ht, hm⟩
  · rintro ⟨h0, h1, hs, hl, ht, hm⟩
    exact ⟨⟨h0, h1, hs, hl, ht⟩, hm⟩

theorem ChargeInRange.of_changes {bs : List Block} (h : ChargeInRange s) (hc : ChangesOnly bs s t)
    (hb : Block.ca ∉ bs ∧ Block.sm ∉ bs) : ChargeInRange t :=
  ⟨(hc.ca hb.1).symm ▸ h.ca, (hc.sm hb.2).symm ▸ h.stored⟩

theorem ChargeInRange.answer (x : List Byte) (e : AtReplyEnd) (h : ChargeInRange s) : ChargeInRange (answer x e s) :=
  h.of_changes (answer_changes x e s) (by simp)

/-- The limits and the table that a reset loads (R199). -/
theorem ChargeInRange.loaded (h : ChargeInRange s) :
    LimitsOk (loadedSettings s.sm).limits ∧ TableInRange (loadedSettings s.sm).table :=
  h.stored.loaded ⟨defaultLimits_ok, defaultTable_ok⟩

theorem ChargeInRange.limitsStatus (h : ChargeInRange s) (p : List Byte) : ChargeInRange (limitsStatus p s).2 := by
  unfold Machine.limitsStatus
  dsimp only
  split
  · exact h
  · split
    · exact h
    · rename_i hc
      exact ⟨setLimits_inRange h.ca (clampLimits_ok _ (by simpa using hc)), h.stored⟩

theorem ChargeInRange.tableStatus (h : ChargeInRange s) (p : List Byte) : ChargeInRange (tableStatus p s).2 := by
  unfold Machine.tableStatus
  dsimp only
  split
  · exact h
  · split
    · exact h
    · rename_i hc
      exact ⟨{ h.ca with table := clampTable_ok _ (by simpa using hc) }, h.stored⟩

theorem ChargeInRange.settingsDefaults (h : ChargeInRange s) (p : List Byte) : ChargeInRange (Machine.settingsDefaults p s).2 := by
  have filters (x : State) : (channels.foldl defaultFilter x).ca = x.ca :=
    (ChangesOnly.foldl defaultFilter_changes channels x).ca (by simp)
  have ca : (applyDefaults s).ca = { (setLimits defaultLimits s).ca with table := defaultTable } := by
    simp [applyDefaults, filters, setTable, setLimits, evalChargeSwitch]
  unfold Machine.settingsDefaults
  split
  · exact h
  · exact ⟨ca ▸ { setLimits_inRange h.ca defaultLimits_ok with table := defaultTable_ok }, h.stored.applyDefaults⟩

theorem ChargeInRange.scan (h : ChargeInRange s) (raw : RawScan) : ChargeInRange (scan raw s) := by
  have ca : (Machine.scan raw s).ca =
      (chargeWork (chargeStep s.hm.interval (takeScan raw s).hm.readings) (takeScan raw s)).ca := by simp [Machine.scan]
  exact ⟨ca ▸ chargeWork_inRange (h.ca.chargeStep _ _), by simpa using h.stored⟩

theorem ChargeInRange.powerOn (h : ChargeInRange s) (raw : RawScan) : ChargeInRange (powerOn raw s) := by
  obtain ⟨hl, ht⟩ := h.loaded
  have store (x : State) := startStore_changes x
  have ca : (Machine.powerOn raw s).ca = (bootScanned raw s).ca := by
    unfold Machine.powerOn
    dsimp only
    split <;> simp [bootRails, resetBlocks, (store _).ca]
  exact ⟨ca ▸ chargeWork_inRange (.startCharge hl ht _), powerOn_sm raw s ▸ h.stored.loadMemory⟩

theorem ChargeInRange.pinReset (h : ChargeInRange s) (raw : RawScan) : ChargeInRange (pinReset raw s) := by
  obtain ⟨hl, ht⟩ := h.loaded
  have kept : (pinCharge (loadedSettings s.sm) s.ca).InRange := by
    unfold pinCharge
    dsimp only
    split
    · rename_i hcap
      refine ⟨h.ca.nonneg, ?_, ?_, hl, ht⟩
      · show s.ca.q ≤ ((loadedSettings s.sm).limits.capacity : Int)
        rw [hcap]
        exact h.ca.le
      · show (s.ca.soc : Int) = s.ca.q * 1000 / ((loadedSettings s.sm).limits.capacity : Int)
        rw [hcap]
        exact h.ca.soc
    · exact .newCapacity h.ca.nonneg hl ht
  have store (x : State) := (startStore_changes x).ca (by simp)
  have tier (x : State) := (pinTierScan_changes x).ca (by simp)
  have loadedCa : (pinLoaded s).ca = pinCharge (loadedSettings s.sm) s.ca := by simp [pinLoaded, resetBlocks, store]
  have ca : (Machine.pinReset raw s).ca = (chargeWork id (takeScan raw (pinLoaded s))).ca := by simp [Machine.pinReset, tier]
  refine ⟨ca ▸ chargeWork_inRange ?_, pinReset_sm raw s ▸ h.stored.loadMemory⟩
  rw [takeScan_ca, loadedCa]
  exact kept

theorem ChargeInRange.work (c : Instr) (h : ChargeInRange s) : ChargeInRange (work c s) := by
  have frame := h.of_changes (work_changes c s)
  have answered := fun x e (t : State) (h : ChargeInRange t) => h.answer x e
  cases c <;> dsimp only [Machine.work] at frame ⊢
  case powerOnReset d raw => exact h.powerOn raw
  case pinReset d raw => exact h.pinReset raw
  case housekeepingScan d raw => exact keeps_ite (h.scan raw) h
  case settingsSave d =>
    have hc := work_changes (.settingsSave d) s
    exact ⟨(hc.ca (by simp [footprint])).symm ▸ h.ca, h.stored.settingsSave ⟨h.ca.limits, h.ca.table⟩⟩
  case settingsSaveComplete d agrees => exact ⟨completeSave_ca s agrees ▸ h.ca, h.stored.completeSave agrees⟩
  case settingsDefaults => exact serve_keeps answered (withLength_keeps (fun p _ => h.settingsDefaults p) h) h
  case batterySetLimits => exact serveWith_keeps answered (batterySet_keeps h.limitsStatus h) h
  case batterySetTable => exact serveWith_keeps answered (batterySet_keeps h.tableStatus h) h
  case supplyLoss => exact ⟨h.ca, h.stored.stopDevice⟩
  all_goals exact frame (by simp [footprint])

end

/-- Settles O59: the work of every command keeps CA and the stored settings in their ranges. -/
theorem stepKeepsCharge : Obligations.StepKeepsCharge := by
  intro s t hs hstep
  rw [← chargeInRange_iff] at hs ⊢
  exact step_keeps (P := ChargeInRange) (fun _ _ h => ⟨h.ca, h.stored⟩) (fun _ _ h => ⟨h.ca, h.stored⟩) (fun c _ h => h.work c) hstep hs

end Sys2Proof.Machine

/-! PROOFS. What most operations can do to the host rail and to the link: raise flags, wake the host, and drive the modem rail. Every
property that these three keep, every operation of the time base, the alerts, the store and the trigger unit keeps (R124, R179, R192). -/

namespace Sys2Proof.Machine

/-- From `s` to `t` the power tier controller and the link have met nothing but raised flags, wakes of the host, and changes of the
modem rail and the last-gasp record; the other parts of the state may have changed. -/
inductive Woken : State → State → Prop where
  | same {s t : State} (hpt : t.pt = s.pt) (hsl : t.sl = s.sl) : Woken s t
  | flag (s : State) (f : AttnFlag) : Woken s (raise f s)
  | wake (s : State) (c : WakeCause) : Woken s (wakeHost c s)
  | modem {s t : State} (hsl : t.sl = s.sl)
      (hpt : ∃ on at_ gasp, t.pt = { s.pt with enModem := on, modemOnAt := at_, gasp := gasp }) : Woken s t
  | trans {s t u : State} (h : Woken s t) (k : Woken t u) : Woken s u

namespace Woken

variable {s t u : State}

theorem rfl : Woken s s := .same (Eq.refl _) (Eq.refl _)

/-- A property of PT and the link that the steps of `Woken` keep holds on. -/
theorem keeps {P : State → Prop} (same : ∀ s t : State, t.pt = s.pt → t.sl = s.sl → P s → P t)
    (flag : ∀ s f, P s → P (raise f s)) (wake : ∀ s c, P s → P (wakeHost c s))
    (modem : ∀ s t : State, t.sl = s.sl → (∃ on at_ gasp, t.pt = { s.pt with enModem := on, modemOnAt := at_, gasp := gasp }) →
      P s → P t) (h : Woken s t) (hs : P s) : P t := by
  induction h with
  | same hpt hsl => exact same _ _ hpt hsl hs
  | flag s f => exact flag s f hs
  | wake s c => exact wake s c hs
  | modem hsl hpt => exact modem _ _ hsl hpt hs
  | trans _ _ ih ik => exact ik (ih hs)

/-- A projection that the steps of `Woken` leave alone is the same. -/
theorem keeps_eq {α : Type} {v : State → α} (same : ∀ s t : State, t.pt = s.pt → t.sl = s.sl → v t = v s)
    (flag : ∀ s f, v (raise f s) = v s) (wake : ∀ s c, v (wakeHost c s) = v s)
    (modem : ∀ s t : State, t.sl = s.sl → (∃ on at_ gasp, t.pt = { s.pt with enModem := on, modemOnAt := at_, gasp := gasp }) →
      v t = v s) (h : Woken s t) : v t = v s :=
  h.keeps (P := fun x => v x = v s) (fun x y hpt hsl hx => (same x y hpt hsl).trans hx) (fun x f hx => (flag x f).trans hx)
    (fun x c hx => (wake x c).trans hx) (fun x y hsl hpt hx => (modem x y hsl hpt).trans hx) (Eq.refl _)

theorem eqs (h : Woken s t) (hpt : u.pt = t.pt) (hsl : u.sl = t.sl) : Woken s u := h.trans (.same hpt hsl)

theorem raised (h : Woken s t) (f : AttnFlag) : Woken s (raise f t) := h.trans (.flag t f)

theorem ite {c : Prop} [Decidable c] (h : Woken s t) (k : Woken s u) : Woken s (if c then t else u) := keeps_ite h k

theorem foldl {α : Type} {f : State → α → State} (h : ∀ s a, Woken s (f s a)) (l : List α) (s : State) : Woken s (l.foldl f s) :=
  List.foldlRecOn (motive := Woken s) l f .rfl fun t ht a _ => ht.trans (h t a)

end Woken

/-! ## Operations on other parts -/

section

variable (s : State)

theorem modTb_woken (f : TimeBase → TimeBase) : Woken s (s.modTb f) := .same (Eq.refl _) (Eq.refl _)
theorem modSi_woken (f : SampleInterface → SampleInterface) : Woken s (s.modSi f) := .same (Eq.refl _) (Eq.refl _)
theorem modFe_woken (f : FilterEngine → FilterEngine) : Woken s (s.modFe f) := .same (Eq.refl _) (Eq.refl _)
theorem modTu_woken (f : TriggerUnit → TriggerUnit) : Woken s (s.modTu f) := .same (Eq.refl _) (Eq.refl _)
theorem modWs_woken (f : WaveStore → WaveStore) : Woken s (s.modWs f) := .same (Eq.refl _) (Eq.refl _)
theorem modAl_woken (f : AlertScheduler → AlertScheduler) : Woken s (s.modAl f) := .same (Eq.refl _) (Eq.refl _)
theorem updEntry_woken (n : Nat) (f : Entry → Entry) : Woken s (updEntry n f s) := .same (by simp) (by simp)
theorem joinQueue_woken (e : Entry) : Woken s (joinQueue e s) := .same (by simp) (by simp)
theorem closeWindow_woken (f : Nat) : Woken s (closeWindow f s) := .same (by simp) (by simp)
theorem openWindow_woken (f : Nat) : Woken s (openWindow f s) := .same (by simp) (by simp)
theorem markStep_woken : Woken s (markStep s) := .same (by simp) (by simp)
theorem learnDrift_woken : Woken s (learnDrift s) := .same (by simp) (by simp)
theorem trimRing_woken (c : Channel) : Woken s (trimRing c s) := .same (by simp) (by simp)
theorem toPost_woken : Woken s (toPost s) := .same (by simp) (by simp)
theorem warmEnabled_woken : Woken s (warmEnabled s) := .same (by simp) (by simp)
theorem heaterDecide_woken (b : Bool) : Woken s (heaterDecide b s) := .same (by simp) (by simp)
theorem lowCurrentTest_woken : Woken s (lowCurrentTest s) := .same (by simp) (by simp)
theorem takeScan_woken (raw : RawScan) : Woken s (takeScan raw s) := .same (by simp) (by simp)
theorem chargeWork_woken (f : ChargeUnit → ChargeUnit) : Woken s (chargeWork f s) := .same (by simp) (by simp)
theorem endScan_woken (due : Nat) : Woken s (endScan due s) := .same (by simp) (by simp)
theorem enqueueDelivery_woken (t : Time) (l : List (Channel × SampleWord)) : Woken s (enqueueDelivery t l s) :=
  .same (by simp) (by simp)

end

/-! ## What stays of PT -/

section

variable {s t : State}

/-- The fields of PT that neither a wake nor the modem rail touches. -/
def PowerTier.settled (p : PowerTier) : Tier × Time × TierParams × Nat × Bool × Bool :=
  (p.tier, p.tierTime, p.params, p.powerCycles, p.enSens, p.exitMark)

theorem setHostRail_settled (h : HostRail) (s : State) : (setHostRail h s).pt.settled = s.pt.settled := by
  unfold setHostRail
  dsimp only
  (repeat' split) <;> exact Eq.refl _

theorem wakeHost_settled (c : WakeCause) (s : State) : (wakeHost c s).pt.settled = s.pt.settled := by
  unfold wakeHost
  split
  · exact setHostRail_settled _ _
  · exact setHostRail_settled _ _
  all_goals exact Eq.refl _

theorem raise_settled (f : AttnFlag) (s : State) : (raise f s).pt.settled = s.pt.settled := by
  unfold raise
  dsimp only
  split
  · exact Eq.refl _
  · exact wakeHost_settled _ _

theorem Woken.settled (h : Woken s t) : t.pt.settled = s.pt.settled := by
  refine h.keeps_eq (v := fun s => s.pt.settled) (fun s t hpt _ => congrArg _ hpt) (fun s f => raise_settled f s)
    (fun s c => wakeHost_settled c s) ?_
  rintro s t - ⟨on, at_, gasp, hpt⟩
  rw [hpt]
  exact Eq.refl _

theorem Woken.tier (h : Woken s t) : t.pt.tier = s.pt.tier := congrArg (·.1) h.settled

theorem Woken.params (h : Woken s t) : t.pt.params = s.pt.params := congrArg (·.2.2.1) h.settled

theorem Woken.enSens (h : Woken s t) : t.pt.enSens = s.pt.enSens := congrArg (·.2.2.2.2.1) h.settled

end

/-! ## Alerts -/

section

variable (s : State)

theorem wakeAtTime_woken : Woken s (wakeAtTime s) := by
  unfold wakeAtTime
  split
  · exact .ite (.wake s _) .rfl
  · exact .rfl

theorem outcome_woken (e : Entry) (o : AlertState) (w : Bool) : Woken s (outcome e o w s) := by
  unfold outcome
  cases w
  · exact (Woken.same (by simp) (by simp)).raised _
  · exact (Woken.same (by simp) (by simp)).raised _

theorem createEntry_woken (c : AlertClass) (j : Subject) (x : List Byte) : Woken s (createEntry c j x s) := by
  unfold createEntry
  dsimp only
  split
  · exact .same (by simp) (by simp)
  · split
    · exact ((modAl_woken s _).trans (outcome_woken _ _ _ _)).trans (joinQueue_woken _ _)
    · exact (modAl_woken s _).trans (outcome_woken _ _ _ _)

theorem offerAlert_woken (c : AlertClass) (j : Subject) : Woken s (offerAlert c j s) := by
  unfold offerAlert
  (repeat' split)
  · exact .same (by simp) (by simp)
  · exact .same (by simp) (by simp)
  · exact createEntry_woken s _ _ _

theorem quakeAlert_woken (n : Nat) : Woken s (quakeAlert n s) := by
  unfold quakeAlert
  split
  · exact .ite (createEntry_woken s _ _ _) .rfl
  · exact .rfl

theorem strongReport_woken (n : Nat) : Woken s (strongReport n s) := by
  unfold strongReport
  (repeat' split)
  · exact .rfl
  · exact .same (by simp) (by simp)
  · exact .same (by simp) (by simp)
  · exact .rfl
  · exact createEntry_woken s _ _ _
  · exact .rfl

theorem sohCheck_woken : Woken s (sohCheck s) := by
  unfold sohCheck
  split
  · exact .ite ((offerAlert_woken s _ _).trans (modAl_woken _ _)) .rfl
  · exact .rfl

theorem syncModem_woken : Woken s (syncModem s) := by
  refine .modem (Eq.refl _) ?_
  unfold syncModem
  rw [State.modPt_pt]
  (repeat' split)
  · exact ⟨_, _, _, Eq.refl _⟩
  · exact ⟨_, _, _, Eq.refl _⟩
  · exact ⟨_, _, _, Eq.refl _⟩

/-! ## The time base -/

theorem changeGrade_woken (g : Grade) : Woken s (changeGrade g s) := by
  unfold changeGrade
  dsimp only
  exact .ite .rfl (.ite (((modTb_woken s _).raised _).trans (offerAlert_woken _ _ _)) ((modTb_woken s _).raised _))

theorem growU_woken (g : Nat) : Woken s (growU g s) := by
  unfold growU
  dsimp only
  exact .ite (.ite ((modTb_woken s _).trans (changeGrade_woken _ _)) (modTb_woken s _)) .rfl

theorem afterStep_woken (old : Nat) : Woken s (afterStep old s) := by
  unfold afterStep
  have closed : Woken s (closePassedWindows old s) := .same (by simp) (by simp)
  exact ((closed.trans (sohCheck_woken _)).trans (wakeAtTime_woken _)).trans (syncModem_woken _)

theorem toWatchClock_woken : Woken s (toWatchClock s) := by
  unfold toWatchClock
  dsimp only
  have off : Woken s ((s.modTb fun t => { t with clock := .watch }).modAl fun a => { a with windows := [] }) :=
    .same (Eq.refl _) (Eq.refl _)
  exact .ite (off.trans (changeGrade_woken _ _)) off

theorem gaspCheck_woken : Woken s (gaspCheck s) := by
  have idle : Woken s (s.modPt fun p => { p with gasp := none }) := .modem (Eq.refl _) ⟨_, _, _, Eq.refl _⟩
  unfold gaspCheck endGasp
  split
  · exact .ite ((idle.trans (syncModem_woken _)).trans (toWatchClock_woken _)) .rfl
  · exact .rfl

theorem loseReference_woken : Woken s (loseReference s) := 
  (changeGrade_woken s _).trans (modTb_woken _ _)

theorem stepPulse_woken (sec : Nat) (theta : Int) : Woken s (stepPulse sec theta s) := by
  unfold stepPulse
  have set : Woken s ((s.setTime ⟨sec, 0⟩).modTb fun t =>
      { t with integral := 0, lastPulse := some ⟨sec, 0⟩, lastTheta := some theta, movedTo := some ⟨sec, 0⟩ }) :=
    .same (Eq.refl _) (Eq.refl _)
  exact (((set.trans (changeGrade_woken _ _)).trans (modTb_woken _ _)).trans (markStep_woken _)).trans (afterStep_woken _ _)

theorem usePulse_woken (theta : Int) : Woken s (usePulse theta s) := by
  unfold usePulse
  dsimp only
  have used (f g : TimeBase → TimeBase) (k : Grade) : Woken s ((changeGrade k (s.modTb f)).modTb g) :=
    ((modTb_woken s f).trans (changeGrade_woken _ k)).trans (modTb_woken _ g)
  exact .ite ((used _ _ _).trans (learnDrift_woken _)) (used _ _ _)

theorem pulseEdge_woken : Woken s (pulseEdge s) := by
  have counted (f g : TimeBase → TimeBase) : Woken s ((s.modTb f).modTb g) := .same (Eq.refl _) (Eq.refl _)
  unfold pulseEdge acceptPulse rejectPulse
  dsimp only
  split
  · refine .ite (.ite (.ite (.ite (counted _ _) ?_) (.ite ?_ ?_)) (counted _ _)) (counted _ _)
    · exact (modTb_woken s _).trans (usePulse_woken _ _)
    · exact (modTb_woken s _).trans (stepPulse_woken _ _ _)
    · exact (modTb_woken s _).trans (usePulse_woken _ _)
  · exact counted _ _

theorem mainSecond_woken : Woken s (mainSecond s) := by
  unfold mainSecond
  dsimp only
  refine Woken.trans (.trans (.trans (.same ?_ ?_) (growU_woken _ _)) (sohCheck_woken _)) (wakeAtTime_woken _) <;> simp

theorem watchSecond_woken : Woken s (watchSecond s) :=
  ((growU_woken s _).trans (sohCheck_woken _)).trans (wakeAtTime_woken _)

theorem setStationTime_woken (t : Time) (stated : Nat) : Woken s (setStationTime t stated s) := by
  unfold setStationTime
  have set : Woken s ((s.setTime t).modTb fun b => { b with u := max stated leastStated, movedTo := some t }) :=
    .same (Eq.refl _) (Eq.refl _)
  exact (((set.trans (changeGrade_woken _ _)).trans (modTb_woken _ _)).trans (markStep_woken _)).trans (afterStep_woken _ _)

theorem returnToMain_woken : Woken s (returnToMain s) := by
  unfold returnToMain
  dsimp only
  have set (f : TimeBase → TimeBase) : Woken s ((s.setTime s.clk.watch.toTime).modTb f) := .same (Eq.refl _) (Eq.refl _)
  exact (Woken.ite (set _) (.ite ((set _).trans (changeGrade_woken _ _)) ((set _).trans (changeGrade_woken _ _)))).trans
    (afterStep_woken _ _)

/-! ## The waveform store -/

theorem ringNeed_woken (c : Channel) : Woken s (ringNeed c s) := by
  unfold ringNeed
  dsimp only
  split
  · refine .same ?_ ?_ <;> (repeat' split) <;> simp
  · refine .ite (.same ?_ ?_) (.raised (.same ?_ ?_) _) <;> (repeat' split) <;> simp

theorem eventNeed_woken (n : Nat) (c : Channel) : Woken s (eventNeed n c s) := by
  unfold eventNeed
  dsimp only
  split
  · refine .same ?_ ?_ <;> split <;> simp
  · refine .raised (.same ?_ ?_) _ <;> split <;> simp

theorem completionStep_woken (c : Channel) : Woken s (completionStep c s) := by
  unfold completionStep
  split
  · exact (ringNeed_woken s c).trans (trimRing_woken _ c)
  · exact eventNeed_woken s _ c
  all_goals exact .rfl

theorem putWord_woken (c : Channel) (word : BitVec 32) (t : Time) : Woken s (putWord c word t s) := by
  unfold putWord
  dsimp only
  split
  · refine .ite (.trans (.same ?_ ?_) (completionStep_woken _ c)) (.same ?_ ?_) <;> simp
  · exact .rfl

theorem storeWord_woken (c : Channel) (word : BitVec 32) (t : Time) : Woken s (storeWord c word t s) := by
  have dropped (x : State) : Woken x (dropWord c x) := .same (by simp) (by simp)
  have put (x : State) := putWord_woken x c word t
  unfold storeWord
  dsimp only
  split
  · exact .rfl
  · exact dropped s
  · exact .ite ((ringNeed_woken s c).trans (put _)) ((ringNeed_woken s c).trans (dropped _))
  all_goals
    have closed : Woken s (if mustClose s.ws c t = true then completionStep c (s.modWs fun w => w.closeFilling c) else s) :=
      .ite (.trans (modWs_woken _ _) (completionStep_woken _ c)) .rfl
    generalize (if mustClose s.ws c t = true then completionStep c (s.modWs fun w => w.closeFilling c) else s) = x at closed ⊢
    have need : Woken s
        (if (x.ws.chan c).filling.isSome = true then x
        else match (x.ws.chan c).route with
          | .ring => ringNeed c x
          | .event num => eventNeed num c x
          | .off | .starved | .stopped => x) := by
      refine .ite closed ?_
      split
      · exact closed.trans (ringNeed_woken _ c)
      · exact closed.trans (eventNeed_woken _ _ c)
      all_goals exact closed
    exact .ite (need.trans (put _)) (need.trans (dropped _))

theorem storeJoin_woken (c : Channel) : Woken s (storeJoin c s) := .trans (modWs_woken _ _) (ringNeed_woken _ c)

theorem storeCloseChannel_woken (c : Channel) : Woken s (storeCloseChannel c s) := by
  unfold storeCloseChannel
  split
  · exact .trans (modWs_woken _ _) (storeJoin_woken _ c)
  · exact .trans (modWs_woken _ _) (storeJoin_woken _ c)
  all_goals exact .rfl

theorem storeClose_woken : Woken s (storeClose s) := .foldl (fun s c => storeCloseChannel_woken s c) _ s

theorem startStore_woken : Woken s (startStore s) :=
  (Woken.foldl (fun s c => storeJoin_woken s c) (enabledChannels s.pt.tier) s).eqs (Eq.refl _) (Eq.refl _)

theorem readStorage_woken (p : PageId) (i : Nat) : Woken s (readStorage p i s).2 := by
  unfold readStorage
  dsimp only
  split
  · exact .rfl
  · exact .same (by simp) (by simp)
  · refine .raised (.same ?_ ?_) _ <;> split <;> simp

theorem readPage_woken (p : PageId) : Woken s (readPage p s) := .foldl (fun s i => readStorage_woken s p i) _ s

theorem patrolRead_woken : Woken s (patrolRead s) := by
  unfold patrolRead
  split
  · exact (readPage_woken s _).eqs (Eq.refl _) (Eq.refl _)
  · exact .rfl

theorem gather_woken (c : Channel) (xs : List SamplePlace) (g : Gather) : Woken g.state (xs.foldl (gatherOne c) g).state := by
  have one (g : Gather) (x : SamplePlace) : Woken g.state (gatherOne c g x).state := by
    unfold gatherOne
    split
    · exact .rfl
    · dsimp only
      split
      · exact .rfl
      · exact readStorage_woken _ _ _
  induction xs generalizing g with
  | nil => exact .rfl
  | cons x xs ih => exact (one g x).trans (ih _)

/-! ## The trigger unit -/

theorem openEvent_woken (t : Time) (n : Nat) (set : Tri Bool) (ext : Bool) : Woken s (openEvent t n set ext s) := by
  unfold openEvent
  exact (Woken.trans (.same (by simp) (by simp)) (quakeAlert_woken _ _)).raised _

theorem evalVote_woken : Woken s (evalVote s) := by
  have byVote : Woken s (openByVote s) := by
    unfold openByVote
    split
    · exact openEvent_woken s _ _ _ _
    · exact .rfl
  unfold evalVote
  refine .ite .rfl ?_
  split
  · exact .rfl
  · exact .ite byVote .rfl
  · exact .ite .rfl (.same (by simp) (by simp))
  · exact .ite (.same (by simp) (by simp)) .rfl

theorem openExternal_woken : Woken s (openExternal s) := by
  unfold openExternal
  split
  · exact (openEvent_woken s _ _ _ _).trans (toPost_woken _)
  · exact .rfl

theorem closeEvent_woken (t : Option Time) (trunc : Bool) (final : DetectorState) : Woken s (closeEvent t trunc final s) := by
  unfold closeEvent
  dsimp only
  refine (Woken.raised (.trans (.trans (.same ?_ ?_) (storeClose_woken _)) (modTu_woken _ _)) _).trans (heaterDecide_woken _ _)
  all_goals split <;> simp

theorem truncateEvent_woken (final : DetectorState) : Woken s (truncateEvent final s) := .ite (closeEvent_woken s _ _ _) .rfl

theorem takePeak_woken (c : Channel) (cf : Nat) (t : Time) : Woken s (takePeak c cf t s) := by
  unfold takePeak
  dsimp only
  (repeat' split)
  · exact .trans (.same (by simp) (by simp)) (strongReport_woken _ _)
  · exact .same (by simp) (by simp)
  all_goals exact .rfl

theorem joinTriggerSet_woken (c : Channel) : Woken s (joinTriggerSet c s) := by
  unfold joinTriggerSet
  dsimp only
  split
  · exact .ite (.trans (.same (by simp) (by simp)) (quakeAlert_woken _ _)) (.same (by simp) (by simp))
  · exact .rfl

theorem deliveryStart_woken (prev : Option Time) : Woken s (deliveryStart prev s) := by
  unfold deliveryStart
  dsimp only
  have closed (a b : Bool) : Woken s
      (if a = true then closeEvent prev false .idle s
      else if b = true then closeEvent prev true .idle (rebaseline s)
      else s) :=
    .ite (closeEvent_woken s _ _ _) (.ite (.trans (.same (by simp) (by simp)) (closeEvent_woken _ _ _ _)) .rfl)
  have aux (x : State) : Woken x (x.modTu fun t => { t with auxPending := false }) := .same (Eq.refl _) (Eq.refl _)
  exact .ite (.ite (((closed _ _).trans (aux _)).trans (openExternal_woken _)) ((closed _ _).trans (aux _))) (closed _ _)

theorem beginDelivery_woken (t : Time) : Woken s (beginDelivery t s) := by
  unfold beginDelivery
  exact .ite (.trans (modTu_woken _ _) (deliveryStart_woken _ _)) .rfl

theorem triggerPass_woken (c : Channel) (y : Int) (t : Time) (restart : Bool) : Woken s (triggerPass c y t restart s) := by
  unfold triggerPass
  dsimp only
  have upd (x : State) (f : TriggerChannel → TriggerChannel) : Woken x (updChannel c f x) := .same (Eq.refl _) (Eq.refl _)
  have begun : Woken s (if restart = true then updChannel c enterWarmup (beginDelivery t s) else beginDelivery t s) :=
    .ite ((beginDelivery_woken s t).trans (upd _ _)) (beginDelivery_woken s t)
  generalize (if restart = true then updChannel c enterWarmup (beginDelivery t s) else beginDelivery t s) = x at begun ⊢
  have passed := begun.trans (upd x (channelPass x.tu (charValue y) t))
  generalize updChannel c (channelPass x.tu (charValue y) t) x = z at passed ⊢
  have voted (b : Bool) : Woken s (evalVote (if b = true then joinTriggerSet c z else z)) :=
    (Woken.ite (passed.trans (joinTriggerSet_woken _ c)) passed).trans (evalVote_woken _)
  exact (Woken.ite ((voted _).trans (takePeak_woken _ _ _ _)) (voted _)).trans (upd _ _)

/-! ## The sample interface and the filter engine -/

theorem deliver_woken (w : Window) (word : Bool → Bool → Channel → SampleWord) : Woken s (deliver w word s) := by
  unfold deliver
  exact ((modSi_woken s _).trans (.foldl (fun s c => storeWord_woken s c _ _) _ _)).trans (enqueueDelivery_woken _ _ _)

theorem decideFrame_woken (f : List Byte) : Woken s (decideFrame f s) := by
  unfold decideFrame deliverGap
  split
  · exact modSi_woken _ _
  · refine .ite ?_ (.ite ?_ ?_) <;> exact (modSi_woken _ _).trans (deliver_woken _ _ _)

theorem digitizerByte_woken (b : Byte) : Woken s (digitizerByte s b) := by
  unfold digitizerByte
  exact .ite (.ite (modSi_woken _ _) .rfl) (.ite ((modSi_woken _ _).trans (decideFrame_woken _ _)) (modSi_woken _ _))

theorem takeStrobe_woken : Woken s (takeStrobe s) := by
  have strobed (x : State) (b : Time) (seq : Nat) (step : Bool) : Woken x (siStrobe b seq step x) := by
    unfold siStrobe deliverGap
    dsimp only
    split
    · exact ((modSi_woken _ _).trans (deliver_woken _ _ _)).trans (modSi_woken _ _)
    · exact modSi_woken _ _
  unfold takeStrobe issueStrobe
  split
  · exact .trans (modTb_woken _ _) (strobed _ _ _ _)
  · exact .rfl

theorem channelFilterPass_woken (c : Channel) (v : Int) (t : Time) : Woken s (channelFilterPass c v t s) := by
  have ctx (f : FilterContext → FilterContext) : Woken s (modContext c f s) := .same (Eq.refl _) (Eq.refl _)
  unfold channelFilterPass
  exact (Woken.ite ((ctx _).raised _) (ctx _)).trans (triggerPass_woken _ _ _ _ _)

theorem nextFilterPass_woken : Woken s (nextFilterPass s) := by
  unfold nextFilterPass
  split
  · exact .rfl
  · exact .same (Eq.refl _) (Eq.refl _)
  · exact .trans (modFe_woken _ _) (channelFilterPass_woken _ _ _ _)

/-! ## The uplink -/

theorem decideUplink_woken : Woken s (decideUplink s) := by
  unfold decideUplink
  dsimp only
  (repeat' split)
  · exact .trans (closeWindow_woken _ _) (syncModem_woken _)
  · exact .rfl
  · exact .same (Eq.refl _) (Eq.refl _)

theorem railMark_woken : Woken s (railMark s) :=
  .ite (.trans (openWindow_woken _ _) (syncModem_woken _)) .rfl

theorem issueAfter_woken (mbf : Bool) : Woken s (issueAfter mbf s) := by
  unfold issueAfter takeIssue
  split
  · exact .trans (.same (by simp) (by simp)) (syncModem_woken _)
  · exact .rfl

theorem settleEntry_woken (ok : Bool) (a : Attempt) (e : Entry) : Woken s (settleEntry ok a e s) := by
  have left (ok up : Bool) (e : Entry) (x : State) : Woken x (leaveQueue ok up e x) := by
    unfold leaveQueue
    exact .ite ((outcome_woken x _ _ _).trans (createEntry_woken _ _ _ _)) (outcome_woken x _ _ _)
  have follow (b : Bool) (e : Entry) (f : Option Subject) (x : State) : Woken x (followOn b e f x) := by
    unfold followOn
    split
    · exact .ite (offerAlert_woken x _ _) (.same (by simp) (by simp))
    · exact .rfl
  unfold settleEntry
  dsimp only
  have back (up : Bool) (e : Entry) (x : State) : Woken x (returnToQueue up e x) := .same (by simp) (by simp)
  exact (Woken.ite ((updEntry_woken s _ _).trans (left _ _ _ _)) ((updEntry_woken s _ _).trans (back _ _ _))).trans (follow _ _ _ _)

theorem endAttempt_woken (ok : Bool) : Woken s (endAttempt ok s) := by
  unfold endAttempt
  dsimp only
  split
  · refine .trans (.trans (.trans ?_ (closeWindow_woken _ _)) (syncModem_woken _)) (gaspCheck_woken _)
    split
    · exact (modAl_woken s _).trans (settleEntry_woken _ _ _ _)
    · exact modAl_woken s _
  · exact .rfl

theorem modemReceives_woken (b : Byte) : Woken s (modemReceives s b) := by
  have taken (k h : Byte) (body : List Byte) (x : State) : Woken x (takeModemFrame k h body x) := by
    unfold takeModemFrame strayFrame setStage
    (repeat' split)
    all_goals first | exact modAl_woken _ _ | exact endAttempt_woken _ _
  unfold modemReceives modemByte completeModemFrame
  dsimp only
  refine .ite ?_ .rfl
  (repeat' split)
  all_goals first | exact .rfl | exact modAl_woken _ _ | exact (modAl_woken _ _).trans (taken _ _ _ _)

theorem receiveModem_woken (bytes : List Byte) : Woken s (receiveModem bytes s) := .foldl (fun s b => modemReceives_woken s b) bytes s

/-! ## The enabled set -/

theorem applyEnabled_woken (old new : Tier) : Woken s (applyEnabled old new s) := by
  have one (x : State) (c : Channel) : Woken x (channelAtTier old new x c) := by
    unfold channelAtTier channelLeaves channelJoins
    exact .ite (.same (by simp) (by simp)) (.ite (.trans (.same (by simp) (by simp)) (storeJoin_woken _ c)) .rfl)
  unfold applyEnabled
  dsimp only
  exact .ite (.foldl one _ s) ((Woken.foldl one _ s).trans (evalVote_woken _))

theorem detectorForTier_woken (old new : Tier) : Woken s (detectorForTier old new s) := by
  unfold detectorForTier
  exact .ite ((truncateEvent_woken s _).eqs (Eq.refl _) (Eq.refl _)) (.ite (.same (Eq.refl _) (Eq.refl _)) .rfl)

/-! ## Requests -/

theorem disarm_woken : Woken s (disarm s) := (truncateEvent_woken s _).eqs (Eq.refl _) (Eq.refl _)

theorem restartDetection_woken : Woken s (restartDetection s) :=
  ((truncateEvent_woken s .idle).trans (modTu_woken _ _)).trans (warmEnabled_woken _)

theorem detectArm_woken (p : List Byte) : Woken s (Machine.detectArm p s).2 := by
  unfold Machine.detectArm
  dsimp only
  split
  · exact .rfl
  · exact .ite (.same (Eq.refl _) (Eq.refl _)) ((disarm_woken s).eqs (Eq.refl _) (Eq.refl _))

theorem timeSet_woken (p : List Byte) : Woken s (Machine.timeSet p s).2 := by
  unfold Machine.timeSet
  split
  · exact .rfl
  · split
    · exact .rfl
    · exact setStationTime_woken s _ _

theorem alertPost_woken (p : List Byte) : Woken s (Machine.alertPost p s).2 := by
  unfold Machine.alertPost
  split
  · exact .rfl
  · split
    · exact .rfl
    · exact createEntry_woken s _ _ _

theorem alertCancel_woken (p : List Byte) : Woken s (Machine.alertCancel p s).2 := by
  unfold Machine.alertCancel
  (repeat' split)
  · exact .rfl
  · exact .rfl
  · exact (outcome_woken s _ _ _).trans (gaspCheck_woken _)

theorem waveRead_woken (p : List Byte) : Woken s (Machine.waveRead p s).2 := by
  unfold Machine.waveRead
  dsimp only
  (repeat' split)
  · exact .rfl
  · exact .rfl
  · exact .rfl
  · exact .rfl
  · exact gather_woken _ _ ⟨[], none, s⟩

end

end Sys2Proof.Machine

/-! PROOFS. The rails and the heater switches follow the tier: the host rail with the link behind it, the sensor rail, and the battery
heater switch (R158, R171, R177, R179 to R181, R191). -/

namespace Sys2Proof.Machine

/-! ## The host rail and the link behind it -/

/-- The silence timer runs while the host rail is on; while it is off it stands, and the link is empty (R181, R191). -/
structure LinkFits (s : State) : Prop where
  on : s.pt.host.isOn = true → s.pt.silenceFrom ≠ none
  off : s.pt.host.isOn = false → s.pt.silenceFrom = none ∧ s.sl.rx = .hunt ∧ s.sl.tx = none ∧ s.sl.list = []

/-- The host rail is in a state of its tier, and the silence timer and the link follow it. -/
structure HostFits (s : State) : Prop where
  rail : railFits s.pt.tier s.pt.host = true
  link : LinkFits s

/-- The sensor rail is on except in HIBERNATE (R171). -/
def SensorFits (s : State) : Prop := s.pt.enSens = true ↔ s.pt.tier ≠ .hibernate

/-- The states of the host rail in FULL and CONSERVE. -/
def HostRail.served : HostRail → Bool
  | .on | .dozing _ | .asleep | .cycling _ => true
  | .grace _ | .shed => false

theorem railFits_served {t : Tier} {h : HostRail} (hs : h.served = true) :
    railFits t h = true ↔ t = .full ∨ t = .conserve := by
  cases h with
  | on | dozing | asleep | cycling => cases t <;> simp [railFits]
  | grace | shed => exact nomatch hs

/-- A change between two states of FULL and CONSERVE fits every tier that the first fits. -/
theorem railFits_trans {t : Tier} {h k : HostRail} (hh : railFits t h = true) (hs : h.served = true) (hk : k.served = true) :
    railFits t k = true := (railFits_served hk).mpr ((railFits_served hs).mp hh)

theorem railFits_shed {t : Tier} {x : Nat} (h : railFits t (.grace x) = true) : railFits t .shed = true := by
  cases t with
  | survive => rfl
  | full | conserve | hibernate => exact nomatch h

theorem railInv_iff (s : State) : RailInv s ↔ HostFits s ∧ SensorFits s := by
  constructor
  · rintro ⟨h1, h2, h3, h4⟩
    exact ⟨⟨h1, h3, h4⟩, h2⟩
  · rintro ⟨⟨h1, h3, h4⟩, h2⟩
    exact ⟨h1, h2, h3, h4⟩

section

variable {s t : State}

/-- Whatever state the host rail is put into, its off and on events bring the silence timer and the link with it (R180, R191). -/
theorem LinkFits.setHostRail (h : LinkFits s) (r : HostRail) : LinkFits (setHostRail r s) := by
  unfold Machine.setHostRail
  dsimp only
  split
  · rename_i hoff
    simp only [Bool.and_eq_true, Bool.not_eq_true'] at hoff
    exact ⟨fun hon => by simp [hostRailOff, hoff.2] at hon, fun _ => by simp [hostRailOff]⟩
  · rename_i hnotoff
    split
    · rename_i hon
      simp only [Bool.and_eq_true, Bool.not_eq_true'] at hon
      exact ⟨fun _ => by simp [hostRailOn], fun hoff => by simp [hostRailOn, hon.2] at hoff⟩
    · rename_i hnoton
      have same : r.isOn = s.pt.host.isOn := by
        revert hnotoff hnoton
        cases s.pt.host.isOn <;> cases r.isOn <;> simp
      exact ⟨fun hon => h.on (same ▸ hon), fun hoff => h.off (same ▸ hoff)⟩

theorem LinkFits.congr (h : LinkFits s) (hhost : t.pt.host = s.pt.host) (hsil : t.pt.silenceFrom = s.pt.silenceFrom)
    (hrx : t.sl.rx = s.sl.rx) (htx : t.sl.tx = s.sl.tx) (hlist : t.sl.list = s.sl.list) : LinkFits t :=
  ⟨fun hon => hsil ▸ h.on (hhost ▸ hon), fun hoff => by rw [hsil, hrx, htx, hlist]; exact h.off (hhost ▸ hoff)⟩

theorem HostFits.congr (h : HostFits s) (htier : t.pt.tier = s.pt.tier) (hhost : t.pt.host = s.pt.host)
    (hsil : t.pt.silenceFrom = s.pt.silenceFrom) (hrx : t.sl.rx = s.sl.rx) (htx : t.sl.tx = s.sl.tx)
    (hlist : t.sl.list = s.sl.list) : HostFits t :=
  ⟨by rw [htier, hhost]; exact h.rail, h.link.congr hhost hsil hrx htx hlist⟩

/-- While the rail is off nothing pends, so a link that only its pending requests change stays empty. -/
theorem HostFits.ofList {l : StationLink} (h : HostFits s) (hrx : l.rx = s.sl.rx) (htx : s.sl.list = [] → l.tx = s.sl.tx)
    (hlist : s.sl.list = [] → l.list = []) : HostFits { s with sl := l } :=
  ⟨h.rail, h.link.on, fun hoff => by
    obtain ⟨hsil, hr, ht, hl⟩ := h.link.off hoff
    exact ⟨hsil, hrx.trans hr, (htx hl).trans ht, hlist hl⟩⟩

theorem HostFits.setHostRail (h : HostFits s) {r : HostRail} (hr : railFits s.pt.tier r = true) : HostFits (setHostRail r s) :=
  ⟨by rw [setHostRail_tier, setHostRail_host]; exact hr, h.link.setHostRail r⟩

theorem HostFits.setWake (h : HostFits s) (w : Option Nat) (c : Option WakeCause) :
    HostFits (s.modPt fun p => { p with wakeTime := w, lastWake := c }) := h.congr rfl rfl rfl rfl rfl rfl

theorem HostFits.wakeHost (h : HostFits s) (c : WakeCause) : HostFits (wakeHost c s) := by
  unfold Machine.wakeHost
  split
  · rename_i hh
    exact (h.setWake none (some c)).setHostRail (railFits_trans (hh ▸ h.rail) rfl rfl)
  · rename_i x hh
    exact (h.setWake none (some c)).setHostRail (railFits_trans (hh ▸ h.rail) rfl rfl)
  all_goals exact h

theorem HostFits.raise (h : HostFits s) (f : AttnFlag) : HostFits (raise f s) := by
  have flagged : HostFits (s.modSl fun l => { l with flags := l.flags ||| f.bit }) := h.congr rfl rfl rfl rfl rfl rfl
  exact keeps_ite (P := HostFits) flagged (flagged.wakeHost _)

theorem HostFits.woken (h : HostFits s) (hw : Woken s t) : HostFits t := by
  refine hw.keeps (P := HostFits) ?_ (fun _ f h => h.raise f) (fun _ c h => h.wakeHost c) ?_ h
  · intro s t hpt hsl h
    exact h.congr (by rw [hpt]) (by rw [hpt]) (by rw [hpt]) (by rw [hsl]) (by rw [hsl]) (by rw [hsl])
  · rintro s t hsl ⟨on, at_, gasp, hpt⟩ h
    exact h.congr (by rw [hpt]) (by rw [hpt]) (by rw [hpt]) (by rw [hsl]) (by rw [hsl]) (by rw [hsl])

theorem HostFits.answer (h : HostFits s) (x : List Byte) (e : AtReplyEnd) : HostFits (answer x e s) :=
  h.ofList rfl (fun _ => rfl) fun hl => by simp [hl, moveFirst]

/-! ## The host rail at a tier change and at its timers (R177, R178, R181) -/

/-- The table of R177 leaves the host rail in a state of the new tier. -/
theorem HostFits.forTier (h : HostFits s) (new : Tier) (time : Time) :
    HostFits (hostRailForTier s.pt.tier new (s.modPt fun p => { p with tier := new, tierTime := time })) := by
  have link : LinkFits (s.modPt fun p => { p with tier := new, tierTime := time }) := h.link.congr rfl rfl rfl rfl rfl
  have put {r : HostRail} (hr : railFits new r = true) :
      HostFits (railByTier r (s.modPt fun p => { p with tier := new, tierTime := time })) := by
    refine ⟨?_, LinkFits.setHostRail (s := (s.modPt _).modPt _) (link.congr rfl rfl rfl rfl rfl) r⟩
    rw [railByTier, setHostRail_tier, setHostRail_host]
    exact hr
  have stay (hr : railFits new s.pt.host = true) : HostFits (s.modPt fun p => { p with tier := new, tierTime := time }) := ⟨hr, link⟩
  have rail := h.rail
  unfold hostRailForTier
  cases new with
  | hibernate => exact put rfl
  | survive =>
    dsimp only
    cases ht : s.pt.tier <;> cases hh : s.pt.host <;> simp_all [railFits]
  | full =>
    dsimp only
    cases ht : s.pt.tier <;> cases hh : s.pt.host <;> simp_all [railFits]
    all_goals exact stay.wakeHost _
  | conserve =>
    dsimp only
    cases ht : s.pt.tier <;> cases hh : s.pt.host <;> simp_all [railFits]

theorem HostFits.endGrace (h : HostFits s) : HostFits (endGrace s) := by
  unfold Machine.endGrace
  split
  · rename_i due hh
    exact keeps_ite (h.setHostRail (railFits_shed (hh ▸ h.rail))) h
  all_goals exact h

theorem HostFits.endDoze (h : HostFits s) : HostFits (endDoze s) := by
  unfold Machine.endDoze
  split
  · rename_i due hh
    exact keeps_ite (h.setHostRail (railFits_trans (hh ▸ h.rail) rfl rfl)) h
  all_goals exact h

theorem HostFits.endCycle (h : HostFits s) : HostFits (endCycle s) := by
  unfold Machine.endCycle
  split
  · rename_i due hh
    exact keeps_ite (h.setHostRail (railFits_trans (hh ▸ h.rail) rfl rfl)) h
  all_goals exact h

theorem HostFits.supervise (h : HostFits s) : HostFits (supervise s) := by
  have counted {x : State} (h : HostFits x) : HostFits (countCycle x) := h.congr rfl rfl rfl rfl rfl rfl
  have cleared : HostFits (s.modPt fun p => { p with wakeTime := none }) := h.congr rfl rfl rfl rfl rfl rfl
  unfold Machine.supervise
  split
  · rename_i hh
    exact counted (cleared.setHostRail (railFits_trans (hh ▸ h.rail) rfl rfl))
  · rename_i x hh
    exact counted (cleared.setHostRail (railFits_trans (hh ▸ h.rail) rfl rfl))
  · rename_i due hh
    exact counted (h.setHostRail (railFits_shed (hh ▸ h.rail)))
  all_goals exact h

/-! ## Receiving and replying -/

/-- While the rail is on the receiver may be in any state. -/
theorem HostFits.received (h : HostFits s) (hon : s.pt.host.isOn = true) {l : StationLink} : HostFits { s with sl := l } :=
  ⟨h.rail, h.link.on, fun hoff => by rw [show s.pt.host.isOn = false from hoff] at hon; cases hon⟩

theorem HostFits.linkByte (h : HostFits s) (hon : s.pt.host.isOn = true) (b : Byte) :
    HostFits (linkByte s b) ∧ (linkByte s b).pt.host.isOn = true := by
  have go (f : StationLink → StationLink) : HostFits (s.modSl f) ∧ (s.modSl f).pt.host.isOn = true := ⟨h.received hon, hon⟩
  have valid (tag kind : Byte) (p : List Byte) :
      HostFits (validFrame tag kind p s) ∧ (validFrame tag kind p s).pt.host.isOn = true := by
    have timed (f : StationLink → StationLink) (x : Nat) :
        HostFits ((s.modSl f).modPt fun p => { p with silenceFrom := some x }) :=
      ⟨h.rail, fun _ => by simp, fun hoff => by rw [show s.pt.host.isOn = false from hoff] at hon; cases hon⟩
    unfold validFrame takeFrame
    split
    · exact ⟨(timed _ _).received hon, hon⟩
    · exact ⟨((timed _ _).received hon).raise _, raise_isOn _ hon⟩
  unfold Machine.linkByte discardLinkFrame
  dsimp only
  (repeat' split)
  all_goals first | exact go _ | exact ⟨h, hon⟩ | exact valid _ _ _

theorem HostFits.discardIfBusy (h : HostFits s) : HostFits (discardIfBusy s) :=
  keeps_ite (P := HostFits) ⟨h.rail, h.link.on, fun hoff => by
    obtain ⟨hsil, -, ht, hl⟩ := h.link.off hoff
    exact ⟨hsil, rfl, ht, hl⟩⟩ h

theorem HostFits.linkBytes (h : HostFits s) (hon : s.pt.host.isOn = true) (bytes : List Byte) :
    HostFits (bytes.foldl Machine.linkByte s) :=
  (List.foldlRecOn (motive := fun x => HostFits x ∧ x.pt.host.isOn = true) bytes Machine.linkByte ⟨h, hon⟩
    fun _ hx b _ => hx.1.linkByte hx.2 b).1

theorem HostFits.startReply (h : HostFits s) (hrdy : Bool) : HostFits (startReply hrdy s) := by
  unfold Machine.startReply
  split
  · rename_i hl
    split
    · exact keeps_ite (P := HostFits) (h.ofList rfl (fun hn => by simp [hn] at hl) fun hn => hn) h
    all_goals exact h
  · exact h

theorem HostFits.completeReply (h : HostFits s) : HostFits (completeReply s) := by
  unfold Machine.completeReply
  split
  · rename_i r rest _ hl
    have left : HostFits (s.modSl fun l => { l with tx := none, list := rest }) :=
      h.ofList rfl (fun hn => by simp [hn] at hl) fun hn => by simp [hn] at hl
    unfold atReplyEnd
    split
    · exact left
    · split
      · rename_i x hd
        exact ⟨railFits_trans (hd ▸ left.rail) rfl rfl, fun _ => left.link.on (by rw [hd]; rfl), fun hoff => by cases hoff⟩
      all_goals exact left
    · exact left.ofList rfl (fun _ => rfl) fun _ => rfl
  · exact h

theorem HostFits.hostSleep (h : HostFits s) (p : List Byte) : HostFits (Machine.hostSleep p s).2 := by
  have slept (w : Option Nat) (hon : s.pt.host.isOn = true) (hs : s.pt.host.served = true) : HostFits (takeSleep w s) :=
    ⟨railFits_trans h.rail hs rfl, fun _ => h.link.on hon, fun hoff => by cases hoff⟩
  unfold Machine.hostSleep
  split
  · exact h
  · split
    · exact h
    · split
      · exact h
      · split
        · exact h
        · split
          · rename_i hh
            exact slept _ (by rw [hh]; rfl) (by rw [hh]; rfl)
          · rename_i x hh
            exact slept _ (by rw [hh]; rfl) (by rw [hh]; rfl)
          all_goals exact h

theorem HostFits.settingsSave (h : HostFits s) : HostFits (settingsSave s) := by
  unfold Machine.settingsSave
  split
  · split
    · split
      · exact HostFits.ofList (s := s.modSm _) (h.congr rfl rfl rfl rfl rfl rfl) rfl (fun _ => rfl)
          fun hl => by simp [show s.sl.list = [] from hl, moveFirst]
      · exact h.answer _ _
    · exact h
  · exact h

theorem HostFits.completeSave (h : HostFits s) (agrees : Bool) : HostFits (completeSave agrees s) := by
  unfold Machine.completeSave
  split
  · refine HostFits.woken ?_ (gaspCheck_woken _)
    exact HostFits.ofList (s := s.modSm _) (h.congr rfl rfl rfl rfl rfl rfl) rfl (fun _ => rfl)
      fun hl => by simp [show s.sl.list = [] from hl]
  · exact h

theorem HostFits.restartLink (h : HostFits s) (p : List Byte) : HostFits (Machine.restartLink p s).2 := by
  unfold Machine.restartLink
  split
  · exact h
  · split
    · exact h.congr rfl rfl rfl rfl rfl rfl
    · exact h

/-! ## The sensor rail, and a whole tier change -/

theorem SensorFits.woken (h : SensorFits s) (hw : Woken s t) : SensorFits t := by
  unfold SensorFits
  rw [hw.tier, hw.enSens]
  exact h

/-- Both rails follow the tier. -/
structure RailsFit (s : State) : Prop where
  host : HostFits s
  sensor : SensorFits s

theorem RailsFit.woken (h : RailsFit s) (hw : Woken s t) : RailsFit t := ⟨h.host.woken hw, h.sensor.woken hw⟩

theorem RailsFit.same (h : RailsFit s) (hpt : t.pt = s.pt) (hsl : t.sl = s.sl) : RailsFit t := h.woken (.same hpt hsl)

/-- A change of PT that leaves the tier and the rails alone. -/
theorem RailsFit.modPt (h : RailsFit s) {f : PowerTier → PowerTier} (htier : (f s.pt).tier = s.pt.tier)
    (hhost : (f s.pt).host = s.pt.host) (hsil : (f s.pt).silenceFrom = s.pt.silenceFrom)
    (hsens : (f s.pt).enSens = s.pt.enSens) : RailsFit (s.modPt f) :=
  ⟨h.host.congr htier hhost hsil rfl rfl rfl, by unfold SensorFits; rw [State.modPt_pt, htier, hsens]; exact h.sensor⟩

theorem hostRailForTier_tier (old new : Tier) (s : State) : (hostRailForTier old new s).pt.tier = s.pt.tier := by
  unfold hostRailForTier railByTier
  (repeat' split) <;> simp [setHostRail_tier, wakeHost_tier]

theorem announceTier_tier (startUp : Bool) (new : Tier) (s : State) : (announceTier startUp new s).pt.tier = new := by
  unfold announceTier
  rw [(offerAlert_woken _ _ _).tier]
  split <;> simp [raise_tier, hostRailForTier_tier]

theorem HostFits.announceTier (h : HostFits s) (startUp : Bool) (new : Tier) : HostFits (announceTier startUp new s) := by
  have railed := h.forTier new s.now
  unfold Machine.announceTier
  refine HostFits.woken ?_ (offerAlert_woken _ _ _)
  exact keeps_ite railed (railed.raise _)

/-- The sensor rail is brought to what the tier asks (R171). -/
theorem HostFits.sensorForTier (h : HostFits s) (new : Tier) (ht : s.pt.tier = new) : RailsFit (sensorForTier new s) := by
  have off : s.pt.enSens = false → new = .hibernate → SensorFits s := fun hs hn => by simp [SensorFits, hs, ht, hn]
  unfold Machine.sensorForTier
  split
  · rename_i hn
    split
    · exact ⟨h.congr rfl rfl rfl rfl rfl rfl, by simp [SensorFits, ht, hn]⟩
    · rename_i hs
      exact ⟨h, off (by simpa using hs) hn⟩
  · rename_i hn
    exact ⟨h.congr rfl rfl rfl rfl rfl rfl, by simp [SensorFits, ht, hn]⟩

/-- After the two rails are set, a tier change only raises flags, wakes the host and drives the modem rail. -/
theorem tierChange_woken (startUp : Bool) (new : Tier) (s : State) :
    Woken (sensorForTier new (announceTier startUp new s)) (tierChange startUp new s) := by
  unfold tierChange
  dsimp only
  generalize sensorForTier new (announceTier startUp new s) = x
  have patrol (y : State) : Woken y (patrolForTier s.pt.tier new y) := .same (by simp) (by simp)
  have window (y : State) : Woken y (entryWindow y) := .same (by simp) (by simp)
  have gasp (y : State) : Woken y (enterHibernate y) := .modem rfl ⟨_, _, _, rfl⟩
  have blocks := ((((detectorForTier_woken x s.pt.tier new).trans (applyEnabled_woken _ s.pt.tier new)).trans (patrol _)).trans
    (heaterDecide_woken _ false))
  have windowed := Woken.ite (c := s.pt.tier = .full ∧ (new = .conserve ∨ new = .survive)) (blocks.trans (window _)) blocks
  exact ((Woken.ite (windowed.trans (gasp _)) windowed).trans (syncModem_woken _)).trans (gaspCheck_woken _)

theorem tierChange_tier (startUp : Bool) (new : Tier) (s : State) : (tierChange startUp new s).pt.tier = new := by
  rw [(tierChange_woken startUp new s).tier]
  unfold sensorForTier
  (repeat' split) <;> simp [announceTier_tier]

theorem RailsFit.tierChange (h : RailsFit s) (startUp : Bool) (new : Tier) : RailsFit (tierChange startUp new s) :=
  ((h.host.announceTier startUp new).sensorForTier new (announceTier_tier startUp new s)).woken (tierChange_woken startUp new s)

theorem RailsFit.tierScan (h : RailsFit s) (startUp : Bool) : RailsFit (tierScan startUp s) := by
  have exit : RailsFit (hibernateScan startUp s) := by
    unfold hibernateScan
    refine keeps_ite (keeps_ite ?_ (keeps_ite ?_ h)) h
    · exact RailsFit.tierChange (h.modPt rfl rfl rfl rfl) _ _
    · exact (h.modPt (f := fun p => { p with exitMark := true }) rfl rfl rfl rfl).same rfl rfl
  unfold Machine.tierScan
  exact keeps_ite exit (keeps_ite h (h.tierChange _ _))

theorem RailsFit.scan (h : RailsFit s) (raw : RawScan) : RailsFit (scan raw s) :=
  ((((h.woken (takeScan_woken s raw)).woken (chargeWork_woken _ _)).woken (lowCurrentTest_woken _)).tierScan false).woken
    ((heaterDecide_woken _ false).trans (endScan_woken _ _))

theorem RailsFit.completeExit (h : RailsFit s) : RailsFit (completeExit s) := by
  have returned : RailsFit ((returnToMain s).modPt fun p => { p with exitMark := false }) :=
    (h.woken (returnToMain_woken s)).modPt rfl rfl rfl rfl
  exact keeps_ite (P := RailsFit) (returned.tierChange _ _) (returned.woken (toWatchClock_woken _))

/-! ## The resets -/

theorem setHostRail_enSens (r : HostRail) (s : State) : (setHostRail r s).pt.enSens = s.pt.enSens := by
  unfold setHostRail
  dsimp only
  (repeat' split) <;> rfl

/-- The host rail's state in the first tier after power-on (R184). -/
def bootHost : Tier → HostRail
  | .full | .conserve => .on
  | .survive | .hibernate => .shed

theorem bootRails_eq (t : Tier) (s : State) :
    bootRails t s =
      setHostRail (bootHost t) (s.modPt fun p => { p with tier := t, tierTime := s.now, enSens := t != .hibernate }) := by
  cases t <;> rfl

/-- From a host rail that is off, with the link reset, the first tier's rails fit. -/
theorem RailsFit.boot (t : Tier) (hhost : s.pt.host = .shed) (hsil : s.pt.silenceFrom = none) (hsl : s.sl = resetLink) :
    RailsFit (bootRails t s) := by
  have link : LinkFits (s.modPt fun p => { p with tier := t, tierTime := s.now, enSens := t != .hibernate }) :=
    ⟨fun hon => by simp [hhost, HostRail.isOn] at hon, fun _ => by simp [hsil, hsl, resetLink]⟩
  rw [bootRails_eq]
  refine ⟨⟨?_, link.setHostRail _⟩, ?_⟩
  · rw [setHostRail_tier, setHostRail_host]
    cases t <;> rfl
  · simp [SensorFits, setHostRail_tier, setHostRail_enSens]

/-- After the first tier's rails are set, power-on only raises flags, wakes the host and drives the modem rail. -/
theorem powerOn_woken (raw : RawScan) (s : State) :
    ∃ x : State, x.pt = bootPower (loadedSettings s.sm).tier ∧ x.sl = resetLink ∧
      Woken (bootRails (bootTier (bootScanned raw s)) x) (powerOn raw s) := by
  refine ⟨{ resetBlocks (loadedSettings s.sm) (bootTier (bootScanned raw s)) (bootScanned raw s) with
    hm := (bootScanned raw s).hm }, by simp [resetBlocks, bootScanned], rfl, ?_⟩
  unfold powerOn
  dsimp only
  generalize bootTier (bootScanned raw s) = t
  generalize bootRails t _ = x
  have gasp (y : State) : Woken y (enterHibernate y) := .modem rfl ⟨_, _, _, rfl⟩
  have blocks := (((startStore_woken x).trans (offerAlert_woken _ .pwr (.tier t))).trans (lowCurrentTest_woken _)).trans
    (heaterDecide_woken _ false)
  exact (((Woken.ite (blocks.trans (gasp _)) blocks).trans (syncModem_woken _)).trans (gaspCheck_woken _)).trans (endScan_woken _ _)

theorem RailsFit.powerOn (raw : RawScan) (s : State) : RailsFit (powerOn raw s) := by
  obtain ⟨x, hpt, hsl, hw⟩ := powerOn_woken raw s
  exact (RailsFit.boot _ (by rw [hpt]; rfl) (by rw [hpt]; rfl) hsl).woken hw

/-- Pin reset keeps the tier and the rails; the link starts empty, and the silence timer where the host rail is on (R185, R198). -/
theorem RailsFit.pinStart (h : RailsFit s) {p : TierParams} {now : Nat} (hpt : t.pt = pinPower p now s.pt)
    (hsl : t.sl = resetLink) : RailsFit t := by
  refine ⟨⟨hpt ▸ h.host.rail, fun hon => ?_, fun hoff => ?_⟩, by unfold SensorFits; rw [hpt]; exact h.sensor⟩
  · simp only [hpt, pinPower] at hon ⊢
    simp [hon]
  · simp only [hpt, pinPower] at hoff ⊢
    simp [hoff, hsl, resetLink]

theorem RailsFit.pinLoaded (h : RailsFit s) : RailsFit (pinLoaded s) := by
  unfold Machine.pinLoaded
  dsimp only
  exact (RailsFit.woken (h.pinStart rfl rfl) (startStore_woken _)).woken (syncModem_woken _)

theorem RailsFit.pinReset (h : RailsFit s) (raw : RawScan) : RailsFit (pinReset raw s) := by
  have scanned := ((h.pinLoaded.woken (takeScan_woken _ raw)).woken (chargeWork_woken _ id)).woken (lowCurrentTest_woken _)
  have tier (x : State) (hx : RailsFit x) : RailsFit (pinTierScan x) :=
    keeps_ite (P := RailsFit) ((hx.tierScan true).woken (offerAlert_woken _ _ _)) (hx.tierScan true)
  exact (tier _ scanned).woken ((heaterDecide_woken _ false).trans (endScan_woken _ _))

/-! ## The tier and the sensor rail through the commands of the host rail and the link -/

/-- The tier and EN_SENS. -/
def PowerTier.sensed (p : PowerTier) : Tier × Bool := (p.tier, p.enSens)

theorem SensorFits.congr (h : SensorFits s) (e : t.pt.sensed = s.pt.sensed) : SensorFits t := by
  obtain ⟨htier, hsens⟩ := Prod.ext_iff.mp e
  unfold SensorFits
  rw [show t.pt.tier = s.pt.tier from htier, show t.pt.enSens = s.pt.enSens from hsens]
  exact h

@[simp] theorem setHostRail_sensed (r : HostRail) (s : State) : (setHostRail r s).pt.sensed = s.pt.sensed :=
  Prod.ext (setHostRail_tier r) (setHostRail_enSens r s)

@[simp] theorem raise_sensed (f : AttnFlag) (s : State) : (raise f s).pt.sensed = s.pt.sensed :=
  Prod.ext (Woken.flag s f).tier (Woken.flag s f).enSens

theorem endGrace_sensed (s : State) : (endGrace s).pt.sensed = s.pt.sensed := by
  unfold endGrace
  (repeat' split) <;> simp

theorem endDoze_sensed (s : State) : (endDoze s).pt.sensed = s.pt.sensed := by
  unfold endDoze
  (repeat' split) <;> simp

theorem endCycle_sensed (s : State) : (endCycle s).pt.sensed = s.pt.sensed := by
  unfold endCycle
  (repeat' split) <;> simp

theorem supervise_sensed (s : State) : (supervise s).pt.sensed = s.pt.sensed := by
  have counted (x : State) : (countCycle x).pt.sensed = x.pt.sensed := rfl
  have cleared : (s.modPt fun p => { p with wakeTime := none }).pt.sensed = s.pt.sensed := rfl
  unfold supervise
  split <;> simp only [counted, setHostRail_sensed, cleared]

@[simp] theorem linkByte_sensed (s : State) (b : Byte) : (linkByte s b).pt.sensed = s.pt.sensed := by
  have timed (f : StationLink → StationLink) (x : Option Nat) :
      ((s.modSl f).modPt fun p => { p with silenceFrom := x }).pt.sensed = s.pt.sensed := rfl
  unfold linkByte validFrame takeFrame discardLinkFrame
  dsimp only
  (repeat' split) <;> simp only [raise_sensed, State.modSl_pt, timed]

theorem completeReply_sensed (s : State) : (completeReply s).pt.sensed = s.pt.sensed := by
  unfold completeReply atReplyEnd
  (repeat' split) <;> rfl

theorem hostSleep_sensed (p : List Byte) (s : State) : (Machine.hostSleep p s).2.pt.sensed = s.pt.sensed := by
  unfold Machine.hostSleep
  (repeat' split) <;> rfl

/-! ## Every command -/

/-- SETTINGS DEFAULTS changes no rail (R202). -/
theorem RailsFit.settingsDefaults (h : RailsFit s) (p : List Byte) : RailsFit (Machine.settingsDefaults p s).2 := by
  have filters (x : State) := ChangesOnly.foldl defaultFilter_changes channels x
  have settled : RailsFit (setTier defaultTier s) := h.modPt rfl rfl rfl rfl
  unfold Machine.settingsDefaults
  split
  · exact h
  · refine settled.same ?_ ?_
    · simp [applyDefaults, (filters _).pt, setTier]
    · simp [applyDefaults, (filters _).sl]

theorem RailsFit.work (c : Instr) (h : RailsFit s) : RailsFit (work c s) := by
  have answered := fun x e (t : State) (h : RailsFit t) => (⟨h.host.answer x e, h.sensor⟩ : RailsFit (answer x e t))
  have changes := work_changes c s
  have frame (hb : Block.pt ∉ footprint c ∧ Block.sl ∉ footprint c) : RailsFit (Machine.work c s) :=
    (work_effect c s).keeps answered fun t ht => h.same (ht.pt hb.1) (ht.sl hb.2)
  have served {kind : Byte} {f : List Byte → State → List Byte × State} (hf : ∀ p, RailsFit (f p s).2) :
      RailsFit (serve kind f s) := serve_keeps answered hf h
  have request {n : Nat} {kind : Byte} {f : List Byte → State → List Byte × State} (hf : ∀ p, RailsFit (f p s).2) :
      RailsFit (serve kind (withLength n f) s) := served (withLength_keeps (fun p _ => hf p) h)
  cases c <;> dsimp only [Machine.work] at frame changes ⊢
  case powerOnReset d raw => exact .powerOn raw s
  case pinReset d raw => exact h.pinReset raw
  case refpPulse => exact keeps_ite (P := RailsFit) (h.woken (pulseEdge_woken s)) h
  case referenceLoss => exact whileMainIf_keeps (P := RailsFit) (h.woken (loseReference_woken s)) h
  case wholeSecond => exact keeps_ite (h.woken (mainSecond_woken s)) h
  case watchWholeSecond => exact keeps_ite (h.woken (watchSecond_woken s)) h
  case sampleStrobe => exact h.woken (takeStrobe_woken s)
  case digitizerFrame d bytes => exact keeps_ite (h.woken (.foldl digitizerByte_woken bytes s)) h
  case filterPass => exact keeps_ite (P := RailsFit) (h.woken (nextFilterPass_woken s)) h
  case patrolRead d xs =>
    exact (h.woken (t := applyUpsets s xs) (.same rfl rfl)).woken (.ite ((patrolRead_woken _).trans (.same rfl rfl)) .rfl)
  case railWindowMark => exact keeps_ite (h.woken (railMark_woken s)) h
  case uplinkDecision => exact keeps_ite (h.woken (decideUplink_woken s)) h
  case issueInstant d mbf => exact (h.same (t := s.modLines _) rfl rfl).woken (issueAfter_woken _ mbf)
  case taken | refused | done | modemFrameDiscard => exact h.woken (receiveModem_woken s _)
  case awaitTakenTimeout | awaitDoneTimeout => exact whileMainIf_keeps (P := RailsFit) (h.woken (endAttempt_woken s _)) h
  case housekeepingScan d raw => exact keeps_ite (h.scan raw) h
  case lastGaspLimit => exact h.woken (gaspCheck_woken s)
  case settleEnd => exact keeps_ite h.completeExit h
  case graceDeadline => exact ⟨h.host.endGrace, h.sensor.congr (endGrace_sensed s)⟩
  case dozeDeadline => exact ⟨h.host.endDoze, h.sensor.congr (endDoze_sensed s)⟩
  case cycleEnd => exact ⟨h.host.endCycle, h.sensor.congr (endCycle_sensed s)⟩
  case hostSilenceExpiry => exact keeps_ite ⟨h.host.supervise, h.sensor.congr (supervise_sensed s)⟩ h
  case linkFrame d bytes =>
    split
    · rename_i ht
      simp only [linkTakesBytes, Bool.and_eq_true] at ht
      exact ⟨h.host.linkBytes ht.1 bytes, h.sensor.congr (foldl_keeps (fun s => s.pt.sensed) _ (fun s b => by simp) bytes s)⟩
    · exact h
  case linkGapTimeout => exact keeps_ite ⟨h.host.discardIfBusy, h.sensor.congr (by simp)⟩ h
  case linkFrameDiscard d b stopLow =>
    split
    · rename_i ht
      simp only [linkTakesBytes, Bool.and_eq_true] at ht
      exact keeps_ite ⟨h.host.discardIfBusy, h.sensor.congr (by simp)⟩
        ⟨(h.host.linkByte ht.1 b).1, h.sensor.congr (linkByte_sensed s b)⟩
    · exact h
  case replyStart d hrdy =>
    exact ⟨HostFits.startReply (h.same (t := s.modLines _) rfl rfl).host hrdy, h.sensor.congr (by simp)⟩
  case replyComplete => exact ⟨h.host.completeReply, h.sensor.congr (completeReply_sensed s)⟩
  case settingsSave =>
    exact ⟨h.host.settingsSave, h.sensor.congr (congrArg _ (changes.pt (by simp [footprint])))⟩
  case settingsSaveComplete d agrees =>
    refine ⟨h.host.completeSave agrees, ?_⟩
    unfold completeSave
    split
    · refine SensorFits.woken ?_ (gaspCheck_woken _)
      exact h.sensor.congr rfl
    · exact h.sensor
  case settingsDefaults => exact request h.settingsDefaults
  case restartLink =>
    exact serveWith_keeps answered (fun p => ⟨h.host.restartLink p, h.sensor.congr (congrArg _ ((restartLink_changes p s).pt (by simp)))⟩) h
  case hostSleep =>
    exact serveWith_keeps answered (fun p => ⟨h.host.hostSleep p, h.sensor.congr (hostSleep_sensed p s)⟩) h
  case restartDetection =>
    refine serveWith_keeps answered (withLength_keeps (fun p _ => ?_) h) h
    unfold restartDetectionRequest
    split
    · exact h.woken (restartDetection_woken s)
    · exact h
  case attnRead | attnMask =>
    exact request fun p => ⟨h.host.congr rfl rfl rfl rfl rfl rfl, h.sensor⟩
  case timeSet => exact request fun p => h.woken (timeSet_woken s p)
  case detectArm => exact request fun p => h.woken (detectArm_woken s p)
  case waveRead d xs =>
    have upset : RailsFit (applyUpsets s xs) := h.same rfl rfl
    exact serve_keeps answered (withLength_keeps (fun p _ => upset.woken (waveRead_woken _ p)) upset) upset
  case alertPost => exact served fun p => h.woken (alertPost_woken s p)
  case alertCancel => exact request fun p => h.woken (alertCancel_woken s p)
  case tierSet =>
    have set (x : TierParams) : RailsFit (setTier x s) := h.modPt rfl rfl rfl rfl
    refine served fun p => ?_
    unfold Machine.tierSet tierSetStatus
    dsimp only
    split
    · exact h
    · split
      · exact h
      · exact set _
  all_goals exact frame (by simp [footprint])

end

end Sys2Proof.Machine

/-! PROOFS. The battery heater switch is never on in HIBERNATE, nor beside the source heater switch (R158; O60). -/

namespace Sys2Proof.Machine

/-- The heater runs from the battery outside HIBERNATE only. -/
def HeaterFits (s : State) : Prop := s.hc.state = .onBat → s.pt.tier ≠ .hibernate

theorem heaterInv_iff (s : State) : HeaterInv s ↔ HeaterFits s := by
  simp only [HeaterInv, HeaterFits, State.enHeatBat, State.enHeatSrc, decide_eq_true_eq]
  exact ⟨fun h hb => (h hb).1, fun h hb => ⟨h hb, by simp [hb]⟩⟩

section

variable {s t : State}

theorem HeaterFits.same (h : HeaterFits s) (hstate : t.hc.state = s.hc.state) (htier : t.pt.tier = s.pt.tier) : HeaterFits t := by
  unfold HeaterFits
  rw [hstate, htier]
  exact h

/-- What keeps HC and only wakes the host keeps the heater as the tier has it. -/
theorem HeaterFits.woken (h : HeaterFits s) (w : Woken s t) (hhc : t.hc = s.hc) : HeaterFits t := h.same (by rw [hhc]) w.tier

/-! ## A decision -/

theorem heaterTarget_hibernate (s : State) (d g : Bool) (ht : s.pt.tier = .hibernate) : heaterTarget s d g ≠ .onBat := by
  unfold heaterTarget batteryHeatPermitted
  rw [ht]
  (repeat' split) <;> simp_all

theorem switchHeater_state (h : HeaterState) (s : State) : (switchHeater h s).hc.state = h := by
  unfold switchHeater
  dsimp only
  split <;> simp

/-- A decision keeps the switches or brings them to a target; it keeps them only in FAULT, at the target, or during an event. -/
theorem heaterDecide_state (b : Bool) (s : State) :
    (heaterDecide b s).hc.state = s.hc.state ∧
        (s.hc.state = .fault ∨ eventInProgress s = true ∨ ∃ d g, s.hc.state = heaterTarget s d g) ∨
      ∃ d g, (heaterDecide b s).hc.state = heaterTarget s d g := by
  unfold heaterDecide
  dsimp only
  split
  · exact .inl ⟨rfl, .inl ‹_›⟩
  · split
    · rename_i ht
      exact .inl ⟨rfl, .inr (.inr ⟨_, _, ht.symm⟩)⟩
    · split
      · exact .inr ⟨_, _, switchHeater_state _ _⟩
      · rename_i hd
        exact .inl ⟨rfl, .inr (.inl (by simp_all))⟩

theorem HeaterFits.decide (h : HeaterFits s) (b : Bool) : HeaterFits (heaterDecide b s) := by
  intro hon ht
  rw [heaterDecide_pt] at ht
  obtain ⟨hs, -⟩ | ⟨d, g, hs⟩ := heaterDecide_state b s
  · exact h (hs ▸ hon) ht
  · exact heaterTarget_hibernate s d g ht (hs ▸ hon)

/-- A decision in HIBERNATE outside an event leaves the battery heater switch off, whatever it was. -/
theorem HeaterFits.decideIdle (hn : eventInProgress s = false) (b : Bool) : HeaterFits (heaterDecide b s) := by
  intro hon ht
  rw [heaterDecide_pt] at ht
  have target (d g : Bool) := heaterTarget_hibernate s d g ht
  obtain ⟨hs, hf | he | ⟨d, g, hd⟩⟩ | ⟨d, g, hs⟩ := heaterDecide_state b s
  · simp [hs, hf] at hon
  · simp [hn] at he
  · exact target d g (by rw [← hd, ← hs, hon])
  · exact target d g (hs ▸ hon)

theorem HeaterFits.lowCurrentTest (h : HeaterFits s) : HeaterFits (lowCurrentTest s) := by
  have fault : HeaterFits (enterFault s) := fun hon => by simp [enterFault, switchHeater_state] at hon
  have run (n : Nat) : HeaterFits (s.modHc fun x => { x with lowRun := n }) := h.same rfl rfl
  unfold Machine.lowCurrentTest
  exact keeps_ite (keeps_ite (keeps_ite fault (run _)) (run _)) (run _)

/-! ## Events and passes -/

theorem HeaterFits.closeEvent (h : HeaterFits s) (e : Option Time) (trunc : Bool) (final : DetectorState) :
    HeaterFits (closeEvent e trunc final s) := by
  unfold Machine.closeEvent
  dsimp only
  refine HeaterFits.decide (h.woken (Woken.raised (.trans (.trans (.same ?_ ?_) (storeClose_woken _)) (modTu_woken _ _)) _) ?_) _
  all_goals split <;> simp

theorem HeaterFits.truncateEvent (h : HeaterFits s) (final : DetectorState) : HeaterFits (truncateEvent final s) :=
  keeps_ite (h.closeEvent _ _ _) h

theorem HeaterFits.deliveryStart (h : HeaterFits s) (prev : Option Time) : HeaterFits (deliveryStart prev s) := by
  have closed (a b : Bool) : HeaterFits
      (if a = true then Machine.closeEvent prev false .idle s
      else if b = true then Machine.closeEvent prev true .idle (rebaseline s)
      else s) :=
    keeps_ite (h.closeEvent _ _ _) (keeps_ite (HeaterFits.closeEvent (h.same (by simp) (by simp)) _ _ _) h)
  have aux (x : State) (hx : HeaterFits x) : HeaterFits (x.modTu fun t => { t with auxPending := false }) := hx.same rfl rfl
  have opened (x : State) (hx : HeaterFits x) : HeaterFits (openExternal x) := hx.woken (openExternal_woken x) (by simp)
  unfold Machine.deliveryStart
  dsimp only
  exact keeps_ite (keeps_ite (opened _ (aux _ (closed _ _))) (aux _ (closed _ _))) (closed _ _)

theorem HeaterFits.beginDelivery (h : HeaterFits s) (t : Time) : HeaterFits (beginDelivery t s) := by
  unfold Machine.beginDelivery
  dsimp only
  refine keeps_ite (HeaterFits.deliveryStart ?_ _) h
  exact h.same rfl rfl

theorem HeaterFits.triggerPass (h : HeaterFits s) (c : Channel) (y : Int) (t : Time) (restart : Bool) :
    HeaterFits (triggerPass c y t restart s) := by
  have upd (f : TriggerChannel → TriggerChannel) (x : State) (hx : HeaterFits x) : HeaterFits (updChannel c f x) :=
    hx.same rfl rfl
  have joined (x : State) (hx : HeaterFits x) : HeaterFits (joinTriggerSet c x) := hx.woken (joinTriggerSet_woken x c) (by simp)
  have voted (x : State) (hx : HeaterFits x) : HeaterFits (evalVote x) := hx.woken (evalVote_woken x) (by simp)
  have peak (x : State) (n : Nat) (hx : HeaterFits x) : HeaterFits (takePeak c n t x) :=
    hx.woken (takePeak_woken x c n t) (by simp)
  have begun : HeaterFits (if restart = true then updChannel c enterWarmup (Machine.beginDelivery t s)
      else Machine.beginDelivery t s) := keeps_ite (upd _ _ (h.beginDelivery t)) (h.beginDelivery t)
  unfold Machine.triggerPass
  dsimp only
  generalize (if restart = true then updChannel c enterWarmup (Machine.beginDelivery t s) else Machine.beginDelivery t s) = x
    at begun ⊢
  have passed := upd (channelPass x.tu (charValue y) t) _ begun
  generalize updChannel c (channelPass x.tu (charValue y) t) x = z at passed ⊢
  have vote (b : Bool) : HeaterFits (evalVote (if b = true then joinTriggerSet c z else z)) :=
    voted _ (keeps_ite (joined _ passed) passed)
  exact upd _ _ (keeps_ite (peak _ _ (vote _)) (vote _))

theorem HeaterFits.nextFilterPass (h : HeaterFits s) : HeaterFits (nextFilterPass s) := by
  have pass (x : State) (c : Channel) (v : Int) (t : Time) (hx : HeaterFits x) : HeaterFits (channelFilterPass c v t x) := by
    have ctx (f : FilterContext → FilterContext) : HeaterFits (modContext c f x) := hx.same rfl rfl
    exact HeaterFits.triggerPass (keeps_ite ((ctx _).woken (.flag _ _) (by simp)) (ctx _)) _ _ _ _
  unfold Machine.nextFilterPass
  split
  · exact h
  · exact h.same rfl rfl
  · exact pass _ _ _ _ (h.same rfl rfl)

/-! ## The tier -/

theorem applyEnabled_disarmed (old new : Tier) (hd : s.tu.det = .disarmed) : (applyEnabled old new s).tu.det = .disarmed := by
  have one (x : State) (c : Channel) (hx : x.tu.det = .disarmed) : (channelAtTier old new x c).tu.det = .disarmed := by
    have updated (f : TriggerChannel → TriggerChannel) : (updChannel c f x).tu.det = .disarmed := hx
    unfold channelAtTier channelLeaves channelJoins
    (repeat' split) <;> simp [updated, hx]
  have all : (channels.foldl (channelAtTier old new) s).tu.det = .disarmed :=
    List.foldlRecOn (motive := fun x => x.tu.det = .disarmed) _ _ hd fun x hx c _ => one x c hx
  have vote (x : State) (hx : x.tu.det = .disarmed) : evalVote x = x := by
    unfold evalVote
    rw [hx]
    exact ite_self _
  unfold applyEnabled
  dsimp only
  rw [vote _ all, ite_self]
  exact all

/-- A change of tier leaves the battery heater switch as the new tier has it: the entry to HIBERNATE ends the event before the
decision, so that nothing defers it (R170, R173). -/
theorem HeaterFits.tierChange (startUp : Bool) (new : Tier) (s : State) : HeaterFits (tierChange startUp new s) := by
  by_cases hn : new = .hibernate
  case neg => exact fun _ => by rwa [tierChange_tier]
  subst hn
  unfold Machine.tierChange
  dsimp only
  generalize sensorForTier .hibernate (announceTier startUp .hibernate s) = x
  have disarmed : eventInProgress (patrolForTier s.pt.tier .hibernate
      (applyEnabled s.pt.tier .hibernate (detectorForTier s.pt.tier .hibernate x))) = false := by
    have hd := applyEnabled_disarmed (s := detectorForTier s.pt.tier .hibernate x) s.pt.tier .hibernate rfl
    have hp (y : State) (hy : y.tu.det = .disarmed) : (patrolForTier s.pt.tier .hibernate y).tu.det = .disarmed := by simp [hy]
    simp only [eventInProgress, hp _ hd, reduceCtorEq, decide_false, Bool.or_self]
  have decided := HeaterFits.decideIdle disarmed false
  generalize heaterDecide false (patrolForTier _ _ _) = y at decided ⊢
  simp only [reduceCtorEq, or_self, and_false, if_false, if_true]
  refine HeaterFits.woken ?_ ((syncModem_woken (enterHibernate y)).trans (gaspCheck_woken _)) (by simp)
  exact decided.same rfl rfl

theorem HeaterFits.tierScan (h : HeaterFits s) (startUp : Bool) : HeaterFits (tierScan startUp s) := by
  have exit : HeaterFits (hibernateScan startUp s) := by
    unfold hibernateScan
    exact keeps_ite (keeps_ite (.tierChange _ _ _) (keeps_ite (h.same rfl rfl) h)) h
  unfold Machine.tierScan
  exact keeps_ite exit (keeps_ite h (.tierChange _ _ _))

theorem HeaterFits.scan (h : HeaterFits s) (raw : RawScan) : HeaterFits (scan raw s) := by
  have counted : HeaterFits (chargeWork (chargeStep s.hm.interval (takeScan raw s).hm.readings) (takeScan raw s)) :=
    h.woken ((takeScan_woken s raw).trans (chargeWork_woken _ _)) (by simp)
  unfold Machine.scan
  exact ((counted.lowCurrentTest.tierScan false).decide false).woken (endScan_woken _ _) (by simp)

theorem HeaterFits.completeExit (h : HeaterFits s) : HeaterFits (completeExit s) := by
  have returned : HeaterFits ((returnToMain s).modPt fun p => { p with exitMark := false }) :=
    (h.woken (returnToMain_woken s) (by simp)).same rfl rfl
  exact keeps_ite (P := HeaterFits) (.tierChange _ _ _) (returned.woken (toWatchClock_woken _) (by simp))

theorem HeaterFits.startStore (h : HeaterFits s) : HeaterFits (startStore s) :=
  h.woken (startStore_woken s) ((startStore_changes s).hc (by simp))

theorem HeaterFits.powerOn (raw : RawScan) (s : State) : HeaterFits (powerOn raw s) := by
  unfold Machine.powerOn
  dsimp only
  have booted (t : Tier) (x : State) (hx : x.hc.state = .off) : HeaterFits (bootRails t x) := fun hon => by
    rw [bootRails_eq] at hon
    simp [hx] at hon
  have rails : HeaterFits (bootRails (bootTier (bootScanned raw s))
      { resetBlocks (loadedSettings s.sm) (bootTier (bootScanned raw s)) (bootScanned raw s) with
        hm := (bootScanned raw s).hm }) := booted _ _ (by simp [resetBlocks, bootScanned, resetHeater])
  generalize bootTier (bootScanned raw s) = t at rails ⊢
  have offered : HeaterFits (offerAlert .pwr (.tier t) (Machine.startStore (bootRails t _))) :=
    rails.startStore.woken (offerAlert_woken _ _ _) (by simp)
  have decided := offered.lowCurrentTest.decide false
  generalize heaterDecide false _ = y at decided ⊢
  have entered : HeaterFits (enterHibernate y) := decided.same rfl rfl
  refine HeaterFits.woken (keeps_ite entered decided)
    (((syncModem_woken _).trans (gaspCheck_woken _)).trans (endScan_woken _ _)) (by simp)

theorem HeaterFits.pinReset (h : HeaterFits s) (raw : RawScan) : HeaterFits (pinReset raw s) := by
  have loaded : HeaterFits (pinLoaded s) := by
    unfold pinLoaded
    dsimp only
    refine HeaterFits.woken (HeaterFits.startStore ?_) (syncModem_woken _) (by simp)
    exact h.same rfl rfl
  have scanned : HeaterFits (chargeWork id (takeScan raw (pinLoaded s))) :=
    loaded.woken ((takeScan_woken _ raw).trans (chargeWork_woken _ _)) (by simp)
  have tier (x : State) (hx : HeaterFits x) : HeaterFits (pinTierScan x) :=
    keeps_ite (P := HeaterFits) ((hx.tierScan true).woken (offerAlert_woken _ _ _) (by simp)) (hx.tierScan true)
  unfold Machine.pinReset
  exact ((tier _ scanned.lowCurrentTest).decide false).woken (endScan_woken _ _) (by simp)

/-! ## Every command -/

theorem HeaterFits.setHeater (h : HeaterFits s) (x : HeaterParams) : HeaterFits (setHeater x s) := by
  refine HeaterFits.decide ?_ false
  exact h.same rfl rfl

theorem HeaterFits.settingsDefaults (h : HeaterFits s) (p : List Byte) : HeaterFits (Machine.settingsDefaults p s).2 := by
  have filters (x : State) := ChangesOnly.foldl defaultFilter_changes channels x
  have set (x : State) (hhc : x.hc = s.hc) (hpt : x.pt.tier = s.pt.tier) : HeaterFits (Machine.setHeater defaultHeater x) :=
    HeaterFits.setHeater (h.same (by rw [hhc]) hpt) _
  unfold Machine.settingsDefaults applyDefaults
  split
  · exact h
  · dsimp only
    generalize hx : setTable defaultTable _ = x
    refine (set x (by simp [← hx]) (by simp [← hx, setTier])).same ?_ ?_
    · rw [State.modSm_hc, (filters _).hc (by simp)]
    · rw [State.modSm_pt, (filters _).pt (by simp)]

/-- A command that has nothing to do with the heater keeps the tier. -/
theorem work_tier (c : Instr) (s : State) (hb : Block.hc ∉ footprint c) : (work c s).pt.tier = s.pt.tier := by
  have answered := fun (x : List Byte) (e : AtReplyEnd) (t : State) (h : t.pt.tier = s.pt.tier) =>
    (h : (answer x e t).pt.tier = s.pt.tier)
  have frame (hp : Block.pt ∉ footprint c) : (Machine.work c s).pt.tier = s.pt.tier :=
    (work_effect c s).keeps (P := fun t => t.pt.tier = s.pt.tier) answered fun t ht => by rw [ht.pt hp]
  have orSame {b : Prop} [Decidable b] {t : State} (ht : t.pt.tier = s.pt.tier) : (if b then t else s).pt.tier = s.pt.tier :=
    keeps_ite (P := fun t => t.pt.tier = s.pt.tier) ht rfl
  have served {kind : Byte} {f : List Byte → State → List Byte × State} (hf : ∀ p, (f p s).2.pt.tier = s.pt.tier) :
      (serve kind f s).pt.tier = s.pt.tier := serve_keeps (P := fun t => t.pt.tier = s.pt.tier) answered hf rfl
  have request {n : Nat} {kind : Byte} {f : List Byte → State → List Byte × State} (hf : ∀ p, (f p s).2.pt.tier = s.pt.tier) :
      (serve kind (withLength n f) s).pt.tier = s.pt.tier :=
    served (withLength_keeps (P := fun t => t.pt.tier = s.pt.tier) (fun p _ => hf p) rfl)
  have sensed {t : State} (h : t.pt.sensed = s.pt.sensed) : t.pt.tier = s.pt.tier := congrArg Prod.fst h
  cases c <;> dsimp only [Machine.work] at frame ⊢
  case refpPulse => exact orSame (pulseEdge_woken s).tier
  case referenceLoss => exact orSame (orSame (loseReference_woken s).tier)
  case wholeSecond => exact orSame (mainSecond_woken s).tier
  case watchWholeSecond => exact orSame (watchSecond_woken s).tier
  case sampleStrobe => exact (takeStrobe_woken s).tier
  case digitizerFrame d bytes => exact orSame (Woken.foldl digitizerByte_woken bytes s).tier
  case patrolRead d xs =>
    have read := (patrolRead_woken (applyUpsets s xs)).trans (.same (t := freshPatrol (patrolRead (applyUpsets s xs))) rfl rfl)
    exact keeps_ite (P := fun t => t.pt.tier = s.pt.tier) read.tier rfl
  case railWindowMark => exact orSame (railMark_woken s).tier
  case uplinkDecision => exact orSame (decideUplink_woken s).tier
  case issueInstant d mbf => exact (issueAfter_woken _ mbf).tier
  case taken | refused | done | modemFrameDiscard => exact (receiveModem_woken s _).tier
  case awaitTakenTimeout | awaitDoneTimeout => exact orSame (orSame (endAttempt_woken s _).tier)
  case lastGaspLimit => exact (gaspCheck_woken s).tier
  case graceDeadline => exact sensed (endGrace_sensed s)
  case dozeDeadline => exact sensed (endDoze_sensed s)
  case cycleEnd => exact sensed (endCycle_sensed s)
  case hostSilenceExpiry => exact orSame (sensed (supervise_sensed s))
  case linkFrame d bytes => exact orSame (sensed (foldl_keeps (fun s => s.pt.sensed) _ (fun s b => by simp) bytes s))
  case linkFrameDiscard d b stopLow =>
    exact orSame (keeps_ite (P := fun t => t.pt.tier = s.pt.tier) (by simp) (sensed (linkByte_sensed s b)))
  case replyComplete => exact sensed (completeReply_sensed s)
  case settingsSaveComplete d agrees =>
    unfold completeSave
    split
    · exact (gaspCheck_woken _).tier
    · rfl
  case timeSet => exact request fun p => (timeSet_woken s p).tier
  case waveRead d xs =>
    exact serve_keeps (P := fun t => t.pt.tier = s.pt.tier) answered (withLength_keeps (P := fun t => t.pt.tier = s.pt.tier)
      (fun p _ => (waveRead_woken (applyUpsets s xs) p).tier) rfl) rfl
  case alertPost => exact served fun p => (alertPost_woken s p).tier
  case alertCancel => exact request fun p => (alertCancel_woken s p).tier
  case hostSleep =>
    exact serveWith_keeps (P := fun t => t.pt.tier = s.pt.tier) answered (fun p => sensed (hostSleep_sensed p s)) rfl
  case tierSet =>
    refine served fun p => ?_
    unfold Machine.tierSet tierSetStatus
    dsimp only
    (repeat' split) <;> rfl
  case powerOnReset | pinReset | filterPass | housekeepingScan | heaterDeferDeadline | settleEnd | restartDetection
    | settingsDefaults | detectArm | heaterSet | heaterFaultClear => simp [footprint] at hb
  all_goals exact frame (by simp [footprint])

theorem HeaterFits.work (c : Instr) (h : HeaterFits s) : HeaterFits (work c s) := by
  have answered := fun x e (t : State) (h : HeaterFits t) => (h.same rfl rfl : HeaterFits (answer x e t))
  have frame (hb : Block.hc ∉ footprint c) : HeaterFits (Machine.work c s) :=
    h.same (by rw [(work_changes c s).hc (by simp [hb])]) (work_tier c s hb)
  have served {kind : Byte} {f : List Byte → State → List Byte × State} (hf : ∀ p, HeaterFits (f p s).2) :
      HeaterFits (serve kind f s) := serve_keeps answered hf h
  have request {n : Nat} {kind : Byte} {f : List Byte → State → List Byte × State} (hf : ∀ p, HeaterFits (f p s).2) :
      HeaterFits (serve kind (withLength n f) s) := served (withLength_keeps (fun p _ => hf p) h)
  cases c <;> dsimp only [Machine.work] at frame ⊢
  case powerOnReset d raw => exact .powerOn raw s
  case pinReset d raw => exact h.pinReset raw
  case filterPass => exact keeps_ite (P := HeaterFits) h.nextFilterPass h
  case housekeepingScan d raw => exact keeps_ite (h.scan raw) h
  case settleEnd => exact keeps_ite h.completeExit h
  case heaterDeferDeadline => exact keeps_ite (h.decide true) h
  case heaterSet =>
    refine served fun p => ?_
    unfold Machine.heaterSet heaterSetStatus
    dsimp only
    (repeat' split) <;> first | exact h | exact h.setHeater _
  case heaterFaultClear =>
    refine request fun p => ?_
    unfold Machine.heaterFaultClear
    split
    · exact HeaterFits.decide (fun hon => by simp at hon) _
    · exact h
  case settingsDefaults => exact request h.settingsDefaults
  case restartDetection =>
    refine serveWith_keeps answered (withLength_keeps (fun p _ => ?_) h) h
    unfold restartDetectionRequest
    split
    · exact (h.truncateEvent .idle).same (by simp [Machine.restartDetection]) (by simp [Machine.restartDetection])
    · exact h
  case detectArm =>
    refine request fun p => ?_
    unfold Machine.detectArm
    dsimp only
    split
    · exact h
    · exact keeps_ite (h.same (by simp) (by simp)) ((h.truncateEvent .disarmed).same rfl rfl)
  all_goals exact frame (by simp [footprint])

end

/-- Settles O60: the work of every command keeps the rails as the tier has them, and the battery heater off in HIBERNATE. -/
theorem stepKeepsRailsAndHeater : Obligations.StepKeepsRailsAndHeater := by
  refine ⟨fun s t hs hstep => ?_, fun s t hs hstep => ?_⟩
  · obtain ⟨host, sensor⟩ := (railInv_iff s).mp hs
    have fit := step_keeps (P := RailsFit) (fun _ _ h => h.same rfl rfl) (fun _ _ h => h.same rfl rfl) (fun c _ h => h.work c)
      hstep ⟨host, sensor⟩
    exact (railInv_iff t).mpr ⟨fit.host, fit.sensor⟩
  · rw [heaterInv_iff] at hs ⊢
    exact step_keeps (P := HeaterFits) (fun _ _ h => h.same rfl rfl) (fun _ _ h => h.same rfl rfl) (fun c _ h => h.work c)
      hstep hs

end Sys2Proof.Machine

/-! PROOFS. The step itself (O1), the state after reset (O56), totality and the supply (O2). -/

namespace Sys2Proof.Machine

/-- Settles O1: the step takes the front command by its definition. -/
theorem stepRunsFrontCommand : Obligations.StepRunsFrontCommand := by
  intro c rest s hs
  simp [step, hs]

/-! ## The state after reset -/

/-- The pages right after reset: each channel fills the first page of its ring. -/
def firstPages (p : PageId) : Page :=
  if p = 0 then { freePage with state := .ring .z, filling := true }
  else if p = 1 then { freePage with state := .ring .n, filling := true }
  else if p = 2 then { freePage with state := .ring .e, filling := true }
  else freePage

theorem reset_page (p : PageId) : State.reset.ws.pages.get p = firstPages p := by
  revert p
  decide +kernel

/-- The three first pages are the only ones that are not free, each the filling page of the channel of its number. -/
theorem reset_pages : PageInv State.reset := by
  have chan (c : Channel) : State.reset.ws.chans.get c =
      { route := .ring, ring := [], filling := some (match c with | .z => 0 | .n => 1 | .e => 2), pair := none, dropped := 0 } := by
    cases c <;> rfl
  have lists (n : Nat) (c : Channel) : State.reset.ws.eventList n c = [] := rfl
  constructor
  case events => exact .nil
  case free | faulty => 
    intro p
    rw [reset_page]
    unfold firstPages freePage
    (repeat' split) <;> simp
  case ring =>
    intro p c
    rw [reset_page, chan]
    cases c <;> revert p <;> decide +kernel
  case event =>
    intro p n c
    rw [reset_page, lists]
    unfold firstPages freePage
    (repeat' split) <;> simp
  case once => exact ⟨fun c => by rw [chan]; simp, fun n c => by rw [lists]; exact .nil⟩
  case filling =>
    intro p
    rw [reset_page]
    unfold firstPages freePage
    simp only [chan, Option.some.injEq]
    constructor
    · intro h
      split at h
      · exact ⟨.z, ‹p = 0›.symm⟩
      · split at h
        · exact ⟨.n, ‹p = 1›.symm⟩
        · split at h
          · exact ⟨.e, ‹p = 2›.symm⟩
          · cases h
    · rintro ⟨c, rfl⟩
      cases c <;> rfl
  case fills => exact fun c p _ => .inl (by rw [chan])
  case pair => exact fun c _ => by rw [chan]
  case rings => exact fun c _ => .inl (by rw [chan])
  case off => intro c; rw [chan]; cases c <;> decide

theorem reset_count : CountInv State.reset := fun p => by
  rw [reset_page]
  unfold firstPages freePage
  (repeat' split) <;> simp

theorem reset_timeBase : TimeBaseInv State.reset ∧ ClockInv State.reset := by
  have drift : DriftOk State.reset.tb.drift := fun i => by revert i; decide
  refine ⟨⟨by decide, by decide, by decide, drift, ?_⟩, ⟨by decide, by decide⟩, by decide, by decide, by decide, ?_⟩
  · constructor <;> exact fun x h => nomatch h
  · exact fun l h => nomatch h

theorem reset_charge : ChargeInv State.reset := by
  refine ⟨by decide, by decide, by decide, defaultLimits_ok, defaultTable_ok, ?_⟩
  constructor <;> exact fun x h => nomatch h

/-- Settles O56: each invariant of the reset state by evaluation of the few fields it speaks of. -/
theorem resetMeetsInvariants : Obligations.ResetMeetsInvariants := by
  refine ⟨reset_timeBase.1, reset_timeBase.2, reset_memory, reset_pages, reset_count, reset_charge,
    ⟨rfl, by decide, by decide, by decide⟩, nofun, ⟨by decide, by decide, by decide⟩,
    ⟨by decide, by decide, by decide, by decide⟩, rfl, rfl, rfl, rfl, rfl, rfl, rfl, rfl, rfl, fun c => ?_, rfl, rfl, rfl, rfl, rfl,
    rfl, rfl, rfl, ?_⟩
  · cases c <;> exact ⟨rfl, rfl, rfl, rfl⟩
  · decide

end Sys2Proof.Machine

/-! PROOFS. Totality and the supply (O2), and the turn and the length of requests (O3). -/

namespace Sys2Proof.Machine

/-! ## Totality and the supply -/

theorem work_pending (c : Instr) (s : State) : (work c s).pending = s.pending :=
  (work_changes c s).pending (by cases c <;> simp [footprint])

/-- Settles O2: the next states of a command are its work, its work after its time, or the state itself. -/
theorem commandsAnswerAndSupplyLossStops : Obligations.CommandsAnswerAndSupplyLossStops := by
  refine ⟨⟨fun c s => ?_, fun s hs => ?_⟩, fun d s hp => ?_, fun c s hp hc => ?_⟩
  · obtain he | he | he := exec_cases c s
    · exact ⟨_, he, work_pending c s⟩
    · exact ⟨_, he, work_pending c _⟩
    · exact ⟨s, he, rfl⟩
  · simp [step, hs]
  · rw [exec_eq_timed _ _ (by simp), timed_powered _ _ _ hp]
    rfl
  · rw [exec_eq_timed _ _ hc, timed_unpowered _ _ _ hp]

/-! ## The turn of a request -/

/-- No request of the kind is the next one. -/
def NotNext (s : State) (kind : Byte) : Prop := ∀ r, nextRequest s = some r → r.kind ≠ kind

theorem nextRequest_none {s : State}
    (h : s.sl.barrier = true ∨ s.sl.executing = true ∨ ∀ r ∈ s.sl.list, r.progress ≠ .waiting) : nextRequest s = none := by
  obtain h | h | h := h
  · simp [nextRequest, h]
  · simp [nextRequest, h]
  · simpa [nextRequest] using fun _ _ => h

/-- What the statement calls not the next one. -/
theorem NotNext.of_turn {s : State} {kind : Byte}
    (h : s.sl.barrier = true ∨ s.sl.executing = true ∨ (∀ r ∈ s.sl.list, r.progress ≠ .waiting) ∨
      ∃ pre r post, Front s pre r post ∧ r.kind ≠ kind) : NotNext s kind := by
  rw [← or_assoc, ← or_assoc, or_assoc (a := s.sl.barrier = true)] at h
  obtain h | ⟨pre, r, post, hf, hk⟩ := h
  · simp [NotNext, nextRequest_none h]
  · intro x hx
    rw [hf.next] at hx
    cases hx
    exact hk

section

variable {s : State} {kind : Byte}

theorem serveWith_idle {mine : Request → Bool} (h : ∀ r, nextRequest s = some r → mine r = false)
    (f : List Byte → State → (List Byte × AtReplyEnd) × State) : serveWith mine f s = s := by
  unfold serveWith
  split
  · rw [h _ ‹_›]
    rfl
  · rfl

theorem NotNext.serve (h : NotNext s kind) (f : List Byte → State → List Byte × State) : serve kind f s = s :=
  serveWith_idle (fun r hr => by simpa using h r hr) _

theorem NotNext.serveWith (h : NotNext s kind) {also : Request → Bool}
    (f : List Byte → State → (List Byte × AtReplyEnd) × State) : serveWith (fun r => r.kind = kind && also r) f s = s :=
  serveWith_idle (fun r hr => by simp [h r hr]) _

theorem NotNext.settingsSave (h : NotNext s kSettingsSave) : settingsSave s = s := by
  unfold Machine.settingsSave
  split
  · exact if_neg (h _ ‹_›)
  · rfl

theorem NotNext.hostSleep (h : NotNext s kHostSleep) (f : List Byte → State → (List Byte × AtReplyEnd) × State) :
    Machine.serveWith (fun r => r.kind = kHostSleep) f s = s := serveWith_idle (fun r hr => by simpa using h r hr) _

theorem NotNext.serveBattery (h : NotNext s kBatterySet) (part : Byte) (f : List Byte → State → List Byte × State) :
    serveBattery part f s = s := h.serveWith _

theorem NotNext.restartDetection (h : NotNext s kRestart) (d : Elapsed) : work (.restartDetection d) s = s := by
  dsimp only [Machine.work]
  exact h.serveWith _

/-- A request command does nothing when no request of its kind is the next one. -/
theorem NotNext.work {x : (Elapsed → Instr) × Byte} (hx : x ∈ requestKinds) (h : NotNext s x.2) (d : Elapsed) :
    work (x.1 d) s = s := by
  revert x
  simp only [requestKinds, fixedRequests, otherRequests, List.map_cons, List.map_nil, List.cons_append, List.nil_append,
    List.forall_mem_cons, List.not_mem_nil, false_implies, implies_true, and_true]
  and_intros <;> intro h
  all_goals first
    | exact h.serve _
    | exact h.settingsSave
    | exact h.hostSleep _
    | exact NotNext.serveWith (kind := kRestart) h _
    | exact h.restartDetection d
    | exact h.serveBattery _ _

end

theorem exec_request {x : (Elapsed → Instr) × Byte} (hx : x ∈ requestKinds) (d : Elapsed) (s : State) (hp : s.powered = true) :
    exec (x.1 d) s = .next (work (x.1 d) (s.elapse d)) := by
  revert x
  simp only [requestKinds, fixedRequests, otherRequests, List.map_cons, List.map_nil, List.cons_append, List.nil_append,
    List.forall_mem_cons, List.not_mem_nil, false_implies, implies_true, and_true]
  and_intros <;> exact timed_powered _ _ _ hp

/-- A row of RESTART or BATTERY SET serves the requests of its kind that name its code or none of the kind's codes. -/
theorem work_part {x : (Elapsed → Instr) × Byte × Byte} (hx : x ∈ partRequests) (d : Elapsed) :
    ∃ codes f, (∀ s, work (x.1 d) s = serveWith (fun r => r.kind = x.2.1 && namesOrNone x.2.2 codes r.payload) f s) ∧
      ∀ y ∈ partRequests, y.2.1 = x.2.1 → y.2.2 ∈ codes := by
  revert x
  simp only [partRequests, List.forall_mem_cons, List.not_mem_nil, false_implies, implies_true, and_true]
  and_intros <;> dsimp only [work, serveBattery]
  · exact ⟨scopes, _, fun _ => rfl, by decide⟩
  · exact ⟨scopes, _, fun _ => rfl, by decide⟩
  · exact ⟨batteryParts, _, fun _ => rfl, by decide⟩
  · exact ⟨batteryParts, _, fun _ => rfl, by decide⟩
  · exact ⟨batteryParts, _, fun _ => rfl, by decide⟩

/-- A row that executes one scope or part leaves a request that names another alone. -/
theorem work_otherPart {x y : (Elapsed → Instr) × Byte × Byte} (hx : x ∈ partRequests) (hy : y ∈ partRequests)
    (hne : x.2.1 ≠ y.2.1 ∨ x.2.2 ≠ y.2.2) {s : State} {r : Request} {p : List Byte} (hn : nextRequest s = some r)
    (hk : r.kind = y.2.1) (hp : r.payload = y.2.2 :: p) (d : Elapsed) : work (x.1 d) s = s := by
  obtain ⟨codes, f, hw, hcodes⟩ := work_part hx d
  rw [hw]
  refine serveWith_idle (fun r' hr' => ?_) f
  cases hn.symm.trans hr'
  by_cases hkind : y.2.1 = x.2.1
  · have hcode : x.2.2 ≠ y.2.2 := hne.resolve_left fun h => h hkind.symm
    have named := hcodes y hy hkind
    simp only [hk, hp, namesOrNone, namesCode, List.head?_cons, Option.some.injEq, Bool.and_eq_false_imp, Bool.or_eq_false_iff]
    exact fun _ => ⟨by simpa using hcode.symm, by simpa using named⟩
  · simp [hk, hkind]

theorem exec_part {x : (Elapsed → Instr) × Byte × Byte} (hx : x ∈ partRequests) (d : Elapsed) (s : State)
    (hp : s.powered = true) : exec (x.1 d) s = .next (work (x.1 d) (s.elapse d)) := by
  revert x
  simp only [partRequests, List.forall_mem_cons, List.not_mem_nil, false_implies, implies_true, and_true]
  and_intros <;> exact timed_powered _ _ _ hp

/-- Every request of a known kind has a kind of the kind code list. -/
theorem requestKinds_known {x : (Elapsed → Instr) × Byte} (hx : x ∈ requestKinds) : knownKinds.contains x.2 = true := by
  have kinds : ∀ k ∈ requestKinds.map Prod.snd, knownKinds.contains k = true := by decide
  exact kinds _ (List.mem_map_of_mem hx)

section

variable {s : State} {pre post : List Request} {r : Request} {d : Elapsed}

theorem Front.settingsSave_badLength (h : Front s pre r post) (hk : r.kind = kSettingsSave) (hn : r.payload.length ≠ 0) :
    Answers (.settingsSave d) s pre r post (s.elapse d) [stBadLength] := by
  have hp : r.payload ≠ [] := mt (congrArg List.length) hn
  have saved : settingsSave (s.elapse d) = answer [stBadLength] .nothing (s.elapse d) := by
    simp [settingsSave, (h.elapse d).next, hk, hp]
  rw [Answers, exec_eq_timed _ _ (by simp), h.timed]
  refine congrArg Host.Outcome.next (saved.trans ?_)
  simp [answer, State.modSl, StationLink.replied, h.list, moveFirst_waiting _ _ h.executed h.waiting]

theorem Front.waveRead_badLength (h : Front s pre r post) (hk : r.kind = kWaveRead) (hn : r.payload.length ≠ 10) :
    Answers (.waveRead d []) s pre r post (s.elapse d) [stBadLength] :=
  h.answers (kind := kWaveRead) hk rfl (withLength_of_length_ne hn _ _) rfl

theorem Front.hostSleep_badLength (h : Front s pre r post) (hk : r.kind = kHostSleep) (hn : r.payload.length ≠ 5) :
    Answers (.hostSleep d) s pre r post (s.elapse d) [stBadLength] := by
  have refused : hostSleep r.payload (s.elapse d) = (([stBadLength], .nothing), s.elapse d) := if_pos hn
  rw [Answers, exec_eq_timed _ _ (by simp), h.timed]
  exact congrArg _ (serveWith_front (h.elapse d) (by simp [hk]) refused rfl)

end

theorem Front.badLength {x : (Elapsed → Instr) × Byte × Nat} (hx : x ∈ fixedRequests) (d : Elapsed) {s : State}
    {pre post : List Request} {r : Request} (h : Front s pre r post) (hk : r.kind = x.2.1) (hn : r.payload.length ≠ x.2.2) :
    Answers (x.1 d) s pre r post (s.elapse d) [stBadLength] := by
  revert x
  simp only [fixedRequests, List.forall_mem_cons, List.not_mem_nil, false_implies, implies_true, and_true]
  and_intros <;> intro hk hn
  all_goals first
    | exact h.settingsSave_badLength hk hn
    | exact h.waveRead_badLength hk hn
    | exact h.hostSleep_badLength hk hn
    | exact h.answers_badLength hk rfl hn

/-- Settles O3: a served request's length is tested first, and what is not the next request is not served. -/
theorem requestsNeedTheirTurnAndLength : Obligations.RequestsNeedTheirTurnAndLength := by
  refine ⟨fun x hx d s pre r post h hk hn => h.badLength hx d hk hn, fun x hx d s hp ht => ?_, fun d s hp ht => ?_,
    fun x hx y hy d s pre r post p h hk hr hne => ?_⟩
  · rw [exec_request hx d s hp]
    exact congrArg _ (NotNext.work (s := s.elapse d) hx (NotNext.of_turn (s := s) ht) d)
  · have known : ∀ r, nextRequest s = some r → (!knownKinds.contains r.kind) = false := by
      rw [← or_assoc, ← or_assoc, or_assoc (a := s.sl.barrier = true)] at ht
      obtain hnone | ⟨pre, r, post, hf, x, hx, hk⟩ := ht
      · simp [nextRequest_none hnone]
      · intro r' hr'
        cases hf.next.symm.trans hr'
        rw [hk, requestKinds_known hx, Bool.not_true]
    rw [exec_eq_timed _ _ (by simp), timed_powered _ _ _ hp]
    refine congrArg Host.Outcome.next ?_
    dsimp only [work]
    exact serveWith_idle (s := s.elapse d) known _
  · rw [exec_part hx d s h.powered]
    exact congrArg _ (work_otherPart hx hy hne (h.elapse d).next hk hr d)

end Sys2Proof.Machine

/-! PROOFS. Fields of payloads: what is written into bytes is read back, and codes are decoded (R189, R204). -/

namespace Sys2Proof.Machine

/-! ## Unsigned fields -/

@[simp] theorem putU_length (k v : Nat) : (putU k v).length = k := by
  induction k generalizing v with
  | zero => rfl
  | succ k ih => simp [putU, ih]

@[simp] theorem putS_length (k : Nat) (v : Int) : (putS k v).length = k := putU_length _ _

@[simp] theorem putMark_length (b : Bool) : (putMark b).length = 1 := rfl

theorem be_append (a b : List Byte) : be (a ++ b) = be a * 256 ^ b.length + be b := by
  induction b using List.reverseRecOn with
  | nil => simp [be]
  | append_singleton b x ih =>
    have snoc (l : List Byte) : be (l ++ [x]) = be l * 256 + x.toNat := by simp [be]
    rw [← List.append_assoc, snoc, snoc, ih, List.length_append, List.length_singleton, pow_succ]
    ring

theorem be_putU (k v : Nat) : be (putU k v) = v % 256 ^ k := by
  induction k generalizing v with
  | zero => simp [putU, be, Nat.mod_one]
  | succ k ih =>
    have byte : be [BitVec.ofNat 8 v] = v % 256 := by simp [be]
    rw [putU, be_append, ih, byte, List.length_singleton, pow_one, pow_succ', Nat.mod_mul, add_comm, mul_comm]

theorem be_putU_of_lt {k v : Nat} (h : v < 256 ^ k) : be (putU k v) = v := (be_putU k v).trans (Nat.mod_eq_of_lt h)

/-! ## Fields of a payload -/

theorem slice_append_right {a : List Byte} {off : Nat} (h : a.length ≤ off) (b : List Byte) (len : Nat) :
    slice (a ++ b) off len = slice b (off - a.length) len := by
  rw [slice, slice, List.drop_append, List.drop_eq_nil_of_le h, List.nil_append]

theorem slice_append_left (a b : List Byte) : slice (a ++ b) 0 a.length = a := by simp [slice]

theorem getU_append_right {a : List Byte} {off : Nat} (h : a.length ≤ off) (b : List Byte) (len : Nat) :
    getU (a ++ b) off len = getU b (off - a.length) len := congrArg be (slice_append_right h b len)

/-- The field at the front of a payload. -/
theorem getU_putU {k v : Nat} (h : v < 256 ^ k) (b : List Byte) : getU (putU k v ++ b) 0 k = v := by
  have front := slice_append_left (putU k v) b
  rw [putU_length] at front
  rw [getU, front, be_putU_of_lt h]

theorem getU_skip {k off : Nat} (h : k ≤ off) (v : Nat) (b : List Byte) (len : Nat) :
    getU (putU k v ++ b) off len = getU b (off - k) len := by
  have skip := getU_append_right (a := putU k v) (off := off) (by rwa [putU_length]) b len
  rwa [putU_length] at skip

theorem getD_skip {k i : Nat} (h : k ≤ i) (v : Nat) (b : List Byte) (x : Byte) :
    (putU k v ++ b).getD i x = b.getD (i - k) x := by
  simp only [List.getD_eq_getElem?_getD]
  rw [List.getElem?_append_right (by rwa [putU_length]), putU_length]

theorem getU_byte (b : Byte) (p : List Byte) : getU (b :: p) 0 1 = b.toNat := by simp [getU, slice, be]

/-! ## Signed fields -/

theorem beSigned_putS {k : Nat} {v : Int} (hk : 0 < k) (hlo : -(128 * 256 ^ (k - 1) : Nat) ≤ v) (hhi : v < (128 * 256 ^ (k - 1) : Nat)) :
    beSigned (putS k v) = v := by
  obtain ⟨k, rfl⟩ : ∃ j, k = j + 1 := ⟨k - 1, by omega⟩
  simp only [Nat.add_sub_cancel] at hlo hhi
  unfold beSigned
  rw [putS_length, putS]
  have hm : (256 ^ (k + 1) : Nat) = 2 * (128 * 256 ^ k) := by rw [pow_succ]; ring
  rw [hm]
  generalize 128 * 256 ^ k = m at hlo hhi hm
  have hlt : (v % ((2 * m : Nat) : Int)).toNat < 256 ^ (k + 1) := by
    rw [hm]
    have hpos : (0 : Int) < (2 * m : Nat) := by omega
    have nonneg := Int.emod_nonneg v hpos.ne'
    have lt := Int.emod_lt_of_pos v hpos
    omega
  rw [be_putU_of_lt hlt]
  dsimp only
  by_cases hv : 0 ≤ v
  · rw [Int.emod_eq_of_lt hv (by omega)]
    split <;> omega
  · have : v % ((2 * m : Nat) : Int) = v + (2 * m : Nat) := by
      rw [← Int.add_emod_right, Int.emod_eq_of_lt (by omega) (by omega)]
    rw [this]
    split <;> omega

/-! ## Codes -/

theorem channelOfCode_code (c : Channel) : channelOfCode c.code = some c := by cases c <;> rfl

theorem channelOfCode_none {b : Byte} (h : 2 < b.toNat) : channelOfCode b = none := by
  unfold channelOfCode
  (repeat' split) <;> simp_all

theorem auxEdgeOfCode_code (e : AuxEdge) : auxEdgeOfCode e.code = some e := by cases e <;> rfl

theorem auxEdgeOfCode_none {b : Byte} (h : 3 < b.toNat) : auxEdgeOfCode b = none := by
  unfold auxEdgeOfCode
  (repeat' split) <;> simp_all

end Sys2Proof.Machine

/-! PROOFS. Requests of the sample interface, the filter engine and the trigger unit that set or report values (O13, O14, O19), and
STORE REPORT (O22). -/

namespace Sys2Proof.Machine

section

variable {s : State} {pre post : List Request} {r : Request} {d : Elapsed}

/-! ## FILTER LOAD, FILTER SWAP and CLIP CLEAR (R40, R41, R43) -/

theorem Front.filterLoad (h : Front s pre r post) (hk : r.kind = kFilterLoad) {t : State} {reply : List Byte}
    (hf : filterLoad r.payload (s.elapse d) = (reply, t)) (ht : t.sl.list = s.sl.list) :
    Answers (.filterLoad d) s pre r post t reply := h.answers hk rfl hf ht

theorem filterLoad_channel (c : Channel) (rest : List Byte) (s : State) : filterLoad (c.code :: rest) s = loadChannel c rest s := by
  simp [Machine.filterLoad, channelOfCode_code]

theorem filterLoad_badChannel {ch : Byte} (h : 2 < ch.toNat) (rest : List Byte) (s : State) :
    filterLoad (ch :: rest) s = ([stOutOfRange], s) := by
  simp [Machine.filterLoad, channelOfCode_none h]

/-- A tap count outside 1 to 32 is refused whatever the channel is. -/
theorem filterLoad_badTaps {n : Byte} (hn : n = 0 ∨ 32 < n.toNat) (ch : Byte) (p : List Byte) (s : State) :
    filterLoad (ch :: n :: p) s = ([stOutOfRange], s) := by
  have hn' : n.toNat = 0 ∨ 32 < n.toNat := hn.imp_left fun h => by simp [h]
  unfold Machine.filterLoad
  dsimp only
  split
  · rfl
  · exact if_pos hn'

/-- The coefficients of a payload are read as they were written. -/
theorem coefficients_flatMap {cs : List Int} (h : ∀ x ∈ cs, -32768 ≤ x ∧ x ≤ 32767) :
    coefficients cs.length (cs.flatMap (putS 2)) = cs := by
  induction cs with
  | nil => rfl
  | cons x xs ih =>
    obtain ⟨hlo, hhi⟩ := h x (by simp)
    have front := slice_append_left (putS 2 x) (xs.flatMap (putS 2))
    rw [putS_length] at front
    have rest : (putS 2 x ++ xs.flatMap (putS 2)).drop 2 = xs.flatMap (putS 2) := List.drop_left' (putS_length 2 x)
    rw [List.length_cons, coefficients, List.flatMap_cons, getS, front, rest,
      beSigned_putS (by decide) (by simpa using hlo) (by omega), ih fun y hy => h y (by simp [hy])]

theorem loadChannel_taken {c : Channel} {cs : List Int} (hpos : 0 < cs.length) (hle : cs.length ≤ 32)
    (hcs : ∀ x ∈ cs, -32768 ≤ x ∧ x ≤ 32767) (s : State) :
    loadChannel c (BitVec.ofNat 8 cs.length :: cs.flatMap (putS 2)) s =
      if (s.fe.ctx.get c).swapPending then ([stWrongState], s)
      else ([stOk], modContext c (fun f => f.loadInactive cs) s) := by
  have hn : (BitVec.ofNat 8 cs.length).toNat = cs.length := by rw [BitVec.toNat_ofNat]; omega
  have hlen : (cs.flatMap (putS 2)).length = 2 * cs.length := by simp [List.length_flatMap, mul_comm]
  unfold loadChannel
  dsimp only
  rw [hn, if_neg (by omega), if_neg (by omega), coefficients_flatMap hcs]

section

variable {f : Channel → State → List Byte × State} {c : Instr} {kind : Byte}

theorem Front.badChannel (h : Front s pre r post) (hk : r.kind = kind)
    (hc : exec c s = Machine.timed d s (serve kind (withLength 1 (withChannel f)))) {b : Byte} (hp : r.payload = [b])
    (hb : 2 < b.toNat) : Answers c s pre r post (s.elapse d) [stOutOfRange] := by
  refine h.answers_ofLength hk hc (congrArg List.length hp) ?_ rfl
  simp [withChannel, hp, channelOfCode_none hb]

theorem Front.channel (h : Front s pre r post) (hk : r.kind = kind)
    (hc : exec c s = Machine.timed d s (serve kind (withLength 1 (withChannel f)))) {ch : Channel} (hp : r.payload = [ch.code])
    {t : State} {reply : List Byte} (hf : f ch (s.elapse d) = (reply, t)) (ht : t.sl.list = s.sl.list) :
    Answers c s pre r post t reply := by
  refine h.answers_ofLength hk hc (congrArg List.length hp) ?_ ht
  simp [withChannel, hp, channelOfCode_code, hf]

end

theorem mem_enabledChannels (t : Tier) (c : Channel) : c ∈ enabledChannels t ↔ enabledIn t c = true := by
  simp [enabledChannels, channels]
  cases c <;> simp

theorem swap_of_notPending {f : FilterContext} (h : f.swapPending = false) :
    f.swap = { f with active := match f.active with | .a => .b | .b => .a } := by
  rw [FilterContext.swap, ← h]
  rfl

/-- Settles O13: each payload reaches one branch of the request's function. -/
theorem filterBanksLoadAndSwap : Obligations.FilterBanksLoadAndSwap := by
  refine ⟨fun d s pre r post h hk => ⟨fun ch n p hp hbad => ?_, fun ch hp hch => ?_, fun hp => ?_, fun c n p hp h0 h32 hlen => ?_,
      fun c cs hp h0 h32 hcs => ⟨fun hw => ?_, fun hw => ?_⟩⟩,
    fun d s pre r post h => ⟨fun b hp hb => ⟨fun hk => ?_, fun hk => ?_⟩, fun c hp => ⟨fun hk hw => ?_, fun hk hw he => ?_,
      fun hk hw he => ?_, fun hk => ?_⟩⟩⟩
  · refine h.filterLoad hk (?_ : _ = ([stOutOfRange], s.elapse d)) rfl
    rw [hp]
    obtain hch | hn := hbad
    · exact filterLoad_badChannel hch _ _
    · exact filterLoad_badTaps hn _ _ _
  · exact h.filterLoad hk (hp ▸ filterLoad_badChannel hch _ _) rfl
  · refine h.filterLoad hk (?_ : _ = ([stBadLength], s.elapse d)) rfl
    obtain hp | ⟨c, hp⟩ := hp
    · rw [hp]; rfl
    · rw [hp, filterLoad_channel]; rfl
  · refine h.filterLoad hk (?_ : _ = ([stBadLength], s.elapse d)) rfl
    rw [hp, filterLoad_channel]
    unfold loadChannel
    dsimp only
    rw [if_neg (by omega), if_pos hlen]
  · refine h.filterLoad hk (?_ : _ = ([stWrongState], s.elapse d)) rfl
    rw [hp, filterLoad_channel, loadChannel_taken h0 h32 hcs]
    exact if_pos hw
  · refine h.filterLoad hk (?_ : _ = ([stOk], modContext c (fun f => f.loadInactive cs) (s.elapse d))) rfl
    rw [hp, filterLoad_channel, loadChannel_taken h0 h32 hcs]
    exact if_neg (by simpa using hw)
  · exact h.badChannel (kind := kFilterSwap) hk rfl hp hb
  · exact h.badChannel (kind := kClipClear) hk rfl hp hb
  · exact h.channel (kind := kFilterSwap) hk rfl hp (if_pos hw) rfl
  · refine h.channel (kind := kFilterSwap) hk rfl hp ?_ rfl
    exact (if_neg (by simpa using hw)).trans (if_pos ((mem_enabledChannels _ _).mp he))
  · refine h.channel (kind := kFilterSwap) hk rfl hp ?_ rfl
    refine (if_neg (by simpa using hw)).trans ((if_neg (mt (mem_enabledChannels _ _).mpr he)).trans ?_)
    exact congrArg (fun g => ([stOk], (s.elapse d).modFe fun e => { e with ctx := s.fe.ctx.set c g })) (swap_of_notPending hw)
  · exact h.channel (kind := kClipClear) hk rfl hp rfl rfl

/-! ## CHANNEL GET (R42) -/

/-- Settles O14: the three parts spelled out. -/
theorem channelGetReplies : Obligations.ChannelGetReplies := by
  intro d s pre r post h hk
  have get {b part : Byte} {reply : List Byte} (hp : r.payload = [b, part])
      (hf : Machine.channelGet [b, part] (s.elapse d) = (reply, s.elapse d)) :
      Answers (.channelGet d) s pre r post (s.elapse d) reply :=
    h.answers_ofLength (kind := kChannelGet) hk rfl (congrArg List.length hp) (hp ▸ hf) rfl
  have part (c : Channel) (part : Byte) : Machine.channelGet [c.code, part] (s.elapse d) = 
      if part = 0 then (stOk :: channelSummary (s.elapse d) c, s.elapse d)
      else if part = 1 then (stOk :: channelBanks (s.elapse d) c, s.elapse d)
      else if part = 2 then (stOk :: channelDelay (s.elapse d) c, s.elapse d)
      else ([stOutOfRange], s.elapse d) := by
    simp [Machine.channelGet, channelOfCode_code]
  refine ⟨fun b p hp hbad => get hp ?_, fun c hp => get hp ?_, fun c hp => get hp ?_, fun c hp => get hp ?_⟩
  · unfold Machine.channelGet
    split
    · rfl
    · rename_i c hc
      obtain hb | hp' := hbad
      · cases (channelOfCode_none hb).symm.trans hc
      · have other (k : Byte) (hk : k.toNat ≤ 2) : p ≠ k := fun he => absurd hk (by rw [← he]; omega)
        exact (if_neg (other 0 (by decide))).trans ((if_neg (other 1 (by decide))).trans (if_neg (other 2 (by decide))))
  · rw [part, if_pos rfl, Prod.mk.injEq]
    refine ⟨?_, rfl⟩
    unfold channelSummary
    simp only [List.append_assoc, List.cons_append, List.nil_append, State.elapse_fe, State.elapse_si,
      State.elapse_tu, TriggerUnit.chan, stOk]
  · rw [part, if_neg (by decide), if_pos rfl, Prod.mk.injEq]
    refine ⟨?_, rfl⟩
    simp [channelBanks, bankBytes, stOk]
  · rw [part, if_neg (by decide), if_neg (by decide), if_pos rfl, Prod.mk.injEq]
    refine ⟨?_, rfl⟩
    simp [channelDelay, stOk]

/-! ## DETECT SET (R67) -/

theorem detectBytes_length (x : DetectParams) : (detectBytes x).length = 16 := by simp [detectBytes]

/-- The values of a payload are read as they were written. -/
theorem detectFields_bytes {x : DetectParams}
    (h : x.ks < 256 ∧ x.kl < 256 ∧ x.onRatio < 256 ∧ x.offRatio < 256 ∧ x.ltaFloor < 65536 ∧ x.vote < 256 ∧ x.pre < 256 ∧
      x.post < 256 ∧ x.cap < 65536 ∧ x.strongLevel < 16777216 ∧ x.quietWindow < 256) :
    detectFields (detectBytes x) x.auxEdge = x := by
  obtain ⟨h1, h2, h3, h4, h5, h6, h7, h8, h9, h10, h11⟩ := h
  simp (disch := first | decide | (norm_num; assumption)) only [detectFields, detectBytes, List.append_assoc, getU_skip, getU_putU, Nat.reduceSub]

theorem detectBytes_auxEdge (x : DetectParams) : auxEdgeOfCode ((detectBytes x).getD 15 0) = some x.auxEdge := by
  simp (disch := decide) only [detectBytes, List.append_assoc, getD_skip, Nat.reduceSub]
  exact auxEdgeOfCode_code x.auxEdge

/-- DETECT SET on a payload that carries twelve values. -/
theorem detectSet_bytes {x : DetectParams}
    (h : x.ks < 256 ∧ x.kl < 256 ∧ x.onRatio < 256 ∧ x.offRatio < 256 ∧ x.ltaFloor < 65536 ∧ x.vote < 256 ∧ x.pre < 256 ∧
      x.post < 256 ∧ x.cap < 65536 ∧ x.strongLevel < 16777216 ∧ x.quietWindow < 256) (s : State) :
    Machine.detectSet (detectBytes x) s =
      if !detectConsistent (clampDetect x) then (stOutOfRange :: detectBytes s.tu.params, s)
      else if eventInProgress s && ((clampDetect x).ks != s.tu.params.ks || (clampDetect x).kl != s.tu.params.kl) then
        (stWrongState :: detectBytes s.tu.params, s)
      else ((if clampDetect x = x then stOk else stClamped) :: detectBytes (clampDetect x), setDetect (clampDetect x) s) := by
  have status : detectSetStatus (detectBytes x) s =
      if !detectConsistent (clampDetect x) then (stOutOfRange, s)
      else if eventInProgress s && ((clampDetect x).ks != s.tu.params.ks || (clampDetect x).kl != s.tu.params.kl) then
        (stWrongState, s)
      else (if clampDetect x = x then stOk else stClamped, setDetect (clampDetect x) s) := by
    unfold detectSetStatus
    rw [if_neg (not_not_intro (detectBytes_length x)), detectBytes_auxEdge]
    dsimp only
    rw [detectFields_bytes h]
  unfold Machine.detectSet
  rw [status]
  (repeat' split) <;> rfl

/-- A refusal before the values are read. -/
theorem detectSet_refused {p : List Byte} {s : State} {status : Byte} (h : detectSetStatus p s = (status, s)) :
    Machine.detectSet p s = (status :: detectBytes s.tu.params, s) := by
  rw [Machine.detectSet, h]

theorem clampDetect_eq {x : DetectParams} (h : x.ltaFloor < 65536) :
    clampDetect x =
      { ks := max 2 (min x.ks 8), kl := max 8 (min x.kl 14), onRatio := max 16 (min x.onRatio 255)
        offRatio := max 16 (min x.offRatio 255), ltaFloor := x.ltaFloor, vote := max 1 (min x.vote 3)
        pre := min x.pre 30, post := min x.post 60, cap := max 60 (min x.cap 1800)
        strongLevel := max 1 (min x.strongLevel 8388607), quietWindow := min x.quietWindow 10, auxEdge := x.auxEdge } := by
  have lta : min x.ltaFloor 65535 = x.ltaFloor := by omega
  simp [clampDetect, clampNat, lta]

theorem eventInProgress_iff (s : State) : eventInProgress s = true ↔ s.tu.det = .open ∨ s.tu.det = .post := by
  simp [eventInProgress]

/-- Settles O19: the checks in the order of R67. -/
theorem detectSetReplacesParameters : Obligations.DetectSetReplacesParameters := by
  intro d s pre r post bytes x y h hk hb
  have bytes_eq : bytes = detectBytes := by
    rw [hb]
    funext p
    unfold detectBytes AuxEdge.code
    rfl
  rw [bytes_eq]
  have answers {status : List Byte} {t : State} (hf : Machine.detectSet r.payload (s.elapse d) = (status, t))
      (ht : t.sl.list = s.sl.list) : Answers (.detectSet d) s pre r post t status := h.answers (kind := kDetectSet) hk rfl hf ht
  refine ⟨fun hl => answers (detectSet_refused (if_pos hl)) rfl, fun hl ha => answers (detectSet_refused ?_) rfl,
    fun hp hx hy => ?_⟩
  · unfold detectSetStatus
    rw [if_neg (not_not_intro hl), auxEdgeOfCode_none ha]
    rfl
  · rw [← clampDetect_eq (by omega)] at hy
    subst hy
    have set := detectSet_bytes hx (s.elapse d)
    rw [← hp] at set
    refine ⟨fun hbad => answers (set.trans (if_pos ?_)) rfl, fun h1 h2 hdet hne => answers (set.trans ((if_neg ?_).trans (if_pos ?_))) rfl,
      fun h1 h2 hdet => answers (set.trans ((if_neg ?_).trans ((if_neg ?_).trans ?_))) rfl⟩
    · simp [detectConsistent]
      omega
    · simp [detectConsistent]
      omega
    · rw [Bool.and_eq_true, eventInProgress_iff]
      exact ⟨hdet, by simpa [← not_and_or, or_iff_not_imp_left] using hne⟩
    · simp [detectConsistent]
      omega
    · rw [Bool.and_eq_true, eventInProgress_iff]
      rintro ⟨he, hne⟩
      obtain ⟨hks, hkl⟩ := hdet he
      simp [hks, hkl] at hne
    · exact Prod.ext (congrArg (· :: detectBytes (clampDetect x)) (if_congr eq_comm rfl rfl)) rfl

/-! ## STORE REPORT (R92) -/

/-- The four tests of a page's state that the report counts; every page satisfies one of them. -/
theorem countPages_total (w : WaveStore) :
    w.countPages (fun g => g.state = .free) + w.countPages (fun g => match g.state with | .ring _ => true | _ => false) +
        w.countPages (fun g => match g.state with | .event _ _ => true | _ => false) +
        w.countPages (fun g => g.state = .faultySet) = 256 := by
  have split (l : List PageId) :
      l.countP (fun p => (w.page p).state = .free) +
          l.countP (fun p => match (w.page p).state with | .ring _ => true | _ => false) +
          l.countP (fun p => match (w.page p).state with | .event _ _ => true | _ => false) +
          l.countP (fun p => (w.page p).state = .faultySet) = l.length := by
    induction l with
    | nil => rfl
    | cons p l ih =>
      simp only [List.countP_cons, List.length_cons]
      cases hp : (w.page p).state <;> simp <;> omega
  have all := split allPages
  rwa [allPages, List.length_finRange] at all

/-- The correctable counts of the pages sum to 65,280 at most, since each saturates at 255. -/
theorem sum_correctable_le {w : WaveStore} (h : ∀ p, (w.pages.get p).correctable ≤ 255) :
    (allPages.map fun p => (w.pages.get p).correctable).sum ≤ 65280 := by
  have bound := List.sum_le_card_nsmul (allPages.map fun p => (w.pages.get p).correctable) 255 fun n hn => by
    obtain ⟨p, -, rfl⟩ := List.mem_map.mp hn
    exact h p
  simpa [allPages] using bound

/-- Settles O22: the report only reads, and every page is counted once. -/
theorem storeReportReplies : Obligations.StoreReportReplies := by
  intro d s pre r post count h hk hp hcount
  obtain ⟨-, reads⟩ := h.answers_read (kind := kStoreReport) hk (fields := storeFields) (c := .storeReport d) (d := d) rfl
  subst hcount
  refine ⟨(congrArg (Answers (.storeReport d) s pre r post (s.elapse d)) ?_).mp (reads hp), countPages_total s.ws,
    sum_correctable_le⟩
  have faulty : (fun g : Page => g.state.occupied && g.faulty) =
      fun g => match g.state with | .ring _ => g.faulty | .event _ _ => g.faulty | _ => false := by
    funext g
    cases hg : g.state <;> simp [PageState.occupied]
  have code (r : Route) :
      r.code = (match r with | .off => 0 | .ring => 1 | .starved => 2 | .event _ => 3 | .stopped => 4 : Byte) := by
    cases r <;> rfl
  have ring (c : StoreChannel) : ringPages c = c.ring.length + if c.route = .ring ∧ c.filling ≠ none then 1 else 0 := by
    simp only [ringPages, Bool.and_eq_true, decide_eq_true_eq, Option.isSome_iff_ne_none]
  have cursor : putUOpt 1 (s.ws.cursor.map Fin.val) =
      match s.ws.cursor with | some p => [(1 : Byte), BitVec.ofNat 8 p.val] | none => [0, 0] := by
    cases s.ws.cursor <;> rfl
  simp only [storeFields, putTri, code, ring, faulty, State.elapse_ws, cursor, List.append_assoc, List.cons_append, List.nil_append,
    State.elapse_tu, List.flatMap_cons, List.flatMap_nil]
  rfl

end

end Sys2Proof.Machine

/-! PROOFS. Requests of the station link and the power tier controller: ATTN READ, RESTART, unknown kinds (O52), TIER SET and HOST
SLEEP (O44), and POWER GET (O45). -/

namespace Sys2Proof.Machine

section

variable {s : State} {pre post : List Request} {r : Request} {d : Elapsed}

/-! ## A request served by a predicate, with what its reply's end brings about -/

theorem Front.exec_serveWith (h : Front s pre r post) {c : Instr} {mine : Request → Bool}
    {f : List Byte → State → (List Byte × AtReplyEnd) × State} (hc : exec c s = Machine.timed d s (serveWith mine f))
    (hm : mine r = true) {t : State} {reply : List Byte} {e : AtReplyEnd} (hf : f r.payload (s.elapse d) = ((reply, e), t))
    (ht : t.sl.list = s.sl.list) : exec c s = .next { t with sl := t.sl.replied pre r post e reply } := by
  rw [hc, h.timed, serveWith_front (h.elapse d) hm hf ht]

theorem Front.exec_notMine (h : Front s pre r post) {c : Instr} {mine : Request → Bool}
    {f : List Byte → State → (List Byte × AtReplyEnd) × State} (hc : exec c s = Machine.timed d s (serveWith mine f))
    (hm : mine r = false) : exec c s = .next (s.elapse d) := by
  rw [hc, h.timed]
  refine congrArg _ (serveWith_idle (s := s.elapse d) (fun r' hr' => ?_) f)
  cases (h.elapse d).next.symm.trans hr'
  exact hm

/-! ## RESTART -/

theorem exec_restartLink (d : Elapsed) (s : State) : exec (.restartLink d) s =
    timed d s (serveWith (fun r => r.kind = kRestart && namesOrNone scopeLink scopes r.payload) restartLink) := rfl

theorem exec_restartDetection (d : Elapsed) (s : State) : exec (.restartDetection d) s =
    timed d s (serveWith (fun r => r.kind = kRestart && namesOrNone scopeDetection scopes r.payload) fun p s =>
      (((withLength 1 restartDetectionRequest p s).1, .nothing), (withLength 1 restartDetectionRequest p s).2)) := rfl

/-- A scope byte that names neither scope is refused by both rows. -/
theorem namesOrNone_badScope {b : Byte} (hb : 1 < b.toNat) (code : Byte) (p : List Byte) :
    namesOrNone code scopes (b :: p) = true := by
  have other (k : Byte) (hk : k.toNat ≤ 1) : b ≠ k := fun he => absurd hk (by rw [← he]; omega)
  simp [namesOrNone, namesCode, scopes, other scopeLink (by decide), other scopeDetection (by decide)]

/-- RESTART LINK refuses what is not the scope alone, and so does RESTART DETECTION. -/
theorem Front.restart_refused (h : Front s pre r post) (hk : r.kind = kRestart) {c : Instr}
    (hc : c = .restartLink d ∨ c = .restartDetection d) {status : Byte}
    (hlink : c = .restartLink d → namesOrNone scopeLink scopes r.payload = true ∧
      Machine.restartLink r.payload (s.elapse d) = (([status], .nothing), s.elapse d))
    (hdet : c = .restartDetection d → namesOrNone scopeDetection scopes r.payload = true ∧
      withLength 1 restartDetectionRequest r.payload (s.elapse d) = ([status], s.elapse d)) :
    Answers c s pre r post (s.elapse d) [status] := by
  obtain rfl | rfl := hc
  · obtain ⟨hm, hf⟩ := hlink rfl
    exact h.exec_serveWith (exec_restartLink d s) (by simp [hk, hm]) hf rfl
  · obtain ⟨hm, hf⟩ := hdet rfl
    exact h.exec_serveWith (exec_restartDetection d s) (by simp [hk, hm]) (by simp only [hf]) rfl

/-- Settles O52: each row serves its own requests and refuses the rest in one way. -/
theorem attnReadRestartAndUnknownKind : Obligations.AttnReadRestartAndUnknownKind := by
  intro d s pre r post h
  refine ⟨fun hk hp => h.answers_ofLength (kind := kAttnRead) hk rfl (congrArg List.length hp) rfl rfl, fun hk hp => ?_,
    fun hk c hc => ⟨fun b hb hp => ?_, fun hp => ?_, fun b p hp => ⟨fun hother => ?_, fun hmine hne => ?_⟩⟩, fun hk => ?_⟩
  · refine h.exec_serveWith (exec_restartLink d s) (by rw [hk, hp]; rfl)
      (t := (s.elapse d).modSl fun l => { l with flags := 0, barrier := true }) ?_ rfl
    rw [hp]
    rfl
  · have named (code : Byte) : namesOrNone code scopes r.payload = true := hp ▸ namesOrNone_badScope hb code []
    have other (k : Byte) (hk : k.toNat ≤ 1) : b ≠ k := fun he => absurd hk (by rw [← he]; omega)
    refine h.restart_refused hk hc (fun _ => ⟨named _, ?_⟩) (fun _ => ⟨named _, ?_⟩)
    · rw [hp]
      simp [Machine.restartLink, namesCode, other scopeLink (by decide), stOutOfRange]
    · rw [hp]
      simp [withLength, restartDetectionRequest, namesCode, other scopeDetection (by decide), stOutOfRange]
  · exact h.restart_refused hk hc (fun _ => by rw [hp]; exact ⟨rfl, rfl⟩) (fun _ => by rw [hp]; exact ⟨rfl, rfl⟩)
  · obtain ⟨rfl, rfl⟩ | ⟨rfl, rfl⟩ := hother
    · exact h.exec_notMine (exec_restartDetection d s) (by simp [hk, hp, namesOrNone, namesCode, scopes, scopeLink, scopeDetection])
    · exact h.exec_notMine (exec_restartLink d s) (by simp [hk, hp, namesOrNone, namesCode, scopes, scopeLink, scopeDetection])
  · have long : r.payload.length ≠ 1 := by simpa [hp] using hne
    have named : (c = .restartLink d → namesOrNone scopeLink scopes r.payload = true) ∧
        (c = .restartDetection d → namesOrNone scopeDetection scopes r.payload = true) := by
      rw [hp]
      obtain hb | ⟨rfl, rfl⟩ | ⟨rfl, rfl⟩ := hmine
      · exact ⟨fun _ => namesOrNone_badScope hb _ p, fun _ => namesOrNone_badScope hb _ p⟩
      · exact ⟨fun _ => rfl, nofun⟩
      · exact ⟨nofun, fun _ => rfl⟩
    exact h.restart_refused hk hc (fun hl => ⟨named.1 hl, if_pos long⟩) fun hd => ⟨named.2 hd, if_neg long⟩
  · have unknown : knownKinds.contains r.kind = false := Bool.eq_false_iff.mpr fun hc => hk (List.contains_iff_mem.mp hc)
    exact h.exec_serveWith (c := .unknownKind d) (e := .nothing) rfl (congrArg not unknown) rfl rfl

/-! ## TIER SET (R183) -/

theorem tierFields_bytes {x : TierParams}
    (h : x.conserveBelow < 65536 ∧ x.surviveBelow < 65536 ∧ x.hibernateBelow < 65536 ∧ x.hysteresis < 256 ∧ x.vCut < 65536 ∧
      x.silenceLimit < 65536) : tierFields (tierBytes x) = x := by
  obtain ⟨h1, h2, h3, h4, h5, h6⟩ := h
  have last : getU (putU 2 x.silenceLimit) 0 2 = x.silenceLimit := by simpa using getU_putU (k := 2) h6 []
  simp (disch := first | decide | (norm_num; assumption)) only [tierFields, tierBytes, List.append_assoc, getU_skip, getU_putU,
    Nat.reduceSub, last]

theorem tierBytes_length (x : TierParams) : (tierBytes x).length = 11 := by simp [tierBytes]

/-- TIER SET on a payload that carries six values. -/
theorem tierSet_bytes {x : TierParams}
    (h : x.conserveBelow < 65536 ∧ x.surviveBelow < 65536 ∧ x.hibernateBelow < 65536 ∧ x.hysteresis < 256 ∧ x.vCut < 65536 ∧
      x.silenceLimit < 65536) (s : State) :
    tierSet (tierBytes x) s =
      if !tierConsistent (clampTier x) then (stOutOfRange :: tierBytes s.pt.params, s)
      else ((if clampTier x = x then stOk else stClamped) :: tierBytes (clampTier x), setTier (clampTier x) s) := by
  have status : tierSetStatus (tierBytes x) s =
      if !tierConsistent (clampTier x) then (stOutOfRange, s)
      else (if clampTier x = x then stOk else stClamped, setTier (clampTier x) s) := by
    unfold tierSetStatus
    rw [if_neg (not_not_intro (tierBytes_length x)), tierFields_bytes h]
  unfold tierSet
  rw [status]
  split <;> rfl

/-! ## HOST SLEEP (R178) -/

theorem getU_be {w : List Byte} (b : Byte) {n : Nat} (h : w.length = n) : getU (b :: w) 1 n = be w := by
  simp [getU, slice, ← h]

/-- A HOST SLEEP that is taken moves no request that has no DOZING deadline to set. -/
theorem sleepList_eq {l : List Request} (h : ∀ x ∈ l, x.atEnd ≠ .startDoze) :
    (l.map fun r => if r.atEnd = .startDoze then { r with atEnd := .nothing } else r) = l := by
  conv_rhs => rw [← List.map_id l]
  exact List.map_congr_left fun x hx => if_neg (h x hx)

/-- HOST SLEEP takes the record when the host rail is on or dozing. -/
theorem Front.hostSleep_taken (h : Front s pre r post) (hk : r.kind = kHostSleep) {w : Option Nat}
    (hf : Machine.hostSleep r.payload (s.elapse d) = (([stOk], .startDoze), takeSleep w (s.elapse d)))
    (hend : ∀ x ∈ pre ++ post, x.atEnd ≠ .startDoze) :
    exec (.hostSleep d) s =
      .next { s.elapse d with
        pt := { s.pt with host := .dozing none, wakeTime := w }
        sl := s.sl.replied pre r post .startDoze [stOk] } := by
  have list : (takeSleep w (s.elapse d)).sl.list =
      pre ++ (if r.atEnd = .startDoze then { r with atEnd := .nothing } else r) :: post := by
    simp only [takeSleep, State.modSl_sl, State.modPt_sl, State.elapse_sl, h.list, List.map_append, List.map_cons]
    rw [sleepList_eq fun x hx => hend x (by simp [hx]), sleepList_eq fun x hx => hend x (by simp [hx])]
  have waiting : (if r.atEnd = .startDoze then { r with atEnd := .nothing } else r).progress = .waiting := by
    split <;> exact h.waiting
  have moved := moveFirst_waiting (.executed [stOk]) .startDoze h.executed waiting (post := post)
  have same (p : Progress) (e : AtReplyEnd) :
      ({ (if r.atEnd = .startDoze then { r with atEnd := .nothing } else r) with progress := p, atEnd := e } : Request) =
        { r with progress := p, atEnd := e } := by
    split <;> rfl
  have served : serveWith (fun r => r.kind = kHostSleep) Machine.hostSleep (s.elapse d) =
      answer [stOk] .startDoze (takeSleep w (s.elapse d)) := by
    simp [serveWith, (h.elapse d).next, hk, hf]
  rw [exec_eq_timed _ _ (by simp), h.timed]
  refine congrArg Host.Outcome.next (served.trans ?_)
  unfold answer
  rw [State.modSl, list, moved, same]
  rfl

/-- Settles O44: TIER SET by its checks, HOST SLEEP by tier, wake time and host rail. -/
theorem tierSetAndHostSleep : Obligations.TierSetAndHostSleep := by
  intro d s pre r post bytes h hb
  have bytes_eq : bytes = tierBytes := hb
  rw [bytes_eq]
  refine ⟨fun hk hl => ?_, fun x y hk hp hx hy => ?_, fun b w hk hp hw => ⟨fun ht => ?_, fun ht hb1 hle => ?_,
    fun ht hb1 hhost hend => ?_⟩⟩
  · refine h.answers (kind := kTierSet) hk rfl (t := s.elapse d) ?_ rfl
    rw [tierSet, tierSetStatus, if_pos hl]
    rfl
  · have hclamp : clampTier x = y := hy ▸ rfl
    subst hclamp
    have set := tierSet_bytes hx (s.elapse d)
    rw [← hp] at set
    refine ⟨fun hbad => h.answers (kind := kTierSet) hk rfl (set.trans (if_pos ?_)) rfl,
      fun h1 h2 h3 => h.answers (kind := kTierSet) hk rfl (set.trans ((if_neg ?_).trans ?_)) rfl⟩
    · simp [tierConsistent]
      omega
    · simp [tierConsistent]
      omega
    · exact Prod.ext (congrArg (· :: tierBytes (clampTier x)) (if_congr eq_comm rfl rfl)) rfl
  all_goals have long : ¬r.payload.length ≠ 5 := by simp [hp, hw]
  · refine h.exec_serveWith (c := .hostSleep d) rfl (decide_eq_true hk) ?_ rfl
    exact (if_neg long).trans (if_pos ht)
  all_goals have upper : ¬((s.elapse d).pt.tier = .survive ∨ (s.elapse d).pt.tier = .hibernate) := by
              obtain ht | ht := ht <;> simp [ht]
  · refine h.exec_serveWith (c := .hostSleep d) rfl (decide_eq_true hk) (t := s.elapse d) (reply := [stOutOfRange]) (e := .nothing)
      ?_ rfl
    refine (if_neg long).trans ((if_neg upper).trans ?_)
    subst hb1
    rw [hp, getU_be _ hw]
    simp [onOffOfCode, hle]
  · have taken : Machine.hostSleep r.payload (s.elapse d) =
        (([stOk], .startDoze), takeSleep (if b = 1 then some (be w) else none) (s.elapse d)) := by
      refine (if_neg long).trans ((if_neg upper).trans ?_)
      rw [hp, getU_be _ hw]
      obtain rfl | ⟨rfl, hlt⟩ := hb1
      · obtain hhost | ⟨x, hhost⟩ := hhost <;> simp [onOffOfCode, hhost]
      · obtain hhost | ⟨x, hhost⟩ := hhost <;> simp [onOffOfCode, hhost, hlt]
    exact h.hostSleep_taken hk taken hend

/-! ## POWER GET (R151, R165, R182) -/

theorem putReadings (x : Six Reading) : putSix x readingBytes =
    [x.vbat, x.ibat, x.tbat, x.tenc, x.vsrc, x.ihtr].flatMap fun x => putSOpt 2 x.value ++ putMark x.valid ++ putU 1 x.run := by
  simp only [putSix, readingBytes, List.flatMap_cons, List.flatMap_nil, List.append_assoc, List.append_nil]

theorem Reading.val_eq (r : Reading) : r.val = if r.valid then r.value else none := rfl

/-- The control temperature as the rule states it, and its source. -/
theorem controlTemp_eq (s : State) :
    controlTemp s =
      if s.hm.readings.tbat.valid ∧ s.hm.readings.tbat.value ≠ none then s.hm.readings.tbat.value
      else if s.hm.readings.tenc.valid then s.hm.readings.tenc.value
      else none := by
  unfold controlTemp
  simp only [Reading.val_eq]
  cases hv : s.hm.readings.tbat.valid <;> cases hx : s.hm.readings.tbat.value <;> simp

/-- Settles O45: the report only reads, item by item. -/
theorem powerGetReplies : Obligations.PowerGetReplies := by
  intro d s pre r post left tc h hk hp hleft htc
  obtain ⟨-, reads⟩ := h.answers_read (kind := kPowerGet) hk (fields := powerFields) (c := .powerGet d) (d := d) rfl
  refine (congrArg (Answers (.powerGet d) s pre r post (s.elapse d)) ?_).mp (reads hp)
  subst hleft
  rw [← controlTemp_eq] at htc
  subst htc
  have deadline : putUOpt 1 (s.pt.host.deadline.map (secondsLeft (s.elapse d))) =
      match s.pt.host with
      | .dozing (some due) => [(1 : Byte)] ++ putU 1 ((due - (s.elapse d).clk.watchRun) / 32768)
      | .cycling due => [(1 : Byte)] ++ putU 1 ((due - (s.elapse d).clk.watchRun) / 32768)
      | .grace due => [(1 : Byte)] ++ putU 1 ((due - (s.elapse d).clk.watchRun) / 32768)
      | _ => [(0 : Byte), 0] := by
    cases s.pt.host with
    | dozing x => cases x <;> rfl
    | on | asleep | cycling _ | grace _ | shed => rfl
  have wake : putCodeOpt (s.pt.lastWake.map WakeCause.code) =
      match s.pt.lastWake with
      | some .time => [(1 : Byte), 0]
      | some .attention => [1, 1]
      | some .tier => [1, 2]
      | none => [0, 0] := by
    cases s.pt.lastWake with
    | none => rfl
    | some c => cases c <;> rfl
  have silence : silenceSeconds (s.elapse d) =
      match s.pt.silenceFrom with
      | some f => ((s.elapse d).clk.watchRun - f) / 32768
      | none => 0 := rfl
  have gasp : gaspBytes (s.elapse d) =
      match s.pt.gasp with
      | some due => [(1 : Byte), 1] ++ putU 1 ((due - (s.elapse d).clk.watchRun) / 32768)
      | none => [(0 : Byte), 0, 0] := by
    unfold gaspBytes
    rw [State.elapse_pt]
    cases s.pt.gasp <;> rfl
  have change : changeBytes (s.elapse d) s.hc.change =
      match s.hc.change with
      | some x => [(1 : Byte), x.wanted.code] ++ putTime x.since ++ putU 2 ((x.deadline - (s.elapse d).clk.watchRun) / 32768)
      | none => [(0 : Byte), 0] ++ putTimeOpt none ++ putU 2 0 := by
    cases s.hc.change <;> rfl
  have source : (if (controlTemp s).isSome then tempSource (s.elapse d) else 0) =
      if controlTemp s = none then 0 else if s.hm.readings.tbat.valid ∧ s.hm.readings.tbat.value ≠ none then 0 else (1 : Byte) := by
    have tbat : s.hm.readings.tbat.val.isSome = true ↔ s.hm.readings.tbat.valid ∧ s.hm.readings.tbat.value ≠ none := by
      cases hv : s.hm.readings.tbat.valid <;> simp [Reading.val_eq, hv, Option.isSome_iff_ne_none]
    have first : tempSource (s.elapse d) =
        if s.hm.readings.tbat.valid ∧ s.hm.readings.tbat.value ≠ none then 0 else 1 := if_congr tbat rfl rfl
    rw [first]
    cases controlTemp s <;> rfl
  have temp : controlTemp (s.elapse d) = controlTemp s := rfl
  unfold powerFields batteryFields railFields heatFields
  simp only [putReadings, source, temp, State.elapse_pt, State.elapse_hm, State.elapse_ca, State.elapse_hc, deadline, wake, silence,
    gasp, change,     List.append_assoc, List.cons_append, List.nil_append, BatteryLimits.capacity]
  rfl

end

end Sys2Proof.Machine

/-! PROOFS. The operations of the waveform store, rule by rule: what each leaves of a page, of a route, and of the page lists
(R73 to R85). -/

namespace Sys2Proof.Machine

/-! ## One value for each channel -/

section

variable {α : Type} (t : Tri α) (c c' : Channel) (a : α)

@[simp] theorem Tri.get_set_same : (t.set c a).get c = a := by cases c <;> rfl

theorem Tri.get_set_of_ne (h : c' ≠ c) : (t.set c a).get c' = t.get c' := by
  cases c <;> cases c' <;> first | rfl | exact absurd rfl h

theorem Tri.get_set : (t.set c a).get c' = if c' = c then a else t.get c' := by
  split
  · rename_i h
    rw [h, Tri.get_set_same]
  · exact Tri.get_set_of_ne t c c' a ‹_›

end

theorem channels_mem (c : Channel) : c ∈ channels := by cases c <;> decide

/-! ## Pages and routes -/

namespace WaveStore

section

variable (w : WaveStore) (p q : PageId) (c c' : Channel) (f : Page → Page) (g : StoreChannel → StoreChannel)

theorem page_modPage : (w.modPage p f).page q = if q = p then f (w.page p) else w.page q := by
  unfold modPage page
  simp only [Vector.get_eq_getElem, Vector.getElem_set]
  by_cases h : q = p
  · simp [h]
  · rw [if_neg (fun hv => h (Fin.ext hv.symm)), if_neg h]

@[simp] theorem page_modPage_same : (w.modPage p f).page p = f (w.page p) := by rw [page_modPage, if_pos rfl]

theorem page_modPage_of_ne (h : q ≠ p) : (w.modPage p f).page q = w.page q := by rw [page_modPage, if_neg h]

@[simp] theorem chan_modPage : (w.modPage p f).chan c = w.chan c := rfl
@[simp] theorem chans_modPage : (w.modPage p f).chans = w.chans := rfl
@[simp] theorem events_modPage : (w.modPage p f).events = w.events := rfl
@[simp] theorem eventList_modPage (n : Nat) : (w.modPage p f).eventList n c = w.eventList n c := rfl

theorem chan_modChan : (w.modChan c g).chan c' = if c' = c then g (w.chan c) else w.chan c' := Tri.get_set _ _ _ _

@[simp] theorem chan_modChan_same : (w.modChan c g).chan c = g (w.chan c) := Tri.get_set_same _ _ _

theorem chan_modChan_of_ne (h : c' ≠ c) : (w.modChan c g).chan c' = w.chan c' := Tri.get_set_of_ne _ _ _ _ h

@[simp] theorem page_modChan : (w.modChan c g).page p = w.page p := rfl
@[simp] theorem events_modChan : (w.modChan c g).events = w.events := rfl
@[simp] theorem eventList_modChan (n : Nat) : (w.modChan c g).eventList n c' = w.eventList n c' := rfl

end

/-! ## Leaving an owner (R74) -/

/-- A page that has left its owner. -/
def released (g : Page) : Page :=
  if g.faulty then { g with state := .faultySet, filling := false }
  else { g with state := .free, filling := false, first := none, count := 0 }

theorem released_faulty (g : Page) : (released g).faulty = g.faulty := by
  unfold released
  split <;> rfl

theorem released_state (g : Page) : (released g).state = if g.faulty then .faultySet else .free := by
  unfold released
  split <;> rfl

theorem released_filling (g : Page) : (released g).filling = false := by
  unfold released
  split <;> rfl

theorem released_count_le (g : Page) : (released g).count ≤ g.count := by
  unfold released
  split
  · exact le_rfl
  · exact Nat.zero_le _

theorem released_released (g : Page) : released (released g) = released g := by
  unfold released
  split <;> simp_all

section

variable (w : WaveStore) (p : PageId) (ps : List PageId) (c : Channel)

theorem release_eq : w.release p = w.modPage p released := rfl

/-- Only the pages change when pages leave their owners. -/
theorem releaseAll_eq : w.releaseAll ps = { w with pages := (w.releaseAll ps).pages } := by
  unfold releaseAll
  induction ps generalizing w with
  | nil => rfl
  | cons p ps ih => exact ih (w.release p)

@[simp] theorem chan_releaseAll : (w.releaseAll ps).chan c = w.chan c := by rw [releaseAll_eq]; rfl
@[simp] theorem chans_releaseAll : (w.releaseAll ps).chans = w.chans := by rw [releaseAll_eq]
@[simp] theorem events_releaseAll : (w.releaseAll ps).events = w.events := by rw [releaseAll_eq]
@[simp] theorem eventList_releaseAll (n : Nat) : (w.releaseAll ps).eventList n c = w.eventList n c := by rw [releaseAll_eq]; rfl

theorem page_releaseAll (q : PageId) : (w.releaseAll ps).page q = if q ∈ ps then released (w.page q) else w.page q := by
  unfold releaseAll
  induction ps generalizing w with
  | nil => rfl
  | cons p ps ih =>
    rw [List.foldl_cons, ih, release_eq, page_modPage]
    by_cases hq : q = p
    · simp [hq, released_released]
    · simp [hq]

end

/-! ## The lists of an event -/

theorem mem_eventPages (w : WaveStore) (n : Nat) (p : PageId) : p ∈ w.eventPages n ↔ ∃ c, p ∈ w.eventList n c := by
  simp [eventPages, channels_mem]

theorem closeIfIn_of_not {ps : List PageId} {w : WaveStore} {c : Channel} (h : ∀ p, (w.chan c).filling = some p → p ∉ ps) :
    closeIfIn ps w c = w := by
  unfold closeIfIn
  cases hf : (w.chan c).filling with
  | none => rfl
  | some p => simp [h p hf]

/-- An event whose pages no route fills leaves without a page closing. -/
theorem dropEvent_of_not_filling {w : WaveStore} {n : Nat} (h : ∀ c p, (w.chan c).filling = some p → p ∉ w.eventPages n) :
    w.dropEvent n = { w.releaseAll (w.eventPages n) with events := w.events.filter fun x => x.num != n } := by
  have closed : channels.foldl (closeIfIn (w.eventPages n)) w = w := by
    simp only [channels, List.foldl_cons, List.foldl_nil, closeIfIn_of_not (h _)]
  simp only [dropEvent, closed]

end WaveStore

end Sys2Proof.Machine

/-! PROOFS. The requests of the event table: EVENT LIST and EVENT GET (O24), EVENT PIN, UNPIN, RELEASE and DELETE (O26). -/

namespace Sys2Proof.Machine

theorem getU_all {p : List Byte} {n : Nat} (h : p.length = n) : getU p 0 n = be p := by
  simp [getU, slice, ← h]

section

variable {s : State} {pre post : List Request} {r : Request} {d : Elapsed} {c : Instr} {kind : Byte}
  {f : EventRecord → State → List Byte × State}

/-! ## A request that names a record (R103) -/

theorem Front.noRecord (h : Front s pre r post) (hk : r.kind = kind)
    (hc : exec c s = Machine.timed d s (serve kind (withLength 4 (withRecord f)))) (hl : r.payload.length = 4)
    (hn : ∀ x ∈ s.et.records, x.number ≠ be r.payload) : Answers c s pre r post (s.elapse d) [stNotFound] := by
  refine h.answers_ofLength hk hc hl ?_ rfl
  have none : (s.elapse d).record (getU r.payload 0 4) = none := by
    rw [getU_all hl]
    exact List.find?_eq_none.mpr fun x hx => by simpa using hn x hx
  simp [withRecord, none]

theorem Front.record (h : Front s pre r post) (hk : r.kind = kind)
    (hc : exec c s = Machine.timed d s (serve kind (withLength 4 (withRecord f)))) (hl : r.payload.length = 4) {x : EventRecord}
    (hx : s.et.records.find? (fun x => x.number = be r.payload) = some x) {t : State} {reply : List Byte}
    (hf : f x (s.elapse d) = (reply, t)) (ht : t.sl.list = s.sl.list) : Answers c s pre r post t reply := by
  refine h.answers_ofLength hk hc hl ?_ ht
  have found : (s.elapse d).record (getU r.payload 0 4) = some x := by
    rw [getU_all hl]
    exact hx
  simp [withRecord, found, hf]

end

theorem number_of_find {l : List EventRecord} {n : Nat} {x : EventRecord} (h : l.find? (fun x => x.number = n) = some x) :
    x.number = n := by simpa using List.find?_some h

theorem EventRecord.pinned_iff (x : EventRecord) :
    x.pinned = true ↔ x.state ≠ .closed ∨ x.alert = .queued ∨ x.alert = .inFlight ∨ x.hostPin = true := by
  simp [EventRecord.pinned, or_assoc]

/-- A record leaves the table and its pages leave their event when no route fills one of them (R74, R102). -/
theorem removeRecord_of_unpinned {s : State} {n : Nat} (hpin : ∀ y ∈ s.et.records, y.number = n → y.hostPin = false)
    (hfill : ∀ c p, (s.ws.chan c).filling = some p → p ∉ s.ws.eventPages n) :
    removeRecord n s =
      { s with
        et := { s.et with records := s.et.records.filter fun y => y.number != n }
        ws := { s.ws.releaseAll (s.ws.eventPages n) with events := s.ws.events.filter fun y => y.num != n } } := by
  have pins : (s.et.records.any fun r => r.number = n && r.hostPin) = false := by
    rw [List.any_eq_false]
    intro y hy
    simp only [Bool.and_eq_true, decide_eq_true_eq, not_and]
    exact fun hn => by simp [hpin y hy hn]
  have drop := WaveStore.dropEvent_of_not_filling hfill
  simp only [removeRecord, pins, State.modEt, State.modWs, drop]
  rfl

/-- Settles O26: each request's function at the record that the number names. -/
theorem eventPinsReleaseAndDelete : Obligations.EventPinsReleaseAndDelete := by
  refine ⟨fun d s pre r post n h hl hn => ⟨fun hnone => ?_, fun x hx => ?_⟩, fun d s pre r post x h hk hl hx => ⟨fun hpin => ?_, 
    fun hclosed hq hf hpin hone hfill => ?_⟩⟩
  · subst hn
    exact ⟨fun hk => h.noRecord (kind := kEventPin) hk rfl hl hnone, fun hk => h.noRecord (kind := kEventUnpin) hk rfl hl hnone,
      fun hk => h.noRecord (kind := kEventRelease) hk rfl hl hnone, fun hk => h.noRecord (kind := kEventDelete) hk rfl hl hnone⟩
  · subst hn
    have number := number_of_find hx
    refine ⟨fun hk hp => ?_, fun hk hp h16 => ?_, fun hk hp h16 => ?_, fun hk hp => ?_, fun hk hp => ?_, fun hk hs => ?_,
      fun hk hs => ?_⟩
    · exact h.record (kind := kEventPin) hk rfl hl hx (if_pos hp) rfl
    · refine h.record (kind := kEventPin) hk rfl hl hx ((if_neg (by simp [hp])).trans ((if_pos h16).trans ?_)) rfl
      rw [← number]
      rfl
    · exact h.record (kind := kEventPin) hk rfl hl hx ((if_neg (by simp [hp])).trans (if_neg (by exact h16.not_gt))) rfl
    · exact h.record (kind := kEventUnpin) hk rfl hl hx (if_neg (by simp [hp])) rfl
    · refine h.record (kind := kEventUnpin) hk rfl hl hx ((if_pos hp).trans ?_) rfl
      rw [← number]
      rfl
    · exact h.record (kind := kEventRelease) hk rfl hl hx (if_neg hs) rfl
    · refine h.record (kind := kEventRelease) hk rfl hl hx ((if_pos hs).trans ?_) rfl
      rw [← number]
      rfl
  · have pinned : x.pinned = true := (EventRecord.pinned_iff x).mpr (by
      obtain hs | hs | hs := hpin
      · simp [hs]
      · simp [hs]
      · exact .inr hs)
    exact h.record (kind := kEventDelete) hk rfl hl hx (if_pos pinned) rfl
  · have unpinned : ¬x.pinned = true := by
      rw [EventRecord.pinned_iff]
      simp [hclosed, hq, hf, hpin]
    have number := number_of_find hx
    have pins (y : EventRecord) (hy : y ∈ s.et.records) (hn : y.number = be r.payload) : y.hostPin = false := hone y hy hn ▸ hpin
    have removed := removeRecord_of_unpinned (s := s.elapse d) pins hfill
    refine ⟨removeRecord (be r.payload) (s.elapse d),
      h.record (kind := kEventDelete) hk rfl hl hx ((if_neg unpinned).trans (by rw [number]; rfl)) rfl, ?_⟩
    rw [removed]
    have page (p : PageId) := WaveStore.page_releaseAll s.ws (s.ws.eventPages (be r.payload)) p
    refine ⟨fun b hb => by cases b <;> simp_all [Block.same], rfl, ?_, fun p hp => ?_, fun p hp => ?_⟩
    · dsimp only
      rw [WaveStore.releaseAll_eq]
      rfl
    · exact (congrArg Page.state ((page p).trans (if_pos hp))).trans (WaveStore.released_state _)
    · exact (page p).trans (if_neg hp)

/-! ## EVENT LIST (R104, 11.4) -/

/-- The peak part of a summary. -/
def peakPart (r : EventRecord) : List Byte :=
  match largestPeak r with
  | some (p, c) => putU 3 p ++ [c.code]
  | none => putU 3 0 ++ [0xFF]

theorem peakPart_length (r : EventRecord) : (peakPart r).length = 4 := by
  unfold peakPart
  split <;> simp

/-- What a summary has ahead of its peak part. -/
def summaryHead (r : EventRecord) : List Byte :=
  putU 4 r.number ++ [r.state.code] ++ putTime r.onset ++ [r.grade.code, triggerSetByte r.trigger] ++ putU 2 r.flags.toNat

theorem summaryHead_length (r : EventRecord) : (summaryHead r).length = 17 := by simp [summaryHead, putTime]

theorem summaryBytes_eq (w : WaveStore) (r : EventRecord) :
    summaryBytes w r = summaryHead r ++ (peakPart r ++ [summaryMarks w r, r.alert.code, alertClassOptCode r.alertClass]) := by
  rw [← List.append_assoc]
  rfl

theorem summaryBytes_length (w : WaveStore) (r : EventRecord) : (summaryBytes w r).length = 24 := by
  simp [summaryBytes_eq, summaryHead_length, peakPart_length]

theorem summaryBytes_take (w : WaveStore) (r : EventRecord) : (summaryBytes w r).take 17 = summaryHead r := by
  rw [summaryBytes_eq]
  exact List.take_left' (summaryHead_length r)

theorem summaryBytes_peak (w : WaveStore) (r : EventRecord) : ((summaryBytes w r).drop 17).take 4 = peakPart r := by
  rw [summaryBytes_eq, List.drop_left' (summaryHead_length r)]
  exact List.take_left' (peakPart_length r)

theorem summaryBytes_drop (w : WaveStore) (r : EventRecord) :
    (summaryBytes w r).drop 21 = [summaryMarks w r, r.alert.code, alertClassOptCode r.alertClass] := by
  rw [summaryBytes_eq, ← List.append_assoc]
  exact List.drop_left' (by simp [summaryHead_length, peakPart_length])

theorem summaryBytes_marks (w : WaveStore) (r : EventRecord) : (summaryBytes w r).getD 21 0 = summaryMarks w r := by
  have front : (summaryBytes w r).getD 21 0 = ((summaryBytes w r).drop 21).getD 0 0 := by simp [List.getD_eq_getElem?_getD]
  rw [front, summaryBytes_drop]
  rfl

/-- The six marks of a summary, bit by bit. -/
theorem marks_bits (a b c d e f : Bool) (m : Byte)
    (hm : m = (if a then 1 else 0) ||| (if b then 2 else 0) ||| (if c then 4 else 0) ||| (if d then 8 else 0) |||
      (if e then 16 else 0) ||| (if f then 32 else 0)) :
    m.getLsbD 0 = a ∧ m.getLsbD 1 = b ∧ m.getLsbD 2 = c ∧ m.getLsbD 3 = d ∧ m.getLsbD 4 = e ∧ m.getLsbD 5 = f := by
  subst hm
  revert a b c d e f
  decide

theorem extent_isSome (w : WaveStore) (n : Nat) (c : Channel) : (w.extent n c).isSome = true ↔ w.eventList n c ≠ [] := by
  unfold WaveStore.extent
  split <;> simp_all

/-! ### The largest peak -/

/-- A channel's peak takes the place of the best one so far when it is larger, and 0 is no peak. -/
def betterPeak (best : Option (Nat × Channel)) (c : Channel) (k : Option Peak) : Option (Nat × Channel) :=
  let n := match k with
    | some k => k.peak
    | none => 0
  if (match best with
    | some b => b.1
    | none => 0) < n then some (n, c) else best

theorem largestPeak_eq (r : EventRecord) :
    largestPeak r = betterPeak (betterPeak (betterPeak none .z (r.peaks.get .z)) .n (r.peaks.get .n)) .e (r.peaks.get .e) := by
  have fold : largestPeak r = channels.foldl (fun best c => betterPeak best c (r.peaks.get c)) none := by
    unfold largestPeak
    congr 1
    funext best c
    unfold betterPeak
    cases r.peaks.get c <;> cases best <;> simp
  rw [fold]
  rfl

theorem largestPeak_none {r : EventRecord} (h : ∀ c k, r.peaks.get c = some k → k.peak = 0) : largestPeak r = none := by
  have zero (best : Option (Nat × Channel)) (c : Channel) : betterPeak best c (r.peaks.get c) = best := by
    unfold betterPeak
    cases hk : r.peaks.get c with
    | none => simp
    | some k => simp [h c k hk]
  rw [largestPeak_eq, zero, zero, zero]

/-- The first largest peak in the order Z, N, E is found. -/
theorem largestPeak_some {r : EventRecord} {c : Channel} {k : Peak} (hk : r.peaks.get c = some k) (hpos : 0 < k.peak)
    (hmax : ∀ c' k', r.peaks.get c' = some k' → k'.peak < k.peak ∨ (k'.peak = k.peak ∧ c.code.toNat ≤ c'.code.toNat)) :
    largestPeak r = some (k.peak, c) := by
  /- A channel ahead of `c` has a smaller peak, so `c` takes the place; one behind it has no larger one. -/
  have take (best : Option (Nat × Channel)) (hb : ∀ b, best = some b → b.1 < k.peak) :
      betterPeak best c (r.peaks.get c) = some (k.peak, c) := by
    unfold betterPeak
    rw [hk]
    cases best with
    | none => simp [hpos]
    | some b => simp [hb b rfl]
  have keep (c' : Channel) : betterPeak (some (k.peak, c)) c' (r.peaks.get c') = some (k.peak, c) := by
    unfold betterPeak
    cases hc : r.peaks.get c' with
    | none => simp
    | some k' =>
      have := hmax c' k' hc
      simp
      omega
  have below (best : Option (Nat × Channel)) (c' : Channel) (hlt : c'.code.toNat < c.code.toNat)
      (hb : ∀ b, best = some b → b.1 < k.peak) : ∀ b, betterPeak best c' (r.peaks.get c') = some b → b.1 < k.peak := by
    unfold betterPeak
    cases hc : r.peaks.get c' with
    | none => simpa using hb
    | some k' =>
      have smaller := hmax c' k' hc
      intro b hbest
      dsimp only at hbest
      rw [ite_eq_iff] at hbest
      obtain ⟨-, hb'⟩ | ⟨-, hb'⟩ := hbest
      · cases hb'
        omega
      · exact hb b hb'
  rw [largestPeak_eq]
  cases c with
  | z => rw [take _ (by simp), keep, keep]
  | n => rw [take _ (below _ _ (by decide) (by simp)), keep]
  | e => rw [take _ (below _ _ (by decide) (below _ _ (by decide) (by simp)))]

/-! ### The two replies -/

theorem eventList_reply (p : List Byte) (s : State) :
    (Machine.eventList p s).1 =
      [(0x00 : Byte)] ++ putU 1 s.et.records.length ++ putU 1 s.et.pins ++ putU 4 s.et.counter ++
        putU 4 (match s.et.records with | [] => 0 | x :: _ => x.number) ++ putMark (8 < (recordsFrom s.et (getU p 0 4)).length) ++
        putU 1 (min 8 (recordsFrom s.et (getU p 0 4)).length) ++
        ((recordsFrom s.et (getU p 0 4)).take 8).flatMap (summaryBytes s.ws) := by
  have oldest : (s.et.records.head?.map EventRecord.number).getD 0 = match s.et.records with | [] => 0 | x :: _ => x.number := by
    cases s.et.records <;> rfl
  unfold Machine.eventList
  dsimp only
  rw [List.length_take, oldest]
  rfl

theorem recordBytes_eq (w : WaveStore) (x : EventRecord) (peak : Option Peak → List Byte) (ext : Channel → Option Extent)
    (hpeak : peak = fun p => match p with
       | some k => [(1 : Byte)] ++ putU 3 k.peak ++ putTimeOpt k.time
       | none => [(0 : Byte), 0, 0, 0] ++ putTimeOpt none)
    (hext : ∀ c, ext c = w.extent x.number c) :
    stOk :: recordBytes w x =
      [(0x00 : Byte)] ++ putU 4 x.number ++ [x.state.code] ++ putTime x.onset ++ [x.grade.code] ++ putU 4 x.u ++ [x.tier.code] ++
        putTimeOpt x.endTime ++ [triggerSetByte x.trigger] ++ peak x.peaks.z ++ peak x.peaks.n ++ peak x.peaks.e ++
        putU 2 x.flags.toNat ++ putMark (ext .z).isSome ++ putMark (ext .n).isSome ++ putMark (ext .e).isSome ++
        putMark x.hostPin ++ putMark x.released ++ [x.alert.code, alertClassOptCode x.alertClass] ++ putMark x.pinned ++
        ([Channel.z, .n, .e].flatMap fun c => match ext c with
          | some y => putTimeOpt y.first ++ putU 3 y.samples ++ putU 2 y.pages
          | none => []) := by
  have peaks : peak = peakBytes := by
    rw [hpeak]
    funext p
    cases p <;> rfl
  have extents (y : Option Extent) : extentBytes y = match y with
      | some y => putTimeOpt y.first ++ (putU 3 y.samples ++ putU 2 y.pages)
      | none => [] := by
    cases y
    · rfl
    · exact List.append_assoc _ _ _
  unfold recordBytes
  simp only [extents, hext, peaks, putTri, List.append_assoc, List.cons_append, List.nil_append, List.flatMap_cons, List.flatMap_nil,
    List.append_nil]
  rfl

/-- Settles O24: the layout of the summaries and of the record, and the records that the requests name. -/
theorem eventListAndGetReply : Obligations.EventListAndGetReply := by
  refine ⟨fun d s pre r post rest h hk hl hrest => ⟨?_, fun x => ?_⟩, fun d s pre r post peak ext h hk hl hpeak hext =>
    ⟨fun hnone => h.noRecord (kind := kEventGet) hk rfl hl hnone, fun x hx => ?_⟩⟩
  · have listed : recordsFrom s.et (getU r.payload 0 4) = rest := by
      rw [getU_all hl, hrest]
      rfl
    refine h.answers_ofLength (kind := kEventList) hk rfl hl (Prod.ext ((eventList_reply _ _).trans ?_) rfl) rfl
    rw [State.elapse_et, listed]
    rfl
  · obtain ⟨pin, rel, pinned, z, n, e⟩ := marks_bits _ _ _ _ _ _ (summaryMarks s.ws x) rfl
    rw [summaryBytes_marks, pin, rel, pinned, z, n, e, summaryBytes_peak]
    refine ⟨summaryBytes_length _ _, (summaryBytes_take _ _).trans rfl, rfl, rfl, ?_, ?_, extent_isSome _ _ _, extent_isSome _ _ _,
      extent_isSome _ _ _, fun c k hk hpos hmax => ?_, fun hzero => ?_⟩
    · rw [EventRecord.pinned_iff]
      cases x.state <;> simp
    · have drop : (summaryBytes s.ws x).drop 22 = ((summaryBytes s.ws x).drop 21).drop 1 := by rw [List.drop_drop]
      rw [drop, summaryBytes_drop]
      rfl
    · rw [peakPart, largestPeak_some hk hpos hmax]
    · rw [peakPart, largestPeak_none hzero]
      rfl
  · have number := number_of_find hx
    have extents (c : Channel) : ext c = s.ws.extent x.number c := by
      rw [hext, number]
      unfold WaveStore.extent
      cases s.ws.eventList (be r.payload) c <;> rfl
    have answered : Answers (.eventGet d) s pre r post (s.elapse d) (stOk :: recordBytes s.ws x) :=
      h.record (kind := kEventGet) hk rfl hl hx rfl rfl
    rw [recordBytes_eq s.ws x peak ext hpeak extents] at answered
    exact answered

end Sys2Proof.Machine

/-! PROOFS. Flags, wakes and alerts, rule by rule: what raising a flag leaves of the link, which entry is displaced, and what creating,
settling and offering alerts do to the queue (R112 to R121, R130, R179, R192). -/

namespace Sys2Proof.Machine

section

variable (s : State)

/-! ## Flags through a wake -/

@[simp] theorem setHostRail_flags (h : HostRail) : (setHostRail h s).sl.flags = s.sl.flags := by
  unfold setHostRail
  dsimp only
  (repeat' split) <;> rfl

@[simp] theorem wakeHost_flags (c : WakeCause) : (wakeHost c s).sl.flags = s.sl.flags := by
  unfold wakeHost
  split <;> simp

@[simp] theorem raise_flags (f : AttnFlag) : (raise f s).sl.flags = s.sl.flags ||| f.bit := by
  unfold raise
  dsimp only
  split
  · rfl
  · rw [wakeHost_flags]
    rfl

/-- A raised flag is set. -/
theorem raise_flag_set (f : AttnFlag) : (raise f s).sl.flags &&& f.bit ≠ 0 := by
  rw [raise_flags]
  generalize s.sl.flags = x
  revert x
  cases f <;> decide

theorem raise_changes (f : AttnFlag) : ChangesOnly [.pt, .sl] s (raise f s) := fun b hb => by cases b <;> simp_all [Block.same]

/-! ## Records of quake alerts (R119) -/

/-- The records with the alert of an event written. -/
def alertWritten (j : Subject) (a : AlertState) (c : AlertClass) (l : List EventRecord) : List EventRecord :=
  l.map fun r => if j = .event r.number then { r with alert := a, alertClass := some c } else r

theorem alertWritten_event (n : Nat) (a : AlertState) (c : AlertClass) (l : List EventRecord) :
    alertWritten (.event n) a c l = l.map fun r => if r.number = n then { r with alert := a, alertClass := some c } else r := by
  simp [alertWritten, eq_comm]

theorem alertWritten_of_ne {j : Subject} (h : ∀ n, j ≠ .event n) (a : AlertState) (c : AlertClass) (l : List EventRecord) :
    alertWritten j a c l = l := by simp [alertWritten, h]

theorem writeAlert_eq (j : Subject) (a : AlertState) (c : AlertClass) :
    writeAlert j a c s = { s with et := { s.et with records := alertWritten j a c s.et.records } } := by
  cases j with
  | event n => rw [alertWritten_event]; rfl
  | tier _ | grade _ | none => rw [alertWritten_of_ne (by simp)]; rfl

/-! ## Outcomes (R130) -/

theorem addResult_eq (l : List Result) (r : Result) : addResult l r = withResult l r := by
  unfold addResult withResult
  simp only [List.length_append, List.length_singleton]
  by_cases h : l.length < 8
  · rw [if_pos h, if_neg (by omega)]
  · rw [if_neg h, if_pos (by omega)]

/-- An entry leaves the queue for the results, the record of its event perhaps with it, and ALERT_RESULT is raised. -/
theorem outcome_eq (e : Entry) (o : AlertState) (w : Bool) :
    outcome e o w s =
      raise .alertResult
        { s with
          al :=
            { s.al with
              queue := s.al.queue.filter fun x => x.id != e.id
              results := withResult s.al.results ⟨e.id, e.cls, e.subject, o, e.attempts, s.now⟩
              outcomeCount := inc32 s.al.outcomeCount }
          et := { s.et with records := if w then alertWritten e.subject o e.cls s.et.records else s.et.records } } := by
  unfold outcome
  rw [← addResult_eq]
  cases w
  · rfl
  · simp only [if_true, writeAlert_eq]
    rfl

/-! ## Displacement (R115) -/

theorem AlertClass.priority_injective {c c' : AlertClass} (h : c.priority = c'.priority) : c = c' := by
  cases c <;> cases c' <;> first | rfl | simp [AlertClass.priority] at h

theorem alertClasses_mem (c : AlertClass) : c ∈ alertClasses := by cases c <;> decide

/-- The classes from the lowest stand in falling order of their priority numbers. -/
theorem alertClasses_sorted : alertClasses.reverse.Pairwise fun a b => b.priority < a.priority := by decide

/-- The first class of a list by falling priority number that satisfies a test has the largest number of those that do. -/
theorem find_lowest {l : List AlertClass} (hl : l.Pairwise fun a b => b.priority < a.priority) {p : AlertClass → Bool}
    {k : AlertClass} (h : l.find? p = some k) : ∀ c ∈ l, p c = true → c.priority ≤ k.priority := by
  induction l with
  | nil => simp at h
  | cons a l ih =>
    rw [List.pairwise_cons] at hl
    obtain ⟨ha, hl⟩ := hl
    rw [List.find?_cons] at h
    split at h
    · cases h
      intro c hc _
      obtain rfl | hc := List.mem_cons.mp hc
      · exact le_rfl
      · exact (ha c hc).le
    · rename_i hpa
      intro c hc hpc
      obtain rfl | hc := List.mem_cons.mp hc
      · simp [hpa] at hpc
      · exact ih hl h c hc hpc

variable {q : List Entry} {c : AlertClass}

/-- Nothing is displaced when no QUEUED entry has a lower class. -/
theorem displaceable_none (h : ∀ x ∈ q, x.inFlight = false → x.cls.priority ≤ c.priority) : displaceable q c = none := by
  unfold displaceable
  dsimp only
  split
  · rename_i low hlow
    have queued := List.find?_some hlow
    simp only [List.any_filter, List.any_eq_true, Bool.and_eq_true, Bool.not_eq_true', decide_eq_true_eq] at queued
    obtain ⟨x, hx, hq, rfl⟩ := queued
    exact if_neg (h x hx hq).not_gt
  · rfl

/-- The entry displaced is the oldest QUEUED one of the lowest class present. -/
theorem displaceable_some {a b : List Entry} {v : Entry} (hq : q = a ++ v :: b) (hv : v.inFlight = false)
    (hlow : c.priority < v.cls.priority) (hmax : ∀ x ∈ q, x.inFlight = false → x.cls.priority ≤ v.cls.priority)
    (hfirst : ∀ x ∈ a, x.inFlight = true ∨ x.cls ≠ v.cls) : displaceable q c = some v := by
  have present : (q.filter fun e => !e.inFlight).any (fun e => e.cls = v.cls) = true := by
    rw [List.any_filter, List.any_eq_true]
    exact ⟨v, by simp [hq], by simp [hv]⟩
  have lowest : alertClasses.reverse.find? (fun k => (q.filter fun e => !e.inFlight).any fun e => e.cls = k) = some v.cls := by
    cases hf : alertClasses.reverse.find? fun k => (q.filter fun e => !e.inFlight).any fun e => e.cls = k with
    | none =>
      have all := List.find?_eq_none.mp hf v.cls (List.mem_reverse.mpr (alertClasses_mem _))
      exact absurd present all
    | some k =>
      have above := find_lowest alertClasses_sorted hf v.cls (List.mem_reverse.mpr (alertClasses_mem _)) present
      have queued := List.find?_some hf
      simp only [List.any_filter, List.any_eq_true, Bool.and_eq_true, Bool.not_eq_true', decide_eq_true_eq] at queued
      obtain ⟨x, hx, hxq, rfl⟩ := queued
      rw [AlertClass.priority_injective (le_antisymm (hmax x hx hxq) above)]
  have front : (a.filter fun e => !e.inFlight).find? (fun e => e.cls = v.cls) = none := by
    rw [List.find?_eq_none]
    intro x hx
    obtain ⟨hxa, hxq⟩ := List.mem_filter.mp hx
    obtain h | h := hfirst x hxa
    · simp [h] at hxq
    · simpa using h
  unfold displaceable
  simp only [lowest, if_pos hlow]
  simp [hq, hv, List.find?_append, front]

theorem displaceable_mem {v : Entry} (h : displaceable q c = some v) :
    v ∈ q ∧ v.inFlight = false ∧ c.priority < v.cls.priority := by
  unfold displaceable at h
  dsimp only at h
  split at h
  · rename_i low _
    split at h
    · obtain ⟨hv, hq⟩ := List.mem_filter.mp (List.mem_of_find?_eq_some h)
      have cls := List.find?_some h
      simp only [decide_eq_true_eq] at cls
      exact ⟨hv, by simpa using hq, cls ▸ ‹_›⟩
    · cases h
  · cases h

end

end Sys2Proof.Machine

/-! PROOFS. Alerts created, coalesced and cancelled (O27 to O30), and the end of an attempt (O34). -/

namespace Sys2Proof.Machine

section

variable (s : State) (c : AlertClass) (j : Subject) (text : List Byte)

/-! ## Creation (R114, R115) -/

/-- The id counter after a creation. -/
def nextId (s : State) : Nat := nextAlertId (s.al.queue.map Entry.id) 17 s.al.idCounter

theorem nextId_succ {s : State} (h : s.al.idCounter < 65535) (hn : ∀ x ∈ s.al.queue, x.id ≠ s.al.idCounter + 1) :
    nextId s = s.al.idCounter + 1 := by
  have free : (s.al.queue.map Entry.id).contains (s.al.idCounter + 1) = false := by
    simpa using fun x hx he => hn x hx he
  have next : (if s.al.idCounter ≥ 65535 then 1 else s.al.idCounter + 1) = s.al.idCounter + 1 := if_neg (by omega)
  show nextAlertId _ (16 + 1) _ = _
  rw [nextAlertId]
  simp only [next, free, Bool.false_eq_true, if_false]

theorem createEntry_room {s : State} (h : s.al.queue.length < 16) :
    createEntry c j text s =
      { s with
        al := { s.al with queue := s.al.queue ++ [newEntry s c j text], idCounter := nextId s }
        et := { s.et with records := alertWritten j .queued c s.et.records } } := by
  unfold createEntry
  simp only [if_pos h, joinQueue, writeAlert_eq]
  rfl

theorem createEntry_displacing {s : State} (h : 16 ≤ s.al.queue.length) {v : Entry} (hv : displaceable s.al.queue c = some v) :
    createEntry c j text s =
      joinQueue (newEntry s c j text) (outcome v .displaced true (s.modAl fun a => { a with idCounter := nextId s })) := by
  unfold createEntry
  simp only [if_neg h.not_gt, hv]
  rfl

theorem createEntry_displaced {s : State} (h : 16 ≤ s.al.queue.length) (hv : displaceable s.al.queue c = none) :
    createEntry c j text s =
      outcome (newEntry s c j text) .displaced true (s.modAl fun a => { a with idCounter := nextId s }) := by
  unfold createEntry
  simp only [if_neg h.not_gt, hv]
  rfl

theorem createEntry_idCounter : (createEntry c j text s).al.idCounter = nextId s := by
  by_cases h : s.al.queue.length < 16
  · rw [createEntry_room c j text h]
  · cases hv : displaceable s.al.queue c with
    | some v => simp [createEntry_displacing c j text (not_lt.mp h) hv, joinQueue, writeAlert_eq, outcome_eq]
    | none => simp [createEntry_displaced c j text (not_lt.mp h) hv, outcome_eq]

theorem createEntry_changes : ChangesOnly [.al, .et, .pt, .sl] s (createEntry c j text s) :=
  fun b hb => by cases b <;> simp_all [Block.same]

theorem createEntry_params : (createEntry c j text s).al.params = s.al.params := by
  by_cases h : s.al.queue.length < 16
  · rw [createEntry_room c j text h]
  · cases hv : displaceable s.al.queue c with
    | some v => simp [createEntry_displacing c j text (not_lt.mp h) hv, joinQueue, writeAlert_eq, outcome_eq]
    | none => simp [createEntry_displaced c j text (not_lt.mp h) hv, outcome_eq]

theorem offerAlert_params : (offerAlert c j s).al.params = s.al.params := by
  unfold offerAlert
  split
  · split <;> rfl
  · exact createEntry_params s c j []

/-! ## The results list (R130) -/

theorem withResult_bounds {l : List Result} (r : Result) (h : l.length ≤ 8) :
    (withResult l r).length ≤ 8 ∧ (withResult l r).getLast? = some r ∧
      (l.length < 8 → (withResult l r).dropLast = l) ∧ (l.length = 8 → (withResult l r).dropLast = l.drop 1) := by
  unfold withResult
  by_cases hl : l.length < 8
  · rw [if_pos hl]
    refine ⟨by simp; omega, by simp, fun _ => by simp, fun h8 => by omega⟩
  · have h8 : l.length = 8 := by omega
    rw [if_neg hl]
    cases l with
    | nil => simp at h8
    | cons x l => exact ⟨by simpa using h8.le, by simp, fun h => absurd h hl, fun _ => by simp⟩

end

/-- No other entry holds the id counter's value. -/
theorem filter_id_of_fresh {l : List Entry} {n : Nat} (h : ∀ x ∈ l, x.id ≠ n) : l.filter (fun x => x.id != n) = l :=
  List.filter_eq_self.mpr fun x hx => by simpa using h x hx

/-- No entry speaks for the event. -/
theorem find_subject_none {q : List Entry} {n : Nat} (h : ∀ e ∈ q, e.subject ≠ .event n) :
    q.find? (fun e => e.subject = .event n) = none := List.find?_eq_none.mpr fun x hx => by simpa using h x hx

theorem trigger_anySet (t : Tri Bool) : t.anySet = false ↔ t = ⟨false, false, false⟩ := by
  cases t with
  | mk z n e => cases z <;> cases n <;> cases e <;> decide

/-- Settles O27: creation by room, displacement or rejection, coalescing by the entry of the class, and the quake and SOH alerts. -/
theorem alertCreationAndCoalescing : Obligations.AlertCreationAndCoalescing := by
  refine ⟨fun s c j text e he hfresh => ⟨fun hroom => ?_, fun a b v hfull hq hv hlow hmax hfirst => ?_, fun hfull hmax => ?_,
      fun hlt hn => (createEntry_idCounter s c j text).trans (nextId_succ hlt hn)⟩,
    fun s c j e => ⟨fun hf hq => ?_, fun a hf hq ha => ?_, fun hnone => ?_⟩,
    fun s n r hr => ⟨fun h => ?_, fun ht ha => ?_, fun hnone => ⟨fun ha => ?_, fun ha => ?_⟩, fun e hf => ⟨fun hc => ?_,
      fun a hc hq ha => ?_, fun hc hq => ?_⟩⟩,
    fun s hours hh => ⟨fun last hl hne hle => ?_, fun h => ?_⟩, fun l r hl => withResult_bounds r hl⟩
  · subst he
    refine ⟨_, createEntry_room c j text hroom, rfl, fun b hb => by cases b <;> simp_all [Block.same], fun n hn => ?_, fun hn => ?_⟩
    · rw [hn, alertWritten_event]
    · rw [alertWritten_of_ne hn]
  · subst he
    have created := createEntry_displacing c j text hfull (displaceable_some hq hv hlow hmax hfirst)
    refine ⟨_, rfl, ?_, ?_, ?_, ?_, ?_, createEntry_changes s c j text⟩
    all_goals rw [created, joinQueue, writeAlert_eq, outcome_eq]
    · simp [newEntry]
    · rw [State.modAl_al, raise_al]
      rfl
    · rw [State.modAl_al, raise_al]
      rfl
    · exact raise_flag_set _ .alertResult
    · simp only [State.modAl_et, raise_et, if_true, alertWritten, List.map_map, newEntry]
      refine congrArg (fun l => { s.et with records := l }) (List.map_congr_left fun r _ => ?_)
      by_cases hv : v.subject = .event r.number <;> simp [hv]
  · subst he
    have created := createEntry_displaced c j text hfull (displaceable_none hmax)
    refine ⟨_, rfl, ?_, ?_, ?_, ?_, ?_, createEntry_changes s c j text⟩
    all_goals rw [created, outcome_eq]
    · simpa [newEntry] using filter_id_of_fresh hfresh
    · rw [raise_al]
      rfl
    · rw [raise_al]
      rfl
    · exact raise_flag_set _ .alertResult
    · rw [raise_et]
      rfl
  · simp only [offerAlert, hf, hq]
    rfl
  · simp only [offerAlert, hf, hq, if_true, State.modAl, ha]
    rfl
  · have none : s.al.queue.find? (fun e => e.cls = c) = none := List.find?_eq_none.mpr fun x hx => by simpa using hnone x hx
    simp only [offerAlert, none]
  · have idle : (r.trigger.anySet && r.alert = .none) = false := by
      rw [← trigger_anySet] at h
      obtain h | h := h <;> simp [h]
    simp only [quakeAlert, State.record, hr, idle]
    rfl
  · have set : r.trigger.anySet = true := by
      rw [← Bool.not_eq_false, trigger_anySet]
      exact ht
    simp only [quakeAlert, State.record, hr, set, ha]
    rfl
  · simp only [strongReport, find_subject_none hnone, State.record, hr, ha, if_true]
  · simp only [strongReport, find_subject_none hnone, State.record, hr, if_neg ha]
  · simp only [strongReport, hf, if_pos hc]
  · simp only [strongReport, hf, if_neg hc, hq, if_true, State.modAl, ha]
    rfl
  · simp only [strongReport, hf, if_neg hc, hq, writeAlert_eq, alertWritten_event]
    rfl
  · subst hh
    refine ⟨_, rfl, ?_⟩
    simp only [sohCheck, hl, if_pos (And.intro hne hle), State.modAl, offerAlert_params, latestSoh, if_neg hne]
  · subst hh
    unfold sohCheck
    split
    · rename_i last hl
      obtain h | h := h
      · exact if_neg fun hc => hc.1 h
      · exact if_neg fun hc => absurd hc.2 (h last hl).not_ge
    · rfl

end Sys2Proof.Machine

/-! PROOFS. The head selectable entry (O28), ALERT POST and ALERT CANCEL (O29), and the reports and settings of alerts (O30). -/

namespace Sys2Proof.Machine

section

variable (s : State)

/-! ## Selection (R113, R120) -/

theorem tierAdmits_and_gradeAdmits_iff (e : Entry) :
    (tierAdmits s.pt.tier e && gradeAdmits s.tb.grade e.cls) = true ↔ Admitted s e := by
  unfold Admitted tierAdmits gradeAdmits
  cases s.pt.tier <;> simp [or_assoc, imp_iff_not_or]

theorem selectable_iff (e : Entry) : selectable s e = true ↔ e.inFlight = false ∧ Admitted s e := by
  rw [← tierAdmits_and_gradeAdmits_iff, selectable, Bool.and_assoc, Bool.and_eq_true, Bool.not_eq_true']

/-- The first match in queue order is sought class by class, and within a class by age. -/
theorem headSelectable_eq :
    headSelectable s = alertClasses.findSome? fun c => s.al.queue.find? fun e => decide (e.cls = c) && selectable s e := by
  simp [headSelectable, queueOrder, List.find?_flatMap, List.find?_filter]

/-- The classes from the highest stand in rising order of their priority numbers. -/
theorem alertClasses_rising : alertClasses.Pairwise fun a b => a.priority < b.priority := by decide

end

/-- Settles O28: the head selectable entry is the first of its class, and the higher classes hold none. -/
theorem headSelectableIsFirst : Obligations.HeadSelectableIsFirst := by
  intro s
  rw [headSelectable_eq]
  refine ⟨fun e he => ?_, fun hnone x hx hq ha => ?_⟩
  · obtain ⟨higher, c, lower, hsplit, hc, hhigher⟩ := List.findSome?_eq_some_iff.mp he
    obtain ⟨found, a, b, hab, ha⟩ := List.find?_eq_some_iff_append.mp hc
    simp only [Bool.and_eq_true, decide_eq_true_eq, selectable_iff] at found
    obtain ⟨rfl, hq, hadm⟩ := found
    refine ⟨by simp [hab], hq, hadm, fun x hx hxq hxa => ?_, a, b, hab, fun x hx hxq hxa hcls => ?_⟩
    · have rising := alertClasses_rising
      have mem := alertClasses_mem x.cls
      rw [hsplit] at rising mem
      obtain h | h := List.mem_append.mp mem
      · have free := List.find?_eq_none.mp (hhigher _ h) x hx
        simp [(selectable_iff s x).mpr ⟨hxq, hxa⟩] at free
      · obtain h | h := List.mem_cons.mp h
        · rw [h]
        · exact ((List.pairwise_cons.mp (List.pairwise_append.mp rising).2.1).1 _ h).le
    · have free := ha x hx
      simp [hcls, (selectable_iff s x).mpr ⟨hxq, hxa⟩] at free
  · have free := List.find?_eq_none.mp (List.findSome?_eq_none_iff.mp hnone x.cls (alertClasses_mem _)) x hx
    simp [(selectable_iff s x).mpr ⟨hq, ha⟩] at free

/-! ## ALERT POST and ALERT CANCEL (R132, R134) -/

section

variable {s : State} {pre post : List Request} {r : Request} {d : Elapsed}

/-- With nothing to displace, no QUEUED entry has a lower class. -/
theorem displaceable_eq_none {q : List Entry} {c : AlertClass} (h : displaceable q c = none) :
    ∀ x ∈ q, x.inFlight = false → x.cls.priority ≤ c.priority := by
  intro x hx hq
  have present : (q.filter fun e => !e.inFlight).any (fun e => e.cls = x.cls) = true := by
    rw [List.any_filter, List.any_eq_true]
    exact ⟨x, hx, by simp [hq]⟩
  have mem := List.mem_reverse.mpr (alertClasses_mem x.cls)
  unfold displaceable at h
  dsimp only at h
  split at h
  · rename_i low hlow
    have below := find_lowest alertClasses_sorted hlow x.cls mem present
    split at h
    · have found := List.find?_some hlow
      obtain ⟨y, hy, hyc⟩ := List.any_eq_true.mp found
      exact absurd hyc (List.find?_eq_none.mp h y hy)
    · omega
  · rename_i hnone
    exact absurd present (List.find?_eq_none.mp hnone x.cls mem)

/-- A new alert enters the queue unless it is full and holds no QUEUED entry of a lower class. -/
theorem wouldEnter_eq_false_iff (c : AlertClass) :
    wouldEnter s c = false ↔ 16 ≤ s.al.queue.length ∧ ∀ x ∈ s.al.queue, x.inFlight = false → x.cls.priority ≤ c.priority := by
  rw [wouldEnter, Bool.or_eq_false_iff, decide_eq_false_iff_not, not_lt]
  rw [Option.isSome_eq_false_iff, Option.isNone_iff_eq_none]
  exact and_congr_right fun _ => ⟨displaceable_eq_none, displaceable_none⟩

@[simp] theorem setHostRail_gasp (h : HostRail) : (setHostRail h s).pt.gasp = s.pt.gasp := by
  unfold setHostRail
  dsimp only
  (repeat' split) <;> rfl

@[simp] theorem wakeHost_gasp (c : WakeCause) : (wakeHost c s).pt.gasp = s.pt.gasp := by
  unfold wakeHost
  split <;> simp

@[simp] theorem raise_gasp (f : AttnFlag) : (raise f s).pt.gasp = s.pt.gasp := by
  unfold raise
  dsimp only
  split <;> simp

/-- Outside the last gasp the exit rule changes nothing. -/
theorem gaspCheck_of_none (h : s.pt.gasp = none) : gaspCheck s = s := by simp only [gaspCheck, h]

theorem outcome_changes (e : Entry) (o : AlertState) (w : Bool) : ChangesOnly [.al, .et, .pt, .sl] s (outcome e o w s) :=
  fun b hb => by rw [outcome_eq]; cases b <;> simp_all [Block.same]

theorem createEntry_sl_list (c : AlertClass) (j : Subject) (text : List Byte) (h : s.pt.host.isOn = true) :
    (createEntry c j text s).sl.list = s.sl.list := by
  by_cases room : s.al.queue.length < 16
  · rw [createEntry_room c j text room]
  · cases hv : displaceable s.al.queue c with
    | some v =>
      rw [createEntry_displacing c j text (not_lt.mp room) hv]
      simp [joinQueue, writeAlert_eq, outcome_eq, raise_sl_of_on, h]
    | none => simp [createEntry_displaced c j text (not_lt.mp room) hv, outcome_eq, raise_sl_of_on, h]

theorem alertPost_taken {p : List Byte} (h0 : p ≠ []) (hp : p.length ≤ 40) (ht : s.pt.tier = .full ∨ s.pt.tier = .conserve) :
    alertPost p s =
      ((if 16 ≤ s.al.queue.length ∧ ∀ x ∈ s.al.queue, x.inFlight = false → x.cls.priority ≤ 5 then 0x08 else 0x00) ::
        putU 2 s.al.idCounter, createEntry .host .none p s) := by
  unfold alertPost
  rw [if_neg (by simp [h0, maxText, hp]), if_neg (by rcases ht with h | h <;> simp [h])]
  have full := wouldEnter_eq_false_iff (s := s) .host
  rw [show AlertClass.host.priority = 5 from rfl] at full
  by_cases enters : wouldEnter s .host = true
  · rw [if_pos enters, if_neg (mt full.mpr (by simp [enters]))]
    rfl
  · rw [if_neg enters, if_pos (full.mp (by simpa using enters))]
    rfl

end

/-- Settles O29. -/
theorem alertPostAndCancel : Obligations.AlertPostAndCancel := by
  intro d s pre r post h
  refine ⟨fun hk hp => h.answers (kind := kAlertPost) hk rfl (if_pos hp) rfl,
    fun hk h0 hp ht => h.answers (kind := kAlertPost) hk rfl ?_ rfl,
    fun hk h0 hp ht hon => h.answers (kind := kAlertPost) hk rfl (alertPost_taken (List.length_pos_iff.mp h0) hp ht)
      (createEntry_sl_list _ _ _ hon),
    fun hk hp hnone => h.answers_ofLength (kind := kAlertCancel) hk rfl hp ?_ rfl,
    fun e hk hp hf => ⟨fun hq => h.answers_ofLength (kind := kAlertCancel) hk rfl hp ?_ rfl, fun hq hon hg => ?_⟩⟩
  · have taken : ¬(r.payload = [] ∨ maxText < r.payload.length) := by
      simp [List.length_pos_iff.mp h0, maxText, hp]
    exact (if_neg taken).trans (if_pos ht)
  · have free : s.al.queue.find? (fun e => e.id = getU r.payload 0 2) = none := by
      rw [getU_all hp]
      exact List.find?_eq_none.mpr fun x hx => by simpa using hnone x hx
    simp only [alertCancel, State.elapse_al, free]
    rfl
  · rw [← getU_all hp] at hf
    simp only [alertCancel, State.elapse_al, hf, hq, if_true]
    rfl
  · rw [← getU_all hp] at hf
    have cancelled : alertCancel r.payload (s.elapse d) = ([stOk], outcome e .cancelled true (s.elapse d)) := by
      simp only [alertCancel, State.elapse_al, hf, hq, Bool.false_eq_true, if_false]
      rw [gaspCheck_of_none (by rw [outcome_eq, raise_gasp]; exact hg)]
    refine ⟨_, h.answers_ofLength (kind := kAlertCancel) hk rfl hp cancelled ?_, ?_, ?_, fun n hn => ?_, fun hn => ?_, ?_⟩
    case refine_6 => exact outcome_changes e .cancelled true
    all_goals rw [outcome_eq]
    · simp [raise_sl_of_on, hon]
    · rw [raise_al]
      rfl
    · rw [raise_flags]
      rfl
    · rw [raise_et, if_pos rfl, hn, alertWritten_event]
      rfl
    · rw [raise_et, if_pos rfl, alertWritten_of_ne hn]
      rfl

/-! ## ALERT LIST, RESULTS READ and UPLINK SET (R133, R135, R136) -/

section

variable {s : State} {d : Elapsed}

theorem alertList_refused {p : List Byte} (h : 15 < getU p 0 1) : alertList p s = ([stOutOfRange], s) := if_pos h

/-- The bytes of a slot report: the slot and the issue instant while the frame decided last is the present one. -/
theorem slotBytes_eq :
    slotBytes s =
      match s.al.decided with
      | some x =>
        if x.frame = s.now.sec / 60 then putUOpt 1 (some x.slot) ++ putTime x.issue else [(0 : Byte), 0] ++ putTimeOpt none
      | none => [(0 : Byte), 0] ++ putTimeOpt none := by
  unfold slotBytes
  cases s.al.decided <;> rfl

theorem clampUplink_eq (a b c : Nat) : clampUplink ⟨a, b, c⟩ = ⟨max 1 (min a 29), b, min c 24⟩ := by
  simp [clampUplink, clampNat]

theorem uplinkSet_badLength {p : List Byte} (h : p.length ≠ 4) :
    uplinkSet p s = (stBadLength :: uplinkBytes s.al.params, s) := by
  simp only [uplinkSet, uplinkSetStatus, if_pos h]

theorem uplinkFields_bytes (a b c e : Byte) :
    getU [a, b, c, e] 0 1 = a.toNat ∧ getU [a, b, c, e] 1 2 = b.toNat * 256 + c.toNat ∧ getU [a, b, c, e] 3 1 = e.toNat := by
  refine ⟨?_, ?_, ?_⟩ <;> simp [getU, slice, be]

theorem putU_two (b c : Byte) : putU 2 (b.toNat * 256 + c.toNat) = [b, c] := by
  have high : BitVec.ofNat 8 ((b.toNat * 256 + c.toNat) / 256) = b := BitVec.eq_of_toNat_eq (by rw [BitVec.toNat_ofNat]; omega)
  have low : BitVec.ofNat 8 (b.toNat * 256 + c.toNat) = c := BitVec.eq_of_toNat_eq (by rw [BitVec.toNat_ofNat]; omega)
  simp only [putU, high, low, List.nil_append, List.cons_append]

theorem uplinkSet_taken (a b c e : Byte) {x : UplinkParams} (hx : x = ⟨max 1 (min a.toNat 29), b.toNat * 256 + c.toNat, min e.toNat 24⟩) :
    uplinkSet [a, b, c, e] s =
      ([if x.ownSlot = a.toNat ∧ x.sohInterval = e.toNat then 0x00 else 0x01, BitVec.ofNat 8 x.ownSlot, b, c,
          BitVec.ofNat 8 x.sohInterval], setUplink x s) := by
  obtain ⟨own, station, soh⟩ := uplinkFields_bytes a b c e
  have status : (clampUplink ⟨a.toNat, b.toNat * 256 + c.toNat, e.toNat⟩ = ⟨a.toNat, b.toNat * 256 + c.toNat, e.toNat⟩) =
      (x.ownSlot = a.toNat ∧ x.sohInterval = e.toNat) := by
    rw [clampUplink_eq, hx]
    simp
  unfold uplinkSet uplinkSetStatus
  rw [if_neg (by simp)]
  simp only [own, station, soh, status]
  rw [clampUplink_eq, ← hx]
  have bytes : putU 2 x.stationId = [b, c] := by
    rw [hx]
    exact putU_two b c
  refine Prod.ext (congrArg₂ List.cons ?_ ?_) rfl
  · rfl
  · show putU 1 x.ownSlot ++ putU 2 x.stationId ++ putU 1 x.sohInterval = _
    rw [bytes]
    rfl

end

/-- Settles O30. -/
theorem alertReportsAndSettings : Obligations.AlertReportsAndSettings := by
  intro d s pre r post h
  refine ⟨fun b hk hp => ⟨fun hb => h.answers_ofLength (kind := kAlertList) hk rfl (by rw [hp]; rfl) (alertList_refused ?_) rfl,
      fun listed hb hl => ?_⟩,
    fun hk hp => ?_, fun hk hp => ?_, fun a b c e hk hp x hx => ?_⟩
  · rwa [hp, getU_byte]
  · refine h.answers_ofLength (kind := kAlertList) hk rfl (by rw [hp]; rfl) ?_ rfl
    subst hl
    have entry : entryBytes (s.elapse d) = fun e =>
        putU 2 e.id ++ [e.cls.code] ++ e.subject.bytes ++ putTime e.created ++ [if e.inFlight then (2 : Byte) else 1] ++
          putU 1 e.attempts ++ putU 1 e.text.length ++ putMark (selectable s e) := by
      funext e
      unfold entryBytes Entry.state
      cases e.inFlight <;> rfl
    unfold alertList
    rw [hp, getU_byte, if_neg hb.not_gt, entry, slotBytes_eq]
    simp only [State.elapse_al]
    cases s.al.attempt <;> cases s.al.decided <;> rfl
  · obtain ⟨-, reads⟩ := h.answers_read (kind := kResultsRead) hk (fields := resultsFields) (c := .resultsRead d) (d := d) rfl
    exact reads hp
  · exact h.answers (kind := kUplinkSet) hk rfl (uplinkSet_badLength hp) rfl
  · have taken := uplinkSet_taken (s := s.elapse d) a b c e hx
    rw [← hp] at taken
    exact h.answers (kind := kUplinkSet) hk rfl taken rfl

end Sys2Proof.Machine

/-! PROOFS. The end of an attempt (O34): its entry, its marks, its window, and the end of the last gasp that it may bring
(R116, R118, R124, R129 to R131, R174). -/

namespace Sys2Proof.Machine

section

variable (s : State)

/-! ## What alerts leave of PT, SM and the attempt -/

@[simp] theorem createEntry_gasp (c : AlertClass) (j : Subject) (text : List Byte) :
    (createEntry c j text s).pt.gasp = s.pt.gasp := by
  by_cases room : s.al.queue.length < 16
  · rw [createEntry_room c j text room]
  · cases hv : displaceable s.al.queue c with
    | some v => simp [createEntry_displacing c j text (not_lt.mp room) hv, joinQueue, writeAlert_eq, outcome_eq]
    | none => simp [createEntry_displaced c j text (not_lt.mp room) hv, outcome_eq]

@[simp] theorem createEntry_attempt (c : AlertClass) (j : Subject) (text : List Byte) :
    (createEntry c j text s).al.attempt = s.al.attempt := by
  by_cases room : s.al.queue.length < 16
  · rw [createEntry_room c j text room]
  · cases hv : displaceable s.al.queue c with
    | some v => simp [createEntry_displacing c j text (not_lt.mp room) hv, joinQueue, writeAlert_eq, outcome_eq]
    | none => simp [createEntry_displaced c j text (not_lt.mp room) hv, outcome_eq]

@[simp] theorem offerAlert_gasp (c : AlertClass) (j : Subject) : (offerAlert c j s).pt.gasp = s.pt.gasp := by
  unfold offerAlert
  split
  · split <;> rfl
  · exact createEntry_gasp s c j []

theorem offerAlert_attempt {s : State} (h : s.al.attempt = none) (c : AlertClass) (j : Subject) :
    (offerAlert c j s).al.attempt = none := by
  unfold offerAlert
  split
  · split
    · simp [h]
    · exact h
  · exact (createEntry_attempt s c j []).trans h

@[simp] theorem syncModem_gasp : (syncModem s).pt.gasp = s.pt.gasp := by
  simp only [syncModem, State.modPt]
  (repeat' split) <;> rfl

@[simp] theorem setHostRail_enModem (h : HostRail) : (setHostRail h s).pt.enModem = s.pt.enModem := by
  unfold setHostRail
  dsimp only
  (repeat' split) <;> rfl

@[simp] theorem wakeHost_enModem (c : WakeCause) : (wakeHost c s).pt.enModem = s.pt.enModem := by
  unfold wakeHost
  split <;> simp

@[simp] theorem raise_enModem (f : AttnFlag) : (raise f s).pt.enModem = s.pt.enModem := by
  unfold raise
  dsimp only
  split <;> simp

/-! ## The end of the last gasp (R17, R174) -/

theorem changeGrade_hold (h : s.tb.grade = .tracking ∨ s.tb.grade = .locked) :
    changeGrade .hold s =
      raise .timeGrade
        { s with tb := { s.tb with grade := .hold, rejectRun := if s.tb.grade = .locked then 0 else s.tb.rejectRun } } := by
  unfold changeGrade
  obtain h | h := h <;> simp [h, State.modTb]

/-- The transfer to the watch clock: all rail windows close, and a grade that needs the reference becomes HOLD. -/
theorem toWatchClock_eq :
    toWatchClock s =
      if s.tb.grade = .tracking ∨ s.tb.grade = .locked then
        raise .timeGrade
          { s with
            tb :=
              { s.tb with
                clock := .watch, grade := .hold, rejectRun := if s.tb.grade = .locked then 0 else s.tb.rejectRun }
            al := { s.al with windows := [] } }
      else { s with tb := { s.tb with clock := .watch }, al := { s.al with windows := [] } } := by
  unfold toWatchClock
  dsimp only [State.modTb, State.modAl]
  split
  · rename_i h
    exact changeGrade_hold _ h
  · rfl

/-- In HIBERNATE the end of the last gasp takes the modem rail off. -/
theorem endGasp_eq {s : State} (h : s.pt.tier = .hibernate) :
    endGasp s = toWatchClock { s with pt := { s.pt with gasp := none, enModem := false } } := by
  unfold endGasp
  congr 1
  simp [syncModem, modemDemand, State.modPt, h]

theorem gaspCheck_of_some {s : State} {limit : Nat} (h : s.pt.gasp = some limit) :
    gaspCheck s =
      if s.al.attempt.isNone && s.sm.writing.isNone && (!gaspEntryQueued s || limit ≤ s.clk.watchRun) then endGasp s else s := by
  simp only [gaspCheck, h]

theorem gaspEntryQueued_eq_false_iff : gaspEntryQueued s = false ↔ ∀ x ∈ s.al.queue, ¬(x.cls = .pwr ∧ x.subject = .tier .hibernate) := by
  simp [gaspEntryQueued]

/-- The last gasp ends when nothing holds it: no attempt, no save, and its entry gone or its limit run out. -/
theorem gaspCheck_ends {s : State} {limit : Nat} (h : s.pt.gasp = some limit) (ha : s.al.attempt = none) (hw : s.sm.writing = none)
    (he : (∀ x ∈ s.al.queue, ¬(x.cls = .pwr ∧ x.subject = .tier .hibernate)) ∨ limit ≤ s.clk.watchRun) : gaspCheck s = endGasp s := by
  rw [gaspCheck_of_some h, if_pos]
  rw [← gaspEntryQueued_eq_false_iff] at he
  simpa [ha, hw] using he

theorem gaspCheck_stays {s : State}
    (h : s.pt.gasp = none ∨ s.al.attempt ≠ none ∨ s.sm.writing ≠ none ∨
      ∃ limit, s.pt.gasp = some limit ∧ s.clk.watchRun < limit ∧ ∃ x ∈ s.al.queue, x.cls = .pwr ∧ x.subject = .tier .hibernate) :
    gaspCheck s = s := by
  obtain hg | ⟨limit, hg⟩ := Option.eq_none_or_eq_some s.pt.gasp
  · exact gaspCheck_of_none hg
  · rw [gaspCheck_of_some hg, if_neg]
    simp only [Bool.and_eq_true, Option.isNone_iff_eq_none, Bool.or_eq_true, Bool.not_eq_true', gaspEntryQueued_eq_false_iff,
      decide_eq_true_eq]
    rintro ⟨⟨ha, hw⟩, he⟩
    obtain h | h | h | ⟨limit', h, before, x, hx, hxc⟩ := h
    · simp [h] at hg
    · exact h ha
    · exact h hw
    · cases hg.symm.trans h
      obtain he | he := he
      · exact he x hx hxc
      · omega

/-! ## What an attempt's end makes of its entry (R129) -/

/-- An entry that leaves the queue leaves it as the attempt has left it. -/
theorem outcome_updEntry (e : Entry) (o : AlertState) (w : Bool) :
    outcome e o w (updEntry e.id (fun _ => e) s) = outcome e o w s := by
  have queue : (s.al.queue.map fun x => if x.id = e.id then e else x).filter (fun x => x.id != e.id) =
      s.al.queue.filter fun x => x.id != e.id := by
    induction s.al.queue with
    | nil => rfl
    | cons x l ih =>
      rw [List.map_cons, List.filter_cons, List.filter_cons, ih]
      by_cases hx : x.id = e.id <;> simp [hx]
  rw [outcome_eq, outcome_eq]
  simp only [updEntry, State.modAl, queue]
  rfl

theorem updEntry_updEntry (e : Entry) (f : Entry → Entry) :
    updEntry e.id f (updEntry e.id (fun _ => e) s) = updEntry e.id (fun _ => f e) s := by
  unfold updEntry State.modAl
  simp only [List.map_map]
  congr 3
  funext x
  by_cases hx : x.id = e.id <;> simp [hx]

/-- An entry that leaves goes with its outcome; with the upgrade mark a new Q1 entry follows it. -/
theorem settleEntry_left {ok : Bool} {a : Attempt} {e : Entry} (h : ok = true ∨ 3 ≤ (afterAttempt ok e).attempts) :
    settleEntry ok a e s =
      followOn true (afterAttempt ok e) a.followOn
        (if a.upgrade then
          createEntry .q1 e.subject [] (outcome (afterAttempt ok e) (if ok then .sent else .failed) false s)
        else outcome (afterAttempt ok e) (if ok then .sent else .failed) true s) := by
  have left : (ok || decide (maxAttempts ≤ (afterAttempt ok e).attempts)) = true := by
    rw [Bool.or_eq_true, decide_eq_true_eq]
    exact h
  unfold settleEntry leaveQueue
  simp only [left, if_true, outcome_updEntry]
  cases a.upgrade <;> rfl

theorem settleEntry_returns {ok : Bool} {a : Attempt} {e : Entry} (h : ¬(ok = true ∨ 3 ≤ (afterAttempt ok e).attempts)) :
    settleEntry ok a e s =
      followOn false (afterAttempt ok e) a.followOn
        (returnToQueue a.upgrade (afterAttempt ok e) (updEntry e.id (fun _ => afterAttempt ok e) s)) := by
  have left : (ok || decide (maxAttempts ≤ (afterAttempt ok e).attempts)) = false := by
    rw [Bool.eq_false_iff, ne_eq, Bool.or_eq_true, decide_eq_true_eq]
    exact h
  unfold settleEntry
  simp only [left, Bool.false_eq_true, if_false]
  rfl

theorem endAttempt_eq {ok : Bool} {a : Attempt} {e : Entry} (ha : s.al.attempt = some a)
    (he : s.al.queue.find? (fun x => x.id = a.id) = some e) :
    endAttempt ok s =
      gaspCheck (syncModem (closeWindow a.frame (settleEntry ok a e { s with al := { s.al with attempt := none } }))) := by
  unfold endAttempt
  simp only [ha, State.modAl, he]

theorem settleEntry_gasp (ok : Bool) (a : Attempt) (e : Entry) : (settleEntry ok a e s).pt.gasp = s.pt.gasp := by
  have follow (l : Bool) (e : Entry) (f : Option Subject) (x : State) : (followOn l e f x).pt.gasp = x.pt.gasp := by
    unfold followOn
    (repeat' split) <;> simp [updEntry]
  by_cases h : ok = true ∨ 3 ≤ (afterAttempt ok e).attempts
  · rw [settleEntry_left s h, follow]
    split <;> simp [outcome_eq]
  · rw [settleEntry_returns s h, follow]
    simp [returnToQueue, writeAlert_eq, updEntry]

theorem settleEntry_attempt {s : State} (hs : s.al.attempt = none) (ok : Bool) (a : Attempt) (e : Entry) :
    (settleEntry ok a e s).al.attempt = none := by
  have follow (l : Bool) (e : Entry) (f : Option Subject) (x : State) (hx : x.al.attempt = none) :
      (followOn l e f x).al.attempt = none := by
    unfold followOn
    (repeat' split) <;> simp [updEntry, hx, offerAlert_attempt]
  by_cases h : ok = true ∨ 3 ≤ (afterAttempt ok e).attempts
  · rw [settleEntry_left s h]
    refine follow _ _ _ _ ?_
    split <;> simp [outcome_eq, hs]
  · rw [settleEntry_returns s h]
    refine follow _ _ _ _ ?_
    simp [returnToQueue, writeAlert_eq, updEntry, hs]

/-- The end of the last gasp, part by part. -/
theorem endGasp_fields {s : State} (h : s.pt.tier = .hibernate) :
    (endGasp s).al = { s.al with windows := [] } ∧ (endGasp s).et = s.et ∧ (endGasp s).pt.gasp = none ∧
      (endGasp s).pt.enModem = false ∧ (endGasp s).tb.clock = .watch ∧
      (endGasp s).tb.grade = (if s.tb.grade = .tracking ∨ s.tb.grade = .locked then .hold else s.tb.grade) := by
  rw [endGasp_eq h, toWatchClock_eq]
  dsimp only
  split <;> simp

theorem endGasp_changes {s : State} (h : s.pt.tier = .hibernate) : ChangesOnly [.tb, .al, .pt, .sl] s (endGasp s) := by
  obtain ⟨-, het, -⟩ := endGasp_fields h
  intro b hb
  cases b with
  | tb | al | pt | sl => simp at hb
  | et => exact het
  | _ => simp [Block.same]


end

/-- Settles O34. -/
theorem attemptEndSettlesEntry : Obligations.AttemptEndSettlesEntry := by
  refine ⟨fun s ok a e out attempts ha hup hf hg he hattempts => ⟨fun hleft hout => ?_, fun hok hlow => ?_⟩,
    fun s b r m f w ok left a e attempts cls out written ha he hattempts hleft hcls hout hwritten hb hr hm hfo hw => ?_⟩
  · have hid : e.id = a.id := by simpa using List.find?_some he
    have left : ok = true ∨ 3 ≤ (afterAttempt ok e).attempts := by
      rw [hattempts] at hleft
      exact hleft
    have settled : settleEntry ok a e { s with al := { s.al with attempt := none } } =
        outcome (afterAttempt ok e) out true { s with al := { s.al with attempt := none } } := by
      rw [settleEntry_left _ left, hup, hf, hout]
      rfl
    have ended := endAttempt_eq s (ok := ok) ha he
    rw [gaspCheck_of_none (by rw [syncModem_gasp, closeWindow_pt, settleEntry_gasp]; exact hg), settled] at ended
    refine ⟨_, ended, ?_, ?_, fun n hn => ?_, ?_⟩
    · rw [syncModem_al, outcome_eq, ← hid, hattempts]
      simp only [closeWindow, State.modAl, raise_al]
      rfl
    · rw [syncModem_sl, closeWindow_sl, outcome]
      exact raise_flag_set _ .alertResult
    · rw [syncModem_et, closeWindow_et, outcome_eq, raise_et, ← alertWritten_event, ← hn]
      rfl
    · intro b hb
      rw [outcome_eq]
      cases b <;> simp_all [Block.same]
  · have hid : e.id = a.id := by simpa using List.find?_some he
    have stays : ¬(ok = true ∨ 3 ≤ (afterAttempt ok e).attempts) := by
      rw [hattempts] at hlow
      rw [hok] at hlow ⊢
      simp only [Bool.false_eq_true, false_or, not_le]
      exact hlow
    have settled : settleEntry ok a e { s with al := { s.al with attempt := none } } =
        returnToQueue false (afterAttempt ok e) (updEntry e.id (fun _ => afterAttempt ok e) { s with al := { s.al with attempt := none } }) := by
      rw [settleEntry_returns _ stays, hup, hf]
      rfl
    have ended := endAttempt_eq s (ok := ok) ha he
    rw [gaspCheck_of_none (by rw [syncModem_gasp, closeWindow_pt, settleEntry_gasp]; exact hg), settled] at ended
    refine ⟨_, ended, ?_, fun n hn => ?_, ?_⟩
    · rw [syncModem_al, returnToQueue, writeAlert_eq, show e.id = (afterAttempt ok e).id from rfl, updEntry_updEntry, hattempts]
      simp only [closeWindow, State.modAl, updEntry, ← hid]
      rfl
    · rw [syncModem_et, closeWindow_et, returnToQueue, writeAlert_eq, ← alertWritten_event, ← hn]
      rfl
    · intro b hb
      rw [returnToQueue, writeAlert_eq]
      cases b <;> simp_all [Block.same]
  · have hid : e.id = a.id := by simpa using List.find?_some he
    have writes (x : State) (st : AlertState) (c : AlertClass) : written x st c = writeAlert e.subject st c x := by
      subst hwritten
      cases e.subject <;> rfl
    have settled : settleEntry ok a e { s with al := { s.al with attempt := none } } = f := by
      by_cases h : ok = true ∨ 3 ≤ (afterAttempt ok e).attempts
      · cases hleft.mpr (hattempts ▸ h)
        rw [settleEntry_left _ h, hfo, hm]
        simp only [if_true, writes]
        have left : outcome (afterAttempt ok e) out false { s with al := { s.al with attempt := none } } = raise .alertResult r := by
          rw [hr, ← hid, ← addResult_eq, hattempts]
          rfl
        have wrote : outcome (afterAttempt ok e) out true { s with al := { s.al with attempt := none } } =
            raise .alertResult (writeAlert e.subject out e.cls r) := by
          rw [hr, ← hid, ← addResult_eq, hattempts]
          rfl
        rw [← hout, left, wrote]
        cases a.followOn <;> rfl
      · have stays : left = false := by
          rw [← Bool.not_eq_true, hleft]
          exact hattempts ▸ h
        rw [settleEntry_returns _ h, hfo, hm, stays]
        simp only [Bool.false_eq_true, if_false, writes, returnToQueue]
        subst hb hattempts hcls
        rw [← hid]
        cases a.followOn <;> rfl
    have ended : endAttempt ok s = gaspCheck w := by
      rw [endAttempt_eq s ha he, settled, hw]
      rfl
    have gasp : w.pt.gasp = s.pt.gasp := by
      rw [hw, syncModem_gasp, ← settled]
      exact settleEntry_gasp _ ok a e
    have attempt : w.al.attempt = none := by
      rw [hw, syncModem_al, ← settled]
      exact settleEntry_attempt rfl ok a e
    have others : w.sm = s.sm ∧ w.clk = s.clk ∧ w.tb = s.tb ∧ w.pt.tier = s.pt.tier := by
      rw [hw, ← settled]
      refine ⟨by simp, by simp, by simp, ?_⟩
      exact (syncModem_woken _).tier.trans (settleEntry_woken _ ok a e).tier
    obtain ⟨hsm, hclk, htb, htier⟩ := others
    rw [ended]
    refine ⟨fun h => gaspCheck_stays ?_, fun limit hg hx hbefore => gaspCheck_stays ?_, fun limit hg hsave ht h => ?_⟩
    · rw [gasp, hsm]
      tauto
    · rw [gasp, hclk]
      exact .inr (.inr (.inr ⟨limit, hg, hbefore, hx⟩))
    · rw [gaspCheck_ends (gasp.trans hg) attempt (by rw [hsm]; exact hsave) (by rw [hclk]; exact h)]
      obtain ⟨hal, het, hgasp, hmodem, hclock, hgrade⟩ := endGasp_fields (htier.trans ht)
      rw [htb] at hgrade
      exact ⟨_, rfl, hal, het, hgasp, hmodem, hclock, hgrade, endGasp_changes (htier.trans ht)⟩

end Sys2Proof.Machine

/-! PROOFS. The voltage estimate (O36): the floored line between two points of the table, and the estimate that a scan makes in place of
the counting (R146, R147). -/

namespace Sys2Proof.Machine

section

variable {p : OcPoint} {l : List OcPoint} {v : Int}

/-! ## The estimate along the table (R146) -/

/-- The voltages of a consistent list rise. -/
theorem mv_lt_of_mem (h : pointsConsistent (p :: l) = true) : ∀ x ∈ l, p.mv < x.mv := by
  induction l generalizing p with
  | nil => simp
  | cons y l ih =>
    simp only [pointsConsistent, Bool.and_eq_true, decide_eq_true_eq] at h
    obtain ⟨⟨hy, -⟩, hl⟩ := h
    intro x hx
    obtain rfl | hx := List.mem_cons.mp hx
    · exact hy
    · exact hy.trans (ih hl x hx)

/-- Between two neighbours the estimate is the floored line through them. -/
theorem interpolate_between (h : pointsConsistent (p :: l) = true) (i : Nat) (hi : i < l.length)
    (hlo : ((p :: l)[i]'(by simp; omega)).mv ≤ v) (hhi : v < l[i].mv) :
    interpolate p l v =
      ((p :: l)[i]'(by simp; omega)).soc +
        (v - ((p :: l)[i]'(by simp; omega)).mv) * ((l[i].soc : Int) - ((p :: l)[i]'(by simp; omega)).soc) /
          ((l[i].mv : Int) - ((p :: l)[i]'(by simp; omega)).mv) := by
  induction l generalizing p i with
  | nil => simp at hi
  | cons x l ih =>
    cases i with
    | zero => exact if_pos hhi
    | succ i =>
      have rest : pointsConsistent (x :: l) = true := by
        simp only [pointsConsistent, Bool.and_eq_true] at h
        exact h.2
      have above : (x.mv : Int) ≤ v := by
        refine le_trans ?_ hlo
        cases i with
        | zero => simp
        | succ i => exact Int.ofNat_le.mpr (mv_lt_of_mem rest _ (List.getElem_mem _)).le
      exact (if_neg above.not_gt).trans (ih rest i _ hlo hhi)

/-- At or above the last point's voltage the estimate is the last point's SoC. -/
theorem interpolate_above (h : pointsConsistent (p :: l) = true) (hv : (((p :: l).getLast (List.cons_ne_nil _ _)).mv : Int) ≤ v) :
    interpolate p l v = ((p :: l).getLast (List.cons_ne_nil _ _)).soc := by
  induction l generalizing p with
  | nil => rfl
  | cons x l ih =>
    have rest : pointsConsistent (x :: l) = true := by
      simp only [pointsConsistent, Bool.and_eq_true] at h
      exact h.2
    rw [List.getLast_cons (by simp)] at hv ⊢
    have above : (x.mv : Int) ≤ v := by
      refine le_trans ?_ hv
      obtain rfl | hl := eq_or_ne l []
      · simp
      · rw [List.getLast_cons hl]
        exact Int.ofNat_le.mpr (mv_lt_of_mem rest _ (List.getLast_mem hl)).le
    exact (if_neg above.not_gt).trans (ih rest hv)

end

/-- The points of a table, the first apart. -/
theorem table_toList (t : OcTable) : t.toList = t.get 0 :: t.toList.drop 1 := by
  simpa [Vector.get_eq_getElem] using List.drop_eq_getElem_cons (l := t.toList) (i := 0) (by simp)

/-- The estimate by the table, in its three ranges (R146). -/
theorem estimateSoc_cases {t : OcTable} (ht : TableOk t) (v : Int) :
    (v ≤ (t.get 0).mv → estimateSoc t v = (t.get 0).soc) ∧ ((t.get 7).mv ≤ v → estimateSoc t v = (t.get 7).soc) ∧
      ∀ i : Fin 7, (t.get i.castSucc).mv ≤ v → v < (t.get i.succ).mv →
        estimateSoc t v =
          (t.get i.castSucc).soc +
            (v - (t.get i.castSucc).mv) * ((t.get i.succ).soc - (t.get i.castSucc).soc : Int) /
              ((t.get i.succ).mv - (t.get i.castSucc).mv : Int) := by
  have consistent := ht.1
  rw [table_toList] at consistent
  have point (i : Fin 8) (h : i.val < (t.get 0 :: t.toList.drop 1).length) : t.get i = (t.get 0 :: t.toList.drop 1)[i.val] := by
    simp only [← table_toList]
    simp [Vector.get_eq_getElem]
  have next (i : Fin 7) (h : i.val < (t.toList.drop 1).length) : t.get i.succ = (t.toList.drop 1)[i.val] := by
    simp [Vector.get_eq_getElem]
  have rises (i : Fin 7) : (t.get 0).mv < (t.get i.succ).mv := by
    refine mv_lt_of_mem consistent _ ?_
    rw [next i (by simp)]
    exact List.getElem_mem _
  refine ⟨fun h => if_pos h, fun h => ?_, fun i hlo hhi => ?_⟩
  · have last : (t.get 0 :: t.toList.drop 1).getLast (List.cons_ne_nil _ _) = t.get 7 := by
      simp only [← table_toList]
      simp [List.getLast_eq_getElem, Vector.get_eq_getElem]
    have above : (t.get 0).mv < (t.get 7).mv := rises 6
    exact (if_neg (by omega)).trans ((interpolate_above consistent (by rw [last]; exact h)).trans (by rw [last]))
  · have between := interpolate_between consistent i.val (by simp) (v := v)
    have here : (t.get 0 :: t.toList.drop 1)[i.val]'(by simp; omega) = t.get i.castSucc := (point i.castSucc (by simp; omega)).symm
    rw [← next i (by simp), here] at between
    by_cases hv : v ≤ (t.get 0).mv
    · have first : i.castSucc = 0 := by
        obtain h | ⟨j, hj⟩ := Fin.eq_zero_or_eq_succ i.castSucc
        · exact h
        · have := rises j
          rw [hj] at hlo
          omega
      rw [first] at hlo ⊢
      have at_first : v - (t.get 0).mv = 0 := by omega
      rw [at_first, zero_mul, Int.zero_ediv, add_zero]
      exact if_pos hv
    · exact (if_neg hv).trans (between hlo hhi)

/-! ## The charge at a scan (R141 to R148) -/

section

variable {s : State} {d : Elapsed} {raw : RawScan}

theorem exec_housekeepingScan_due (hp : s.powered = true) (h : s.hm.scanDue ≤ (s.elapse d).clk.watchRun) :
    exec (.housekeepingScan d raw) s = .next (scan raw (s.elapse d)) :=
  (timed_powered s d _ hp).trans (congrArg _ (if_pos h))

theorem exec_housekeepingScan_early (hp : s.powered = true) (h : (s.elapse d).clk.watchRun < s.hm.scanDue) :
    exec (.housekeepingScan d raw) s = .next (s.elapse d) :=
  (timed_powered s d _ hp).trans (congrArg _ (if_neg h.not_ge))

/-- The readings of a scan. -/
def State.scanned (s : State) (raw : RawScan) : Six Reading := scanReadings s.hm.cal raw s.hm.readings

/-- CA before the charge switch is evaluated at a scan. -/
def State.counted (s : State) (raw : RawScan) : ChargeUnit :=
  resyncStep s.now (s.scanned raw) (chargeStep s.hm.interval (s.scanned raw) s.ca)

/-- CA after a scan: what the scan counted, and the charge switch by its readings. -/
theorem scan_ca (s : State) (raw : RawScan) :
    (scan raw s).ca = { s.counted raw with chargeOn := chargeAllowed (s.counted raw) (s.scanned raw) } := by
  unfold scan
  simp only [endScan_ca, heaterDecide_ca, tierScan_ca, lowCurrentTest_ca]
  rfl

theorem vbat_scanned_inRange (h : 0 < raw.vbat.val ∧ raw.vbat.val < 4095) :
    (s.scanned raw).vbat.val =
      some (max 0 (min (((raw.vbat.val : Int) - s.hm.cal.vbat.offset) * s.hm.cal.vbat.gain / 4096) 65535)) := by
  have inside : inRange raw.vbat.val = true := by simpa [inRange] using h
  simp only [State.scanned, scanReadings, scanReading, inside, if_true, Reading.val]
  rfl

/-! ## Runs that do not reach their limit -/

theorem fullStep_below {now : Time} {c : ChargeUnit} (h : c.fullRun < 59) (b : Bool) :
    fullStep now b c = { c with fullRun := if b then c.fullRun + 1 else 0 } := by
  unfold fullStep fullScans
  cases b
  · rfl
  · rw [if_neg (by simp), if_neg (by omega)]
    rfl

theorem emptyStep_below {now : Time} {c : ChargeUnit} (h : c.emptyRun < 9) (b : Bool) :
    emptyStep now b c = { c with emptyRun := if b then c.emptyRun + 1 else 0 } := by
  unfold emptyStep emptyScans
  cases b
  · rfl
  · rw [if_neg (by simp), if_neg (by omega)]
    rfl

/-- With both runs below their limits a scan makes no resync. -/
theorem resyncStep_below {now : Time} {r : Six Reading} {c : ChargeUnit} (hfull : c.fullRun < 59) (hempty : c.emptyRun < 9) :
    resyncStep now r c =
      { c with
        fullRun := if showsFull c.limits r.vbat.val r.ibat.val then c.fullRun + 1 else 0
        emptyRun := if showsEmpty c.limits r.vbat.val then c.emptyRun + 1 else 0 } := by
  unfold resyncStep
  rw [fullStep_below hfull]
  exact emptyStep_below (c := { c with fullRun := if showsFull c.limits r.vbat.val r.ibat.val then c.fullRun + 1 else 0 }) hempty _

end

/-- Settles O36. -/
theorem voltageEstimateByTable : Obligations.VoltageEstimateByTable := by
  refine ⟨fun t v ht => estimateSoc_cases ht v, fun d raw s q hp hdue hmark hfull hempty hraw hq => ?_⟩
  refine ⟨_, exec_housekeepingScan_due hp hdue, ?_⟩
  have step : chargeStep s.hm.interval ((s.elapse d).scanned raw) s.ca =
      { s.ca.withCharge q with estimated := true, estimateMark := false } := by
    unfold chargeStep
    rw [if_pos hmark, vbat_scanned_inRange (s := s.elapse d) hraw, hq]
    rfl
  have counted : (s.elapse d).counted raw = resyncStep (s.elapse d).now ((s.elapse d).scanned raw)
      { s.ca.withCharge q with estimated := true, estimateMark := false } := by rw [← step]; rfl
  rw [scan_ca, counted.trans (resyncStep_below (c := { s.ca.withCharge q with estimated := true, estimateMark := false }) hfull hempty)]
  exact ⟨rfl, rfl, rfl, rfl, rfl⟩

/-! ## A scan under which the tier stays (R141, R159, R164, R176) -/

section

variable {s : State} {raw : RawScan}

/-- A switching instant while the main clock stands or settles reaches HC alone (R163). -/
theorem switchHeater_stopped (h : s.mainRuns = false) (st : HeaterState) :
    switchHeater st s = s.modHc fun h => { h with state := st, lastSwitch := some s.now, lowRun := 0 } := by
  unfold switchHeater
  rw [if_neg (by simp [h])]

/-- The order to return to the main clock does not change the heater's decision. -/
theorem heaterDecide_beginExit (h : s.tb.clock = .watch) (b : Bool) :
    heaterDecide b (beginExit s) = { heaterDecide b s with pt := (beginExit s).pt, tb := (beginExit s).tb } := by
  have stopped (x : Heater → Heater) : (s.modHc x).mainRuns = false := by simp [State.mainRuns, h]
  have settling (x : Heater → Heater) : ((beginExit s).modHc x).mainRuns = false := by
    simp [State.mainRuns, beginExit, State.modTb, State.modHc]
  have temp : controlTemp (beginExit s) = controlTemp s := rfl
  have target : heaterTarget (beginExit s) = heaterTarget s := rfl
  have event : eventInProgress (beginExit s) = eventInProgress s := rfl
  have hc : (beginExit s).hc = s.hc := rfl
  have now : (beginExit s).now = s.now := by simp [State.now, beginExit, State.modTb, State.modPt, h]
  have now_hc (x : State) (f : Heater → Heater) : (x.modHc f).now = x.now := rfl
  unfold heaterDecide
  simp only [switchHeater_stopped (stopped _), switchHeater_stopped (settling _), temp, target, event, hc, deferChange, now_hc, now]
  split_ifs <;> rfl

theorem exitTier_ne_hibernate (s : State) : exitTier s ≠ .hibernate := by
  unfold exitTier
  split <;> simp_all

/-- A scan that leaves the tier leaves everything to PT's evaluation as it is, or begins the exit from the watch clock. -/
theorem tierScan_same {b : Bool} (h : (tierScan b s).pt.tier = s.pt.tier) :
    tierScan b s = s ∨ s.pt.tier = .hibernate ∧ s.tb.clock = .watch ∧ tierScan b s = beginExit s := by
  by_cases hib : s.pt.tier = .hibernate
  · have scanned : tierScan b s = hibernateScan b s := if_pos hib
    rw [scanned] at h ⊢
    unfold hibernateScan at h ⊢
    by_cases hm : exitMet s = true
    · simp only [if_pos hm] at h ⊢
      by_cases hg : s.pt.gasp.isSome = true
      · rw [if_pos hg, tierChange_tier, hib] at h
        exact absurd h (exitTier_ne_hibernate s)
      · rw [if_neg hg]
        split
        · rename_i hw
          simp only [Bool.and_eq_true, decide_eq_true_eq] at hw
          exact .inr ⟨hib, hw.1, rfl⟩
        · exact .inl rfl
    · exact .inl (if_neg hm)
  · unfold tierScan at h ⊢
    simp only [if_neg hib] at h ⊢
    generalize (if cutForced s = true then Tier.hibernate else evaluatedTier s.pt.params s.ca.soc s.pt.tier) = new at h ⊢
    by_cases hn : new = s.pt.tier
    · exact .inl (if_pos hn)
    · rw [if_neg hn, tierChange_tier] at h
      exact absurd h hn

/-- A reading after a scan, by the raw value. -/
theorem scanReading_eq (r : Reading) (c : Calibration) (lo hi : Int) (v : Fin 4096) :
    scanReading c lo hi v.val r =
      if 0 < v.val ∧ v.val < 4095 then ⟨some (max lo (min (((v.val : Int) - c.offset) * c.gain / 4096) hi)), true, 0⟩
      else ⟨r.value, r.valid && decide (r.run + 1 < 3), min 3 (r.run + 1)⟩ := by
  have inside : (inRange v.val = true) = (0 < v.val ∧ v.val < 4095) := by simp [inRange]
  have run : (min 3 (r.run + 1) < 3) = (r.run + 1 < 3) := propext (by omega)
  simp only [scanReading, inside, satInc, invalidRun, run]
  rfl

theorem scan_hm (s : State) (raw : RawScan) :
    (scan raw s).hm =
      { readings := s.scanned raw, cal := s.hm.cal, interval := if (scan raw s).pt.tier = .hibernate then 60 else 1
        scanDue := s.hm.scanDue + (if (scan raw s).pt.tier = .hibernate then 60 else 1) * 32768
        scanCount := (s.hm.scanCount + 1) % 4294967296 } := by
  unfold scan
  simp only [endScan, State.modHm_hm, State.modHm_pt, heaterDecide_hm, tierScan_hm, lowCurrentTest_hm, chargeWork_hm]
  rfl

/-- The state that the low-current test meets: the readings and the charge of the scan are in force. -/
def State.measured (s : State) (raw : RawScan) : State :=
  { s with
    lines := { s.lines with ain := raw }, ca := (scan raw s).ca
    hm := { s.hm with readings := s.scanned raw, scanCount := (s.hm.scanCount + 1) % 4294967296 } }

theorem scan_eq (s : State) (raw : RawScan) :
    scan raw s = endScan s.hm.scanDue (heaterDecide false (tierScan false (lowCurrentTest (s.measured raw)))) := by
  have measured : s.measured raw =
      chargeWork (chargeStep s.hm.interval (takeScan raw s).hm.readings) (takeScan raw s) := by
    rw [State.measured, scan_ca]
    rfl
  rw [measured]
  rfl

theorem scan_tier (s : State) (raw : RawScan) : (scan raw s).pt.tier = (tierScan false (lowCurrentTest (s.measured raw))).pt.tier := by
  rw [scan_eq, endScan_pt, heaterDecide_pt]

/-- Where the tier stays, a scan is the readings and the charge, the low-current test, and the heater's decision. -/
theorem scan_same (h : (scan raw s).pt.tier = s.pt.tier) :
    scan raw s =
      { heaterDecide false (lowCurrentTest (s.measured raw)) with
        hm := (scan raw s).hm, pt := (scan raw s).pt, tb := (scan raw s).tb } := by
  rw [scan_tier] at h
  rw [scan_eq]
  obtain stays | ⟨-, watch, begins⟩ := tierScan_same (s := lowCurrentTest (s.measured raw)) (by rw [h]; simp; rfl)
  · rw [stays]
    rfl
  · rw [begins, heaterDecide_beginExit watch]
    rfl

/-- Outside HIBERNATE a scan under which the tier stays has no work for PT. -/
theorem scan_changes (hlive : s.pt.tier ≠ .hibernate) (h : (scan raw s).pt.tier = s.pt.tier) :
    ChangesOnly [.si, .tu, .et, .hm, .ca, .hc, .lines] s (scan raw s) := by
  have tier : (lowCurrentTest (s.measured raw)).pt.tier = s.pt.tier := by simp; rfl
  rw [scan_tier] at h
  obtain stays | ⟨hib, -⟩ := tierScan_same (h.trans tier.symm)
  · rw [scan_eq, stays]
    intro b hb
    cases b <;> simp_all [Block.same, State.measured]
  · exact absurd (tier.symm.trans hib) hlive

theorem resyncStep_limits (now : Time) (r : Six Reading) (c : ChargeUnit) : (resyncStep now r c).limits = c.limits := by
  have full (b : Bool) (c : ChargeUnit) : (fullStep now b c).limits = c.limits := by
    unfold fullStep
    (repeat' split) <;> rfl
  have empty (b : Bool) (c : ChargeUnit) : (emptyStep now b c).limits = c.limits := by
    unfold emptyStep
    (repeat' split) <;> rfl
  exact (empty _ _).trans (full _ _)

theorem chargeStep_limits (dt : Nat) (r : Six Reading) (c : ChargeUnit) : (chargeStep dt r c).limits = c.limits := by
  unfold chargeStep countCharge
  (repeat' split) <;> rfl

theorem State.counted_limits (s : State) (raw : RawScan) : (s.counted raw).limits = s.ca.limits := by
  rw [State.counted, resyncStep_limits, chargeStep_limits]

/-- The charge switch is on with enough source voltage, the battery in its charging temperatures, and the full latch clear (R148). -/
theorem chargeAllowed_iff (c : ChargeUnit) (r : Six Reading) :
    chargeAllowed c r = true ↔
      (∃ v, r.vsrc.valid = true ∧ r.vsrc.value = some v ∧ c.limits.vSrcMin ≤ v) ∧
        (∃ x, r.tbat.valid = true ∧ r.tbat.value = some x ∧ c.limits.chgTmin ≤ x ∧ x ≤ c.limits.chgTmax) ∧ c.fullLatch = false := by
  unfold chargeAllowed Reading.val
  cases hv : r.vsrc.valid <;> cases hx : r.vsrc.value <;> cases ht : r.tbat.valid <;> cases hy : r.tbat.value <;>
    simp [and_assoc]

theorem val_of_valid {r : Reading} {v : Int} (hv : r.valid = true) (hx : r.value = some v) : r.val = some v := by
  rw [Reading.val, if_pos hv, hx]

theorem val_of_invalid {r : Reading} (h : r.valid = false) : r.val = none := by simp [Reading.val, h]

/-- Without a pending estimate a scan counts. -/
theorem chargeStep_counting {c : ChargeUnit} (h : c.estimateMark = false) (dt : Nat) (r : Six Reading) :
    chargeStep dt r c = countCharge r.ibat.val dt c := if_neg (by simp [h])

/-- A scan without a valid current ends the full run, and makes a resync only at the end of an empty run. -/
theorem resyncStep_uncounted {now : Time} {r : Six Reading} {c : ChargeUnit} (h : r.ibat.val = none) :
    (resyncStep now r c).uncounted = c.uncounted ∧ (resyncStep now r c).fullRun = 0 ∧
      (c.emptyRun < 9 → (resyncStep now r c).q = c.q ∧ (resyncStep now r c).soc = c.soc) := by
  have full : fullStep now (showsFull c.limits r.vbat.val r.ibat.val) c = { c with fullRun := 0 } := by
    rw [h]
    cases r.vbat.val <;> rfl
  unfold resyncStep
  rw [full]
  refine ⟨?_, ?_, fun hrun => ?_⟩
  · unfold emptyStep
    (repeat' split) <;> rfl
  · unfold emptyStep
    (repeat' split) <;> rfl
  · rw [emptyStep_below (c := { c with fullRun := 0 }) hrun]
    exact ⟨rfl, rfl⟩

/-- The counting of a valid current, and the two resyncs: a full run of 60 scans, an empty run of 10 (R142 to R145). -/
theorem resyncStep_counted {now : Time} {r : Six Reading} {c : ChargeUnit} {v i : Int} (hl : c.limits.vEmpty < c.limits.vFull)
    (hv : r.vbat.val = some v) (hi : r.ibat.val = some i) {q : Int} {full empty : Bool}
    (hfull : full = decide (c.limits.vFull ≤ v ∧ 0 < i ∧ i ≤ c.limits.iTaper)) (hempty : empty = decide (v ≤ c.limits.vEmpty)) :
    resyncStep now r (c.withCharge q) =
      if full ∧ 60 ≤ c.fullRun + 1 then
        { c with
          q := (c.limits.capacityMah * 3600 : Nat), soc := 1000, fullLatch := true, estimated := false, lastFull := some now
          fullRun := 0, emptyRun := 0 }
      else if empty ∧ 10 ≤ c.emptyRun + 1 then
        { c with
          q := 0, soc := 0, fullLatch := false, estimated := false, lastEmpty := some now, fullRun := 0, emptyRun := 0 }
      else
        { c.withCharge q with
          fullRun := if full then c.fullRun + 1 else 0, emptyRun := if empty then c.emptyRun + 1 else 0 } := by
  have shows_full : showsFull c.limits (some v) (some i) = full := by
    rw [hfull]
    simp [showsFull, Bool.and_assoc]
  have shows_empty : showsEmpty c.limits (some v) = empty := by
    rw [hempty]
    rfl
  have apart : ¬(full = true ∧ empty = true) := by
    simp only [hfull, hempty, decide_eq_true_eq]
    omega
  show emptyStep now (showsEmpty c.limits r.vbat.val)
    (fullStep now (showsFull c.limits r.vbat.val r.ibat.val) (c.withCharge q)) = _
  rw [hv, hi, shows_full, shows_empty]
  cases full with
  | true =>
    obtain rfl : empty = false := by simpa using apart
    by_cases h : 60 ≤ c.fullRun + 1
    · rw [if_pos ⟨rfl, h⟩]
      exact congrArg (emptyStep now false) ((if_neg (by simp)).trans (if_pos h))
    · rw [if_neg (fun x => h x.2), if_neg (by simp)]
      exact congrArg (emptyStep now false) ((if_neg (by simp)).trans (if_neg h))
  | false =>
    rw [if_neg (by simp)]
    cases empty with
    | true =>
      by_cases h : 10 ≤ c.emptyRun + 1
      · rw [if_pos ⟨rfl, h⟩]
        exact (if_neg (by simp)).trans (if_pos h)
      · rw [if_neg (fun x => h x.2)]
        exact (if_neg (by simp)).trans (if_neg h)
    | false =>
      rw [if_neg (by simp)]
      rfl

end

/-- Settles O35. -/
theorem scanMeasuresAndCounts : Obligations.ScanMeasuresAndCounts := by
  intro d raw s hp
  refine ⟨exec_housekeepingScan_early hp, fun hdue => ⟨_, exec_housekeepingScan_due hp hdue, ?_, ?_, ?_, ?_, ?_, ?_, ?_, ?_⟩⟩
  · simp [scan]
  · simp [scan, takeScan]
  · rintro _ rfl
    rw [scan_hm]
    simp only [State.scanned, scanReadings, scanReading_eq]
    rfl
  · have limits : ((s.elapse d).counted raw).limits = s.ca.limits := State.counted_limits (s.elapse d) raw
    rw [scan_ca, scan_hm, ← limits]
    exact chargeAllowed_iff _ _
  · intro v i cap q soc full empty hmark hl hvv hv hiv hi hcap hq hsoc hfull hempty
    rw [scan_hm] at hvv hv hiv hi
    have counted : (s.elapse d).counted raw = resyncStep (s.elapse d).now ((s.elapse d).scanned raw) (s.ca.withCharge q) := by
      rw [State.counted, chargeStep_counting (c := (s.elapse d).ca) hmark, val_of_valid hiv hi, hq, hcap]
      rfl
    rw [scan_ca, counted, resyncStep_counted hl (val_of_valid hvv hv) (val_of_valid hiv hi) hfull hempty]
    subst hcap hsoc
    split
    · rfl
    · split <;> rfl
  · intro hmark hiv
    rw [scan_hm] at hiv
    have counted : (s.elapse d).counted raw = resyncStep (s.elapse d).now ((s.elapse d).scanned raw)
        { s.ca with uncounted := (s.ca.uncounted + 1) % 4294967296 } := by
      rw [State.counted, chargeStep_counting (c := (s.elapse d).ca) hmark, val_of_invalid hiv]
      rfl
    rw [scan_ca, counted]
    obtain ⟨huncounted, hfull, hcharge⟩ := resyncStep_uncounted (now := (s.elapse d).now)
      (c := { s.ca with uncounted := (s.ca.uncounted + 1) % 4294967296 }) (val_of_invalid hiv)
    exact ⟨huncounted, hfull, hcharge⟩
  · intro hlive hsame
    exact scan_changes hlive hsame
  · rintro _ rfl hsame
    have same := scan_same (s := s.elapse d) (raw := raw) hsame
    have readings : (scan raw (s.elapse d)).hm.readings = (s.elapse d).scanned raw := by rw [scan_hm]
    have count : (scan raw (s.elapse d)).hm.scanCount = (s.hm.scanCount + 1) % 4294967296 := by rw [scan_hm]; rfl
    rw [readings, count]
    exact same

end Sys2Proof.Machine

/-! PROOFS. BATTERY SET (O37): its three parts read back from the payload, limited to their ranges, and checked (R149, R150). -/

namespace Sys2Proof.Machine

section

variable {s : State} {pre post : List Request} {r : Request} {d : Elapsed}

/-! ## A part of BATTERY SET -/

/-- The command serves the requests of one part, and those that name no part. -/
def ServesBattery (c : Instr) (d : Elapsed) (part : Byte) (status : List Byte → State → Byte × State)
    (values : State → List Byte) : Prop :=
  part ∈ batteryParts ∧ ∀ s, exec c s = timed d s (serveBattery part (batterySet part status values))

theorem servesBattery_limits (d : Elapsed) :
    ServesBattery (.batterySetLimits d) d partLimits limitsStatus fun s => limitBytes s.ca.limits := ⟨by decide, fun _ => rfl⟩

theorem servesBattery_calibration (d : Elapsed) :
    ServesBattery (.batterySetCalibration d) d partCalibration calibrationStatus fun s => calibrationBytes s.hm.cal :=
  ⟨by decide, fun _ => rfl⟩

theorem servesBattery_table (d : Elapsed) :
    ServesBattery (.batterySetTable d) d partTable tableStatus fun s => tableBytes s.ca.table := ⟨by decide, fun _ => rfl⟩

variable {c : Instr} {code : Byte} {status : List Byte → State → Byte × State} {values : State → List Byte}

theorem ServesBattery.answers (hc : ServesBattery c d code status values) (h : Front s pre r post) (hk : r.kind = kBatterySet)
    (hm : namesOrNone code batteryParts r.payload = true) {t : State} {reply : List Byte}
    (hf : batterySet code status values r.payload (s.elapse d) = (reply, t)) (ht : t.sl.list = s.sl.list) :
    Answers c s pre r post t reply :=
  h.exec_serveWith (hc.2 s) (by simp [hk, hm]) (by simp only [hf]) ht

theorem ServesBattery.empty (hc : ServesBattery c d code status values) (h : Front s pre r post) (hk : r.kind = kBatterySet)
    (hp : r.payload = []) : Answers c s pre r post (s.elapse d) [stBadLength] :=
  hc.answers h hk (by rw [hp]; rfl) (if_pos hp) rfl

theorem namesOrNone_badPart {b : Byte} (hb : 2 < b.toNat) (p : List Byte) (code : Byte) :
    namesOrNone code batteryParts (b :: p) = true := by
  have other (k : Byte) (hk : k.toNat ≤ 2) : b ≠ k := fun he => absurd hk (by rw [← he]; omega)
  simp [namesOrNone, namesCode, batteryParts, other partLimits (by decide), other partCalibration (by decide),
    other partTable (by decide)]

theorem ServesBattery.badPart (hc : ServesBattery c d code status values) (h : Front s pre r post) (hk : r.kind = kBatterySet)
    {b : Byte} {p : List Byte} (hp : r.payload = b :: p) (hb : 2 < b.toNat) : Answers c s pre r post (s.elapse d) [stOutOfRange] := by
  refine hc.answers h hk (hp ▸ namesOrNone_badPart hb p code) ?_ rfl
  have known : code.toNat ≤ 2 := by
    have mem := hc.1
    simp only [batteryParts, List.mem_cons, List.not_mem_nil, or_false] at mem
    obtain rfl | rfl | rfl := mem <;> decide
  have other : b ≠ code := fun he => absurd known (by rw [← he]; omega)
  rw [batterySet, hp, if_neg (by simp), if_neg (by simp [namesCode, other])]

/-- A request of the part gets the status and the values in force after it. -/
theorem ServesBattery.named (hc : ServesBattery c d code status values) (h : Front s pre r post) (hk : r.kind = kBatterySet)
    {p : List Byte} (hp : r.payload = code :: p) {st : Byte} {t : State} (hs : status (code :: p) (s.elapse d) = (st, t))
    (ht : t.sl.list = s.sl.list) : Answers c s pre r post t (st :: values t) := by
  refine hc.answers h hk (by simp [hp, namesOrNone, namesCode]) ?_ ht
  rw [batterySet, hp, if_neg (by simp), if_pos (by simp [namesCode]), hs]

/-! ## The fields of each part read back (R149, R204) -/

theorem cons_eq_putU_append (b : Byte) (l : List Byte) : b :: l = putU 1 b.toNat ++ l := by simp [putU]

theorem getU_last {k v : Nat} (h : v < 256 ^ k) : getU (putU k v) 0 k = v := by simpa using getU_putU h []

theorem getS_skip {k off : Nat} (h : k ≤ off) (v : Nat) (b : List Byte) (len : Nat) :
    getS (putU k v ++ b) off len = getS b (off - k) len := by
  have skip := slice_append_right (a := putU k v) (off := off) (by rwa [putU_length]) b len
  rw [putU_length] at skip
  exact congrArg beSigned skip

theorem getS_skipS {k off : Nat} (h : k ≤ off) (v : Int) (b : List Byte) (len : Nat) :
    getS (putS k v ++ b) off len = getS b (off - k) len := getS_skip h _ b len

theorem getS_putS {v : Int} (hlo : -32768 ≤ v) (hhi : v ≤ 32767) (b : List Byte) : getS (putS 2 v ++ b) 0 2 = v := by
  have front := slice_append_left (putS 2 v) b
  rw [putS_length] at front
  rw [getS, front, beSigned_putS (by decide) (by norm_num; omega) (by norm_num; omega)]

theorem getS_last {v : Int} (hlo : -32768 ≤ v) (hhi : v ≤ 32767) : getS (putS 2 v) 0 2 = v := by simpa using getS_putS hlo hhi []

theorem limitFields_bytes {x : BatteryLimits}
    (h : x.capacityMah < 65536 ∧ x.eff < 65536 ∧ x.vFull < 65536 ∧ x.iTaper < 65536 ∧ x.vEmpty < 65536 ∧ x.vSrcMin < 65536 ∧
      (-32768 ≤ x.chgTmin ∧ x.chgTmin ≤ 32767) ∧ (-32768 ≤ x.chgTmax ∧ x.chgTmax ≤ 32767)) (b : Byte) :
    limitFields (b :: limitBytes x) = x := by
  obtain ⟨hcap, heff, hfull, htaper, hempty, hsrc, ⟨hmin0, hmin1⟩, hmax0, hmax1⟩ := h
  rw [cons_eq_putU_append]
  simp (disch := first | decide | (norm_num; assumption) | assumption) only [limitFields, limitBytes, List.append_assoc, getU_skip, getU_putU,
    Nat.reduceSub, getS_skip, getS_skipS, getS_putS, getS_last]

theorem calibrationFields_bytes {x : Six Calibration}
    (h : ∀ k ∈ [x.vbat, x.ibat, x.tbat, x.tenc, x.vsrc, x.ihtr], k.offset < 65536 ∧ k.gain < 65536) (b : Byte) :
    calibrationFields (b :: calibrationBytes x) = x := by
  simp only [List.forall_mem_cons, List.not_mem_nil, false_implies, implies_true, and_true] at h
  obtain ⟨⟨h1, h2⟩, ⟨h3, h4⟩, ⟨h5, h6⟩, ⟨h7, h8⟩, ⟨h9, h10⟩, h11, h12⟩ := h
  rw [cons_eq_putU_append]
  simp (disch := first | decide | (norm_num; assumption)) only [calibrationFields, calibrationAt, calibrationBytes, putSix,
    List.append_assoc, getU_skip, getU_putU, Nat.reduceSub, Nat.reduceAdd, getU_last]

/-- The points of a table, one after another. -/
def pointBytes (l : List OcPoint) : List Byte := l.flatMap fun p => putU 2 p.mv ++ putU 2 p.soc

theorem getU_pointBytes {l : List OcPoint} (h : ∀ p ∈ l, p.mv < 65536 ∧ p.soc < 65536) (n : Nat) (hn : n < l.length) :
    getU (pointBytes l) (4 * n) 2 = l[n].mv ∧ getU (pointBytes l) (4 * n + 2) 2 = l[n].soc := by
  induction l generalizing n with
  | nil => simp at hn
  | cons p l ih =>
    obtain ⟨⟨hmv, hsoc⟩, hl⟩ := List.forall_mem_cons.mp h
    have bytes : pointBytes (p :: l) = putU 2 p.mv ++ (putU 2 p.soc ++ pointBytes l) := by simp [pointBytes]
    rw [bytes]
    cases n with
    | zero => exact ⟨getU_putU hmv _, (getU_skip (by omega) _ _ _).trans (getU_putU hsoc _)⟩
    | succ n =>
      obtain ⟨ihmv, ihsoc⟩ := ih hl n (by simpa using hn)
      rw [getU_skip (by omega), getU_skip (by omega), getU_skip (by omega), getU_skip (by omega)]
      exact ⟨ihmv, ihsoc⟩

theorem tableFields_bytes {x : OcTable} (h : ∀ p ∈ x.toList, p.mv < 65536 ∧ p.soc < 65536) (b : Byte) :
    tableFields (b :: tableBytes x) = x := by
  have point (n : Fin 8) : pointAt (b :: tableBytes x) n.val = x.get n := by
    obtain ⟨hmv, hsoc⟩ := getU_pointBytes h n.val (by simp)
    rw [pointAt, cons_eq_putU_append, getU_skip (by omega), getU_skip (by omega)]
    rw [show 1 + 4 * n.val - 1 = 4 * n.val by omega, show 3 + 4 * n.val - 1 = 4 * n.val + 2 by omega]
    have here : x.get n = x.toList[n.val] := by simp [Vector.get_eq_getElem]
    exact (congrArg₂ OcPoint.mk hmv hsoc).trans here.symm
  refine Vector.ext fun i hi => ?_
  have here := point ⟨i, hi⟩
  interval_cases i <;> exact here

theorem tableBytes_length (x : OcTable) : (tableBytes x).length = 32 := by
  simp [tableBytes, List.length_flatMap]

theorem limitBytes_length (x : BatteryLimits) : (limitBytes x).length = 16 := by simp [limitBytes]

theorem calibrationBytes_length (x : Six Calibration) : (calibrationBytes x).length = 24 := by simp [calibrationBytes, putSix]

/-! ## The ranges and the cross-conditions (R149 steps 3 and 4) -/

theorem pointsConsistent_iff {l : List OcPoint} :
    pointsConsistent l = true ↔ ∀ i, (h : i + 1 < l.length) → l[i].mv < l[i + 1].mv ∧ l[i].soc ≤ l[i + 1].soc := by
  induction l with
  | nil => simp [pointsConsistent]
  | cons p l ih =>
    cases l with
    | nil => simp [pointsConsistent]
    | cons q l =>
      simp only [pointsConsistent, Bool.and_eq_true, decide_eq_true_eq, ih]
      refine ⟨fun ⟨first, rest⟩ i h => ?_, fun h => ⟨h 0 (by simp), fun i hi => h (i + 1) (by simpa using hi)⟩⟩
      cases i with
      | zero => exact first
      | succ i => exact rest i (by simpa using h)

theorem table_consistent_iff (y : OcTable) :
    pointsConsistent y.toList = true ↔
      ∀ i : Fin 7, (y.get i.castSucc).mv < (y.get i.succ).mv ∧ (y.get i.castSucc).soc ≤ (y.get i.succ).soc := by
  rw [pointsConsistent_iff]
  simp only [Vector.get_eq_getElem, Vector.length_toList, Vector.getElem_toList]
  exact ⟨fun h i => h i.val (by omega), fun h i hi => h ⟨i, by omega⟩⟩

theorem clampTable_eq {x y : OcTable} (hx : ∀ p ∈ x.toList, p.mv < 65536 ∧ p.soc < 65536)
    (hy : ∀ i, y.get i = ⟨(x.get i).mv, min (x.get i).soc 1000⟩) : clampTable x = y := by
  refine Vector.ext fun i hi => ?_
  have point := hy ⟨i, hi⟩
  have small := (hx x[i] (by simp)).1
  simp only [Vector.get_eq_getElem] at point
  rw [point]
  simp [clampTable, clampNat]
  omega

theorem clampCalibration_eq {k : Calibration} (h : k.gain < 65536) : clampCalibration k = ⟨min k.offset 4095, max 1 k.gain⟩ := by
  simp only [clampCalibration, clampNat, Calibration.mk.injEq]
  omega

/-! ## New limits (R150) -/

theorem setLimits_ca (x : BatteryLimits) (s : State) :
    (setLimits x s).ca =
      if x.capacityMah = s.ca.limits.capacityMah then { s.ca with limits := x, chargeOn := (setLimits x s).ca.chargeOn }
      else
        { s.ca with
          limits := x, q := min s.ca.q (x.capacityMah * 3600 : Nat)
          soc := (min s.ca.q (x.capacityMah * 3600 : Nat) * 1000 / (x.capacityMah * 3600 : Nat)).toNat
          fullLatch :=
            s.ca.fullLatch && decide (950 ≤ (min s.ca.q (x.capacityMah * 3600 : Nat) * 1000 / (x.capacityMah * 3600 : Nat)).toNat)
          estimated := true, chargeOn := (setLimits x s).ca.chargeOn } := by
  unfold setLimits
  simp only [State.modCa]
  split <;> rfl

theorem setLimits_limits (x : BatteryLimits) (s : State) : (setLimits x s).ca.limits = x := by
  rw [setLimits_ca]
  split <;> rfl

theorem setLimits_chargeOn (x : BatteryLimits) (s : State) :
    (setLimits x s).ca.chargeOn = chargeAllowed (setLimits x s).ca s.hm.readings := by
  unfold setLimits evalChargeSwitch
  rfl

theorem setLimits_list (x : BatteryLimits) (s : State) : (setLimits x s).sl.list = s.sl.list := by simp [setLimits]

theorem setLimits_changes (x : BatteryLimits) (s : State) : ChangesOnly [.ca] s (setLimits x s) :=
  fun b hb => by cases b <;> simp_all [Block.same, setLimits]

theorem limitsStatus_eq {x : BatteryLimits} (hx : limitFields (partLimits :: limitBytes x) = x) :
    limitsStatus (partLimits :: limitBytes x) s =
      if limitsConsistent (clampLimits x) = true then (if x = clampLimits x then stOk else stClamped, setLimits (clampLimits x) s)
      else (stOutOfRange, s) := by
  rw [limitsStatus, if_neg (by simp [limitBytes_length]), hx]
  by_cases h : limitsConsistent (clampLimits x) = true <;> simp [h, eq_comm]

theorem tableStatus_eq {x y : OcTable} (hx : ∀ p ∈ x.toList, p.mv < 65536 ∧ p.soc < 65536) (hy : clampTable x = y) :
    tableStatus (partTable :: tableBytes x) s =
      if pointsConsistent y.toList = true then (if x = y then stOk else stClamped, setTable y s) else (stOutOfRange, s) := by
  rw [tableStatus, if_neg (by simp [tableBytes_length]), tableFields_bytes hx]
  dsimp only
  rw [hy]
  by_cases h : pointsConsistent y.toList = true <;> simp [h, eq_comm]

end

/-- Settles O37: each part is read back from its bytes, limited, checked, and put in force whole. -/
theorem batterySetReplacesPart : Obligations.BatterySetReplacesPart := by
  intro d s pre r post c limits table cal h hk hlimits htable hcal
  obtain rfl : limits = limitBytes := hlimits
  obtain rfl : table = tableBytes := htable
  obtain rfl : cal = calibrationBytes := by
    rw [hcal]
    funext x
    simp [calibrationBytes, putSix]
  refine ⟨fun hc => ⟨fun hp => ?_, fun b p hp hb => ?_⟩, fun p hp hn => ?_, fun x y hp hx hy => ⟨fun hbad => ?_, fun hv ht => ?_⟩,
    fun p hp hn => ?_, fun x y near hp hx hnear hy => ?_, fun p hp hn => ?_, fun x y hp hx hy => ⟨fun hbad => ?_, fun hgood => ?_⟩⟩
  · obtain rfl | rfl | rfl := hc
    · exact (servesBattery_limits d).empty h hk hp
    · exact (servesBattery_calibration d).empty h hk hp
    · exact (servesBattery_table d).empty h hk hp
  · obtain rfl | rfl | rfl := hc
    · exact (servesBattery_limits d).badPart h hk hp hb
    · exact (servesBattery_calibration d).badPart h hk hp hb
    · exact (servesBattery_table d).badPart h hk hp hb
  · exact (servesBattery_limits d).named h hk hp (if_pos (by simpa using hn)) rfl
  · have refused := limitsStatus_eq (s := s.elapse d) (limitFields_bytes hx partLimits)
    rw [show clampLimits x = y from hy.symm, if_neg (by simp [limitsConsistent]; omega)] at refused
    exact (servesBattery_limits d).named h hk hp refused rfl
  · have taken := limitsStatus_eq (s := s.elapse d) (limitFields_bytes hx partLimits)
    rw [show clampLimits x = y from hy.symm, if_pos (by simp [limitsConsistent, hv, ht])] at taken
    have reply := (servesBattery_limits d).named h hk hp taken (setLimits_list y _)
    rw [setLimits_limits] at reply
    exact ⟨_, reply, setLimits_changes y _, setLimits_chargeOn y _, setLimits_ca y (s.elapse d)⟩
  · exact (servesBattery_calibration d).named h hk hp (if_pos (by simpa using hn)) rfl
  · have clamped : clampCalibrations x = y := by
      rw [hy, hnear]
      simp only [List.forall_mem_cons] at hx
      obtain ⟨h1, h2, h3, h4, h5, h6, -⟩ := hx
      simp only [clampCalibrations, clampCalibration_eq h1.2, clampCalibration_eq h2.2, clampCalibration_eq h3.2,
        clampCalibration_eq h4.2, clampCalibration_eq h5.2, clampCalibration_eq h6.2]
    have taken : calibrationStatus (partCalibration :: calibrationBytes x) (s.elapse d) =
        (if x = y then stOk else stClamped, setCalibration y (s.elapse d)) := by
      rw [calibrationStatus, if_neg (by simp [calibrationBytes_length]), calibrationFields_bytes hx]
      dsimp only
      rw [clamped, if_congr eq_comm rfl rfl]
    exact (servesBattery_calibration d).named h hk hp taken rfl
  · exact (servesBattery_table d).named h hk hp (if_pos (by simpa using hn)) rfl
  · have refused := tableStatus_eq (s := s.elapse d) hx (clampTable_eq hx hy)
    rw [if_neg] at refused
    · exact (servesBattery_table d).named h hk hp refused rfl
    · rw [table_consistent_iff]
      obtain ⟨i, hi⟩ := hbad
      exact fun all => by have := all i; omega
  · have taken := tableStatus_eq (s := s.elapse d) hx (clampTable_eq hx hy)
    rw [if_pos ((table_consistent_iff y).mpr hgood)] at taken
    exact (servesBattery_table d).named h hk hp taken rfl

end Sys2Proof.Machine

/-! PROOFS. The heater controller: one decision whole (O38), and the low-current test, the deadline and the requests that decide (O39)
(R155 to R166). -/

namespace Sys2Proof.Machine

section

variable {s : State}

/-! ## The switching instant (R163) -/

theorem updRecord_eq (n : Nat) (f : EventRecord → EventRecord) (s : State) :
    updRecord n f s = { s with et := { s.et with records := s.et.records.map fun r => if r.number = n then f r else r } } := rfl

theorem setCurrentFlag_eq (f : EventFlags → EventFlags) (s : State) :
    setCurrentFlag f s =
      { s with
        et := { s.et with
          records := s.et.records.map fun r => if s.tu.current = some r.number then { r with flags := f r.flags } else r } } := by
  unfold setCurrentFlag setEventFlag
  cases hc : s.tu.current with
  | none => simp
  | some n =>
    simp [updRecord_eq, eq_comm]

/-- A switch of the heater: HC's record of it, and, while the main clock runs, the heat mark, the quiet window and HEATER_SWITCHED. -/
theorem switchHeater_running (h : s.tb.clock = .main) (st : HeaterState) :
    switchHeater st s =
      { s with
        hc := { s.hc with state := st, lastSwitch := some s.now, lowRun := 0 }
        si := { s.si with heatMark := true }
        tu := { s.tu with
          quietEnd :=
            if s.tu.params.quietWindow = 0 then s.tu.quietEnd
            else some ((s.tu.delivery + s.tu.params.quietWindow * 100) % 4294967296) }
        et := { s.et with
          records := s.et.records.map fun r =>
            if s.tu.current = some r.number then { r with flags := { r.flags with heaterSwitched := true } } else r } } := by
  have runs : s.mainRuns = true := by simpa [State.mainRuns] using h
  unfold switchHeater startQuiet
  rw [if_pos runs, setCurrentFlag_eq]
  by_cases hq : s.tu.params.quietWindow = 0
  · simp only [State.modHc, State.modSi, State.modTu, hq, if_true]
  · simp only [State.modHc, State.modSi, State.modTu, hq, if_false]
    rfl

/-- A switch is a switching instant, whatever HC notes before and after it. -/
theorem switchingInstant_switch (s : State) (st : HeaterState) (f g : Heater → Heater) :
    SwitchingInstant s ((switchHeater st (s.modHc f)).modHc g) := by
  refine ⟨fun h => ?_, fun h => ?_⟩
  · have stopped : (s.modHc f).mainRuns = false := decide_eq_false h
    rw [switchHeater_stopped stopped]
    intro b hb
    cases b <;> first | rfl | simp at hb
  · rw [switchHeater_running (s := s.modHc f) h]
    refine ⟨fun b hb => ?_, rfl, rfl, rfl⟩
    cases b <;> first | rfl | simp at hb

theorem switchHeater_hc (st : HeaterState) (s : State) :
    (switchHeater st s).hc = { s.hc with state := st, lastSwitch := some s.now, lowRun := 0 } := by
  by_cases h : s.tb.clock = .main
  · rw [switchHeater_running h]
  · rw [switchHeater_stopped (decide_eq_false h)]
    rfl

/-! ## The control temperature, the demands and the target (R155 to R157, R160) -/

theorem controlTemp_cases (s : State) :
    controlTemp s =
      if s.hm.readings.tbat.valid ∧ s.hm.readings.tbat.value ≠ none then s.hm.readings.tbat.value
      else if s.hm.readings.tenc.valid then s.hm.readings.tenc.value
      else none := by
  unfold controlTemp Reading.val
  cases s.hm.readings.tbat.valid <;> cases s.hm.readings.tbat.value <;> rfl

theorem updateDemands_eq (p : HeaterParams) (tc : Option Int) (demand guard : Bool) :
    updateDemands p tc demand guard =
      ((match tc with
        | none => false
        | some x =>
          if x ≤ p.damageLow then true
          else if x < p.damageLow + 50 then x ≤ p.heatOn || demand
          else if x ≤ p.heatOn then true
          else if x < p.heatOff then demand
          else false),
        (match tc with
          | none => false
          | some x => x ≤ p.damageLow || (x < p.damageLow + 50 && guard))) := by
  unfold updateDemands guardBand
  cases tc with
  | none => rfl
  | some x =>
    by_cases h1 : x ≤ p.damageLow
    · simp [h1]
    · by_cases h2 : x < p.damageLow + 50
      · by_cases h3 : x ≤ p.heatOn <;> simp [h1, h2, h3]
      · by_cases h3 : x ≤ p.heatOn
        · simp [h1, h2, h3]
        · by_cases h4 : x < p.heatOff <;> simp [h1, h2, h3, h4]

theorem sourceAvailable_iff (s : State) :
    sourceAvailable s = true ↔
      s.hm.readings.vsrc.valid = true ∧ ∃ v, s.hm.readings.vsrc.value = some v ∧ s.ca.limits.vSrcMin ≤ v := by
  unfold sourceAvailable Reading.val
  cases s.hm.readings.vsrc.valid <;> cases s.hm.readings.vsrc.value <;> simp

theorem batteryHeatPermitted_iff (s : State) (guard : Bool) :
    batteryHeatPermitted s guard = true ↔
      s.pt.tier = .full ∨ (s.pt.tier = .conserve ∧ s.hc.params.reserve ≤ s.ca.soc) ∨ (s.pt.tier ≠ .hibernate ∧ guard = true) := by
  unfold batteryHeatPermitted
  cases s.pt.tier <;> simp

theorem heaterTarget_eq (s : State) (want guard : Bool) :
    heaterTarget s want guard =
      if want = false then .off
      else if s.hm.readings.vsrc.valid ∧ (∃ v, s.hm.readings.vsrc.value = some v ∧ s.ca.limits.vSrcMin ≤ v) then .onSrc
      else if s.pt.tier = .full ∨ (s.pt.tier = .conserve ∧ s.hc.params.reserve ≤ s.ca.soc) ∨
          (s.pt.tier ≠ .hibernate ∧ guard = true) then .onBat
      else .off := by
  unfold heaterTarget
  simp only [Bool.not_eq_true', sourceAvailable_iff, batteryHeatPermitted_iff]

theorem isImmediate_eq (p : HeaterParams) (st target : HeaterState) (tc : Option Int) (want guard : Bool) :
    isImmediate p st target tc want guard =
      if st = .off then guard
      else if target = .off then
        want || (match tc with
          | none => true
          | some x => decide (p.overheat ≤ x))
      else true := by
  unfold isImmediate
  cases st <;> cases target <;> rfl

end

/-- Settles O38: a decision in its four cases. -/
theorem heaterDecides : Obligations.HeaterDecides := by
  intro s t atDeadline tc demand guard want immediate target h htc hdemand hguard hwant htarget himmediate hh ht
  have temp : controlTemp s = tc := (controlTemp_cases s).trans htc.symm
  have demands : updateDemands s.hc.params tc s.hc.demand s.hc.coldGuard = (demand, guard) := by
    rw [hdemand, hguard]
    exact updateDemands_eq _ _ _ _
  have wanted : heaterDemand s.hc.params tc demand guard = want := by
    rw [hwant]
    cases tc <;> rfl
  have aims : heaterTarget s want guard = target := (heaterTarget_eq s want guard).trans htarget.symm
  have urgent : isImmediate s.hc.params s.hc.state target tc want guard = immediate :=
    (isImmediate_eq _ _ _ _ _ _).trans himmediate.symm
  subst ht
  unfold heaterDecide
  simp only [temp, demands, wanted, aims, urgent]
  refine ⟨fun hf => ?_, fun hf he => ?_, fun hf he hnow => ?_, fun hf he hi hev hd hat => ?_⟩
  · rw [if_pos hf, hh]
    rfl
  · rw [if_neg hf, if_pos he, hh]
    rfl
  · have now : (immediate || !eventInProgress s || decide (s.hc.params.deferLimit = 0) || atDeadline) = true := by
      simpa [eventInProgress, or_assoc] using hnow
    rw [if_neg hf, if_neg he, if_pos now]
    refine ⟨?_, switchingInstant_switch s target _ _⟩
    rw [State.modHc_hc, switchHeater_hc, hh]
    rfl
  · have later : ¬(immediate || !eventInProgress s || decide (s.hc.params.deferLimit = 0) || atDeadline) = true := by
      have event : eventInProgress s = true := by simpa [eventInProgress] using hev
      simp [event, hi, hd, hat]
    rw [if_neg hf, if_neg he, if_neg later, hh]
    unfold deferChange
    simp only [State.modHc]
    cases s.hc.change <;> rfl

section

variable {s : State} {d : Elapsed}

/-! ## The low-current test (R164) -/

/-- The heater current is low: below 100 mA, or not known. -/
def State.currentLow (s : State) : Bool :=
  match s.hm.readings.ihtr.val with
  | some i => decide (i < minHeaterCurrent)
  | none => true

theorem currentLow_eq (s : State) :
    s.currentLow =
      match s.hm.readings.ihtr.valid, s.hm.readings.ihtr.value with
      | true, some i => decide (i < 100)
      | _, _ => true := by
  unfold State.currentLow Reading.val
  cases s.hm.readings.ihtr.valid <;> cases s.hm.readings.ihtr.value <;> rfl

theorem lowCurrentTest_clear (h : (s.hc.state ≠ .onSrc ∧ s.hc.state ≠ .onBat) ∨ s.currentLow = false) :
    lowCurrentTest s = s.modHc fun h => { h with lowRun := 0 } := by
  unfold lowCurrentTest
  by_cases hon : s.hc.state = .onSrc ∨ s.hc.state = .onBat
  · rw [if_pos hon]
    obtain h | h := h
    · tauto
    · exact if_neg (Bool.eq_false_iff.mp h)
  · exact if_neg hon

theorem lowCurrentTest_low (hon : s.hc.state = .onSrc ∨ s.hc.state = .onBat) (h : s.currentLow = true) :
    lowCurrentTest s = if s.hc.lowRun + 1 ≥ 3 then enterFault s else s.modHc fun h => { h with lowRun := h.lowRun + 1 } := by
  unfold lowCurrentTest
  exact (if_pos hon).trans (if_pos h)

theorem enterFault_hc (s : State) :
    (enterFault s).hc =
      { s.hc with
        state := .fault, change := none, lowRun := 0, faults := min 255 (s.hc.faults + 1), lastSwitch := some s.now } := by
  rw [enterFault, State.modHc_hc, switchHeater_hc]
  rfl

theorem enterFault_instant (s : State) : SwitchingInstant s (enterFault s) := switchingInstant_switch s .fault id _

/-! ## HEATER SET (R166) -/

theorem heaterBytes_length (x : HeaterParams) : (heaterBytes x).length = 12 := by simp [heaterBytes]

theorem heaterFields_bytes {x : HeaterParams} (h : ∀ v ∈ [x.heatOn, x.heatOff, x.damageLow, x.overheat], -32768 ≤ v ∧ v ≤ 32767)
    (hr : x.reserve < 65536) (hd : x.deferLimit < 65536) : heaterFields (heaterBytes x) = x := by
  simp only [List.forall_mem_cons] at h
  obtain ⟨⟨h1, h2⟩, ⟨h3, h4⟩, ⟨h5, h6⟩, ⟨h7, h8⟩, -⟩ := h
  have skip {k off : Nat} (h : k ≤ off) (v : Int) (b : List Byte) (len : Nat) : getU (putS k v ++ b) off len = getU b (off - k) len :=
    getU_skip h _ b len
  simp (disch := first | decide | (norm_num; assumption) | assumption) only [heaterFields, heaterBytes, List.append_assoc, getU_skip,
    getU_putU, getU_last, Nat.reduceSub, getS_skipS, getS_putS, skip]

theorem heaterConsistent_iff {x : HeaterParams} :
    heaterConsistent x = true ↔ x.damageLow + 50 ≤ x.heatOn ∧ x.heatOn < x.heatOff ∧ x.heatOff < x.overheat := by
  simp only [heaterConsistent, Bool.and_eq_true, decide_eq_true_eq, and_assoc]
  rfl

theorem clampHeater_eq (x : HeaterParams) :
    clampHeater x =
      { heatOn := max (-400) (min x.heatOn 400), heatOff := max (-350) (min x.heatOff 500)
        damageLow := max (-500) (min x.damageLow 0), overheat := max 100 (min x.overheat 800)
        reserve := min x.reserve 1000, deferLimit := min x.deferLimit 300 } := by
  simp [clampHeater, clampInt, clampNat]

/-- HEATER SET by the values asked for: refused when they are out of order, and otherwise in force, limited, with a decision. -/
theorem heaterSet_eq {x : HeaterParams} (hx : heaterFields (heaterBytes x) = x) :
    heaterSet (heaterBytes x) s =
      if heaterConsistent (clampHeater x) = true then
        ((if x = clampHeater x then stOk else stClamped) :: heaterBytes (setHeater (clampHeater x) s).hc.params,
          setHeater (clampHeater x) s)
      else (stOutOfRange :: heaterBytes s.hc.params, s) := by
  unfold heaterSet heaterSetStatus
  rw [if_neg (by simp [heaterBytes_length]), hx]
  by_cases h : heaterConsistent (clampHeater x) = true <;> simp [h, eq_comm]

theorem heaterDecide_params (b : Bool) (s : State) : (heaterDecide b s).hc.params = s.hc.params := by
  unfold heaterDecide deferChange
  dsimp only
  (repeat' split) <;> simp [switchHeater_hc]

end

/-- Settles O39. -/
theorem heaterFaultAndRequests : Obligations.HeaterFaultAndRequests := by
  refine ⟨fun s t low ht hlow => ?_, fun d s hp => ⟨fun x hx hdue => ?_, fun hearly => ?_⟩, fun d s pre r post bytes h hbytes =>
    ⟨fun hk hp => ⟨fun hf => ?_, fun hf => ?_⟩, fun hk hp => ?_, fun x y hk hp hx hr hd hy => ⟨fun hbad => ?_, fun h1 h2 h3 => ?_⟩⟩⟩
  · obtain rfl : low = s.currentLow := hlow.trans (currentLow_eq s).symm
    subst ht
    refine ⟨fun h => lowCurrentTest_clear h, fun hon hl hn => ?_, fun hon hl hn => ?_⟩
    · rw [lowCurrentTest_low hon hl, if_neg (by omega)]
      rfl
    · rw [lowCurrentTest_low hon hl, if_pos (by omega)]
      refine ⟨enterFault_hc s, ?_, ?_, enterFault_instant s⟩
      · simp [State.enHeatSrc, enterFault_hc]
      · simp [State.enHeatBat, enterFault_hc]
  · refine (timed_powered s d _ hp).trans (congrArg _ (if_pos ?_))
    simpa [deferExpired, hx] using hdue
  · refine (timed_powered s d _ hp).trans (congrArg _ (if_neg ?_))
    unfold deferExpired
    cases hc : s.hc.change with
    | none => simp [hc]
    | some x => simpa [hc] using hearly x hc
  · exact h.answers_ofLength (kind := kHeaterFaultClear) hk rfl (congrArg List.length hp) (if_neg hf) rfl
  · refine h.answers_ofLength (kind := kHeaterFaultClear) hk rfl (congrArg List.length hp) (if_pos hf) ?_
    simp
  · obtain rfl : bytes = heaterBytes := hbytes
    refine h.answers (kind := kHeaterSet) hk rfl ?_ rfl
    simp only [heaterSet, heaterSetStatus, if_pos hp]
    rfl
  · obtain rfl : bytes = heaterBytes := hbytes
    have refused := heaterSet_eq (s := s.elapse d) (heaterFields_bytes hx hr hd)
    rw [clampHeater_eq, ← hy, if_neg (mt heaterConsistent_iff.mp (by omega)), ← hp] at refused
    exact h.answers (kind := kHeaterSet) hk rfl refused rfl
  · obtain rfl : bytes = heaterBytes := hbytes
    have taken := heaterSet_eq (s := s.elapse d) (heaterFields_bytes hx hr hd)
    rw [clampHeater_eq, ← hy, if_pos (heaterConsistent_iff.mpr ⟨h1, h2, h3⟩), ← hp] at taken
    have params : (setHeater y (s.elapse d)).hc.params = y := heaterDecide_params _ _
    rw [params] at taken
    exact h.answers (kind := kHeaterSet) hk rfl taken (by simp)

end Sys2Proof.Machine

/-! PROOFS. The host rail and the station link: the rail's deadlines and the silence limit (O42), raised flags and wakes (O46), frames
that join the list (O47), and replies that leave it (O48) (R177 to R181, R186 to R192). -/

namespace Sys2Proof.Machine

section

variable {s : State} {d : Elapsed}

/-! ## The rail goes off and on (R191) -/

/-- A rail that goes off empties the link and stops the silence timer. -/
theorem setHostRail_off {h : HostRail} (hs : s.pt.host.isOn = true) (hh : h.isOn = false) :
    setHostRail h s =
      { s with
        pt := { s.pt with host := h, silenceFrom := none }
        sl := { s.sl with rx := .hunt, list := [], tx := none, barrier := false } } := by
  simp [setHostRail, hs, hh, hostRailOff, State.modPt, State.modSl]

/-- A rail that comes on starts the silence timer with an empty link. -/
theorem setHostRail_comesOn {h : HostRail} (hs : s.pt.host.isOn = false) (hh : h.isOn = true) :
    setHostRail h s =
      { s with
        pt := { s.pt with host := h, silenceFrom := some s.clk.watchRun }
        sl := { s.sl with rx := .hunt, list := [] } } := by
  simp [setHostRail, hs, hh, hostRailOn, State.modPt, State.modSl]

/-! ## Supervision (R181) -/

theorem silenceExpired_iff {f : Nat} (hf : s.pt.silenceFrom = some f) :
    silenceExpired s = true ↔ s.pt.params.silenceLimit ≠ 0 ∧ s.pt.params.silenceLimit ≤ (s.clk.watchRun - f) / 32768 := by
  simp [silenceExpired, silenceSeconds, hf, ticksPerSec]

theorem supervise_on (h : s.pt.host = .on ∨ ∃ x, s.pt.host = .dozing x) :
    supervise s =
      countCycle (setHostRail (.cycling (s.clk.watchRun + cycleTicks)) (s.modPt fun p => { p with wakeTime := none })) := by
  unfold supervise
  obtain h | ⟨x, h⟩ := h <;> rw [h]

theorem supervise_grace (h : ∃ x, s.pt.host = .grace x) : supervise s = countCycle (setHostRail .shed s) := by
  unfold supervise
  obtain ⟨x, h⟩ := h
  rw [h]

end

/-- Settles O42. -/
theorem hostRailTimers : Obligations.HostRailTimers := by
  intro d s off host hp hoff
  refine ⟨fun due hh => ⟨fun hdue hhost => ?_, fun hearly => ?_⟩, fun due hh => ⟨fun hdue hhost => ?_, fun hearly => ?_⟩, fun hh => ?_,
    fun due hh => ⟨fun hdue => ?_, fun hearly => ?_⟩, fun f hf => ⟨fun h0 hlimit => ⟨fun hh hhost => ?_, fun hh hhost => ?_⟩, fun hbelow => ?_⟩⟩
  all_goals refine (timed_powered s d _ hp).trans (congrArg _ ?_)
  · subst hoff hhost
    simp only [endGrace, State.elapse_pt, hh, if_pos hdue]
    exact setHostRail_off (by simp [hh, HostRail.isOn]) rfl
  · simp only [endGrace, State.elapse_pt, hh, if_neg hearly.not_ge]
  · subst hoff hhost
    simp only [endDoze, State.elapse_pt, hh, if_pos hdue]
    exact setHostRail_off (by simp [hh, HostRail.isOn]) rfl
  · simp only [endDoze, State.elapse_pt, hh, if_neg hearly.not_ge]
  · simp only [endDoze, State.elapse_pt, hh]
  · simp only [endCycle, State.elapse_pt, hh, if_pos hdue]
    exact setHostRail_comesOn (by simp [hh, HostRail.isOn]) rfl
  · simp only [endCycle, State.elapse_pt, hh, if_neg hearly.not_ge]
  · have expired := (silenceExpired_iff (s := s.elapse d) hf).mpr ⟨h0, hlimit⟩
    subst hoff hhost
    rw [if_pos expired, supervise_on (s := s.elapse d) hh, setHostRail_off (by obtain h | ⟨x, h⟩ := hh <;> simp [h, HostRail.isOn]) rfl]
    rfl
  · have expired := (silenceExpired_iff (s := s.elapse d) hf).mpr ⟨h0, hlimit⟩
    subst hoff hhost
    rw [if_pos expired, supervise_grace (s := s.elapse d) hh, setHostRail_off (by obtain ⟨x, h⟩ := hh; simp [h, HostRail.isOn]) rfl]
    rfl
  · refine if_neg (mt (silenceExpired_iff (s := s.elapse d) hf).mp ?_)
    rintro ⟨h0, hlimit⟩
    obtain h | h := hbelow
    · exact h0 h
    · exact absurd hlimit h.not_ge

section

variable {s : State}

/-! ## Flags and wakes (R179, R180, R192) -/

theorem wakeHost_dozing (c : WakeCause) {x : Option Nat} (h : s.pt.host = .dozing x) :
    wakeHost c s = { s with pt := { s.pt with host := .on, wakeTime := none, lastWake := some c } } := by
  simp only [wakeHost, h]
  exact setHostRail_on (by simp [h, HostRail.isOn]) rfl

theorem wakeHost_asleep (c : WakeCause) (h : s.pt.host = .asleep) :
    wakeHost c s =
      { s with
        sl := { s.sl with rx := .hunt, list := [] }
        pt := { s.pt with host := .on, wakeTime := none, lastWake := some c, silenceFrom := some s.clk.watchRun } } := by
  simp only [wakeHost, h]
  exact setHostRail_comesOn (by simp [h, HostRail.isOn]) rfl

theorem wakeHost_awake (c : WakeCause) (h : s.pt.host ≠ .asleep ∧ ∀ x, s.pt.host ≠ .dozing x) : wakeHost c s = s := by
  obtain ⟨h1, h2⟩ := h
  unfold wakeHost
  split <;> simp_all

theorem raise_eq (f : AttnFlag) :
    raise f s =
      if s.sl.wakeMask &&& f.bit = 0 then { s with sl := { s.sl with flags := s.sl.flags ||| f.bit } }
      else wakeHost .attention { s with sl := { s.sl with flags := s.sl.flags ||| f.bit } } := rfl

theorem attn_iff_bit (s : State) :
    s.attn = true ↔ ∃ i : Fin 8, s.sl.flags.getLsbD i = true ∧ s.sl.lineMask.getLsbD i = true := by
  have zero : s.sl.flags &&& s.sl.lineMask = 0 ↔ ∀ i : Fin 8, (s.sl.flags &&& s.sl.lineMask).getLsbD i = false := by
    refine ⟨fun h i => by simp [h], fun h => BitVec.eq_of_getLsbD_eq fun i hi => ?_⟩
    exact (h ⟨i, hi⟩).trans (by simp)
  rw [State.attn_iff, ne_eq, zero]
  simp

theorem wakeAtTime_due {w : Nat} (hw : s.pt.wakeTime = some w) (h : w ≤ s.now.sec) : wakeAtTime s = wakeHost .time s := by
  simp only [wakeAtTime, hw, if_pos h]

theorem wakeAtTime_early (h : ∀ w, s.pt.wakeTime = some w → s.now.sec < w) : wakeAtTime s = s := by
  unfold wakeAtTime
  cases hw : s.pt.wakeTime with
  | none => rfl
  | some w => exact if_neg (h w hw).not_ge

end

/-- Settles O46. -/
theorem raiseSetsFlagAndWakes : Obligations.RaiseSetsFlagAndWakes := by
  refine ⟨fun s t f b ht hb => ?_, fun s t ht => ⟨fun h => ?_, fun w hw hdue => ⟨fun x hx => ?_, fun hx => ?_⟩⟩⟩
  · obtain rfl : b = f.bit := by
      rw [hb]
      cases f <;> rfl
    subst ht
    refine ⟨fun h => ?_, fun x hm hx => ?_, fun hm hx => ?_, attn_iff_bit _⟩
    · rw [raise_eq]
      obtain h | h := h
      · exact if_pos h
      · split
        · rfl
        · exact wakeHost_awake .attention h
    · rw [raise_eq, if_neg hm]
      exact wakeHost_dozing .attention hx
    · rw [raise_eq, if_neg hm]
      exact wakeHost_asleep .attention hx
  · subst ht
    obtain h | h := h
    · exact wakeAtTime_early h
    · unfold wakeAtTime
      cases s.pt.wakeTime with
      | none => rfl
      | some w => exact (congrArg (fun x => if w ≤ s.now.sec then x else s) (wakeHost_awake .time h)).trans (ite_self s)
  · rw [ht, wakeAtTime_due hw hdue]
    exact wakeHost_dozing .time hx
  · rw [ht, wakeAtTime_due hw hdue]
    exact wakeHost_asleep .time hx

section

variable {s : State} {d : Elapsed}

/-! ## A frame byte by byte (R186, R187) -/

theorem crc16Bytes_eq (l : List Byte) : crc16Bytes l = [(crc16 l).extractLsb' 8 8, (crc16 l).extractLsb' 0 8] := by
  have high (c : BitVec 16) : (c >>> 8).setWidth 8 = c.extractLsb' 8 8 := BitVec.eq_of_toNat_eq (by simp)
  have low (c : BitVec 16) : c.setWidth 8 = c.extractLsb' 0 8 := BitVec.eq_of_toNat_eq (by simp)
  simp only [crc16Bytes, high, low]

/-- The two bytes of a CRC stand for it. -/
theorem crc16Bytes_iff (hi lo : Byte) (l : List Byte) : [hi, lo] = crc16Bytes l ↔ hi ++ lo = crc16 l := by
  rw [crc16Bytes_eq]
  generalize crc16 l = c
  refine ⟨fun h => ?_, fun h => ?_⟩
  · simp only [List.cons.injEq, and_true] at h
    obtain ⟨rfl, rfl⟩ := h
    exact BitVec.extractLsb'_append_extractLsb'
  · subst h
    rw [BitVec.extractLsb'_append_eq_left, BitVec.extractLsb'_append_eq_right]

/-- The receiver moves on. -/
def State.receiving (s : State) (rx : LinkRx) : State := { s with sl := { s.sl with rx := rx } }

/-- The payload of a frame, byte by byte. -/
theorem linkByte_payload {len tag kind : Byte} (p got : List Byte) (hp : p ≠ []) (hlen : got.length + p.length = len.toNat) :
    p.foldl linkByte (s.receiving (.body len tag kind got)) = s.receiving (.check len tag kind (got ++ p) none) := by
  induction p generalizing got with
  | nil => exact absurd rfl hp
  | cons b p ih =>
    rw [List.foldl_cons]
    by_cases hlast : p = []
    · subst hlast
      have full : (got ++ [b]).length = len.toNat := by simpa using hlen
      exact if_pos full
    · have more : (got ++ [b]).length ≠ len.toNat := by
        have := List.length_pos_iff.mpr hlast
        simp at hlen ⊢
        omega
      have next : linkByte (s.receiving (.body len tag kind got)) b = s.receiving (.body len tag kind (got ++ [b])) := if_neg more
      rw [next, ih (got ++ [b]) hlast (by simp at hlen ⊢; omega), List.append_assoc]
      rfl

/-- The head and the payload of a frame bring the receiver to the check. -/
theorem linkByte_frame (hrx : s.sl.rx = .hunt) {len tag kind : Byte} {p : List Byte} (hp : p.length ≤ 240) (hlen : len.toNat = p.length) :
    (linkSync1 :: linkSync2 :: len :: tag :: kind :: p).foldl linkByte s = s.receiving (.check len tag kind p none) := by
  have sync : linkByte s linkSync1 = s.receiving .sync := by
    simp only [linkByte, hrx, if_true]
    rfl
  have length : linkByte (s.receiving .length) len = s.receiving (.head len none) := if_pos (by simp [hlen, maxPayload, hp])
  have head : linkByte (s.receiving (.head len (some tag))) kind = s.receiving (afterHead len tag kind) := rfl
  simp only [List.foldl_cons]
  rw [sync, show linkByte (s.receiving .sync) linkSync2 = s.receiving .length from rfl, length,
    show linkByte (s.receiving (.head len none)) tag = s.receiving (.head len (some tag)) from rfl, head]
  unfold afterHead
  cases p with
  | nil =>
    obtain rfl : len = 0 := BitVec.eq_of_toNat_eq (by simpa using hlen)
    rfl
  | cons b p =>
    have some_len : len ≠ 0 := by
      rintro rfl
      simp at hlen
    rw [if_neg some_len]
    exact linkByte_payload (b :: p) [] (by simp) (by simpa using hlen.symm)

theorem foldl_linkByte_frame (hrx : s.sl.rx = .hunt) {tag kind hi lo len : Byte} {p : List Byte} (hp : p.length ≤ 240)
    (hlen : len.toNat = p.length) :
    ([0xC3, 0x3C, len, tag, kind] ++ p ++ [hi, lo]).foldl linkByte s =
      if hi ++ lo = crc16 (len :: tag :: kind :: p) then takeFrame tag kind p { s with pt := { s.pt with silenceFrom := some s.clk.watchRun } }
      else { s with sl := { s.sl with discardCount := inc32 s.sl.discardCount } } := by
  have frame : [0xC3, 0x3C, len, tag, kind] ++ p ++ [hi, lo] = (linkSync1 :: linkSync2 :: len :: tag :: kind :: p) ++ [hi, lo] := rfl
  have crc : ([hi, lo] = crc16Bytes ([len, tag, kind] ++ p)) = (hi ++ lo = crc16 (len :: tag :: kind :: p)) :=
    propext (crc16Bytes_iff hi lo _)
  rw [frame, List.foldl_append, linkByte_frame hrx hp hlen]
  show linkByte (s.receiving (.check len tag kind p (some hi))) lo = _
  have last : linkByte (s.receiving (.check len tag kind p (some hi))) lo =
      if [hi, lo] = crc16Bytes ([len, tag, kind] ++ p) then validFrame tag kind p (s.receiving (.check len tag kind p (some hi)))
      else discardLinkFrame (s.receiving (.check len tag kind p (some hi))) := rfl
  have hunt : { s.sl with rx := .hunt } = s.sl := by rw [← hrx]
  rw [last, if_congr (iff_of_eq crc) rfl rfl]
  have taken : validFrame tag kind p (s.receiving (.check len tag kind p (some hi))) =
      takeFrame tag kind p { s with pt := { s.pt with silenceFrom := some s.clk.watchRun } } :=
    congrArg (fun l => takeFrame tag kind p { s with sl := l, pt := { s.pt with silenceFrom := some s.clk.watchRun } }) hunt
  have discarded : discardLinkFrame (s.receiving (.check len tag kind p (some hi))) =
      { s with sl := { s.sl with discardCount := inc32 s.sl.discardCount } } :=
    congrArg (fun l : StationLink => { s with sl := { l with discardCount := inc32 s.sl.discardCount } }) hunt
  rw [taken, discarded]

theorem exec_linkFrame (hp : s.powered = true) (bytes : List Byte) :
    exec (.linkFrame d bytes) s =
      .next (if linkTakesBytes (s.elapse d) then bytes.foldl linkByte (s.elapse d) else s.elapse d) := timed_powered s d _ hp

end

/-- Settles O47. -/
theorem linkFrameJoinsList : Obligations.LinkFrameJoinsList := by
  intro d s tag kind hi lo len p hpow hp hlen
  refine ⟨fun h bytes => ?_, fun hon hmain hrx => ⟨fun hcrc hroom => ?_, fun hcrc hfull => ?_, fun hcrc => ?_⟩⟩
  all_goals rw [exec_linkFrame hpow]
  · refine congrArg _ (if_neg ?_)
    simp only [linkTakesBytes, State.mainRuns, Bool.and_eq_true, decide_eq_true_eq]
    rintro ⟨hon, hmain⟩
    obtain h | h := h
    · exact absurd hon (Bool.eq_false_iff.mp h)
    · exact h hmain
  all_goals rw [if_pos (by simp [linkTakesBytes, State.mainRuns, hon, hmain]), foldl_linkByte_frame (s := s.elapse d) hrx hp hlen]
  · rw [if_pos hcrc]
    exact congrArg _ (if_pos hroom)
  · rw [if_pos hcrc]
    exact congrArg _ (if_neg hfull.not_gt)
  · rw [if_neg hcrc]
    rfl

section

variable {s : State} {d : Elapsed}

theorem exec_replyStart (hp : s.powered = true) (hrdy : Bool) :
    exec (.replyStart d hrdy) s = .next (startReply hrdy { s.elapse d with lines := { s.lines with hrdy := hrdy } }) :=
  timed_powered s d (fun x => startReply hrdy (x.modLines fun l => { l with hrdy := hrdy })) hp

theorem startReply_ready {r : Request} {rest : List Request} {reply : List Byte} (htx : s.sl.tx = none) (hl : s.sl.list = r :: rest)
    (hr : r.progress = .executed reply) :
    startReply true s = s.modSl fun l => { l with tx := some (replyFrame r reply) } := by
  simp only [startReply, htx, hl, hr, if_true]

theorem startReply_idle (hrdy : Bool)
    (h : s.sl.tx ≠ none ∨ hrdy = false ∨ s.sl.list = [] ∨
      ∃ r rest, s.sl.list = r :: rest ∧ ∀ reply, r.progress ≠ .executed reply) : startReply hrdy s = s := by
  unfold startReply
  split
  · rename_i r rest htx hl
    split
    · rename_i reply hr
      obtain h | h | h | ⟨r', rest', h, hn⟩ := h
      · exact absurd htx h
      · simp [h]
      · simp [h] at hl
      · obtain ⟨rfl, -⟩ := List.cons.inj (h.symm.trans hl)
        exact absurd hr (hn reply)
    all_goals rfl
  · rfl

theorem exec_replyComplete (hp : s.powered = true) : exec (.replyComplete d) s = .next (completeReply (s.elapse d)) :=
  timed_powered s d _ hp

theorem replyFrame_eq (r : Request) (reply body : List Byte)
    (h : body = [BitVec.ofNat 8 reply.length, r.tag, r.kind ||| 0x80] ++ reply) :
    replyFrame r reply = [0xC3, 0x3C] ++ body ++ [(crc16 body).extractLsb' 8 8, (crc16 body).extractLsb' 0 8] := by
  subst h
  simp only [replyFrame, linkFrameBytes, crc16Bytes_eq]
  rfl

end

/-- Settles O48. -/
theorem repliesLeaveInOrder : Obligations.RepliesLeaveInOrder := by
  intro d s hrdy hp
  refine ⟨fun r rest reply body htx hl hr hready hbody => ?_, fun h => ?_, fun htx => ?_,
    fun frame r rest htx hl => ⟨fun he => ?_, fun x he hh => ?_, fun he => ?_⟩⟩
  · rw [exec_replyStart hp, hready, ← replyFrame_eq r reply body hbody]
    exact congrArg _ (startReply_ready htx hl hr)
  · rw [exec_replyStart hp]
    exact congrArg _ (startReply_idle hrdy h)
  all_goals rw [exec_replyComplete hp]
  · simp only [completeReply, State.elapse_sl, htx]
  · simp only [completeReply, State.elapse_sl, htx, hl, he]
    rfl
  · simp only [completeReply, State.elapse_sl, htx, hl, he, atReplyEnd, State.modSl_pt, State.elapse_pt, hh]
    rfl
  · simp only [completeReply, State.elapse_sl, htx, hl, he]
    rfl

end Sys2Proof.Machine

/-! PROOFS. Labels and pulses that are not used (O4), and what empties the receivers (O9) (R3 to R5, R9, R17, R18, R25, R126, R186). -/

namespace Sys2Proof.Machine

section

variable {s : State} {d : Elapsed}

/-! ## Label records (R3) -/

theorem whileMain_main (h : s.tb.clock = .main) (f : State → State) : whileMain f s = f s :=
  if_pos (by simpa [State.mainRuns] using h)

theorem whileMain_stopped (h : s.tb.clock ≠ .main) (f : State → State) : whileMain f s = s :=
  if_neg (by simpa [State.mainRuns] using h)

/-- The label receiver holds the bytes it has got. -/
def State.labelling (s : State) (l : List Byte) : State := { s with tb := { s.tb with labelRx := l } }

theorem State.labelling_nil (h : s.tb.labelRx = []) : s.labelling [] = s := by
  have rx : { s.tb with labelRx := [] } = s.tb := by rw [← h]
  exact congrArg (fun t => { s with tb := t }) rx

theorem labelByte_next {l : List Byte} (h0 : l ≠ []) (h : l.length ≠ 6) (b : Byte) :
    labelByte (s.labelling l) b = s.labelling (l ++ [b]) := by
  have busy : (s.labelling l).tb.labelRx.isEmpty = false := List.isEmpty_eq_false_iff.mpr h0
  have more : (l ++ [b]).length ≠ labelLength := by simpa [labelLength] using h
  unfold labelByte
  rw [if_neg (by simp [busy])]
  exact if_neg more

theorem labelByte_last {l : List Byte} (h : l.length = 6) (b : Byte) :
    labelByte (s.labelling l) b = takeLabel (l ++ [b]) (s.labelling []) := by
  have busy : (s.labelling l).tb.labelRx.isEmpty = false := by
    rw [List.isEmpty_eq_false_iff]
    rintro hl
    obtain rfl : l = [] := hl
    simp at h
  have full : (l ++ [b]).length = labelLength := by simp [labelLength, h]
  unfold labelByte
  rw [if_neg (by simp [busy])]
  exact if_pos full

/-- A record that arrives whole. -/
theorem foldl_labelByte_record (h : s.tb.labelRx = []) {f : List Byte} (hf : f.length = 5) (check : Byte) :
    ((labelStart :: f) ++ [check]).foldl labelByte s = takeLabel ((labelStart :: f) ++ [check]) s := by
  have started : labelByte s labelStart = s.labelling [labelStart] := by
    unfold labelByte
    rw [if_pos (by simp [h]), if_pos rfl]
    rfl
  have fields (l g : List Byte) (h0 : l ≠ []) (hg : l.length + g.length ≤ 6) :
      g.foldl labelByte (s.labelling l) = s.labelling (l ++ g) := by
    induction g generalizing l with
    | nil => simp
    | cons b g ih =>
      have short : l.length ≠ 6 := by simp at hg; omega
      rw [List.foldl_cons, labelByte_next h0 short, ih (l ++ [b]) (by simp) (by simp at hg ⊢; omega)]
      simp
  rw [List.foldl_append, List.foldl_cons (l := f), started, fields [labelStart] f (by simp) (by simp [hf])]
  show labelByte (s.labelling (labelStart :: f)) check = _
  rw [labelByte_last (by simp [hf]), State.labelling_nil h]

/-- A record whose CRC-8 checks replaces the held label. -/
theorem takeLabel_record {f : List Byte} (hf : f.length = 5) (check : Byte) :
    takeLabel ((labelStart :: f) ++ [check]) s =
      if crcLabel (labelStart :: f) = check then
        s.modTb fun t => { t with label := some ⟨be (f.take 4), (f.getD 4 0).getLsbD 0, s.now⟩ }
      else s := by
  have covered : ((labelStart :: f) ++ [check]).take 6 = labelStart :: f := by simp [hf]
  have last : ((labelStart :: f) ++ [check]).getD 6 0 = check := by simp [List.getD_eq_getElem?_getD, hf]
  have flags : ((labelStart :: f) ++ [check]).getD 5 0 = f.getD 4 0 := by simp [List.getD_eq_getElem?_getD, hf]
  have second : getU ((labelStart :: f) ++ [check]) 1 4 = be (f.take 4) := by simp [getU, slice, List.take_append, hf]
  unfold takeLabel
  rw [covered, last, flags, second]

theorem exec_labelRecord (hp : s.powered = true) (bytes : List Byte) :
    exec (.labelRecord d bytes) s = .next (whileMain (fun s => bytes.foldl labelByte s) (s.elapse d)) := timed_powered s d _ hp

/-- Bytes outside a record are ignored. -/
theorem foldl_labelByte_outside (h : s.tb.labelRx = []) {bytes : List Byte} (hb : ∀ b ∈ bytes, b ≠ labelStart) :
    bytes.foldl labelByte s = s := by
  induction bytes with
  | nil => rfl
  | cons b bytes ih =>
    obtain ⟨hb, hbytes⟩ := List.forall_mem_cons.mp hb
    have ignored : labelByte s b = s := by
      unfold labelByte
      rw [if_pos (by simp [h]), if_neg hb]
    rw [List.foldl_cons, ignored, ih hbytes]

/-! ## Pulses that are not used (R4, R5, R9) -/

theorem exec_refpPulse (hp : s.powered = true) (h : s.tb.clock = .main) : exec (.refpPulse d) s = .next (pulseEdge (s.elapse d)) :=
  (timed_powered s d _ hp).trans (congrArg _ (whileMain_main (s := s.elapse d) h pulseEdge))

theorem now_main (h : s.tb.clock = .main) : s.now = s.clk.time := if_pos h

theorem isCandidate_iff {l : Label} {tp : Nat} (hl : s.tb.label = some l) : isCandidate tp l = true ↔ Candidate s.tb tp l := by
  simp [isCandidate, Candidate, hl, and_assoc]

theorem accepted_iff (t : TimeBase) (tp : Nat) : accepted t tp = true ↔ Accepts t tp := by
  unfold accepted Accepts inWindow InWindow
  cases t.grade <;> cases t.lastPulse <;> simp

/-- The label is emptied whatever becomes of the pulse. -/
def State.unlabelled (s : State) : State := { s with tb := { s.tb with label := none } }

theorem pulseEdge_none (hm : s.tb.clock = .main) (h : ∀ l, ¬Candidate s.tb s.clk.time.toNs l) :
    pulseEdge s = { s with tb := { s.tb with label := none, unlabelledCount := inc32 s.tb.unlabelledCount } } := by
  unfold pulseEdge
  dsimp only
  rw [now_main hm]
  cases hl : s.tb.label with
  | none => rfl
  | some l => exact if_neg (mt (isCandidate_iff hl).mp (h l))

theorem pulseEdge_candidate {l : Label} (hm : s.tb.clock = .main) (h : Candidate s.tb s.clk.time.toNs l) :
    pulseEdge s =
      if accepted s.tb s.clk.time.toNs then acceptPulse l.sec s.unlabelled
      else { s with tb := { s.tb with label := none, outOfWindowCount := inc32 s.tb.outOfWindowCount } } := by
  have label := h.1
  unfold pulseEdge
  simp only [label, now_main hm]
  exact if_pos ((isCandidate_iff label).mpr h)

theorem pulseEdge_accepted {l : Label} (hm : s.tb.clock = .main) (h : Candidate s.tb s.clk.time.toNs l)
    (ha : Accepts s.tb s.clk.time.toNs) : pulseEdge s = acceptPulse l.sec s.unlabelled :=
  (pulseEdge_candidate hm h).trans (if_pos ((accepted_iff _ _).mpr ha))

theorem pulseEdge_outside {l : Label} (hm : s.tb.clock = .main) (h : Candidate s.tb s.clk.time.toNs l)
    (ha : ¬Accepts s.tb s.clk.time.toNs) :
    pulseEdge s = { s with tb := { s.tb with label := none, outOfWindowCount := inc32 s.tb.outOfWindowCount } } :=
  (pulseEdge_candidate hm h).trans (if_neg (mt (accepted_iff _ _).mp ha))

theorem phaseError_eq (tp sec : Nat) : phaseError tp sec = tp - sec * 1000000000 := by
  simp [phaseError, nsPerSec]

theorem acceptPulse_locked {s : State} (hm : s.tb.clock = .main) (h : s.tb.grade = .locked) (sec : Nat) :
    acceptPulse sec s =
      if 10000 < (phaseError s.clk.time.toNs sec).natAbs then rejectPulse s else usePulse (phaseError s.clk.time.toNs sec) s := by
  unfold acceptPulse
  rw [now_main hm]
  exact if_pos h

theorem acceptPulse_unlocked {s : State} (hm : s.tb.clock = .main) (h : s.tb.grade ≠ .locked) (sec : Nat) :
    acceptPulse sec s =
      if 1000000 < (phaseError s.clk.time.toNs sec).natAbs then stepPulse sec (phaseError s.clk.time.toNs sec) s
      else usePulse (phaseError s.clk.time.toNs sec) s := by
  unfold acceptPulse
  rw [now_main hm]
  exact if_neg h

end

/-- Settles O4. -/
theorem labelsAndUnusedPulses : Obligations.LabelsAndUnusedPulses := by
  refine ⟨fun d s hp hrx => ⟨fun hmain f check hf => ?_, fun hmain bytes hb => ?_, fun hstop bytes => ?_⟩,
    fun d s hp => ⟨fun hstop => ?_, fun hmain => ⟨fun hnone => ?_, fun l hl hacc => ?_, fun l hl hacc hlocked hscreen => ?_⟩⟩⟩
  · rw [exec_labelRecord hp, whileMain_main (s := s.elapse d) hmain]
    refine congrArg _ ((foldl_labelByte_record (s := s.elapse d) hrx hf check).trans ?_)
    rw [takeLabel_record hf, now_main (s := s.elapse d) hmain]
    rfl
  · rw [exec_labelRecord hp, whileMain_main (s := s.elapse d) hmain, foldl_labelByte_outside (s := s.elapse d) hrx hb]
  · rw [exec_labelRecord hp, whileMain_stopped (s := s.elapse d) hstop]
  · exact (timed_powered s d _ hp).trans (congrArg _ (whileMain_stopped (s := s.elapse d) hstop pulseEdge))
  all_goals
    rw [exec_refpPulse hp hmain]
  · rw [pulseEdge_none (s := s.elapse d) hmain hnone]
    rfl
  · rw [pulseEdge_outside (s := s.elapse d) hmain hl hacc]
    rfl
  · rw [pulseEdge_accepted (s := s.elapse d) hmain hl hacc, acceptPulse_locked (s := (s.elapse d).unlabelled) hmain hlocked,
      phaseError_eq]
    exact congrArg _ (if_pos hscreen)

section

variable {s : State} {d : Elapsed}

theorem linkTakesBytes_of (hon : s.pt.host.isOn = true) (hm : s.tb.clock = .main) : linkTakesBytes s = true := by
  simp [linkTakesBytes, State.mainRuns, hon, hm]

theorem exec_linkGapTimeout (hp : s.powered = true) (h : linkTakesBytes (s.elapse d) = true) :
    exec (.linkGapTimeout d) s = .next (discardIfBusy (s.elapse d)) := (timed_powered s d _ hp).trans (congrArg _ (if_pos h))

theorem exec_linkFrameDiscard (hp : s.powered = true) (h : linkTakesBytes (s.elapse d) = true) (b : Byte) (stopLow : Bool) :
    exec (.linkFrameDiscard d b stopLow) s =
      .next (if stopLow then discardIfBusy (s.elapse d) else linkByte (s.elapse d) b) :=
  (timed_powered s d (fun s => if linkTakesBytes s then (if stopLow then discardIfBusy s else linkByte s b) else s) hp).trans
    (congrArg _ (if_pos h))

theorem busy_iff (r : LinkRx) : r.busy = true ↔ r ≠ .hunt := by cases r <;> simp [LinkRx.busy]

end

/-- Settles O9. -/
theorem receiversDiscardFragments : Obligations.ReceiversDiscardFragments := by
  intro d s hp hmain
  refine ⟨?_, fun hsens => ⟨?_, ?_⟩, ?_, fun hmod => ?_, fun hmod => ?_, fun hon => ⟨fun hrx => ⟨?_, fun b => ?_⟩,
    fun hrx => ⟨?_, fun b => ?_⟩, fun b hrx hb => ?_, fun len tag kind hi b p hrx hcrc => ?_⟩⟩
  · exact (timed_powered s d _ hp).trans (congrArg _ (whileMain_main (s := s.elapse d) hmain _))
  · exact (timed_powered s d _ hp).trans (congrArg _ (if_pos (by simp [siListens, State.mainRuns, hsens, hmain])))
  · exact (timed_powered s d _ hp).trans (congrArg _ (if_pos (by simp [siListens, State.mainRuns, hsens, hmain])))
  · exact (timed_powered s d _ hp).trans (congrArg _ (whileMain_main (s := s.elapse d) hmain _))
  · exact (timed_powered s d _ hp).trans (congrArg _ (if_pos (by simp [modemListens, State.mainRuns, hmod, hmain])))
  · exact (timed_powered s d _ hp).trans (congrArg _ (if_neg (by simp [modemListens, hmod])))
  all_goals have takes : linkTakesBytes (s.elapse d) = true := linkTakesBytes_of (s := s.elapse d) hon hmain
  · rw [exec_linkGapTimeout hp takes]
    exact congrArg _ (if_neg (mt (busy_iff s.sl.rx).mp (not_not_intro hrx)))
  · rw [exec_linkFrameDiscard hp takes]
    exact congrArg _ (if_neg (mt (busy_iff s.sl.rx).mp (not_not_intro hrx)))
  · rw [exec_linkGapTimeout hp takes]
    exact congrArg _ (if_pos ((busy_iff s.sl.rx).mpr hrx))
  · rw [exec_linkFrameDiscard hp takes]
    exact congrArg _ (if_pos ((busy_iff s.sl.rx).mpr hrx))
  · rw [exec_linkFrameDiscard hp takes]
    refine congrArg _ ?_
    simp only [linkByte, State.elapse_sl, hrx]
    exact if_neg hb.not_ge
  · rw [exec_linkFrameDiscard hp takes]
    refine congrArg _ ?_
    simp only [linkByte, State.elapse_sl, hrx]
    exact if_neg (mt (crc16Bytes_iff hi b _).mp hcrc)

end Sys2Proof.Machine

/-! PROOFS. The loop (O6), and reference loss and whole seconds (O7): raised flags and offered alerts take the time base as they find it
(R8, R10 to R14, R18). -/

namespace Sys2Proof.Machine

section

variable (s : State)

/-! ## Flags and alerts leave the time base to be changed before or after them -/

/-- The state with another time base. -/
def State.withTb (b : TimeBase) : State := { s with tb := b }

theorem wakeHost_withTb (b : TimeBase) (c : WakeCause) : wakeHost c (s.withTb b) = (wakeHost c s).withTb b := by
  by_cases h : s.pt.host ≠ .asleep ∧ ∀ x, s.pt.host ≠ .dozing x
  · rw [wakeHost_awake c h, wakeHost_awake (s := s.withTb b) c h]
  · rw [not_and_or, not_not, not_forall_not] at h
    obtain h | ⟨x, h⟩ := h
    · rw [wakeHost_asleep c h, wakeHost_asleep (s := s.withTb b) c h]
      rfl
    · rw [wakeHost_dozing c h, wakeHost_dozing (s := s.withTb b) c h]
      rfl

theorem raise_withTb (b : TimeBase) (f : AttnFlag) : raise f (s.withTb b) = (raise f s).withTb b := by
  have flagged : (s.withTb b).modSl (fun l => { l with flags := l.flags ||| f.bit }) =
      (s.modSl fun l => { l with flags := l.flags ||| f.bit }).withTb b := rfl
  have mask : (s.withTb b).sl.wakeMask = s.sl.wakeMask := rfl
  unfold raise
  simp only [flagged, mask, wakeHost_withTb]
  split <;> rfl

theorem outcome_withTb {b : TimeBase} (hb : b.clock = s.tb.clock) (e : Entry) (o : AlertState) (w : Bool) :
    outcome e o w (s.withTb b) = (outcome e o w s).withTb b := by
  have now : (s.withTb b).now = s.now := by simp [State.now, State.withTb, hb]
  rw [outcome_eq, outcome_eq, ← raise_withTb, now]
  rfl

theorem newEntry_withTb {b : TimeBase} (hb : b.clock = s.tb.clock) (c : AlertClass) (j : Subject) (text : List Byte) :
    newEntry (s.withTb b) c j text = newEntry s c j text := by
  have now : (s.withTb b).now = s.now := by simp [State.now, State.withTb, hb]
  simp only [newEntry, now]
  rfl

theorem joinQueue_withTb (b : TimeBase) (e : Entry) : joinQueue e (s.withTb b) = (joinQueue e s).withTb b := by
  simp only [joinQueue, writeAlert_eq]
  rfl

theorem createEntry_withTb {b : TimeBase} (hb : b.clock = s.tb.clock) (c : AlertClass) (j : Subject) (text : List Byte) :
    createEntry c j text (s.withTb b) = (createEntry c j text s).withTb b := by
  have entry := newEntry_withTb s hb c j text
  by_cases room : s.al.queue.length < 16
  · rw [createEntry_room c j text room, createEntry_room (s := s.withTb b) c j text room, entry]
    rfl
  · have full := not_lt.mp room
    cases hv : displaceable s.al.queue c with
    | some v =>
      rw [createEntry_displacing c j text full hv, createEntry_displacing (s := s.withTb b) c j text full hv, entry, ← joinQueue_withTb,
        ← outcome_withTb _ (by exact hb)]
      rfl
    | none =>
      rw [createEntry_displaced c j text full hv, createEntry_displaced (s := s.withTb b) c j text full hv, entry,
        ← outcome_withTb _ (by exact hb)]
      rfl

theorem offerAlert_withTb {b : TimeBase} (hb : b.clock = s.tb.clock) (c : AlertClass) (j : Subject) :
    offerAlert c j (s.withTb b) = (offerAlert c j s).withTb b := by
  cases hf : s.al.queue.find? (fun e => e.cls = c) with
  | none =>
    have offered (x : State) (hx : x.al.queue = s.al.queue) : offerAlert c j x = createEntry c j [] x := by
      simp only [offerAlert, hx, hf]
    rw [offered s rfl, offered (s.withTb b) rfl]
    exact createEntry_withTb s hb c j []
  | some e =>
    cases hq : e.inFlight
    · simp only [offerAlert, State.withTb, hf, hq]
      rfl
    · simp only [offerAlert, State.withTb, hf, hq, if_true]
      rfl

/-! ## A change of grade (R14) -/

/-- TB with the grade changed, and the marks that go with it. -/
def TimeBase.graded (t : TimeBase) (g : Grade) : TimeBase :=
  { t with
    grade := g
    rejectRun := if t.grade = .locked then 0 else t.rejectRun
    freeRecovery := if t.grade = .free ∧ g = .tracking then true else if g = .locked then false else t.freeRecovery }

/-- A change of grade raises TIME_GRADE, and offers a TIME alert at a loss of time and at a recovery after one. -/
theorem changeGrade_eq (g : Grade) :
    changeGrade g s =
      if s.tb.grade = g then s
      else if (s.tb.grade = .hold ∧ g = .free) ∨ (g = .locked ∧ s.tb.freeRecovery = true) then
        offerAlert .time (.grade g) (raise .timeGrade (s.withTb (s.tb.graded g)))
      else raise .timeGrade (s.withTb (s.tb.graded g)) := rfl

theorem raise_modTb (f : AttnFlag) (g : TimeBase → TimeBase) : (raise f s).modTb g = raise f (s.modTb g) := by
  have tb : (raise f s).modTb g = (raise f s).withTb (g s.tb) := by
    rw [← raise_tb s f]
    rfl
  exact tb.trans (raise_withTb s (g s.tb) f).symm

theorem offerAlert_modTb (c : AlertClass) (j : Subject) {g : TimeBase → TimeBase} (hg : ∀ t, (g t).clock = t.clock) :
    (offerAlert c j s).modTb g = offerAlert c j (s.modTb g) := by
  have tb : (offerAlert c j s).modTb g = (offerAlert c j s).withTb (g s.tb) := by
    rw [← offerAlert_tb s c j]
    rfl
  exact tb.trans (offerAlert_withTb s (hg s.tb) c j).symm

/-! ## Whole seconds (R11, R12) -/

/-- TB after a whole second in holdover: u grows by `k`, and HOLD becomes FREE above 10,000,000 ns. -/
def TimeBase.grown (t : TimeBase) (k : Nat) : TimeBase :=
  { t with
    u := min 4294967295 (t.u + k)
    grade := if t.grade = .hold ∧ min 4294967295 (t.u + k) ≤ 10000000 then .hold else .free }

theorem grown_u (t : TimeBase) (k : Nat) : (t.grown k).u = min 4294967295 (t.u + k) := rfl

theorem grown_grade (t : TimeBase) (k : Nat) :
    (t.grown k).grade = if t.grade = .hold ∧ (t.grown k).u ≤ 10000000 then .hold else .free := rfl

/-- The growth of u in holdover, with TIME_GRADE and the TIME alert when HOLD becomes FREE. -/
theorem growU_holdover {s : State} (h : s.tb.grade = .hold ∨ s.tb.grade = .free) (k : Nat) :
    growU k s =
      if (s.tb.grown k).grade = s.tb.grade then s.withTb (s.tb.grown k)
      else offerAlert .time (.grade .free) (raise .timeGrade (s.withTb (s.tb.grown k))) := by
  have grown : growU k s =
      if s.tb.grade = .hold ∧ freeLimit < min 4294967295 (s.tb.u + k) then
        changeGrade .free (s.withTb { s.tb with u := min 4294967295 (s.tb.u + k) })
      else s.withTb { s.tb with u := min 4294967295 (s.tb.u + k) } := if_pos h
  rw [grown]
  by_cases lost : s.tb.grade = .hold ∧ freeLimit < min 4294967295 (s.tb.u + k)
  · obtain ⟨hold, above⟩ := lost
    have free : (s.tb.grown k).grade = .free := if_neg (by simp only [freeLimit] at above; omega)
    rw [if_pos ⟨hold, above⟩, if_neg (by simp [free, hold]), changeGrade_eq]
    have graded : TimeBase.graded { s.tb with u := min 4294967295 (s.tb.u + k) } .free = s.tb.grown k := by
      rw [TimeBase.grown, if_neg (by simp only [freeLimit] at above; omega)]
      simp [TimeBase.graded, hold]
    have hold' : (s.withTb { s.tb with u := min 4294967295 (s.tb.u + k) }).tb.grade = .hold := hold
    rw [if_neg (by simp [hold']), if_pos (.inl ⟨hold', rfl⟩)]
    exact congrArg (fun b => offerAlert .time (.grade .free) (raise .timeGrade (s.withTb b))) graded
  · have same : (s.tb.grown k).grade = s.tb.grade := by
      obtain hold | free := h
      · refine (if_pos ⟨hold, ?_⟩).trans hold.symm
        simp only [not_and, not_lt, freeLimit] at lost
        exact lost hold
      · exact (if_neg (by simp [free])).trans free.symm
    rw [if_neg lost, if_pos same]
    exact congrArg (fun g => s.withTb { s.tb with u := min 4294967295 (s.tb.u + k), grade := g }) same.symm

theorem growU_other {s : State} (h1 : s.tb.grade ≠ .hold) (h2 : s.tb.grade ≠ .free) (k : Nat) : growU k s = s :=
  if_neg (by simp [h1, h2])

theorem growU_tb (s : State) (k : Nat) :
    (growU k s).tb = if s.tb.grade = .hold ∨ s.tb.grade = .free then s.tb.grown k else s.tb := by
  by_cases h : s.tb.grade = .hold ∨ s.tb.grade = .free
  · rw [growU_holdover h, if_pos h]
    split <;> simp [State.withTb]
  · rw [if_neg h, growU_other (by tauto) (by tauto)]

/-- The growth of u, by the time base it leaves. -/
theorem growU_eq (s : State) (k : Nat) :
    growU k s =
      if (growU k s).tb.grade = s.tb.grade then { s with tb := (growU k s).tb }
      else offerAlert .time (.grade .free) (raise .timeGrade { s with tb := (growU k s).tb }) := by
  rw [growU_tb]
  by_cases h : s.tb.grade = .hold ∨ s.tb.grade = .free
  · rw [if_pos h]
    exact growU_holdover h k
  · rw [if_neg h, if_pos rfl, growU_other (by tauto) (by tauto)]

theorem lossExpired_iff {s : State} (hm : s.tb.clock = .main) :
    lossExpired s = true ↔
      (s.tb.grade = .tracking ∨ s.tb.grade = .locked) ∧ ∃ p, s.tb.lossTimer = some p ∧ p.toNs + 3000000000 ≤ s.clk.time.toNs := by
  unfold lossExpired
  rw [now_main hm]
  cases s.tb.lossTimer <;> simp

theorem currentBin_eq (s : State) : currentBin s = tencBin s := by
  unfold currentBin tencBin Reading.val
  cases s.hm.readings.tenc.valid <;> rfl

end

section

variable (s : State)

theorem growth_changes (k : Nat) : ChangesOnly [.tb, .et, .al, .pt, .sl] s (wakeAtTime (sohCheck (growU k s))) :=
  fun b hb => by cases b <;> simp_all [Block.same]

/-- The holdover steer of a whole second (R11). -/
def TimeBase.steered (t : TimeBase) (bin : Option DriftBin) : TimeBase :=
  if t.grade = .hold ∨ t.grade = .free then { t with steer := (bin.map DriftBin.v).getD t.steer } else t

theorem holdoverSteer_eq (bin : Option DriftBin) : holdoverSteer bin s = s.withTb (s.tb.steered bin) := by
  unfold TimeBase.steered
  by_cases h : s.tb.grade = .hold ∨ s.tb.grade = .free
  · rw [if_pos h]
    cases bin with
    | none => rfl
    | some b => exact if_pos h
  · rw [if_neg h]
    cases bin with
    | none => rfl
    | some b => exact if_neg h

theorem exec_wholeSecond (d : Elapsed) :
    exec (.wholeSecond d) s =
      timed d s fun s => if s.mainRuns && s.reached (s.clk.time.sec * nsPerSec) then mainSecond s else s := rfl

/-- The growth of u at a whole second of disciplined time (R12). -/
def growthOf (bin : Option DriftBin) : Nat := if bin.isSome then 20 else 200

/-- A whole second of disciplined time, with the time base it leaves. -/
theorem mainSecond_eq :
    mainSecond s =
      wakeAtTime (sohCheck (growU (growthOf (populatedBin s))
        { s with clk := { s.clk with watch := ⟨s.clk.time.sec, 0⟩ }, tb := s.tb.steered (populatedBin s) })) := by
  unfold mainSecond
  dsimp only
  rw [holdoverSteer_eq]
  rfl

theorem steered_grade (t : TimeBase) (bin : Option DriftBin) : (t.steered bin).grade = t.grade := by
  unfold TimeBase.steered
  split <;> rfl

theorem mainSecond_tb :
    (mainSecond s).tb =
      if s.tb.grade = .hold ∨ s.tb.grade = .free then (s.tb.steered (populatedBin s)).grown (growthOf (populatedBin s)) else s.tb := by
  rw [mainSecond_eq, wakeAtTime_tb, sohCheck_tb, growU_tb]
  dsimp only
  rw [steered_grade]
  by_cases h : s.tb.grade = .hold ∨ s.tb.grade = .free
  · rw [if_pos h, if_pos h]
  · rw [if_neg h, if_neg h]
    exact if_neg h

/-- The populated bin, if any (R11). -/
theorem populatedBin_some {k : Fin 16} (h : tencBin s = some k) (hn : 64 ≤ (s.tb.drift.get k).n) :
    populatedBin s = some (s.tb.drift.get k) := by
  simp only [populatedBin, currentBin_eq, h, if_pos hn]

theorem populatedBin_none (h : ∀ k, tencBin s = some k → (s.tb.drift.get k).n < 64) : populatedBin s = none := by
  unfold populatedBin
  rw [currentBin_eq]
  cases hk : tencBin s with
  | none => rfl
  | some k => exact if_neg (h k hk).not_ge

end

/-- Settles O7. -/
theorem referenceLossAndHoldover : Obligations.ReferenceLossAndHoldover := by
  refine ⟨fun d s hp => ⟨fun p hm hg hl hdue => ?_, fun h => ?_⟩, fun d s hp hm hns => ?_, fun d s hp hm hticks => ?_⟩
  · refine (timed_powered s d _ hp).trans (congrArg _ ?_)
    rw [whileMain_main (s := s.elapse d) hm]
    have expired : lossExpired (s.elapse d) = true := by
      refine (lossExpired_iff (s := s.elapse d) hm).mpr ⟨hg, p, hl, hdue⟩
    rw [if_pos expired, loseReference, changeGrade_hold (s.elapse d) hg, raise_modTb]
    rfl
  · refine (timed_powered s d _ hp).trans (congrArg _ ?_)
    by_cases hm : s.tb.clock = .main
    · rw [whileMain_main (s := s.elapse d) hm]
      refine if_neg (mt (lossExpired_iff (s := s.elapse d) hm).mp ?_)
      rintro ⟨hg, p, hl, hdue⟩
      obtain h | h | h := h
      · exact h hm
      · exact hg.elim h.1 h.2
      · have early := h p hl
        omega
    · exact whileMain_stopped (s := s.elapse d) hm _
  · have reached : (s.elapse d).reached ((s.elapse d).clk.time.sec * nsPerSec) = true := by
      rw [State.reached_iff, now_main (s := s.elapse d) hm, Time.toNs, hns]
      exact .inl (add_zero _)
    have second : exec (.wholeSecond d) s = .next (mainSecond (s.elapse d)) := by
      have runs : (s.elapse d).mainRuns = true := decide_eq_true hm
      have both : ((s.elapse d).mainRuns && (s.elapse d).reached ((s.elapse d).clk.time.sec * nsPerSec)) = true := by
        rw [runs, reached]
        rfl
      rw [exec_wholeSecond, timed_powered s d _ hp, if_pos both]
    have clk : (mainSecond (s.elapse d)).clk = { (s.elapse d).clk with watch := ⟨(s.elapse d).clk.time.sec, 0⟩ } := by
      simp [mainSecond, growU_clk, holdoverSteer_clk]
    have bin : populatedBin (s.elapse d) = populatedBin s := rfl
    refine ⟨_, second, clk, fun h1 h2 => ?_, fun h => ?_, ?_, ?_⟩
    · rw [mainSecond_tb, if_neg (by simp [h1, h2])]
      rfl
    · have holdover : s.tb.steered (populatedBin s) = { s.tb with steer := ((populatedBin s).map DriftBin.v).getD s.tb.steer } := if_pos h
      rw [mainSecond_tb, bin, State.elapse_tb, if_pos h, holdover]
      refine ⟨fun k hk hn => ?_, fun hn => ?_, ?_, rfl⟩
      · rw [grown_u, populatedBin_some s hk hn]
        exact ⟨rfl, rfl⟩
      · rw [grown_u, populatedBin_none s hn]
        exact ⟨rfl, rfl⟩
      · exact grown_grade _ _
    · intro b hb
      rw [mainSecond_eq]
      cases b <;> simp_all [Block.same]
    · have grade : (growU (growthOf (populatedBin (s.elapse d)))
          { s.elapse d with
            clk := { (s.elapse d).clk with watch := ⟨(s.elapse d).clk.time.sec, 0⟩ }
            tb := (s.elapse d).tb.steered (populatedBin (s.elapse d)) }).tb = (mainSecond (s.elapse d)).tb := by
        rw [mainSecond_eq, wakeAtTime_tb, sohCheck_tb]
      rw [clk, ← grade]
      exact (mainSecond_eq _).trans (congrArg (fun x => wakeAtTime (sohCheck x)) ((growU_eq _ _).trans (by rw [steered_grade]; rfl)))
  · have second : exec (.watchWholeSecond d) s = .next (watchSecond (s.elapse d)) :=
      (timed_powered s d _ hp).trans (congrArg _ (if_pos (by simp [State.mainRuns, hm, hticks])))
    have tb : (watchSecond (s.elapse d)).tb = (growU growthWatch (s.elapse d)).tb := by
      rw [watchSecond, wakeAtTime_tb, sohCheck_tb]
    refine ⟨_, second, fun h1 h2 => ?_, fun h => ?_, ?_, ?_⟩
    · rw [tb, growU_tb, if_neg (by simp [h1, h2])]
      rfl
    · rw [tb, growU_tb, growthWatch, if_pos (by simpa using h)]
      rfl
    · exact growth_changes _ _
    · rw [tb]
      exact congrArg (fun x => wakeAtTime (sohCheck x)) (growU_eq (s.elapse d) growthWatch)

end Sys2Proof.Machine

/-! PROOFS. The loop's update by a used pulse (O6): I, s, the runs, the grade, u and the drift table (R8, R13, R14). -/

namespace Sys2Proof.Machine

section

variable (s : State)

/-! ## The drift table learns (R13) -/

/-- The drift table after one learning step of a bin. -/
def TimeBase.learned (t : TimeBase) : Option (Fin 16) → TimeBase
  | some i => { t with drift := t.drift.set i.val (learnBin t.integral (t.drift.get i)) i.isLt }
  | none => t

theorem learnDrift_eq : learnDrift s = s.modTb fun t => t.learned (tencBin s) := by
  unfold learnDrift
  rw [currentBin_eq]
  cases tencBin s <;> rfl

theorem learned_drift (t : TimeBase) (bin : Option (Fin 16)) (k : Fin 16) :
    (t.learned bin).drift.get k = if bin = some k then learnBin t.integral (t.drift.get k) else t.drift.get k := by
  cases bin with
  | none => rfl
  | some i =>
    simp only [TimeBase.learned, Vector.get_eq_getElem, Vector.getElem_set, Option.some.injEq, Fin.ext_iff]
    split
    · rename_i h
      simp [h]
    · rfl

theorem learned_eq (t : TimeBase) (bin : Option (Fin 16)) : t.learned bin = { t with drift := (t.learned bin).drift } := by
  cases bin <;> rfl

/-! ## The loop (R8) -/

/-- TB with the loop's values of a used pulse, its grade and its u still as before. -/
def TimeBase.looped (t : TimeBase) (theta : Int) (now : Time) : TimeBase :=
  { t with
    integral := loopIntegral t.integral theta, steer := loopSteer (loopIntegral t.integral theta) theta, lastPulse := some now
    lastTheta := some theta, lossTimer := some now, usedCount := inc32 t.usedCount, rejectRun := 0
    goodRun := goodRunAfter t.goodRun theta }

/-- The grade a used pulse leads to. -/
def TimeBase.gradeUsed (t : TimeBase) (theta : Int) : Grade := gradeAfter t.grade (goodRunAfter t.goodRun theta) theta

/-- What a used pulse does to TB after the change of grade: u, and in LOCKED the drift table. -/
def TimeBase.settled (g : Grade) (theta : Int) (bin : Option (Fin 16)) (t : TimeBase) : TimeBase :=
  if g = .locked then TimeBase.learned { t with u := uncertaintyAfter g theta } bin else { t with u := uncertaintyAfter g theta }

theorem usePulse_eq (theta : Int) :
    usePulse theta s =
      (changeGrade (s.tb.gradeUsed theta) (s.withTb (s.tb.looped theta s.now))).modTb
        (TimeBase.settled (s.tb.gradeUsed theta) theta (tencBin s)) := by
  have bin (x : State) (hx : x.hm = s.hm) : tencBin x = tencBin s := by simp only [tencBin, hx]
  have used : usePulse theta s =
      if s.tb.gradeUsed theta = .locked then
        learnDrift ((changeGrade (s.tb.gradeUsed theta) (s.withTb (s.tb.looped theta s.now))).modTb fun t =>
          { t with u := uncertaintyAfter (s.tb.gradeUsed theta) theta })
      else (changeGrade (s.tb.gradeUsed theta) (s.withTb (s.tb.looped theta s.now))).modTb fun t =>
        { t with u := uncertaintyAfter (s.tb.gradeUsed theta) theta } := rfl
  rw [used]
  by_cases h : s.tb.gradeUsed theta = .locked
  · have settled : TimeBase.settled (s.tb.gradeUsed theta) theta (tencBin s) = fun t =>
        TimeBase.learned { t with u := uncertaintyAfter (s.tb.gradeUsed theta) theta } (tencBin s) := funext fun t => if_pos h
    rw [if_pos h, learnDrift_eq, bin _ (by simp [State.withTb]), settled]
    rfl
  · have settled : TimeBase.settled (s.tb.gradeUsed theta) theta (tencBin s) = fun t =>
        { t with u := uncertaintyAfter (s.tb.gradeUsed theta) theta } := funext fun t => if_neg h
    rw [if_neg h, settled]

theorem settled_clock (g : Grade) (theta : Int) (bin : Option (Fin 16)) (t : TimeBase) :
    (TimeBase.settled g theta bin t).clock = t.clock := by
  unfold TimeBase.settled TimeBase.learned
  (repeat' split) <;> rfl

/-- TB after a used pulse. -/
def TimeBase.used (t : TimeBase) (theta : Int) (now : Time) (bin : Option (Fin 16)) : TimeBase :=
  TimeBase.settled (t.gradeUsed theta) theta bin
    (if t.grade = t.gradeUsed theta then t.looped theta now else (t.looped theta now).graded (t.gradeUsed theta))

/-- The state after a used pulse, by the time base it leaves (R8, R14). -/
theorem usePulse_cases (theta : Int) :
    usePulse theta s =
      if s.tb.grade = s.tb.gradeUsed theta then s.withTb (s.tb.used theta s.now (tencBin s))
      else if s.tb.gradeUsed theta = .locked ∧ s.tb.freeRecovery = true then
        offerAlert .time (.grade .locked) (raise .timeGrade (s.withTb (s.tb.used theta s.now (tencBin s))))
      else raise .timeGrade (s.withTb (s.tb.used theta s.now (tencBin s))) := by
  have free : s.tb.gradeUsed theta ≠ .free := by
    unfold TimeBase.gradeUsed gradeAfter
    cases s.tb.grade <;> dsimp only <;> (try split) <;> simp
  have grade : (s.withTb (s.tb.looped theta s.now)).tb.grade = s.tb.grade := rfl
  have recovery : (s.withTb (s.tb.looped theta s.now)).tb.freeRecovery = s.tb.freeRecovery := rfl
  rw [usePulse_eq, changeGrade_eq, grade, recovery]
  unfold TimeBase.used
  by_cases same : s.tb.grade = s.tb.gradeUsed theta
  · rw [if_pos same, if_pos same, if_pos same]
    rfl
  · rw [if_neg same, if_neg same, if_neg same]
    by_cases offers : s.tb.gradeUsed theta = .locked ∧ s.tb.freeRecovery = true
    · rw [if_pos (.inr offers), if_pos offers, offerAlert_modTb _ _ _ (settled_clock _ _ _), raise_modTb, offers.1]
      rfl
    · rw [if_neg (by tauto), if_neg offers, raise_modTb]
      rfl

theorem usePulse_tb (theta : Int) : (usePulse theta s).tb = s.tb.used theta s.now (tencBin s) := by
  rw [usePulse_cases]
  (repeat' split) <;> simp [State.withTb]

theorem gradeUsed_free {t : TimeBase} (h : t.grade = .free) (theta : Int) : t.gradeUsed theta = .tracking := by
  simp only [TimeBase.gradeUsed, gradeAfter, h]

theorem gradeUsed_ne_free (t : TimeBase) (theta : Int) : t.gradeUsed theta ≠ .free := by
  unfold TimeBase.gradeUsed gradeAfter
  cases t.grade <;> dsimp only <;> (try split) <;> simp

theorem gradeUsed_eq (t : TimeBase) (theta : Int) :
    t.gradeUsed theta =
      if t.grade = .tracking ∧ 60 ≤ goodRunAfter t.goodRun theta then .locked
      else if t.grade = .locked ∧ theta.natAbs ≤ 1000 then .locked
      else .tracking := by
  unfold TimeBase.gradeUsed gradeAfter
  cases t.grade <;> simp [lockRun, goodLimit] <;> rfl

/-- TB after a used pulse, field by field. -/
theorem used_eq (t : TimeBase) (theta : Int) (now : Time) (bin : Option (Fin 16)) :
    t.used theta now bin =
      { t.looped theta now with
        grade := t.gradeUsed theta, u := uncertaintyAfter (t.gradeUsed theta) theta
        freeRecovery :=
          if t.grade = .free then true
          else if t.grade ≠ .locked ∧ t.gradeUsed theta = .locked then false
          else t.freeRecovery
        drift := if t.gradeUsed theta = .locked then ((t.looped theta now).learned bin).drift else t.drift } := by
  have free := gradeUsed_free (t := t) (theta := theta)
  have never := gradeUsed_ne_free t theta
  have graded : (if t.grade = t.gradeUsed theta then t.looped theta now else (t.looped theta now).graded (t.gradeUsed theta)) =
      { t.looped theta now with
        grade := t.gradeUsed theta
        freeRecovery :=
          if t.grade = .free then true
          else if t.grade ≠ .locked ∧ t.gradeUsed theta = .locked then false
          else t.freeRecovery } := by
    by_cases same : t.grade = t.gradeUsed theta
    · rw [if_pos same, ← same, if_neg (by rw [same]; exact never), if_neg (by simp)]
      rfl
    · have recovery : (if t.grade = .free ∧ t.gradeUsed theta = .tracking then true
          else if t.gradeUsed theta = .locked then false else t.freeRecovery) =
          if t.grade = .free then true
          else if t.grade ≠ .locked ∧ t.gradeUsed theta = .locked then false
          else t.freeRecovery := by
        by_cases hf : t.grade = .free
        · rw [if_pos ⟨hf, free hf⟩, if_pos hf]
        · rw [if_neg (by simp [hf]), if_neg hf]
          by_cases hl : t.gradeUsed theta = .locked
          · rw [if_pos hl, if_pos ⟨fun h => same (h.trans hl.symm), hl⟩]
          · rw [if_neg hl, if_neg (by simp [hl])]
      rw [if_neg same]
      exact congrArg₂ (fun r f => { t.looped theta now with grade := t.gradeUsed theta, rejectRun := r, freeRecovery := f })
        (ite_self 0) recovery
  rw [TimeBase.used, graded, TimeBase.settled]
  by_cases locked : t.gradeUsed theta = .locked
  · rw [if_pos locked, if_pos locked, learned_eq]
    cases bin <;> rfl
  · rw [if_neg locked, if_neg locked]
    rfl

theorem used_drift (t : TimeBase) (theta : Int) (now : Time) (bin : Option (Fin 16)) (k : Fin 16) :
    (t.used theta now bin).drift.get k =
      if t.gradeUsed theta = .locked ∧ bin = some k then learnBin (loopIntegral t.integral theta) (t.drift.get k)
      else t.drift.get k := by
  rw [used_eq]
  by_cases locked : t.gradeUsed theta = .locked
  · simp only [if_pos locked, learned_drift, TimeBase.looped]
    simp [locked]
  · simp [locked]

theorem usePulse_changes (theta : Int) : ChangesOnly [.tb, .et, .al, .pt, .sl] s (usePulse theta s.unlabelled) := by
  rw [usePulse_eq]
  intro b hb
  cases b <;> simp_all [Block.same, State.withTb, State.unlabelled]

end

/-- Settles O6. -/
theorem pulseUpdatesLoop : Obligations.PulseUpdatesLoop := by
  intro d s l θ hp hm hl hacc hθ hstep hscreen
  have edge : exec (.refpPulse d) s = .next (usePulse θ (s.elapse d).unlabelled) := by
    rw [exec_refpPulse hp hm, pulseEdge_accepted (s := s.elapse d) hm hl hacc]
    have theta : phaseError (s.elapse d).clk.time.toNs l.sec = θ := by rw [phaseError_eq, hθ]
    by_cases locked : s.tb.grade = .locked
    · rw [acceptPulse_locked (s := (s.elapse d).unlabelled) hm locked]
      refine congrArg _ ((if_neg ?_).trans ?_)
      · have := hscreen locked
        rw [show (s.elapse d).unlabelled.clk = (s.elapse d).clk from rfl, theta]
        omega
      · rw [← theta]
        rfl
    · rw [acceptPulse_unlocked (s := (s.elapse d).unlabelled) hm locked]
      refine congrArg _ ((if_neg ?_).trans ?_)
      · have := hstep locked
        rw [show (s.elapse d).unlabelled.clk = (s.elapse d).clk from rfl, theta]
        omega
      · rw [← theta]
        rfl
  have now : (s.elapse d).unlabelled.now = (s.elapse d).clk.time := now_main hm
  have tb := usePulse_tb (s.elapse d).unlabelled θ
  rw [now] at tb
  have cases := usePulse_cases (s.elapse d).unlabelled θ
  rw [now, ← tb] at cases
  have bin : tencBin (s.elapse d).unlabelled = tencBin s := rfl
  have drift (k : Fin 16) : (usePulse θ (s.elapse d).unlabelled).tb.drift.get k =
      if s.tb.gradeUsed θ = .locked ∧ tencBin s = some k then learnBin (loopIntegral s.tb.integral θ) (s.tb.drift.get k)
      else s.tb.drift.get k := by
    rw [tb]
    exact used_drift _ _ _ _ _
  rw [used_eq, bin] at tb
  have grade : (usePulse θ (s.elapse d).unlabelled).tb.grade = (s.elapse d).unlabelled.tb.gradeUsed θ := by rw [tb]
  have run : (usePulse θ (s.elapse d).unlabelled).tb.goodRun = goodRunAfter s.tb.goodRun θ := by rw [tb]; rfl
  refine ⟨_, edge, ?_, ?_, ?_, ?_, ?_, ?_, fun k => ?_, ?_, ?_, fun hg => ?_, fun hg => ?_⟩
  · rw [tb]
    rfl
  · rw [tb]
    rfl
  · rw [run]
    rfl
  · rw [run, grade]
    exact gradeUsed_eq _ _
  · rw [grade, tb]
    rfl
  · rw [grade, tb]
    rfl
  · rw [drift, grade, tb]
    rfl
  · rw [tb]
    rfl
  · exact usePulse_changes _ θ
  · rw [cases, if_pos (by rw [← grade]; exact hg.symm)]
    intro b hb
    cases b with
    | tb => simp at hb
    | _ => rfl
  · rw [grade]
    refine cases.trans ((if_neg ?_).trans ?_)
    · rw [← grade]
      exact fun h => hg h.symm
    · rfl

end Sys2Proof.Machine

/-! PROOFS. Steps of time: an accepted pulse (O5), and the requests of the time base, TIME SET among them (O8) (R7, R14, R16, R19 to
R22, R121 to R124, R179). -/

namespace Sys2Proof.Machine

section

variable (s : State)

/-! ## What a step carries time past (R122 to R124) -/

/-- A step carries time past a frame's issue instant, if that is awaited, or past its decision instant, if nothing of it lies ahead. -/
theorem passedFrame_iff (old now : Nat) (a : AlertScheduler) (f : Nat) :
    passedFrame old now a f = true ↔
      (∃ x, a.decided = some x ∧ x.frame = f ∧ x.taken = false ∧ old < x.issue.toNs ∧ x.issue.toNs < now) ∨
        ((∀ x, a.decided = some x → x.frame = f → x.taken = true) ∧ (∀ t, a.attempt = some t → t.frame ≠ f) ∧
          old < f * 60000000000 + 100000000 ∧ f * 60000000000 + 100000000 < now) := by
  have decision : decisionNs f = f * 60000000000 + 100000000 := by
    simp only [decisionNs, frameStart, nsPerSec, Nat.mul_assoc, Nat.reduceMul]
  have attempt : holdsAttempt a f = false ↔ ∀ t, a.attempt = some t → t.frame ≠ f := by
    unfold holdsAttempt
    cases a.attempt <;> simp
  unfold passedFrame noIssueAhead
  rw [decision]
  unfold awaitsIssue
  cases hd : a.decided with
  | none => simp [attempt, and_assoc]
  | some x =>
    by_cases waits : x.frame = f ∧ x.taken = false
    · have awaits : (decide (x.frame = f) && !x.taken) = true := by simpa using waits
      simp [waits]
    · have awaits : (decide (x.frame = f) && !x.taken) = false := by
        rw [← Bool.not_eq_true]
        simpa using waits
      have taken : x.frame = f → x.taken = true := fun h => by simpa [h] using waits
      have done : ¬(x.frame = f ∧ x.taken = false ∧ old < x.issue.toNs ∧ x.issue.toNs < now) := fun h => waits ⟨h.1, h.2.1⟩
      have none_waits : ∀ y, some x = some y → y.frame = f → y.taken = true := by
        rintro _ ⟨⟩
        exact taken
      simp only [awaits, Bool.false_eq_true, if_false, Option.isNone_none, Bool.true_and, Bool.and_eq_true, Bool.not_eq_true', attempt,
        decide_eq_true_eq, and_assoc, Option.some.injEq, exists_eq_left', done, false_or]
      exact ⟨fun h => ⟨fun y hy => none_waits y (congrArg some hy), h⟩, fun h => h.2⟩

/-- What a step leaves of the windows and of the last decision. -/
theorem closePassedWindows_fields {old : Nat} {passed : Nat → Prop} (h : ∀ f, passedFrame old s.now.toNs s.al f = true ↔ passed f) :
    (closePassedWindows old s).al =
        { s.al with windows := (closePassedWindows old s).al.windows, decided := (closePassedWindows old s).al.decided } ∧
      (∀ f, f ∈ (closePassedWindows old s).al.windows ↔ f ∈ s.al.windows ∧ ¬passed f) ∧
      (∀ x, s.al.decided = some x →
        (passed x.frame → (closePassedWindows old s).al.decided = some { x with taken := true }) ∧
          (¬passed x.frame → (closePassedWindows old s).al.decided = some x)) ∧
      (s.al.decided = none → (closePassedWindows old s).al.decided = none) := by
  have closed : (closePassedWindows old s).al =
      { s.al with
        windows := s.al.windows.filter fun f => !passedFrame old s.now.toNs s.al f
        decided := s.al.decided.map fun x => if passedFrame old s.now.toNs s.al x.frame then { x with taken := true } else x } := rfl
  rw [closed]
  refine ⟨rfl, fun f => ?_, fun x hx => ⟨fun hp => ?_, fun hp => ?_⟩, fun hn => ?_⟩
  · simp [← h]
  · simp [hx, (h x.frame).mpr hp]
  · simp [hx, mt (h x.frame).mp hp]
  · simp [hn]

/-! ## Flags through a move of time -/

/-- The state at another disciplined time, with another time base and event table. -/
def State.movedTo (c : Clocks) (b : TimeBase) (e : EventTable) : State := { s with clk := c, tb := b, et := e }

theorem wakeHost_movedTo {c : Clocks} (hc : c.watchRun = s.clk.watchRun) (b : TimeBase) (e : EventTable) (w : WakeCause) :
    wakeHost w (s.movedTo c b e) = (wakeHost w s).movedTo c b e := by
  by_cases h : s.pt.host ≠ .asleep ∧ ∀ x, s.pt.host ≠ .dozing x
  · rw [wakeHost_awake w h, wakeHost_awake (s := s.movedTo c b e) w h]
  · rw [not_and_or, not_not, not_forall_not] at h
    obtain h | ⟨x, h⟩ := h
    · rw [wakeHost_asleep w h, wakeHost_asleep (s := s.movedTo c b e) w h]
      have run : (s.movedTo c b e).clk.watchRun = s.clk.watchRun := hc
      rw [run]
      rfl
    · rw [wakeHost_dozing w h, wakeHost_dozing (s := s.movedTo c b e) w h]
      rfl

theorem raise_movedTo {c : Clocks} (hc : c.watchRun = s.clk.watchRun) (b : TimeBase) (e : EventTable) (f : AttnFlag) :
    raise f (s.movedTo c b e) = (raise f s).movedTo c b e := by
  have flagged : (s.movedTo c b e).modSl (fun l => { l with flags := l.flags ||| f.bit }) =
      (s.modSl fun l => { l with flags := l.flags ||| f.bit }).movedTo c b e := rfl
  have mask : (s.movedTo c b e).sl.wakeMask = s.sl.wakeMask := rfl
  have run : c.watchRun = (s.modSl fun l => { l with flags := l.flags ||| f.bit }).clk.watchRun := hc
  unfold raise
  simp only [flagged, mask, wakeHost_movedTo _ run]
  split <;> rfl

/-! ## The flags of the records through alerts -/

theorem alertWritten_recordFlags (j : Subject) (a : AlertState) (c : AlertClass) (t : EventTable) :
    recordFlags { t with records := alertWritten j a c t.records } = recordFlags t := by
  unfold recordFlags alertWritten
  simp only [List.map_map]
  refine List.map_congr_left fun r _ => ?_
  by_cases h : j = .event r.number <;> simp [h]

theorem outcome_recordFlags (e : Entry) (o : AlertState) (w : Bool) : recordFlags (outcome e o w s).et = recordFlags s.et := by
  rw [outcome_eq, raise_et]
  cases w
  · rfl
  · exact alertWritten_recordFlags _ _ _ _

theorem joinQueue_recordFlags (e : Entry) : recordFlags (joinQueue e s).et = recordFlags s.et := by
  rw [joinQueue, writeAlert_eq]
  exact alertWritten_recordFlags _ _ _ _

theorem createEntry_recordFlags (c : AlertClass) (j : Subject) (text : List Byte) :
    recordFlags (createEntry c j text s).et = recordFlags s.et := by
  by_cases room : s.al.queue.length < 16
  · rw [createEntry_room c j text room]
    exact alertWritten_recordFlags _ _ _ _
  · cases hv : displaceable s.al.queue c with
    | some v => rw [createEntry_displacing c j text (not_lt.mp room) hv, joinQueue_recordFlags, outcome_recordFlags]; rfl
    | none => rw [createEntry_displaced c j text (not_lt.mp room) hv, outcome_recordFlags]; rfl

theorem offerAlert_recordFlags (c : AlertClass) (j : Subject) : recordFlags (offerAlert c j s).et = recordFlags s.et := by
  unfold offerAlert
  split
  · split <;> rfl
  · exact createEntry_recordFlags s c j []

theorem sohCheck_recordFlags : recordFlags (sohCheck s).et = recordFlags s.et := by
  unfold sohCheck
  (repeat' split)
  · exact offerAlert_recordFlags s .soh .none
  all_goals rfl

/-! ## A step -/

/-- The event table with TIME_STEPPED in the record of the event in progress (R16). -/
def State.steppedEvents (s : State) : EventTable :=
  { s.et with
    records := s.et.records.map fun r =>
      if s.tu.current = some r.number then { r with flags := { r.flags with timeStepped := true } } else r }

theorem steppedEvents_recordFlags :
    recordFlags s.steppedEvents =
      s.et.records.map fun r =>
        (r.number, if s.tu.current = some r.number then { r.flags with timeStepped := true } else r.flags) := by
  simp only [recordFlags, State.steppedEvents, List.map_map]
  refine List.map_congr_left fun r _ => ?_
  by_cases h : s.tu.current = some r.number <;> simp [h]

theorem markStep_eq : markStep s = s.movedTo s.clk { s.tb with stepPending := true } s.steppedEvents := by
  rw [markStep, setCurrentFlag_eq]
  rfl

/-- The flag of a change of grade that offers no alert. -/
def State.gradeRaised (s : State) (changed : Prop) [Decidable changed] : State := if changed then raise .timeGrade s else s

theorem gradeRaised_al (changed : Prop) [Decidable changed] : (s.gradeRaised changed).al = s.al := by
  unfold State.gradeRaised
  split <;> simp

/-- Time moved, the grade changed to one that offers no alert, TB finished, and the step marked. -/
theorem markStep_moved {c : Clocks} (hc : c.watchRun = s.clk.watchRun) {b : TimeBase} {g : Grade} (hfree : ¬(b.grade = .hold ∧ g = .free))
    (hlocked : g ≠ .locked) (f : TimeBase → TimeBase) :
    markStep ((changeGrade g (s.movedTo c b s.et)).modTb f) =
      (s.gradeRaised (b.grade ≠ g)).movedTo c { f (if b.grade = g then b else b.graded g) with stepPending := true } s.steppedEvents := by
  have changed : changeGrade g (s.movedTo c b s.et) =
      (s.gradeRaised (b.grade ≠ g)).movedTo c (if b.grade = g then b else b.graded g) s.et := by
    rw [changeGrade_eq]
    unfold State.gradeRaised
    by_cases same : b.grade = g
    · rw [if_pos (show (s.movedTo c b s.et).tb.grade = g from same), if_neg (not_not_intro same), if_pos same]
    · rw [if_neg (show ¬(s.movedTo c b s.et).tb.grade = g from same), if_pos same, if_neg same, if_neg]
      · exact raise_movedTo s hc (b.graded g) s.et .timeGrade
      · rintro (h | ⟨h, -⟩)
        · exact hfree h
        · exact hlocked h
  have tu : (s.gradeRaised (b.grade ≠ g)).tu = s.tu := by
    unfold State.gradeRaised
    split <;> simp
  rw [changed, markStep_eq]
  simp only [State.modTb, State.movedTo, State.steppedEvents, tu]

/-- What a step does in the end, `e` being the state at the step with the flag of the grade raised or not: time and TB as set, the marks
of R16, and the comparisons of R121 to R124 and R179. -/
theorem afterStep_fields {c : Clocks} {b : TimeBase} (changed : Prop) [Decidable changed] (old : Nat) {t : State}
    (ht : t = afterStep old ((s.gradeRaised changed).movedTo c b s.steppedEvents)) :
    t.clk = c ∧ t.tb = b ∧
      recordFlags t.et =
        s.et.records.map (fun r =>
          (r.number, if s.tu.current = some r.number then { r.flags with timeStepped := true } else r.flags)) ∧
      ChangesOnly [.clk, .tb, .et, .al, .pt, .sl] s t ∧
      ∀ passed : Nat → Prop, (∀ f, passedFrame old t.now.toNs s.al f = true ↔ passed f) →
        ∃ u : State, t = syncModem (wakeAtTime (sohCheck u)) ∧ ChangesOnly [.clk, .tb, .et, .al] (s.gradeRaised changed) u ∧
          u.clk = t.clk ∧ u.tb = t.tb ∧ u.al = { s.al with windows := u.al.windows, decided := u.al.decided } ∧
          (∀ f, f ∈ u.al.windows ↔ f ∈ s.al.windows ∧ ¬passed f) ∧
          (∀ x, s.al.decided = some x →
            (passed x.frame → u.al.decided = some { x with taken := true }) ∧ (¬passed x.frame → u.al.decided = some x)) ∧
          (s.al.decided = none → u.al.decided = none) := by
  have clk : t.clk = c := by
    rw [ht]
    simp [afterStep, State.movedTo]
  have tb : t.tb = b := by
    rw [ht]
    simp [afterStep, State.movedTo]
  have flags : recordFlags t.et = recordFlags s.steppedEvents := by
    rw [ht, afterStep, syncModem_et, wakeAtTime_et, sohCheck_recordFlags]
    rfl
  refine ⟨clk, tb, flags.trans (steppedEvents_recordFlags s), ?_, fun passed h => ?_⟩
  · rw [ht]
    have raised : ChangesOnly [.pt, .sl] s (s.gradeRaised changed) := by
      unfold State.gradeRaised
      split
      · exact raise_changes s .timeGrade
      · exact ChangesOnly.rfl
    have moved (x : State) : ChangesOnly [.clk, .tb, .et] x (x.movedTo c b s.steppedEvents) := by
      intro k hk
      cases k with
      | clk | tb | et => simp at hk
      | _ => rfl
    have after (x : State) : ChangesOnly [.al, .et, .pt, .sl] x (afterStep old x) := by
      intro k hk
      cases k <;> simp_all [Block.same, afterStep]
    exact ((raised.mono (by decide)).trans ((moved _).mono (by decide))).trans ((after _).mono (by decide))
  · have al : ((s.gradeRaised changed).movedTo c b s.steppedEvents).al = s.al := gradeRaised_al s changed
    have now : t.now = ((s.gradeRaised changed).movedTo c b s.steppedEvents).now := by
      simp only [State.now, clk, tb]
      rfl
    have fields := closePassedWindows_fields ((s.gradeRaised changed).movedTo c b s.steppedEvents) (old := old) (passed := passed)
      (by rw [al, ← now]; exact h)
    rw [al] at fields
    refine ⟨closePassedWindows old ((s.gradeRaised changed).movedTo c b s.steppedEvents), ht, ?_, clk.symm, tb.symm, fields⟩
    intro k hk
    cases k with
    | clk | tb | et | al => simp at hk
    | _ => rfl

/-! ## An accepted pulse that steps (R7) -/

theorem Time.toNs_whole (sec : Nat) : Time.toNs ⟨sec, 0⟩ = sec * 1000000000 := by simp [Time.toNs, nsPerSec]

/-- TB after a step by a pulse. -/
def TimeBase.stepped (t : TimeBase) (labelled : Time) (theta : Int) : TimeBase :=
  { t with
    label := none, integral := 0, lastPulse := some labelled, lastTheta := some theta, grade := .tracking, u := 1000, goodRun := 0
    rejectRun := 0, stepCount := (t.stepCount + 1) % 4294967296, usedCount := (t.usedCount + 1) % 4294967296
    lossTimer := some labelled, stepPending := true, freeRecovery := t.freeRecovery || t.grade = .free, movedTo := some labelled }

/-- TB when a step by a pulse changes the grade. -/
def TimeBase.jumped (t : TimeBase) (labelled : Time) (theta : Int) : TimeBase :=
  { t with label := none, integral := 0, lastPulse := some labelled, lastTheta := some theta, movedTo := some labelled }

theorem inc32_eq (n : Nat) : inc32 n = (n + 1) % 4294967296 := rfl

/-- What the step sets in TB after the change of grade. -/
def TimeBase.restarted (t : TimeBase) (labelled : Time) : TimeBase :=
  { t with
    u := 1000, goodRun := 0, rejectRun := 0, stepCount := inc32 t.stepCount, usedCount := inc32 t.usedCount
    lossTimer := some labelled }

theorem restarted_eq (t : TimeBase) (p : Time) (θ : Int) :
    { (if t.grade = .tracking then t.jumped p θ else (t.jumped p θ).graded .tracking).restarted p with stepPending := true } =
      t.stepped p θ := by
  unfold TimeBase.stepped TimeBase.restarted TimeBase.graded TimeBase.jumped
  split
  · next tracking => simp [tracking, inc32_eq]
  · by_cases free : t.grade = .free
    · simp [free, inc32_eq]
    · simp [free, inc32_eq]

theorem stepPulse_eq (sec : Nat) (θ : Int) :
    stepPulse sec θ s.unlabelled =
      afterStep s.now.toNs
        ((s.gradeRaised (s.tb.grade ≠ .tracking)).movedTo { s.clk with time := ⟨sec, 0⟩, frac := 0 } (s.tb.stepped ⟨sec, 0⟩ θ)
          s.steppedEvents) := by
  have moved := markStep_moved s (c := { s.clk with time := ⟨sec, 0⟩, frac := 0 }) rfl (b := s.tb.jumped ⟨sec, 0⟩ θ) (g := .tracking)
    (by simp) (by simp) fun t => t.restarted ⟨sec, 0⟩
  rw [← restarted_eq]
  exact congrArg (afterStep s.now.toNs) moved

theorem elapse_changes (d : Elapsed) : ChangesOnly [.clk] s (s.elapse d) := fun b hb => by
  cases b with
  | clk => simp at hb
  | _ => rfl

theorem exec_steppingPulse {d : Elapsed} {l : Label} (hp : s.powered = true) (hm : s.tb.clock = .main)
    (hl : Candidate s.tb (s.elapse d).clk.time.toNs l) (hacc : Accepts s.tb (s.elapse d).clk.time.toNs) (locked : s.tb.grade ≠ .locked)
    (hθ : 1000000 < ((s.elapse d).clk.time.toNs - l.sec * 1000000000 : Int).natAbs) :
    exec (.refpPulse d) s =
      .next (afterStep (s.elapse d).now.toNs
        (((s.elapse d).gradeRaised (s.tb.grade ≠ .tracking)).movedTo { (s.elapse d).clk with time := ⟨l.sec, 0⟩, frac := 0 }
          (s.tb.stepped ⟨l.sec, 0⟩ ((s.elapse d).clk.time.toNs - l.sec * 1000000000 : Int)) (s.elapse d).steppedEvents)) := by
  have theta : phaseError (s.elapse d).clk.time.toNs l.sec = ((s.elapse d).clk.time.toNs - l.sec * 1000000000 : Int) :=
    phaseError_eq _ _
  rw [exec_refpPulse hp hm, pulseEdge_accepted (s := s.elapse d) hm hl hacc,
    acceptPulse_unlocked (s := (s.elapse d).unlabelled) hm locked, show (s.elapse d).unlabelled.clk = (s.elapse d).clk from rfl,
    theta, if_pos hθ, stepPulse_eq (s.elapse d)]
  rfl

/-- Settles O5: the pulse moves time and TB, and what a step brings about is that of every step. -/
theorem pulseStepsTime : Obligations.PulseStepsTime := by
  intro d s l hp hm hl hacc locked hθ
  have edge := exec_steppingPulse s hp hm hl hacc locked hθ
  generalize ht : afterStep _ _ = t at edge
  obtain ⟨clk, tb, flags, changes, rest⟩ := afterStep_fields (s.elapse d) (s.tb.grade ≠ .tracking) (s.elapse d).now.toNs ht.symm
  refine ⟨t, edge, clk, tb, flags, ((elapse_changes s d).mono (by decide)).trans changes, fun g passed hg hpassed => ?_⟩
  have raised : (s.elapse d).gradeRaised (s.tb.grade ≠ .tracking) = g := by rw [hg, State.gradeRaised, ite_not]
  rw [raised] at rest
  refine rest passed fun f => ?_
  have now : t.now = ⟨l.sec, 0⟩ := by rw [now_main (by rw [tb]; exact hm), clk]
  rw [now, passedFrame_iff, hpassed, now_main (s := s.elapse d) hm, Time.toNs_whole, State.elapse_al]

/-! ## The requests (R19 to R22) -/

/-- TB after TIME SET. -/
def TimeBase.told (t : TimeBase) (p : Time) (stated : Nat) : TimeBase :=
  { t with
    u := max stated 1000000, grade := .free, goodRun := 0, rejectRun := 0, lastPulse := none, stepPending := true
    movedTo := some p }

theorem told_eq {t : TimeBase} (h : t.grade = .unset ∨ t.grade = .free) (p : Time) (n : Nat) {b : TimeBase}
    (hb : b = { t with u := max n leastStated, movedTo := some p }) :
    { (if b.grade = .free then b else b.graded .free) with goodRun := 0, rejectRun := 0, lastPulse := none, stepPending := true } =
      t.told p n := by
  subst hb
  unfold TimeBase.told TimeBase.graded leastStated
  obtain h | h := h <;> simp [h]

theorem setStationTime_eq (h : s.tb.grade = .unset ∨ s.tb.grade = .free) (p : Time) (n : Nat) :
    setStationTime p n s =
      afterStep s.now.toNs
        ((s.gradeRaised (s.tb.grade ≠ .free)).movedTo { s.clk with time := p, frac := 0 } (s.tb.told p n) s.steppedEvents) := by
  have moved := markStep_moved s (c := { s.clk with time := p, frac := 0 }) rfl
    (b := { s.tb with u := max n leastStated, movedTo := some p }) (g := .free) (by obtain h | h := h <;> simp [h]) (by simp)
    fun t => { t with goodRun := 0, rejectRun := 0, lastPulse := none }
  rw [← told_eq h p n rfl]
  exact congrArg (afterStep s.now.toNs) moved

/-- While the host is on, none of what a step brings about empties the list of requests. -/
theorem Woken.list {t : State} (h : Woken s t) (hon : s.pt.host.isOn = true) : t.sl.list = s.sl.list := by
  have both : t.pt.host.isOn = true ∧ t.sl.list = s.sl.list := by
    refine h.keeps (P := fun x => x.pt.host.isOn = true ∧ x.sl.list = s.sl.list) (fun x y hpt hsl hx => by rwa [hpt, hsl])
      (fun x f hx => ?_) (fun x w hx => ?_) (fun x y hsl hpt hx => ?_) ⟨hon, Eq.refl _⟩
    · exact ⟨raise_isOn f hx.1, by rw [raise_sl_of_on f hx.1]; exact hx.2⟩
    · exact ⟨wakeHost_isOn w hx.1, by rw [wakeHost_sl_of_on w hx.1]; exact hx.2⟩
    · obtain ⟨on, at_, gasp, hpt⟩ := hpt
      rwa [hpt, hsl]
  exact both.2

theorem timeSet_held {p : List Byte} (h : s.tb.grade ≠ .unset) (hf : s.tb.grade ≠ .free) : timeSet p s = ([0x05], s) :=
  if_pos ⟨h, hf⟩

theorem timeSet_badNs {p : List Byte} (h : s.tb.grade = .unset ∨ s.tb.grade = .free) (hn : 1000000000 ≤ be ((p.drop 4).take 4)) :
    timeSet p s = ([0x04], s) :=
  (if_neg (by obtain h | h := h <;> simp [h])).trans (if_pos hn)

theorem timeSet_taken {p : List Byte} (h : s.tb.grade = .unset ∨ s.tb.grade = .free)
    (hn : be ((p.drop 4).take 4) < 1000000000) :
    timeSet p s =
      ([if be ((p.drop 8).take 4) < 1000000 then 0x01 else 0x00],
        setStationTime ⟨be (p.take 4), be ((p.drop 4).take 4)⟩ (be ((p.drop 8).take 4)) s) :=
  (if_neg (by obtain h | h := h <;> simp [h])).trans (if_neg hn.not_ge)

/-- Settles O8: a TIME SET that is taken is a step, and the other requests report or empty the drift table. -/
theorem timeBaseRequests : Obligations.TimeBaseRequests := by
  refine ⟨fun d s pre r post h hk hp => ⟨fun hu hf => ?_, fun hg hn => ?_, fun hg hn hon => ?_⟩, fun d s pre r post h hp =>
    ⟨fun hk => ?_, fun n hk hn => ?_, fun hk => ?_, fun hk => ?_⟩⟩
  · exact h.answers_ofLength (kind := kTimeSet) hk rfl hp (timeSet_held (s.elapse d) hu hf) rfl
  · exact h.answers_ofLength (kind := kTimeSet) hk rfl hp (timeSet_badNs (s.elapse d) hg hn) rfl
  · have reply := timeSet_taken (s.elapse d) hg hn
    have list := (setStationTime_woken (s.elapse d) ⟨be (r.payload.take 4), be ((r.payload.drop 4).take 4)⟩
      (be ((r.payload.drop 8).take 4))).list _ hon
    rw [setStationTime_eq (s.elapse d) hg] at reply list
    generalize ht : afterStep _ _ = t at reply list
    obtain ⟨clk, tb, flags, changes, rest⟩ :=
      afterStep_fields (s.elapse d) ((s.elapse d).tb.grade ≠ .free) (s.elapse d).now.toNs ht.symm
    refine ⟨t, h.answers_ofLength (kind := kTimeSet) hk rfl hp reply list, clk, tb, flags,
      ((elapse_changes s d).mono (by decide)).trans changes, fun g passed hg' hpassed => ?_⟩
    have raised : (s.elapse d).gradeRaised (s.tb.grade ≠ .free) = g := by
      rw [hg', State.gradeRaised]
      obtain hg | hg := hg <;> simp [hg]
    rw [← raised]
    exact rest passed fun f => by rw [passedFrame_iff, hpassed, State.elapse_al]
  · obtain ⟨-, reads⟩ := h.answers_read (kind := kTimeGet) hk (fields := timeFields) (c := .timeGet d) (d := d) rfl
    have code : s.tb.clock.code = if s.tb.clock = .main then 0 else 1 := by cases s.tb.clock <;> rfl
    rw [← code]
    exact reads hp
  · have seconds : secondsSincePulse (s.elapse d) = (n, s.elapse d) := by
      unfold secondsSincePulse
      obtain ⟨p, hp, hn⟩ | ⟨hp, hθ, hn⟩ := hn
      · simp [hp, hn, max32, nsPerSec]
      · simp [hp, hθ, hn, max32]
    have report : clockReport r.payload (s.elapse d) = (stOk :: clockFields (s.elapse d) n, s.elapse d) := by
      rw [clockReport, seconds]
    have reply := h.answers_ofLength (kind := kClockReport) hk (c := .clockReport d) (d := d) (f := clockReport) rfl
      (congrArg List.length hp) report rfl
    refine (congrArg (Answers (.clockReport d) s pre r post (s.elapse d)) ?_).mp reply
    unfold clockFields
    simp only [State.elapse_tb, List.append_assoc, ← List.cons_append]
    cases s.tb.lastTheta <;> rfl
  · have fields : driftFields (s.elapse d) = (s.tb.drift.toList.flatMap fun b => putS 3 b.v ++ putU 2 b.n) ++
        (match tencBin s with
          | some k => [1, BitVec.ofNat 8 k.val]
          | none => [0, 0]) := by
      have bin : tencBin (s.elapse d) = tencBin s := rfl
      rw [driftFields, currentBin_eq, bin]
      cases tencBin s <;> rfl
    obtain ⟨-, reads⟩ := h.answers_read (kind := kDriftRead) hk (fields := driftFields) (c := .driftRead d) (d := d) rfl
    rw [fields] at reads
    exact reads hp
  · exact h.answers_ofLength (kind := kDriftClear) hk rfl (congrArg List.length hp) rfl rfl

end

end Sys2Proof.Machine

/-! PROOFS. The page map under the operations of the waveform store: what keeps every page in its place and its count in its range
(R72 to R86; O58). -/

namespace Sys2Proof.Machine

namespace WaveStore

/-! ## What an operation leaves of pages, routes and lists -/

section

variable (w : WaveStore) (c c' : Channel) (n n' : Nat) (p q : PageId)

theorem closeFilling_of_none {w : WaveStore} {c : Channel} (h : (w.chan c).filling = none) : w.closeFilling c = w := by
  simp only [closeFilling, h]

theorem chan_flushPair : (w.flushPair c).chan c' = w.chan c' := by
  unfold flushPair
  split <;> rfl

theorem page_flushPair : (w.flushPair c).page p = w.page p := by
  unfold flushPair
  split <;> rfl

theorem page_closeFilling :
    (w.closeFilling c).page q = if (w.chan c).filling = some q then { w.page q with filling := false } else w.page q := by
  unfold closeFilling
  cases h : (w.chan c).filling with
  | none => simp
  | some p =>
    dsimp only
    rw [page_modChan, page_modPage, page_flushPair, page_flushPair]
    by_cases same : q = p
    · simp [same]
    · simp [same, Ne.symm same]

/-- A route after its filling page has closed (R75, R76). -/
def closedRoute (ch : StoreChannel) : StoreChannel :=
  match ch.filling with
  | some p => { ch with filling := none, pair := none, ring := if ch.route = .ring then ch.ring ++ [p] else ch.ring }
  | none => ch

theorem chan_closeFilling : (w.closeFilling c).chan c' = if c' = c then closedRoute (w.chan c) else w.chan c' := by
  unfold closeFilling closedRoute
  cases h : (w.chan c).filling with
  | none => by_cases same : c' = c <;> simp [same]
  | some p =>
    dsimp only
    rw [chan_modChan, chan_modPage, chan_modPage, chan_flushPair, chan_flushPair]

theorem events_closeFilling : (w.closeFilling c).events = w.events := by
  unfold closeFilling flushPair
  split <;> [split; skip] <;> rfl

theorem eventList_closeFilling : (w.closeFilling c).eventList n c' = w.eventList n c' := by
  rw [eventList, events_closeFilling]
  rfl

theorem modChan_modChan (f g : StoreChannel → StoreChannel) : (w.modChan c f).modChan c g = w.modChan c fun ch => g (f ch) := by
  cases c <;> rfl

theorem page_allocate (o : PageState) :
    (w.allocate p o).page q = if q = p then { w.page p with state := o, filling := true, first := none, count := 0 } else w.page q :=
  page_modPage w p q _

/-- The lists of an event: of its first entry, if it has one. -/
theorem eventList_eq : w.eventList n c = ((w.events.find? fun x => x.num = n).map fun x => x.lists.get c).getD [] := by
  unfold eventList
  cases w.events.find? fun x => x.num = n <;> rfl

/-- A page at the end of the entry's list for a channel. -/
def EventPages.append (c : Channel) (p : PageId) (x : EventPages) : EventPages :=
  { x with lists := x.lists.set c (x.lists.get c ++ [p]) }

theorem find_append (l : List EventPages) :
    (l.map fun x => if x.num = n then EventPages.append c p x else x).find? (fun x => x.num = n') =
      (l.find? fun x => x.num = n').map fun x => if x.num = n then EventPages.append c p x else x := by
  induction l with
  | nil => rfl
  | cons x l ih =>
    have num : (if x.num = n then EventPages.append c p x else x).num = x.num := by split <;> rfl
    rw [List.map_cons, List.find?_cons, List.find?_cons, num, ih]
    by_cases hx : x.num = n' <;> simp [hx]

/-- An event that has no entry gets an empty one. -/
theorem eventList_entered :
    ({ w with events := w.events ++ [⟨n, .replicate []⟩] } : WaveStore).eventList n' c = w.eventList n' c := by
  simp only [eventList_eq, List.find?_append]
  cases hf : w.events.find? fun x => x.num = n' with
  | some x => simp
  | none => by_cases same : n = n' <;> cases c <;> simp [same, Tri.replicate, Tri.get]

theorem eventList_appended (h : w.hasLists n = true) :
    ({ w with events := w.events.map fun x => if x.num = n then EventPages.append c p x else x } : WaveStore).eventList n' c' =
      if n' = n ∧ c' = c then w.eventList n c ++ [p] else w.eventList n' c' := by
  simp only [eventList_eq, find_append, Option.map_map]
  by_cases same : n' = n
  · subst same
    have : ∃ x, w.events.find? (fun x => x.num = n') = some x := by simpa [hasLists, ← Option.isSome_iff_exists] using h
    obtain ⟨x, hx⟩ := this
    have num : x.num = n' := by simpa using List.find?_some hx
    by_cases here : c' = c
    · simp [hx, num, here, EventPages.append]
    · simp [hx, num, here, EventPages.append, Tri.get_set_of_ne]
  · cases hx : w.events.find? fun x => x.num = n' with
    | none => simp [same]
    | some x =>
      have num : x.num = n' := by simpa using List.find?_some hx
      simp [num, same]

theorem eventList_appendPage :
    (w.appendPage n c p).eventList n' c' = if n' = n ∧ c' = c then w.eventList n c ++ [p] else w.eventList n' c' := by
  by_cases has : w.hasLists n = true
  · rw [← eventList_appended w c c' n n' p has]
    simp only [appendPage, has, if_true]
    rfl
  · have none : w.hasLists n = false := by simpa using has
    have entered := eventList_appended { w with events := w.events ++ [⟨n, .replicate []⟩] } c c' n n' p (by simp [hasLists])
    rw [eventList_entered w c n n, eventList_entered w c' n n'] at entered
    rw [← entered]
    simp only [appendPage, none, Bool.false_eq_true, if_false]
    rfl

theorem nodup_appendPage (h : (w.events.map EventPages.num).Nodup) : ((w.appendPage n c p).events.map EventPages.num).Nodup := by
  have nums (l : List EventPages) :
      (l.map fun x => if x.num = n then { x with lists := x.lists.set c (x.lists.get c ++ [p]) } else x).map EventPages.num =
        l.map EventPages.num := by
    rw [List.map_map]
    refine List.map_congr_left fun x _ => ?_
    simp only [Function.comp]
    split <;> rfl
  unfold appendPage
  dsimp only
  rw [nums]
  split
  · exact h
  · next has =>
    have new : n ∉ w.events.map EventPages.num := fun hn => has (by
      obtain ⟨x, hx, rfl⟩ := List.mem_map.mp hn
      exact List.any_eq_true.mpr ⟨x, hx, by simp⟩)
    rw [List.map_append]
    exact List.nodup_append.mpr ⟨h, List.nodup_singleton n, fun a ha b hb he => new (by simp_all)⟩

theorem eventPages_congr {v w : WaveStore} (h : v.events = w.events) (n : Nat) : v.eventPages n = w.eventPages n := by
  unfold eventPages eventList
  rw [h]

theorem eventList_without :
    ({ w with events := w.events.filter fun x => x.num != n } : WaveStore).eventList n' c =
      if n' = n then [] else w.eventList n' c := by
  simp only [eventList_eq, List.find?_filter]
  by_cases same : n' = n
  · have test : (fun x : EventPages => decide ((x.num != n) = true ∧ decide (x.num = n') = true)) = fun _ => false := by
      funext x
      simp [same]
    have nothing : w.events.find? (fun _ => false) = none := by simp
    rw [test, nothing, if_pos same]
    rfl
  · have test : (fun x : EventPages => decide ((x.num != n) = true ∧ decide (x.num = n') = true)) = fun x => decide (x.num = n') := by
      funext x
      by_cases hx : x.num = n' <;> simp [hx, same]
    simp only [test, same, if_false]

end

/-- `PageInv` of the store alone, `e` being the channels that have a route. -/
structure Mapped (e : Channel → Bool) (w : WaveStore) : Prop where
  events : (w.events.map EventPages.num).Nodup
  free : ∀ p, (w.page p).state = .free → (w.page p).faulty = false
  faulty : ∀ p, (w.page p).state = .faultySet → (w.page p).faulty = true
  ring : ∀ p c, (w.page p).state = .ring c ↔ p ∈ (w.chan c).ring ∨ ((w.chan c).route = .ring ∧ (w.chan c).filling = some p)
  event : ∀ p n c, (w.page p).state = .event n c ↔ p ∈ w.eventList n c
  onceRing : ∀ c, (w.chan c).ring.Nodup
  onceFilling : ∀ c p, (w.chan c).filling = some p → p ∉ (w.chan c).ring
  onceEvent : ∀ n c, (w.eventList n c).Nodup
  filling : ∀ p, (w.page p).filling = true ↔ ∃ c, (w.chan c).filling = some p
  fills : ∀ c p, (w.chan c).filling = some p →
    (w.chan c).route = .ring ∨ ∃ n, (w.chan c).route = .event n ∧ (w.page p).state = .event n c
  pair : ∀ c, (w.chan c).filling = none → (w.chan c).pair = none
  rings : ∀ c, (w.chan c).ring ≠ [] → (w.chan c).route = .ring ∨ (w.chan c).route = .starved
  off : ∀ c, (w.chan c).route = .off ↔ e c = false

namespace Mapped

variable {e : Channel → Bool} {w : WaveStore} (h : Mapped e w)

include h

/-- The page that a route fills is one of its channel. -/
theorem place_of_fills {c : Channel} {p : PageId} (hc : (w.chan c).filling = some p) :
    (w.page p).state = .ring c ∨ ∃ n, (w.page p).state = .event n c := by
  obtain ring | ⟨n, -, state⟩ := h.fills c p hc
  · exact .inl ((h.ring p c).mpr (.inr ⟨ring, hc⟩))
  · exact .inr ⟨n, state⟩

/-- A page fills for one route only. -/
theorem fills_once {c c' : Channel} {p : PageId} (hc : (w.chan c).filling = some p) (hc' : (w.chan c').filling = some p) : c = c' := by
  grind [h.place_of_fills hc, h.place_of_fills hc']

/-- A completed page of a ring fills no more. -/
theorem not_fills_of_ring {c c' : Channel} {p : PageId} (hp : p ∈ (w.chan c).ring) : (w.chan c').filling ≠ some p := by
  intro hf
  have state := (h.ring p c).mpr (.inl hp)
  obtain place | ⟨n, place⟩ := h.place_of_fills hf
  · obtain rfl : c' = c := by simpa [state, eq_comm] using place
    exact h.onceFilling _ _ hf hp
  · simp [state] at place

theorem closeFilling (c : Channel) : Mapped e (w.closeFilling c) := by
  cases hf : (w.chan c).filling with
  | none => rwa [closeFilling_of_none hf]
  | some p =>
    have page (q) : ((w.closeFilling c).page q) = if q = p then { w.page q with filling := false } else w.page q := by
      simp only [page_closeFilling, hf, Option.some.injEq, eq_comm]
    have state (q) : ((w.closeFilling c).page q).state = (w.page q).state := by rw [page]; split <;> rfl
    have marked (q) : ((w.closeFilling c).page q).faulty = (w.page q).faulty := by rw [page]; split <;> rfl
    have chan (x) := chan_closeFilling w c x
    have list (n x) := eventList_closeFilling w c x n
    constructor
    case events => rw [events_closeFilling]; exact h.events
    case free => grind [h.free]
    case faulty => grind [h.faulty]
    case ring => grind [h.ring, closedRoute]
    case event => grind [h.event]
    case onceRing => grind [h.onceRing, h.onceFilling, closedRoute]
    case onceFilling => grind [h.onceFilling, closedRoute]
    case onceEvent => grind [h.onceEvent]
    case filling => grind [h.filling, h.fills_once, closedRoute]
    case fills => grind [h.fills, closedRoute]
    case pair => grind [h.pair, closedRoute]
    case rings => grind [h.rings, closedRoute]
    case off => grind [h.off, closedRoute]

/-- Completed pages leave a ring. -/
theorem leaveRing {c : Channel} {ps rest : List PageId} (parts : (ps ++ rest).Perm (w.chan c).ring) :
    Mapped e ((w.releaseAll ps).modChan c fun ch => { ch with ring := rest }) := by
  have mem (q) : q ∈ (w.chan c).ring ↔ q ∈ ps ∨ q ∈ rest := by rw [← parts.mem_iff, List.mem_append]
  obtain ⟨-, once, apart⟩ := List.nodup_append.mp (parts.nodup_iff.mpr (h.onceRing c))
  have page (q) : ((w.releaseAll ps).modChan c fun ch => { ch with ring := rest }).page q =
      if q ∈ ps then released (w.page q) else w.page q := by rw [page_modChan, page_releaseAll]
  have chan (x) : ((w.releaseAll ps).modChan c fun ch => { ch with ring := rest }).chan x =
      if x = c then { w.chan c with ring := rest } else w.chan x := by rw [chan_modChan, chan_releaseAll, chan_releaseAll]
  have list (n x) : ((w.releaseAll ps).modChan c fun ch => { ch with ring := rest }).eventList n x = w.eventList n x := by
    rw [eventList_modChan, eventList_releaseAll]
  have placed (q) (hq : q ∈ ps) : (w.page q).state = .ring c := (h.ring q c).mpr (.inl ((mem q).mpr (.inl hq)))
  have filled (q) (hq : q ∈ ps) (x) : (w.chan x).filling ≠ some q :=
    h.not_fills_of_ring ((mem q).mpr (.inl hq))
  have nums : ((w.releaseAll ps).modChan c fun ch => { ch with ring := rest }).events = w.events := by
    rw [events_modChan, events_releaseAll]
  generalize ((w.releaseAll ps).modChan c fun ch => { ch with ring := rest }) = w' at *
  constructor
  case events => rw [nums]; exact h.events
  case free => grind [h.free, released_state, released_faulty]
  case faulty => grind [h.faulty, released_state, released_faulty]
  case ring => grind [h.ring, released_state, List.disjoint_left]
  case event => grind [h.event, released_state]
  case onceRing => grind [h.onceRing]
  case onceFilling => grind [h.onceFilling]
  case onceEvent => grind [h.onceEvent]
  case filling => grind [h.filling, released_filling]
  case fills => grind [h.fills]
  case pair => grind [h.pair]
  case rings =>
    have left : rest ≠ [] → (w.chan c).ring ≠ [] := fun hr he => hr (by simp_all)
    grind [h.rings]
  case off => grind [h.off]

/-- A route without a filling page is set anew, its ring kept or, if it has none, begun. -/
theorem reroute {c : Channel} {g : StoreChannel → StoreChannel} {e' : Channel → Bool} (idle : (w.chan c).filling = none)
    (ring : (g (w.chan c)).ring = (w.chan c).ring) (filling : (g (w.chan c)).filling = none) (pair : (g (w.chan c)).pair = none)
    (kind : (w.chan c).ring ≠ [] → (g (w.chan c)).route = .ring ∨ (g (w.chan c)).route = .starved)
    (off : (g (w.chan c)).route = .off ↔ e' c = false) (same : ∀ x, x ≠ c → e' x = e x) : Mapped e' (w.modChan c g) := by
  have page (q) : (w.modChan c g).page q = w.page q := page_modChan w q c g
  have chan (x) : (w.modChan c g).chan x = if x = c then g (w.chan c) else w.chan x := chan_modChan w c x g
  have list (n x) : (w.modChan c g).eventList n x = w.eventList n x := eventList_modChan w c x g n
  have nums : (w.modChan c g).events = w.events := events_modChan w c g
  generalize w.modChan c g = w' at *
  constructor
  case events => rw [nums]; exact h.events
  case free => grind [h.free]
  case faulty => grind [h.faulty]
  case ring => grind [h.ring]
  case event => grind [h.event]
  case onceRing => grind [h.onceRing]
  case onceFilling => grind [h.onceFilling]
  case onceEvent => grind [h.onceEvent]
  case filling => grind [h.filling]
  case fills => grind [h.fills]
  case pair => grind [h.pair]
  case rings => grind [h.rings]
  case off => grind [h.off]

/-- What changes no place, no route and no list. -/
theorem congr {w' : WaveStore} (events : w'.events = w.events)
    (page : ∀ p, (w'.page p).state = (w.page p).state ∧ (w'.page p).filling = (w.page p).filling ∧
      ((w'.page p).faulty = (w.page p).faulty ∨ (w'.page p).faulty = true ∧ (w.page p).state ≠ .free))
    (chan : ∀ c, (w'.chan c).route = (w.chan c).route ∧ (w'.chan c).ring = (w.chan c).ring ∧
      (w'.chan c).filling = (w.chan c).filling ∧ ((w.chan c).filling = none → (w'.chan c).pair = (w.chan c).pair)) : Mapped e w' := by
  have list (n x) : w'.eventList n x = w.eventList n x := by rw [eventList, events]; rfl
  constructor
  case events => rw [events]; exact h.events
  case free => grind [h.free]
  case faulty => grind [h.faulty]
  case ring => grind [h.ring]
  case event => grind [h.event]
  case onceRing => grind [h.onceRing]
  case onceFilling => grind [h.onceFilling]
  case onceEvent => grind [h.onceEvent]
  case filling => grind [h.filling]
  case fills => grind [h.fills]
  case pair => grind [h.pair]
  case rings => grind [h.rings]
  case off => grind [h.off]

/-- A free page becomes the filling page of a ring. -/
theorem takeRing {c : Channel} {p : PageId} (idle : (w.chan c).filling = none) (has : e c = true) (unused : (w.page p).state = .free) :
    Mapped e ((w.allocate p (.ring c)).modChan c fun ch => { ch with route := .ring, filling := some p }) := by
  have page (q) : ((w.allocate p (.ring c)).modChan c fun ch => { ch with route := .ring, filling := some p }).page q =
      if q = p then { w.page p with state := .ring c, filling := true, first := none, count := 0 } else w.page q := page_allocate w p q (.ring c)
  have chan (x) : ((w.allocate p (.ring c)).modChan c fun ch => { ch with route := .ring, filling := some p }).chan x =
      if x = c then { w.chan c with route := .ring, filling := some p } else w.chan x := by
    rw [chan_modChan, allocate, chan_modPage, chan_modPage]
  have list (n x) : ((w.allocate p (.ring c)).modChan c fun ch => { ch with route := .ring, filling := some p }).eventList n x =
      w.eventList n x := rfl
  have nums : ((w.allocate p (.ring c)).modChan c fun ch => { ch with route := .ring, filling := some p }).events = w.events := rfl
  have new (x) : p ∉ (w.chan x).ring ∧ (w.chan x).filling ≠ some p :=
    ⟨fun hp => by simp [(h.ring p x).mpr (.inl hp)] at unused, fun hf => by
      obtain place | ⟨n, place⟩ := h.place_of_fills hf <;> simp [place] at unused⟩
  generalize ((w.allocate p (.ring c)).modChan c fun ch => { ch with route := .ring, filling := some p }) = w' at *
  constructor
  case events => rw [nums]; exact h.events
  case free => grind [h.free]
  case faulty => grind [h.faulty]
  case ring => grind [h.ring]
  case event => grind [h.event]
  case onceRing => grind [h.onceRing]
  case onceFilling => grind [h.onceFilling]
  case onceEvent => grind [h.onceEvent]
  case filling => grind [h.filling]
  case fills => grind [h.fills]
  case pair => grind [h.pair]
  case rings => grind [h.rings]
  case off => grind [h.off]

/-- A free page becomes the filling page at the end of an event's list. -/
theorem takeEvent {c : Channel} {p : PageId} {n : Nat} (idle : (w.chan c).filling = none) (route : (w.chan c).route = .event n)
    (unused : (w.page p).state = .free) :
    Mapped e (((w.allocate p (.event n c)).appendPage n c p).modChan c fun ch => { ch with filling := some p }) := by
  have page (q) : (((w.allocate p (.event n c)).appendPage n c p).modChan c fun ch => { ch with filling := some p }).page q =
      if q = p then { w.page p with state := .event n c, filling := true, first := none, count := 0 } else w.page q := page_allocate w p q (.event n c)
  have chan (x) : (((w.allocate p (.event n c)).appendPage n c p).modChan c fun ch => { ch with filling := some p }).chan x =
      if x = c then { w.chan c with filling := some p } else w.chan x := chan_modChan ((w.allocate p (.event n c)).appendPage n c p) _ _ _
  have list (k x) : (((w.allocate p (.event n c)).appendPage n c p).modChan c fun ch => { ch with filling := some p }).eventList k x =
      if k = n ∧ x = c then w.eventList n c ++ [p] else w.eventList k x := eventList_appendPage (w.allocate p (.event n c)) c x n k p
  have nums := nodup_appendPage (w.allocate p (.event n c)) c n p h.events
  have new (x) : p ∉ (w.chan x).ring ∧ (w.chan x).filling ≠ some p :=
    ⟨fun hp => by simp [(h.ring p x).mpr (.inl hp)] at unused, fun hf => by
      obtain place | ⟨n, place⟩ := h.place_of_fills hf <;> simp [place] at unused⟩
  have fresh (k x) : p ∉ w.eventList k x := fun hp => by simp [(h.event p k x).mpr hp] at unused
  replace nums : (((((w.allocate p (.event n c)).appendPage n c p).modChan c fun ch => { ch with filling := some p }).events).map
      EventPages.num).Nodup := nums
  generalize (((w.allocate p (.event n c)).appendPage n c p).modChan c fun ch => { ch with filling := some p }) = w' at *
  constructor
  case events => exact nums
  case free => grind [h.free]
  case faulty => grind [h.faulty]
  case ring => grind [h.ring]
  case event => grind [h.event]
  case onceRing => grind [h.onceRing]
  case onceFilling => grind [h.onceFilling]
  case onceEvent => grind [h.onceEvent]
  case filling => grind [h.filling]
  case fills => grind [h.fills]
  case pair => grind [h.pair]
  case rings => grind [h.rings]
  case off => grind [h.off]

/-- The pages of an event, none of which fills, leave it with its lists. -/
theorem leaveEvent {n : Nat} (still : ∀ c p, (w.chan c).filling = some p → p ∉ w.eventPages n) :
    Mapped e { w.releaseAll (w.eventPages n) with events := w.events.filter fun x => x.num != n } := by
  have page (q) : ({ w.releaseAll (w.eventPages n) with events := w.events.filter fun x => x.num != n } : WaveStore).page q =
      if q ∈ w.eventPages n then released (w.page q) else w.page q := page_releaseAll w _ q
  have mem := mem_eventPages w n
  have chan (x) : ({ w.releaseAll (w.eventPages n) with events := w.events.filter fun x => x.num != n } : WaveStore).chan x = w.chan x :=
    chan_releaseAll w _ x
  have list (k x) : ({ w.releaseAll (w.eventPages n) with events := w.events.filter fun x => x.num != n } : WaveStore).eventList k x =
      if k = n then [] else w.eventList k x := eventList_without w x n k
  have nums : (({ w.releaseAll (w.eventPages n) with events := w.events.filter fun x => x.num != n } : WaveStore).events.map
      EventPages.num).Nodup := (List.Sublist.map _ List.filter_sublist).nodup h.events
  have placed (q) (hq : q ∈ w.eventPages n) : ∃ c, (w.page q).state = .event n c :=
    let ⟨c, hc⟩ := (mem_eventPages w n q).mp hq
    ⟨c, (h.event q n c).mpr hc⟩
  generalize ({ w.releaseAll (w.eventPages n) with events := w.events.filter fun x => x.num != n } : WaveStore) = w' at *
  constructor
  case events => exact nums
  case free => grind [h.free, released_state, released_faulty]
  case faulty => grind [h.faulty, released_state, released_faulty]
  case ring => grind [h.ring, h.event, released_state]
  case event => grind [h.event, released_state]
  case onceRing => grind [h.onceRing]
  case onceFilling => grind [h.onceFilling]
  case onceEvent => grind [h.onceEvent]
  case filling => grind [h.filling, released_filling]
  case fills => grind [h.fills]
  case pair => grind [h.pair]
  case rings => grind [h.rings]
  case off => grind [h.off]

omit h in
theorem chan_closeIfIn (ps : List PageId) (w : WaveStore) (c c' : Channel) :
    ((closeIfIn ps w c).chan c').filling =
      if c' = c ∧ (w.chan c').filling.any ps.contains then none else (w.chan c').filling := by
  unfold closeIfIn
  by_cases inside : (w.chan c).filling.any ps.contains = true
  · rw [if_pos inside, chan_closeFilling]
    by_cases same : c' = c
    · subst same
      rw [if_pos rfl, if_pos ⟨rfl, inside⟩, closedRoute]
      cases hf : (w.chan c').filling <;> simp [hf]
    · simp [same]
  · rw [if_neg inside]
    by_cases same : c' = c
    · simp [same, inside]
    · simp [same]

theorem closeIfIn (ps : List PageId) (c : Channel) : Mapped e (closeIfIn ps w c) := by
  unfold WaveStore.closeIfIn
  split
  · exact h.closeFilling c
  · exact h

/-- All pages of an event leave it, closing first where they fill. -/
theorem dropEvent (n : Nat) : Mapped e (w.dropEvent n) := by
  have closed : Mapped e (channels.foldl (WaveStore.closeIfIn (w.eventPages n)) w) :=
    ((h.closeIfIn _ .z).closeIfIn _ .n).closeIfIn _ .e
  have events (v : WaveStore) (c) : (WaveStore.closeIfIn (w.eventPages n) v c).events = v.events := by
    unfold WaveStore.closeIfIn
    split
    · exact events_closeFilling v c
    · rfl
  have same : (channels.foldl (WaveStore.closeIfIn (w.eventPages n)) w).events = w.events := by
    simp only [channels, List.foldl_cons, List.foldl_nil, events]
  have pages : (channels.foldl (WaveStore.closeIfIn (w.eventPages n)) w).eventPages n = w.eventPages n := eventPages_congr same n
  have still (c p) (hf : ((channels.foldl (WaveStore.closeIfIn (w.eventPages n)) w).chan c).filling = some p) : p ∉ w.eventPages n := by
    simp only [channels, List.foldl_cons, List.foldl_nil, chan_closeIfIn] at hf
    obtain ⟨outside, fills⟩ : Option.any (w.eventPages n).contains (w.chan c).filling = false ∧ (w.chan c).filling = some p := by
      cases c <;> simpa using hf
    simpa [fills] using outside
  have left := closed.leaveEvent (n := n) (by rwa [pages])
  rw [pages, same] at left
  exact left

omit h in
theorem closedRoute_idle (ch : StoreChannel) : (closedRoute ch).filling = none := by
  unfold closedRoute
  split
  · rfl
  · assumption

omit h in
theorem closedRoute_route (ch : StoreChannel) : (closedRoute ch).route = ch.route := by
  unfold closedRoute
  split <;> rfl

/-- A channel leaves the enabled set. -/
theorem leave (c : Channel) {e' : Channel → Bool} (out : e' c = false) (same : ∀ x, x ≠ c → e' x = e x) :
    Mapped e' (storeLeave c w) := by
  have closed := h.closeFilling c
  have chan : (w.closeFilling c).chan c = closedRoute (w.chan c) := (chan_closeFilling w c c).trans (if_pos rfl)
  have idle : ((w.closeFilling c).chan c).filling = none := by rw [chan, closedRoute_idle]
  have pair := closed.pair c idle
  have route : ((w.closeFilling c).chan c).route = (w.chan c).route := by rw [chan, closedRoute_route]
  have emptied : Mapped e' ((((w.closeFilling c).releaseAll ((w.closeFilling c).chan c).ring).modChan c fun ch => { ch with ring := [] }).modChan
      c fun ch => { ch with route := .off, ring := [], filling := none, pair := none }) :=
    (closed.leaveRing (c := c) (ps := ((w.closeFilling c).chan c).ring) (rest := []) (by simp)).reroute (e' := e')
      (by simpa using idle) (by simp) rfl rfl (by simp) (by simp [out]) same
  rw [modChan_modChan] at emptied
  have ended (no : (w.chan c).route ≠ .ring ∧ (w.chan c).route ≠ .starved) :
      Mapped e' ((w.closeFilling c).modChan c fun ch => { ch with route := .off }) :=
    closed.reroute idle rfl idle pair (fun hr => absurd (closed.rings c hr) (by simp [route, no])) (by simp [out]) same
  unfold storeLeave
  dsimp only
  split
  · exact emptied
  · exact emptied
  all_goals
    next hr => exact ended (by simp [hr])

/-- The passing of pages to an event. -/
theorem handOver {c : Channel} {ps : List PageId} {n : Nat} {w' : WaveStore} (has : e c = true)
    (idle : (w.chan c).route ≠ .ring → (w.chan c).filling = none) (ring : ∀ q, q ∈ ps ↔ q ∈ (w.chan c).ring ∨ (w.chan c).filling = some q)
    (once : ps.Nodup) (nums : (w'.events.map EventPages.num).Nodup)
    (page : ∀ q, w'.page q = if q ∈ ps then { w.page q with state := .event n c } else w.page q)
    (chan : ∀ x, w'.chan x = if x = c then { w.chan c with route := .event n, ring := [] } else w.chan x)
    (list : ∀ k x, w'.eventList k x = if k = n ∧ x = c then w.eventList n c ++ ps else w.eventList k x) : Mapped e w' := by
  have placed (q) (hq : q ∈ ps) : (w.page q).state = .ring c := (h.ring q c).mpr (by
    obtain hr | hf := (ring q).mp hq
    · exact .inl hr
    · exact .inr ⟨by_contra fun hr => by simp [idle hr] at hf, hf⟩)
  have apart (k x q) (hq : q ∈ ps) : q ∉ w.eventList k x := fun hl => by
    simpa [placed q hq] using (h.event q k x).mpr hl
  constructor
  case events => exact nums
  case free => grind [h.free]
  case faulty => grind [h.faulty]
  case ring => grind [h.ring]
  case event => grind [h.event]
  case onceRing => grind [h.onceRing]
  case onceFilling => grind [h.onceFilling]
  case onceEvent => grind [h.onceEvent]
  case filling => grind [h.filling]
  case fills => grind [h.fills]
  case pair => grind [h.pair]
  case rings => grind [h.rings]
  case off => grind [h.off]

end Mapped

end WaveStore

end Sys2Proof.Machine

/-! PROOFS. The three aspects of the waveform store that every operation keeps: the array's form, the page map, and the counts
(O58). -/

namespace Sys2Proof.Machine

namespace WaveStore

/-- `CountInv` of the store alone. -/
def Counted (w : WaveStore) : Prop := ∀ p, (w.page p).count ≤ 1024 ∧ ((w.page p).filling = true → (w.page p).count < 1024)

theorem Counted.of_le {w w' : WaveStore} (h : Counted w)
    (le : ∀ q, (w'.page q).count = 0 ∨
      (w'.page q).count ≤ (w.page q).count ∧ ((w'.page q).filling = true → (w.page q).filling = true)) : Counted w' := by
  intro q
  have := h q
  obtain zero | ⟨count, filling⟩ := le q
  · omega
  · exact ⟨by omega, fun hf => by have := this.2 (filling hf); omega⟩

theorem Counted.closeFilling {w : WaveStore} (h : Counted w) (c : Channel) : Counted (w.closeFilling c) :=
  h.of_le fun q => by
    rw [page_closeFilling]
    split <;> simp

theorem Counted.releaseAll {w : WaveStore} (h : Counted w) (ps : List PageId) : Counted (w.releaseAll ps) :=
  h.of_le fun q => by
    rw [page_releaseAll]
    split
    · exact .inr ⟨released_count_le _, by simp [released_filling]⟩
    · simp

theorem Counted.dropEvent {w : WaveStore} (h : Counted w) (n : Nat) : Counted (w.dropEvent n) := by
  have close (ps) {v : WaveStore} (hv : Counted v) (c) : Counted (closeIfIn ps v c) := by
    unfold closeIfIn
    split
    · exact hv.closeFilling c
    · exact hv
  exact (close _ (close _ (close _ h .z) .n) .e).releaseAll (w.eventPages n)

theorem Counted.leave {w : WaveStore} (h : Counted w) (c : Channel) : Counted (storeLeave c w) := by
  unfold storeLeave
  dsimp only
  split
  · exact (h.closeFilling c).releaseAll _
  · exact (h.closeFilling c).releaseAll _
  all_goals exact h.closeFilling c

/-- What is asked of the store: the array's canonical form, the page map, or the page map with the counts. -/
inductive Aspect where
  | memory
  | pages
  | counts

/-- The store meets an aspect, `e` being the channels that have a route. -/
structure Sound (a : Aspect) (e : Channel → Bool) (w : WaveStore) : Prop where
  memory : a = .memory → w.array.wf = true
  pages : a ≠ .memory → Mapped e w
  counts : a = .counts → Counted w

/-! ## Pages that pass to an event (R81) -/

/-- Pages pass, one after the other, to the end of an event's list. -/
def passPages (n : Nat) (c : Channel) (ps : List PageId) (w : WaveStore) : WaveStore :=
  ps.foldl (fun w p => (w.modPage p fun g => { g with state := .event n c }).appendPage n c p) w

section

variable (n : Nat) (c : Channel) (ps : List PageId) (w : WaveStore)

theorem chan_passPages (x : Channel) : (passPages n c ps w).chan x = w.chan x := by
  unfold passPages
  induction ps generalizing w with
  | nil => rfl
  | cons p ps ih => exact ih _

theorem array_passPages : (passPages n c ps w).array = w.array := by
  unfold passPages
  induction ps generalizing w with
  | nil => rfl
  | cons p ps ih => exact ih _

theorem passPages_modChan (g : StoreChannel → StoreChannel) : passPages n c ps (w.modChan c g) = (passPages n c ps w).modChan c g := by
  unfold passPages
  induction ps generalizing w with
  | nil => rfl
  | cons p ps ih => exact ih ((w.modPage p fun g => { g with state := .event n c }).appendPage n c p)

theorem page_passPages (q : PageId) :
    (passPages n c ps w).page q = if q ∈ ps then { w.page q with state := .event n c } else w.page q := by
  unfold passPages
  induction ps generalizing w with
  | nil => rfl
  | cons p ps ih =>
    have page : ((w.modPage p fun g => { g with state := .event n c }).appendPage n c p).page q =
        if q = p then { w.page p with state := .event n c } else w.page q :=
      page_modPage w p q fun g => { g with state := .event n c }
    rw [List.foldl_cons, ih, page]
    by_cases same : q = p
    · subst same
      simp
    · simp [same]

theorem eventList_passPages (k : Nat) (x : Channel) :
    (passPages n c ps w).eventList k x = if k = n ∧ x = c then w.eventList n c ++ ps else w.eventList k x := by
  unfold passPages
  induction ps generalizing w with
  | nil =>
    split
    · next here =>
      obtain ⟨rfl, rfl⟩ := here
      simp
    · rfl
  | cons p ps ih =>
    have list (k x) := eventList_appendPage (w.modPage p fun g => { g with state := .event n c }) c x n k p
    rw [List.foldl_cons, ih, list, list]
    by_cases here : k = n ∧ x = c <;> simp [here]

theorem nodup_passPages (h : (w.events.map EventPages.num).Nodup) : ((passPages n c ps w).events.map EventPages.num).Nodup := by
  unfold passPages
  induction ps generalizing w with
  | nil => exact h
  | cons p ps ih => exact ih _ (nodup_appendPage _ c n p h)

end

theorem storeLeave_wf {w : WaveStore} (h : w.array.wf = true) (c : Channel) : (storeLeave c w).array.wf = true := by
  unfold storeLeave
  dsimp only
  split
  · simpa using closeFilling_wf h c
  · simpa using closeFilling_wf h c
  all_goals exact closeFilling_wf h c

namespace Sound

variable {a : Aspect} {e : Channel → Bool} {w : WaveStore} (h : Sound a e w)

include h

theorem closeFilling (c : Channel) : Sound a e (w.closeFilling c) where
  memory ha := closeFilling_wf (h.memory ha) c
  pages ha := (h.pages ha).closeFilling c
  counts ha := (h.counts ha).closeFilling c

theorem leaveRing {c : Channel} {ps rest : List PageId} (parts : (ps ++ rest).Perm (w.chan c).ring) :
    Sound a e ((w.releaseAll ps).modChan c fun ch => { ch with ring := rest }) where
  memory ha := by simpa using h.memory ha
  pages ha := (h.pages ha).leaveRing parts
  counts ha := (h.counts ha).releaseAll ps

theorem reroute {c : Channel} {g : StoreChannel → StoreChannel} {e' : Channel → Bool}
    (idle : a ≠ .memory → (w.chan c).filling = none)
    (ring : a ≠ .memory → (g (w.chan c)).ring = (w.chan c).ring) (filling : (g (w.chan c)).filling = none)
    (pair : a ≠ .memory → (g (w.chan c)).pair = none)
    (kind : a ≠ .memory → (w.chan c).ring ≠ [] → (g (w.chan c)).route = .ring ∨ (g (w.chan c)).route = .starved)
    (off : a ≠ .memory → ((g (w.chan c)).route = .off ↔ e' c = false)) (same : ∀ x, x ≠ c → e' x = e x) :
    Sound a e' (w.modChan c g) where
  memory := h.memory
  pages ha := (h.pages ha).reroute (idle ha) (ring ha) filling (pair ha) (kind ha) (off ha) same
  counts := h.counts

theorem takeRing {c : Channel} {p : PageId} (idle : a ≠ .memory → (w.chan c).filling = none) (has : a ≠ .memory → e c = true)
    (unused : (w.page p).state = .free) :
    Sound a e ((w.allocate p (.ring c)).modChan c fun ch => { ch with route := .ring, filling := some p }) where
  memory := h.memory
  pages ha := (h.pages ha).takeRing (idle ha) (has ha) unused
  counts ha := (h.counts ha).of_le fun q => by
    rw [page_modChan, page_allocate]
    split <;> simp

theorem takeEvent {c : Channel} {p : PageId} {n : Nat} (idle : a ≠ .memory → (w.chan c).filling = none)
    (route : a ≠ .memory → (w.chan c).route = .event n) (unused : (w.page p).state = .free) :
    Sound a e (((w.allocate p (.event n c)).appendPage n c p).modChan c fun ch => { ch with filling := some p }) where
  memory := h.memory
  pages ha := (h.pages ha).takeEvent (idle ha) (route ha) unused
  counts ha := (h.counts ha).of_le fun q => by
    have page := page_allocate w p q (.event n c)
    rw [page_modChan, show ((w.allocate p (.event n c)).appendPage n c p).page q = (w.allocate p (.event n c)).page q from rfl, page]
    split <;> simp

theorem leave (c : Channel) {e' : Channel → Bool} (out : e' c = false) (same : ∀ x, x ≠ c → e' x = e x) :
    Sound a e' (storeLeave c w) where
  memory ha := storeLeave_wf (h.memory ha) c
  pages ha := (h.pages ha).leave c out same
  counts ha := (h.counts ha).leave c

theorem dropEvent (n : Nat) : Sound a e (w.dropEvent n) where
  memory ha := dropEvent_wf (h.memory ha) n
  pages ha := (h.pages ha).dropEvent n
  counts ha := (h.counts ha).dropEvent n

/-- What leaves the array in form, and places, routes, lists and counts as they are. -/
theorem congr {w' : WaveStore} (array : a = .memory → w'.array.wf = true) (events : w'.events = w.events)
    (page : ∀ p, (w'.page p).state = (w.page p).state ∧ (w'.page p).filling = (w.page p).filling ∧
      ((w'.page p).faulty = (w.page p).faulty ∨ (w'.page p).faulty = true ∧ (a ≠ .memory → (w.page p).state ≠ .free)))
    (chan : ∀ c, (w'.chan c).route = (w.chan c).route ∧ (w'.chan c).ring = (w.chan c).ring ∧
      (w'.chan c).filling = (w.chan c).filling ∧ ((w.chan c).filling = none → (w'.chan c).pair = (w.chan c).pair))
    (count : a = .counts → Counted w') : Sound a e w' where
  memory := array
  pages ha := (h.pages ha).congr events (fun p => by
    obtain ⟨state, filling, marked⟩ := page p
    exact ⟨state, filling, marked.imp_right fun m => ⟨m.1, m.2 ha⟩⟩) chan
  counts := count

/-- What leaves the array in form, and pages, routes and lists as they are. -/
theorem of_same {w' : WaveStore} (array : a = .memory → w'.array.wf = true) (pages : w'.pages = w.pages) (chans : w'.chans = w.chans)
    (events : w'.events = w.events) : Sound a e w' := by
  have page (p) : w'.page p = w.page p := congrArg (fun v : Vector Page 256 => v.get p) pages
  have chan (c) : w'.chan c = w.chan c := congrArg (fun t : Tri StoreChannel => t.get c) chans
  exact h.congr array events (fun p => by simp [page]) (fun c => by simp [chan]) fun ha p => by
    rw [page]
    exact h.counts ha p

/-- The pages of a ring pass to an event, and its other completed pages leave it. -/
theorem handOver {c : Channel} {n : Nat} {keep : PageId → Bool} (has : a ≠ .memory → e c = true)
    (idle : a ≠ .memory → (w.chan c).route ≠ .ring → (w.chan c).filling = none) :
    Sound a e
      ((passPages n c ((w.chan c).ring.filter keep ++ (w.chan c).filling.toList)
        (w.releaseAll ((w.chan c).ring.filter fun p => !keep p))).modChan c fun x => { x with route := .event n, ring := [] }) := by
  have parts : ((w.chan c).ring.filter (fun p => !keep p) ++ (w.chan c).ring.filter keep).Perm (w.chan c).ring :=
    List.perm_append_comm.trans (List.filter_append_perm keep _)
  have left := h.leaveRing parts
  have same := passPages_modChan n c ((w.chan c).ring.filter keep ++ (w.chan c).filling.toList)
    (w.releaseAll ((w.chan c).ring.filter fun p => !keep p)) fun ch => { ch with ring := (w.chan c).ring.filter keep }
  have chan : ((w.releaseAll ((w.chan c).ring.filter fun p => !keep p)).modChan c fun ch =>
      { ch with ring := (w.chan c).ring.filter keep }).chan c = { w.chan c with ring := (w.chan c).ring.filter keep } := by
    rw [chan_modChan_same, chan_releaseAll]
  have merged : (passPages n c ((w.chan c).ring.filter keep ++ (w.chan c).filling.toList)
        (w.releaseAll ((w.chan c).ring.filter fun p => !keep p))).modChan c (fun x => { x with route := .event n, ring := [] }) =
      (passPages n c ((w.chan c).ring.filter keep ++ (w.chan c).filling.toList)
        ((w.releaseAll ((w.chan c).ring.filter fun p => !keep p)).modChan c fun ch =>
          { ch with ring := (w.chan c).ring.filter keep })).modChan c fun x => { x with route := .event n, ring := [] } := by
    rw [same, modChan_modChan]
  rw [merged]
  generalize (w.releaseAll ((w.chan c).ring.filter fun p => !keep p)).modChan c (fun ch =>
      { ch with ring := (w.chan c).ring.filter keep }) = v at left chan
  have page (q) := page_passPages n c ((w.chan c).ring.filter keep ++ (w.chan c).filling.toList) v q
  exact
    { memory := fun ha => by
        have := left.memory ha
        rwa [modChan_array, array_passPages]
      pages := fun ha => by
        have hv := left.pages ha
        refine hv.handOver (c := c) (ps := (w.chan c).ring.filter keep ++ (w.chan c).filling.toList) (n := n) (has ha) (by simpa [chan] using idle ha) (fun q => by simp [chan]) ?_
          (nodup_passPages n c _ v hv.events) page (fun x => ?_) (fun k x => eventList_passPages n c _ v k x)
        · have fresh := hv.onceFilling c
          have once := hv.onceRing c
          rw [chan] at fresh once
          refine List.nodup_append.mpr ⟨once, by cases (w.chan c).filling <;> simp, fun x hx y hy he => ?_⟩
          exact fresh y (by simpa using hy) (he ▸ hx)
        · rw [chan_modChan, chan_passPages, chan_passPages]
      counts := fun ha => (left.counts ha).of_le fun q => by
        rw [page_modChan, page]
        split <;> simp }

end Sound

end WaveStore

end Sys2Proof.Machine

/-! PROOFS. The waveform store stays sound through page needs, stored words, closes, handovers and checked reads (R72 to R90; O58). -/

namespace Sys2Proof.Machine

open WaveStore (Aspect Sound Counted)

section

variable {a : Aspect} {e : Channel → Bool} {s : State}

/-! ## Reclaim (R78, R79) -/

/-- A closed page leaves the routes as they are, and no route begins to fill. -/
theorem route_closeFilling (w : WaveStore) (c c' : Channel) : ((w.closeFilling c).chan c').route = (w.chan c').route := by
  rw [WaveStore.chan_closeFilling]
  split
  · next same => rw [same, WaveStore.Mapped.closedRoute_route]
  · rfl

theorem filling_closeFilling (w : WaveStore) (c : Channel) : ((w.closeFilling c).chan c).filling = none := by
  rw [WaveStore.chan_closeFilling, if_pos rfl, WaveStore.Mapped.closedRoute_idle]

theorem idle_closeFilling {w : WaveStore} {c' : Channel} (h : (w.chan c').filling = none) (c : Channel) :
    ((w.closeFilling c).chan c').filling = none := by
  rw [WaveStore.chan_closeFilling]
  split
  · exact WaveStore.Mapped.closedRoute_idle _
  · exact h

/-- The route is of this kind and fills no page. -/
def IdleRoute (c : Channel) (r : Route) (w : WaveStore) : Prop := (w.chan c).filling = none ∧ (w.chan c).route = r

theorem IdleRoute.dropEvent {c : Channel} {r : Route} {w : WaveStore} (h : IdleRoute c r w) (n : Nat) : IdleRoute c r (w.dropEvent n) := by
  have close (ps) {v : WaveStore} (hv : IdleRoute c r v) (x) : IdleRoute c r (WaveStore.closeIfIn ps v x) := by
    unfold WaveStore.closeIfIn
    split
    · exact ⟨idle_closeFilling hv.1 x, (route_closeFilling v x c).trans hv.2⟩
    · exact hv
  have closed := close (w.eventPages n) (close (w.eventPages n) (close (w.eventPages n) h .z) .n) .e
  have chan : (w.dropEvent n).chan c =
      (WaveStore.closeIfIn (w.eventPages n) (WaveStore.closeIfIn (w.eventPages n) (WaveStore.closeIfIn (w.eventPages n) w .z) .n) .e).chan
        c := WaveStore.chan_releaseAll ..
  unfold IdleRoute
  rwa [chan]

theorem reclaim_ws (n : Nat) (s : State) : (reclaim n s).ws = s.ws.dropEvent n := by simp [reclaim]

theorem reclaimUntilFree_sound (h : Sound a e s.ws) : Sound a e (reclaimUntilFree s).ws := by
  refine List.foldlRecOn (motive := fun t : State => Sound a e t.ws) _ _ h fun t hs n _ => ?_
  split
  · exact hs
  · rw [reclaim_ws]
    exact hs.dropEvent n

theorem reclaimUntilFree_idle {c : Channel} {r : Route} (h : IdleRoute c r s.ws) : IdleRoute c r (reclaimUntilFree s).ws := by
  refine List.foldlRecOn (motive := fun t : State => IdleRoute c r t.ws) _ _ h fun t hs n _ => ?_
  split
  · exact hs
  · rw [reclaim_ws]
    exact hs.dropEvent n

theorem lowestFree_free {w : WaveStore} {p : PageId} (h : w.lowestFree = some p) : (w.page p).state = .free := by
  simpa using List.find?_some h

/-! ## Page needs (R76 to R78) -/

theorem dropOldest_sound {w : WaveStore} (h : Sound a e w) (c : Channel) : Sound a e (dropOldest c w) := by
  unfold dropOldest
  cases hr : (w.chan c).ring with
  | nil => exact h
  | cons p rest => exact h.leaveRing (ps := [p]) (by simp [hr])

theorem dropOldest_idle {w : WaveStore} {c : Channel} {r : Route} (h : IdleRoute c r w) : IdleRoute c r (dropOldest c w) := by
  unfold dropOldest
  cases hr : (w.chan c).ring with
  | nil => exact h
  | cons p rest => simpa [IdleRoute, WaveStore.release_eq] using h

/-- Reclaim, if no page is free. -/
def State.reclaimed (s : State) : State := if s.ws.lowestFree.isNone then reclaimUntilFree s else s

/-- The oldest page of a ring deeper than ring_depth gone, if no page is free. -/
def State.shortened (s : State) (c : Channel) : State :=
  if s.ws.lowestFree.isNone && ringDepth s.tu.params.pre < (s.ws.chan c).ring.length then s.modWs (dropOldest c) else s

theorem reclaimed_sound (h : Sound a e s.ws) : Sound a e s.reclaimed.ws := by
  unfold State.reclaimed
  split
  · exact reclaimUntilFree_sound h
  · exact h

theorem reclaimed_idle {c : Channel} {r : Route} (h : IdleRoute c r s.ws) : IdleRoute c r s.reclaimed.ws := by
  unfold State.reclaimed
  split
  · exact reclaimUntilFree_idle h
  · exact h

theorem shortened_sound (h : Sound a e s.ws) (c : Channel) : Sound a e (s.shortened c).ws := by
  unfold State.shortened
  split
  · exact dropOldest_sound h c
  · exact h

theorem shortened_idle {c : Channel} {r : Route} (h : IdleRoute c r s.ws) : IdleRoute c r (s.shortened c).ws := by
  unfold State.shortened
  split
  · exact dropOldest_idle h
  · exact h

/-- A ring need that finds a page, and one that does not. -/
theorem ringNeed_ws (c : Channel) (s : State) :
    (ringNeed c s).ws =
      match (s.shortened c).reclaimed.ws.lowestFree with
      | some p =>
        ((s.shortened c).reclaimed.ws.allocate p (.ring c)).modChan c fun ch => { ch with route := .ring, filling := some p }
      | none => (s.shortened c).reclaimed.ws.modChan c fun ch => { ch with route := .starved, filling := none } := by
  have need : ringNeed c s =
      match (s.shortened c).reclaimed.ws.lowestFree with
      | some p =>
        (s.shortened c).reclaimed.modWs fun w =>
          (w.allocate p (.ring c)).modChan c fun ch => { ch with route := .ring, filling := some p }
      | none =>
        if (s.ws.chan c).route = .starved then
          (s.shortened c).reclaimed.modWs fun w => w.modChan c fun ch => { ch with route := .starved, filling := none }
        else
          raise .store
            ((s.shortened c).reclaimed.modWs fun w => w.modChan c fun ch => { ch with route := .starved, filling := none }) := rfl
  rw [need]
  cases (s.shortened c).reclaimed.ws.lowestFree with
  | some p => rfl
  | none =>
    dsimp only
    split
    · rfl
    · rw [raise_ws]
      rfl

theorem ringNeed_sound {c : Channel} (h : Sound a e s.ws) (idle : a ≠ .memory → (s.ws.chan c).filling = none)
    (has : a ≠ .memory → e c = true) : Sound a e (ringNeed c s).ws := by
  have ready := reclaimed_sound (shortened_sound h c)
  have still (ha : a ≠ .memory) : ((s.shortened c).reclaimed.ws.chan c).filling = none :=
    (reclaimed_idle (shortened_idle ⟨idle ha, rfl⟩)).1
  rw [ringNeed_ws]
  cases hp : (s.shortened c).reclaimed.ws.lowestFree with
  | some p => exact ready.takeRing still has (lowestFree_free hp)
  | none =>
    exact ready.reroute still (fun _ => rfl) rfl (fun ha => (ready.pages ha).pair c (still ha)) (fun _ _ => .inr rfl)
      (fun ha => by simp [has ha]) fun _ _ => rfl

/-- An event need that finds a page, and one that does not. -/
theorem eventNeed_ws (n : Nat) (c : Channel) (s : State) :
    (eventNeed n c s).ws =
      match s.reclaimed.ws.lowestFree with
      | some p => ((s.reclaimed.ws.allocate p (.event n c)).appendPage n c p).modChan c fun ch => { ch with filling := some p }
      | none => s.reclaimed.ws.modChan c fun ch => { ch with route := .stopped, filling := none } := by
  have need : eventNeed n c s =
      match s.reclaimed.ws.lowestFree with
      | some p =>
        s.reclaimed.modWs fun w =>
          ((w.allocate p (.event n c)).appendPage n c p).modChan c fun ch => { ch with filling := some p }
      | none =>
        raise .store
          (setEventFlag n (fun f => { f with incomplete := true })
            (s.reclaimed.modWs fun w => w.modChan c fun ch => { ch with route := .stopped, filling := none })) := rfl
  rw [need]
  cases s.reclaimed.ws.lowestFree with
  | some p => rfl
  | none => simp only [raise_ws, setEventFlag_ws, State.modWs]

theorem eventNeed_sound {n : Nat} {c : Channel} (h : Sound a e s.ws) (idle : a ≠ .memory → IdleRoute c (.event n) s.ws) :
    Sound a e (eventNeed n c s).ws := by
  have ready := reclaimed_sound h
  have still (ha : a ≠ .memory) := reclaimed_idle (idle ha)
  rw [eventNeed_ws]
  cases hp : s.reclaimed.ws.lowestFree with
  | some p => exact ready.takeEvent (fun ha => (still ha).1) (fun ha => (still ha).2) (lowestFree_free hp)
  | none =>
    have kind (ha : a ≠ .memory) : (s.reclaimed.ws.chan c).ring = [] := by
      by_contra hr
      simpa [(still ha).2] using (ready.pages ha).rings c hr
    have has (ha : a ≠ .memory) : e c = true := by
      have := (ready.pages ha).off c
      simpa [(still ha).2] using this
    exact ready.reroute (fun ha => (still ha).1) (fun _ => rfl) rfl (fun ha => (ready.pages ha).pair c (still ha).1)
      (fun ha hr => absurd (kind ha) hr) (fun ha => by simp [has ha]) fun _ _ => rfl

theorem trimRing_sound (h : Sound a e s.ws) (c : Channel) : Sound a e (trimRing c s).ws :=
  h.leaveRing (List.Perm.of_eq (List.take_append_drop _ _))

/-- A route that is not off belongs to a channel of the enabled set. -/
theorem enabled_of_route {c : Channel} (h : Sound a e s.ws) (route : (s.ws.chan c).route ≠ .off) (ha : a ≠ .memory) : e c = true := by
  by_contra no
  exact route (((h.pages ha).off c).mpr (by simpa using no))

/-- The completion step of a route whose filling page has closed. -/
theorem completionStep_sound {c : Channel} (h : Sound a e s.ws) (idle : a ≠ .memory → (s.ws.chan c).filling = none) :
    Sound a e (completionStep c s).ws := by
  unfold completionStep
  split
  · next route => exact trimRing_sound (ringNeed_sound h idle (enabled_of_route h (by simp [route]))) c
  · next n route => exact eventNeed_sound h fun ha => ⟨idle ha, route⟩
  all_goals exact h

/-! ## One sample word (R75) -/

theorem dropWord_sound (h : Sound a e s.ws) (c : Channel) : Sound a e (dropWord c s).ws := by
  refine h.congr h.memory rfl (fun _ => ⟨rfl, rfl, .inl rfl⟩) (fun x => ?_) h.counts
  have chan : (dropWord c s).ws.chan x = _ := WaveStore.chan_modChan s.ws c x fun ch => { ch with dropped := inc32 ch.dropped }
  rw [chan]
  split
  · next same => simp [same]
  · simp

/-- A word in the pair buffer, or with the waiting half in the array (R72). -/
def WaveStore.paired (c : Channel) (p : PageId) (word : BitVec 32) (w : WaveStore) : WaveStore :=
  match (w.chan c).pair with
  | some h =>
    { w with array := writeWord w.array (wordAddress p ((w.page p).count / 2)) ⟨h, word, 0⟩ }.modChan c fun ch => { ch with pair := none }
  | none => w.modChan c fun ch => { ch with pair := some word }

/-- A word in the filling page, with its count (R75). -/
def WaveStore.put (c : Channel) (p : PageId) (word : BitVec 32) (t : Time) (w : WaveStore) : WaveStore :=
  (w.paired c p word).modPage p fun g => { g with first := if g.count = 0 then some t else g.first, count := g.count + 1 }

theorem putWord_eq {c : Channel} {p : PageId} (h : (s.ws.chan c).filling = some p) (word : BitVec 32) (t : Time) :
    putWord c word t s =
      if (s.ws.page p).count + 1 = 1024 then completionStep c { s with ws := (s.ws.put c p word t).closeFilling c }
      else { s with ws := s.ws.put c p word t } := by
  unfold putWord
  rw [h]
  rfl

section

variable (c : Channel) (p : PageId) (word : BitVec 32) (t : Time) (w : WaveStore)

theorem page_paired (q : PageId) : (w.paired c p word).page q = w.page q := by
  unfold WaveStore.paired
  split <;> rfl

theorem page_put (q : PageId) :
    (w.put c p word t).page q =
      if q = p then
        { w.page p with first := if (w.page p).count = 0 then some t else (w.page p).first, count := (w.page p).count + 1 }
      else w.page q := by
  rw [WaveStore.put, WaveStore.page_modPage, page_paired, page_paired]

theorem chan_put (x : Channel) :
    (w.put c p word t).chan x =
      if x = c then { w.chan c with pair := if (w.chan c).pair = none then some word else none } else w.chan x := by
  have paired : (w.put c p word t).chan x = (w.paired c p word).chan x := rfl
  rw [paired, WaveStore.paired]
  cases hp : (w.chan c).pair <;> rw [WaveStore.chan_modChan]
  · rfl
  · rfl

theorem events_put : (w.put c p word t).events = w.events := by
  have paired : (w.put c p word t).events = (w.paired c p word).events := rfl
  rw [paired, WaveStore.paired]
  split <;> rfl

variable {w}

theorem put_wf (h : w.array.wf = true) : (w.put c p word t).array.wf = true := by
  have paired : (w.put c p word t).array = (w.paired c p word).array := rfl
  rw [paired, WaveStore.paired]
  split
  · exact writeWord_wf h _ _
  · exact h

theorem put_mapped (h : WaveStore.Mapped e w) (hf : (w.chan c).filling = some p) : WaveStore.Mapped e (w.put c p word t) := by
  refine h.congr (events_put c p word t w) (fun q => ?_) fun x => ?_
  · rw [page_put]
    split
    · next same => simp [same]
    · simp
  · rw [chan_put]
    split
    · next same => simp [same, hf]
    · simp

theorem put_counted (h : Counted w) (hn : (w.page p).count + 1 < 1024) : Counted (w.put c p word t) := fun q => by
  rw [page_put]
  split
  · exact ⟨hn.le, fun _ => hn⟩
  · exact h q

/-- A page that has reached its 1,024 samples counts right once it has closed. -/
theorem put_closed_counted (h : Counted w) (hf : (w.chan c).filling = some p) (hn : (w.page p).count + 1 = 1024) :
    Counted ((w.put c p word t).closeFilling c) := fun q => by
  have filling : ((w.put c p word t).chan c).filling = some p := by simp [chan_put, hf]
  rw [WaveStore.page_closeFilling, filling, page_put]
  by_cases same : q = p
  · simp [same, hn]
  · simp only [same, if_false, Option.some.injEq, Ne.symm same]
    exact h q

end

theorem putWord_sound (h : Sound a e s.ws) (c : Channel) (word : BitVec 32) (t : Time) : Sound a e (putWord c word t s).ws := by
  cases hf : (s.ws.chan c).filling with
  | none =>
    unfold putWord
    rwa [hf]
  | some p =>
    rw [putWord_eq hf]
    split
    · next full =>
      refine completionStep_sound ⟨fun ha => closeFilling_wf (put_wf c p word t (h.memory ha)) c,
        fun ha => (put_mapped c p word t (h.pages ha) hf).closeFilling c,
        fun ha => put_closed_counted c p word t (h.counts ha) hf full⟩ fun _ =>
          filling_closeFilling _ c
    · next more =>
      refine ⟨fun ha => put_wf c p word t (h.memory ha), fun ha => put_mapped c p word t (h.pages ha) hf, fun ha =>
        put_counted c p word t (h.counts ha) ?_⟩
      have fills := ((h.pages (by simp [ha])).filling p).mpr ⟨c, hf⟩
      have := (h.counts ha p).2 fills
      omega

/-- A filling page closes, and the route goes on. -/
theorem closeAndComplete_sound (h : Sound a e s.ws) (c : Channel) :
    Sound a e (completionStep c (s.modWs fun w => w.closeFilling c)).ws :=
  completionStep_sound (h.closeFilling c) fun _ => filling_closeFilling s.ws c

theorem storeWord_sound (h : Sound a e s.ws) (c : Channel) (word : BitVec 32) (t : Time) : Sound a e (storeWord c word t s).ws := by
  have stored {s : State} (h : Sound a e s.ws) :
      Sound a e (if (s.ws.chan c).filling.isSome then putWord c word t s else dropWord c s).ws := by
    split
    · exact putWord_sound h c word t
    · exact dropWord_sound h c
  have needed {s : State} (h : Sound a e s.ws) :
      Sound a e
        (if (s.ws.chan c).filling.isSome then s
          else match (s.ws.chan c).route with
            | .ring => ringNeed c s
            | .event num => eventNeed num c s
            | .off | .starved | .stopped => s).ws := by
    split
    · exact h
    · next idle =>
      have idle : (s.ws.chan c).filling = none := by simpa using idle
      split
      · next route => exact ringNeed_sound h (fun _ => idle) (enabled_of_route h (by simp [route]))
      · next route => exact eventNeed_sound h fun _ => ⟨idle, route⟩
      all_goals exact h
  have closed : Sound a e (if mustClose s.ws c t then completionStep c (s.modWs fun w => w.closeFilling c) else s).ws := by
    split
    · exact closeAndComplete_sound h c
    · exact h
  unfold storeWord
  split
  · exact h
  · exact dropWord_sound h c
  · next route =>
    have idle (ha : a ≠ .memory) : (s.ws.chan c).filling = none := by
      by_contra no
      obtain ⟨p, hp⟩ := Option.ne_none_iff_exists'.mp no
      simpa [route] using (h.pages ha).fills c p hp
    have taken := ringNeed_sound h idle (enabled_of_route h (by simp [route]))
    dsimp only
    split
    · exact putWord_sound taken c word t
    · exact dropWord_sound taken c
  all_goals exact stored (needed closed)

end

end Sys2Proof.Machine

/-! PROOFS. The waveform store stays sound through joins, closes, handovers, removals and checked reads (R74, R80 to R90; O58). -/

namespace Sys2Proof.Machine

open WaveStore (Aspect Sound Counted)

section

variable {a : Aspect} {e : Channel → Bool} {s : State}

/-! ## Channels that join (R80) -/

/-- A channel that has no ring gets a fresh one. -/
theorem storeJoin_sound {c : Channel} {e' : Channel → Bool} (h : Sound a e s.ws) (idle : a ≠ .memory → (s.ws.chan c).filling = none)
    (bare : a ≠ .memory → (s.ws.chan c).ring = []) (has : a ≠ .memory → e' c = true) (same : ∀ x, x ≠ c → e' x = e x) :
    Sound a e' (storeJoin c s).ws := by
  have begun : Sound a e' (s.modWs fun w => w.modChan c fun ch => { ch with route := .ring, ring := [], filling := none, pair := none }).ws :=
    h.reroute (g := fun ch => { ch with route := .ring, ring := [], filling := none, pair := none }) idle (fun ha => (bare ha).symm) rfl (fun _ => rfl) (fun _ _ => .inl rfl) (fun ha => by simp [has ha]) same
  exact ringNeed_sound begun (fun _ => by simp [State.modWs]) has

/-- A route of an event, or one that has stopped or is off, has no ring. -/
theorem bare_of_route {c : Channel} (h : Sound a e s.ws) (ring : (s.ws.chan c).route ≠ .ring) (starved : (s.ws.chan c).route ≠ .starved)
    (ha : a ≠ .memory) : (s.ws.chan c).ring = [] := by
  by_contra no
  simpa [ring, starved] using (h.pages ha).rings c no

theorem storeCloseChannel_sound (h : Sound a e s.ws) (c : Channel) : Sound a e (storeCloseChannel c s).ws := by
  have joined (route : (s.ws.chan c).route ≠ .ring ∧ (s.ws.chan c).route ≠ .starved ∧ (s.ws.chan c).route ≠ .off) :
      Sound a e (storeJoin c (s.modWs fun w => w.closeFilling c)).ws := by
    have closed : Sound a e (s.modWs fun w => w.closeFilling c).ws := h.closeFilling c
    have kept : ((s.modWs fun w => w.closeFilling c).ws.chan c).route = (s.ws.chan c).route := route_closeFilling s.ws c c
    exact storeJoin_sound closed (fun _ => filling_closeFilling s.ws c)
      (bare_of_route closed (by rw [kept]; exact route.1) (by rw [kept]; exact route.2.1)) (enabled_of_route h route.2.2) fun _ _ => rfl
  unfold storeCloseChannel
  split
  · next r => exact joined (by simp [r])
  · next r => exact joined (by simp [r])
  all_goals exact h

theorem storeClose_sound (h : Sound a e s.ws) : Sound a e (storeClose s).ws :=
  List.foldlRecOn (motive := fun t : State => Sound a e t.ws) _ _ h fun _ ht c _ => storeCloseChannel_sound ht c

/-! ## Handover and removal (R81, R85, R102) -/

/-- A route that hands over: only a ring keeps its filling page. -/
def WaveStore.givingUp (c : Channel) (w : WaveStore) : WaveStore := if (w.chan c).route = .ring then w else w.closeFilling c

/-- The pages of a ring that a test keeps pass to an event with the filling page, and the others leave. -/
def WaveStore.handed (n : Nat) (c : Channel) (keep : PageId → Bool) (w : WaveStore) : WaveStore :=
  (WaveStore.passPages n c ((w.chan c).ring.filter keep ++ (w.chan c).filling.toList)
    (w.releaseAll ((w.chan c).ring.filter fun p => !keep p))).modChan c fun x => { x with route := .event n, ring := [] }

theorem handoverChannel_ws (n : Nat) (onset : Time) (c : Channel) (s : State) :
    (handoverChannel n onset c s).ws =
      (s.ws.givingUp c).handed n c (passesHandover (s.ws.givingUp c) onset s.tu.params.pre) := by
  unfold handoverChannel
  dsimp only
  rw [apply_ite State.ws, setEventFlag_ws, ite_self]
  rfl

theorem handoverChannel_sound (h : Sound a e s.ws) (n : Nat) (onset : Time) (c : Channel) (has : a ≠ .memory → e c = true) :
    Sound a e (handoverChannel n onset c s).ws := by
  have ready : Sound a e (s.ws.givingUp c) := by
    unfold WaveStore.givingUp
    split
    · exact h
    · exact h.closeFilling c
  have idle : ((s.ws.givingUp c).chan c).route ≠ .ring → ((s.ws.givingUp c).chan c).filling = none := by
    unfold WaveStore.givingUp
    split
    · next route => exact fun no => absurd route no
    · exact fun _ => filling_closeFilling s.ws c
  rw [handoverChannel_ws]
  exact ready.handOver has fun _ => idle

theorem handover_sound (h : Sound a e s.ws) (n : Nat) (onset : Time) (has : ∀ c, enabledIn s.pt.tier c = true → e c = true) :
    Sound a e (handover n onset s).ws := by
  unfold handover
  refine List.foldlRecOn (motive := fun t : State => Sound a e t.ws) _ _ h fun t ht c hc => ?_
  exact handoverChannel_sound ht n onset c fun _ => has c ((mem_enabledChannels _ c).mp hc)

theorem removeRecord_sound (h : Sound a e s.ws) (n : Nat) : Sound a e (removeRecord n s).ws := h.dropEvent n

/-! ## Checked reads (R86 to R90) -/

/-- Every page stays in its place. -/
def SamePlaces (w w' : WaveStore) : Prop := ∀ p, (w'.page p).state = (w.page p).state

/-- The page of a storage word that was corrected, or could not be (R87, R88). -/
theorem readStorage_ws (p : PageId) (i : Nat) (s : State) :
    (readStorage p i s).2.ws =
      match (eccCheck (readWord s.ws.array (wordAddress p i))).cls with
      | .clean => s.ws
      | .single =>
        let w := s.ws.modPage p fun g => { g with correctable := satInc 255 g.correctable }
        if s.ws.scrub then
          { w with
            array := writeWord w.array (wordAddress p i)
              ⟨(eccCheck (readWord s.ws.array (wordAddress p i))).first, (eccCheck (readWord s.ws.array (wordAddress p i))).second, 0⟩ }
        else w
      | .uncorrectable =>
        { s.ws.modPage p fun g => { g with faulty := true } with uncorrectable := inc32 s.ws.uncorrectable } := by
  unfold readStorage
  dsimp only
  cases hc : (eccCheck (readWord s.ws.array (wordAddress p i))).cls with
  | clean => rfl
  | single => rfl
  | uncorrectable =>
    dsimp only
    rw [raise_ws]
    split
    · rw [setEventFlag_ws]
      rfl
    all_goals rfl

theorem readStorage_sound (h : Sound a e s.ws) {p : PageId} (used : a ≠ .memory → (s.ws.page p).state ≠ .free) (i : Nat) :
    Sound a e (readStorage p i s).2.ws := by
  have corrected : Sound a e (s.ws.modPage p fun g => { g with correctable := satInc 255 g.correctable }) := by
    refine h.congr h.memory rfl (fun q => ?_) (fun _ => by simp) fun ha => (h.counts ha).of_le fun q => ?_
    · rw [WaveStore.page_modPage]
      split
      · next same => simp [same]
      · simp
    · rw [WaveStore.page_modPage]
      split
      · next same => simp [same]
      · simp
  have marked : Sound a e (s.ws.modPage p fun g => { g with faulty := true }) := by
    refine h.congr h.memory rfl (fun q => ?_) (fun _ => by simp) fun ha => (h.counts ha).of_le fun q => ?_
    · rw [WaveStore.page_modPage]
      split
      · next same =>
        subst same
        exact ⟨rfl, rfl, .inr ⟨rfl, used⟩⟩
      · simp
    · rw [WaveStore.page_modPage]
      split
      · next same => simp [same]
      · simp
  rw [readStorage_ws]
  split
  · exact h
  · dsimp only
    split
    · exact corrected.of_same (fun ha => writeWord_wf (corrected.memory ha) _ _) rfl rfl rfl
    · exact corrected
  · exact marked.of_same marked.memory rfl rfl rfl

theorem readStorage_places (p : PageId) (i : Nat) : SamePlaces s.ws (readStorage p i s).2.ws := by
  have same (f : Page → Page) (hf : ∀ g, (f g).state = g.state) : SamePlaces s.ws (s.ws.modPage p f) := fun q => by
    rw [WaveStore.page_modPage]
    split
    · next here => rw [here, hf]
    · rfl
  rw [readStorage_ws]
  split
  · exact fun _ => rfl
  · dsimp only
    split
    · exact same (fun g => { g with correctable := satInc 255 g.correctable }) fun _ => rfl
    · exact same (fun g => { g with correctable := satInc 255 g.correctable }) fun _ => rfl
  · exact same (fun g => { g with faulty := true }) fun _ => rfl

theorem SamePlaces.trans {u v w : WaveStore} (h : SamePlaces u v) (k : SamePlaces v w) : SamePlaces u w := fun p => (k p).trans (h p)

theorem readPage_sound (h : Sound a e s.ws) {p : PageId} (used : a ≠ .memory → (s.ws.page p).state ≠ .free) :
    Sound a e (readPage p s).ws :=
  (List.foldlRecOn (motive := fun t : State => Sound a e t.ws ∧ SamePlaces s.ws t.ws) _ _ ⟨h, fun _ => rfl⟩ fun t ht i _ =>
    ⟨readStorage_sound ht.1 (fun ha => by rw [ht.2 p]; exact used ha) i, ht.2.trans (readStorage_places p i)⟩).1

theorem patrolPage_used {w : WaveStore} {p : PageId} (h : patrolPage w = some p) : (w.page p).state ≠ .free := by
  have occupied : (w.page p).state.occupied = true := by
    have mem : p ∈ allPages.filter fun p => (w.page p).state.occupied := by
      unfold patrolPage at h
      dsimp only at h
      split at h
      · exact List.mem_of_head? h
      · split at h
        · next hf =>
          obtain rfl : _ = p := Option.some.inj h
          exact List.mem_of_find?_eq_some hf
        · exact List.mem_of_head? h
    simpa using (List.mem_filter.mp mem).2
  intro free
  simp [free, PageState.occupied] at occupied

theorem patrolRead_sound (h : Sound a e s.ws) : Sound a e (patrolRead s).ws := by
  unfold patrolRead
  split
  · next p hp =>
    have read := readPage_sound h fun _ => patrolPage_used hp
    exact read.of_same read.memory rfl rfl rfl
  · exact h

theorem applyUpsets_sound (h : Sound a e s.ws) (xs : List Upset) : Sound a e (applyUpsets s xs).ws :=
  h.of_same (fun ha => applyUpsets_wf (h.memory ha) xs) rfl rfl rfl

theorem freshPatrol_sound (h : Sound a e s.ws) : Sound a e (freshPatrol s).ws := h.of_same h.memory rfl rfl rfl

theorem consecutiveRun_subset (l : List SamplePlace) : consecutiveRun l ⊆ l := by
  induction l with
  | nil => exact List.Subset.refl _
  | cons a l ih =>
    unfold consecutiveRun
    cases l with
    | nil => exact List.Subset.refl _
    | cons b l =>
      dsimp only
      split
      · exact List.cons_subset_cons a ih
      · simp

/-- What a WAVE READ gathers lies in the pages of the event. -/
theorem gathered_used {w : WaveStore} (h : WaveStore.Mapped e w) {n : Nat} {c : Channel} {offset count : Nat} {x : SamplePlace}
    (hx : x ∈ gatheredPlaces w n c offset count) : (w.page x.page).state ≠ .free := by
  have listed : x ∈ extentPlaces w n c := List.mem_of_mem_drop (List.mem_of_mem_take (consecutiveRun_subset _ hx))
  obtain ⟨p, hp, place⟩ := List.mem_flatMap.mp listed
  have page : x.page = p := by
    unfold pagePlaces at place
    split at place
    · obtain ⟨i, -, rfl⟩ := List.mem_map.mp place
      rfl
    · simp at place
  rw [page, (h.event p n c).mpr hp]
  simp

theorem gatherOne_sound {c : Channel} {g : Gather} {x : SamplePlace} (h : Sound a e g.state.ws)
    (used : a ≠ .memory → (g.state.ws.page x.page).state ≠ .free) :
    Sound a e (gatherOne c g x).state.ws ∧ SamePlaces g.state.ws (gatherOne c g x).state.ws := by
  unfold gatherOne
  split
  · exact ⟨h, fun _ => rfl⟩
  · dsimp only
    split
    · exact ⟨h, fun _ => rfl⟩
    · exact ⟨readStorage_sound h used _, readStorage_places _ _⟩

theorem waveWords_sound (h : Sound a e s.ws) (n : Nat) (c : Channel) (offset count : Nat) :
    Sound a e (waveWords n c offset count s).2.ws :=
  (List.foldlRecOn (motive := fun g : Gather => Sound a e g.state.ws ∧ SamePlaces s.ws g.state.ws)
    (gatheredPlaces s.ws n c offset count) (gatherOne c) (b := ⟨[], none, s⟩) ⟨h, fun _ => rfl⟩ fun g hg x hx =>
      have one := gatherOne_sound (c := c) hg.1 fun ha => by
        rw [hg.2]
        exact gathered_used (h.pages ha) hx
      ⟨one.1, hg.2.trans one.2⟩).1

theorem waveRead_sound (h : Sound a e s.ws) (p : List Byte) : Sound a e (waveRead p s).2.ws := by
  unfold waveRead
  dsimp only
  split
  · exact h
  · split
    · exact h
    · split
      · exact h
      · split
        · exact h
        · exact waveWords_sound h _ _ _ _

end

end Sys2Proof.Machine

/-! PROOFS. Every command keeps the waveform store sound: its array in form, every page in its place, and the counts in their range
(R72 to R75, R80; the first three parts of O58). -/

namespace Sys2Proof.Machine

open WaveStore (Aspect Sound)

/-! ## Events and passes -/

section

variable {a : Aspect} {e : Channel → Bool} {s t : State}

theorem createRecord_sound (h : Sound a e s.ws) (onset : Time) (trigger : Tri Bool) (peaks : Tri (Option Peak)) (flags : EventFlags) :
    Sound a e (createRecord onset trigger peaks flags s).ws := by
  unfold createRecord makeRoom
  rw [State.modEt_ws]
  split
  · exact h
  · split
    · exact removeRecord_sound h _
    · exact h

theorem openEvent_sound (h : Sound a e s.ws) (has : ∀ c, enabledIn s.pt.tier c = true → e c = true) (onset : Time) (d : Nat)
    (trigger : Tri Bool) (external : Bool) : Sound a e (openEvent onset d trigger external s).ws := by
  unfold openEvent
  dsimp only
  rw [raise_ws, quakeAlert_ws]
  refine handover_sound ?_ _ _ fun c hc => has c (by simpa using hc)
  exact createRecord_sound h onset trigger (seedPeaks s) (openingFlags s external)

theorem evalVote_sound (h : Sound a e s.ws) (has : ∀ c, enabledIn s.pt.tier c = true → e c = true) : Sound a e (evalVote s).ws := by
  have opened : Sound a e (openByVote s).ws := by
    unfold openByVote
    split
    · exact openEvent_sound h has _ _ _ _
    · exact h
  have post : Sound a e (toPost s).ws := by rwa [toPost_ws]
  have again : Sound a e (reopen s).ws := by simpa using h
  unfold evalVote
  split
  · exact h
  · split
    · exact h
    · split
      · exact opened
      · exact h
    · split
      · exact h
      · exact post
    · split
      · exact again
      · exact h

theorem openExternal_sound (h : Sound a e s.ws) (has : ∀ c, enabledIn s.pt.tier c = true → e c = true) :
    Sound a e (openExternal s).ws := by
  unfold openExternal
  split
  · rw [toPost_ws]
    exact openEvent_sound h has _ _ _ _
  · exact h

theorem closeEvent_sound (h : Sound a e s.ws) (endTime : Option Time) (truncated : Bool) (final : DetectorState) :
    Sound a e (closeEvent endTime truncated final s).ws := by
  unfold closeEvent
  dsimp only
  rw [heaterDecide_ws, raise_ws]
  refine storeClose_sound ?_
  split
  · rwa [updRecord_ws]
  · exact h

theorem truncateEvent_sound (h : Sound a e s.ws) (final : DetectorState) : Sound a e (truncateEvent final s).ws := by
  unfold truncateEvent
  split
  · exact closeEvent_sound h _ _ _
  · exact h

end

/-- The store is sound for the channels that the tier enables. -/
def StoreKept (a : Aspect) (s : State) : Prop := Sound a (enabledIn s.pt.tier) s.ws

namespace StoreKept

variable {a : Aspect} {s t : State}

/-- What keeps the store sound and only wakes the host keeps it sound for the tier's channels. -/
theorem stored (w : Woken s t) (sound : Sound a (enabledIn s.pt.tier) t.ws) : StoreKept a t := by
  unfold StoreKept
  rw [w.tier]
  exact sound

variable (h : StoreKept a s)

include h

theorem same (hws : t.ws = s.ws) (htier : t.pt.tier = s.pt.tier) : StoreKept a t := by
  unfold StoreKept
  rw [hws, htier]
  exact h

theorem woken (w : Woken s t) (hws : t.ws = s.ws) : StoreKept a t := h.same hws w.tier

theorem closeEvent (endTime : Option Time) (truncated : Bool) (final : DetectorState) :
    StoreKept a (closeEvent endTime truncated final s) := stored (closeEvent_woken s _ _ _) (closeEvent_sound h _ _ _)

theorem truncateEvent (final : DetectorState) : StoreKept a (truncateEvent final s) := keeps_ite (h.closeEvent _ _ _) h

theorem openExternal : StoreKept a (openExternal s) := stored (openExternal_woken s) (openExternal_sound h fun _ hc => hc)

theorem evalVote : StoreKept a (evalVote s) := stored (evalVote_woken s) (evalVote_sound h fun _ hc => hc)

theorem deliveryStart (prev : Option Time) : StoreKept a (deliveryStart prev s) := by
  have closed (p q : Bool) : StoreKept a
      (if p = true then Machine.closeEvent prev false .idle s
      else if q = true then Machine.closeEvent prev true .idle (rebaseline s)
      else s) :=
    keeps_ite (h.closeEvent _ _ _) (keeps_ite (StoreKept.closeEvent (h.same (by simp) (by simp)) _ _ _) h)
  have aux (x : State) (hx : StoreKept a x) : StoreKept a (x.modTu fun t => { t with auxPending := false }) := hx.same rfl rfl
  unfold Machine.deliveryStart
  dsimp only
  exact keeps_ite (keeps_ite (aux _ (closed _ _)).openExternal (aux _ (closed _ _))) (closed _ _)

theorem beginDelivery (t : Time) : StoreKept a (beginDelivery t s) := by
  unfold Machine.beginDelivery
  dsimp only
  refine keeps_ite (StoreKept.deliveryStart ?_ _) h
  exact h.same rfl rfl

theorem triggerPass (c : Channel) (y : Int) (t : Time) (restart : Bool) : StoreKept a (triggerPass c y t restart s) := by
  have upd (f : TriggerChannel → TriggerChannel) (x : State) (hx : StoreKept a x) : StoreKept a (updChannel c f x) :=
    hx.same rfl rfl
  have joined (x : State) (hx : StoreKept a x) : StoreKept a (joinTriggerSet c x) := hx.woken (joinTriggerSet_woken x c) (by simp)
  have peak (x : State) (n : Nat) (hx : StoreKept a x) : StoreKept a (takePeak c n t x) :=
    hx.woken (takePeak_woken x c n t) (by simp)
  have begun : StoreKept a (if restart = true then updChannel c enterWarmup (Machine.beginDelivery t s)
      else Machine.beginDelivery t s) := keeps_ite (upd _ _ (h.beginDelivery t)) (h.beginDelivery t)
  unfold Machine.triggerPass
  dsimp only
  generalize (if restart = true then updChannel c enterWarmup (Machine.beginDelivery t s) else Machine.beginDelivery t s) = x
    at begun ⊢
  have passed := upd (channelPass x.tu (charValue y) t) _ begun
  generalize updChannel c (channelPass x.tu (charValue y) t) x = z at passed ⊢
  have vote (b : Bool) : StoreKept a (Machine.evalVote (if b = true then joinTriggerSet c z else z)) :=
    (keeps_ite (joined _ passed) passed).evalVote
  exact upd _ _ (keeps_ite (peak _ _ (vote _)) (vote _))

theorem nextFilterPass : StoreKept a (nextFilterPass s) := by
  have pass (x : State) (c : Channel) (v : Int) (t : Time) (hx : StoreKept a x) : StoreKept a (channelFilterPass c v t x) := by
    have ctx (f : FilterContext → FilterContext) : StoreKept a (modContext c f x) := hx.same rfl rfl
    exact StoreKept.triggerPass (keeps_ite ((ctx _).woken (.flag _ _) (by simp)) (ctx _)) _ _ _ _
  unfold Machine.nextFilterPass
  split
  · exact h
  · exact h.same rfl rfl
  · exact pass _ _ _ _ (h.same rfl rfl)

/-! ## Deliveries -/

theorem deliver (w : Window) (word : Bool → Bool → Channel → SampleWord) : StoreKept a (deliver w word s) := by
  refine stored (deliver_woken s w word) ?_
  unfold Machine.deliver
  dsimp only
  have stored (words : Channel → SampleWord) (x : State) (hx : Sound a (enabledIn s.pt.tier) x.ws) (cs : List Channel) :
      Sound a (enabledIn s.pt.tier) (cs.foldl (fun s c => storeWord c (words c).bits w.time s) x).ws :=
    List.foldlRecOn (motive := fun y : State => Sound a (enabledIn s.pt.tier) y.ws) _ _ hx fun y hy c _ =>
      storeWord_sound hy c _ _
  rw [enqueueDelivery_ws]
  exact stored (word (w.step || s.si.stepCarry) s.si.heatMark) (s.modSi fun i => { i with stepCarry := false, heatMark := false }) h _

theorem deliverGap (w : Window) : StoreKept a (deliverGap w s) := h.deliver w _

theorem decideFrame (f : List Byte) : StoreKept a (decideFrame f s) := by
  have set (g : SampleInterface → SampleInterface) : StoreKept a (s.modSi g) := h.same rfl rfl
  unfold Machine.decideFrame
  split
  · exact set _
  · exact keeps_ite ((set _).deliverGap _) (keeps_ite ((set _).deliverGap _) ((set _).deliver _ _))

theorem digitizerByte (b : Byte) : StoreKept a (digitizerByte s b) := by
  have set (g : SampleInterface → SampleInterface) : StoreKept a (s.modSi g) := h.same rfl rfl
  unfold Machine.digitizerByte
  exact keeps_ite (keeps_ite (set _) h) (keeps_ite ((set _).decideFrame _) (set _))

theorem siStrobe (b : Time) (seq : Nat) (step : Bool) : StoreKept a (siStrobe b seq step s) := by
  have opened (x : State) (hx : StoreKept a x) (f : SampleInterface → SampleInterface) : StoreKept a (x.modSi f) := hx.same rfl rfl
  unfold Machine.siStrobe
  dsimp only
  split
  · exact opened _ ((opened s h _).deliverGap _) _
  · exact opened s h _

theorem takeStrobe : StoreKept a (takeStrobe s) := by
  have counted (f : TimeBase → TimeBase) : StoreKept a (s.modTb f) := h.same rfl rfl
  have issued (b : Time) : StoreKept a (issueStrobe b s) := (counted _).siStrobe _ _ _
  unfold Machine.takeStrobe
  split
  · exact issued _
  · exact h

/-! ## The tier -/

omit h in
/-- A channel without a route gets a ring. -/
theorem joinEnabled {e e' : Channel → Bool} {c : Channel} (hs : Sound a e s.ws) (out : e c = false) (joins : e' c = true)
    (same : ∀ x, x ≠ c → e' x = e x) : Sound a e' (storeJoin c s).ws := by
  have off (ha : a ≠ .memory) : (s.ws.chan c).route = .off := ((hs.pages ha).off c).mpr out
  have idle (ha : a ≠ .memory) : (s.ws.chan c).filling = none := by
    by_contra no
    obtain ⟨p, hp⟩ := Option.ne_none_iff_exists'.mp no
    simpa [off ha] using (hs.pages ha).fills c p hp
  exact storeJoin_sound hs idle (fun ha => bare_of_route hs (by simp [off ha]) (by simp [off ha]) ha) (fun _ => joins) same

omit h in
/-- A channel that leaves the enabled set, or joins it, with the channels that the new tier has in its place (R80). -/
theorem channelAtTier {e e' : Channel → Bool} {old new : Tier} {c : Channel} (hs : Sound a e s.ws) (ho : e c = enabledIn old c)
    (hn : e' c = enabledIn new c) (same : ∀ x, x ≠ c → e' x = e x) : Sound a e' (channelAtTier old new s c).ws := by
  unfold Machine.channelAtTier
  split
  · next leaves =>
    have out : e' c = false := by simp_all
    exact hs.leave c out same
  · next stays =>
    split
    · next joins =>
      have ws : (feEnable c (addPeakPart c (updChannel c enterWarmup s))).ws = s.ws := by simp
      exact joinEnabled (by rwa [ws]) (by simp_all) (by simp_all) same
    · next alike =>
      have unchanged : e' = e := by
        funext x
        by_cases here : x = c
        · subst here
          rw [hn, ho]
          revert stays alike
          cases enabledIn old x <;> cases enabledIn new x <;> simp
        · exact same x here
      rwa [unchanged]

omit h in
theorem applyEnabled {old new : Tier} (hs : Sound a (enabledIn old) s.ws) (tier : s.pt.tier = new) :
    StoreKept a (applyEnabled old new s) := by
  have followed : Sound a (enabledIn new) (channels.foldl (Machine.channelAtTier old new) s).ws := by
    have z := channelAtTier (e' := fun x => if x = .z then enabledIn new x else enabledIn old x) (c := .z) hs rfl rfl (by simp_all)
    have n := channelAtTier (e' := fun x => if x = .e then enabledIn old x else enabledIn new x) (c := .n) z rfl rfl (by
      intro x hx; cases x <;> simp_all)
    exact channelAtTier (c := .e) n rfl rfl (by intro x hx; cases x <;> simp_all)
  have one (x : State) (c : Channel) : Woken x (Machine.channelAtTier old new x c) := by
    unfold Machine.channelAtTier channelLeaves channelJoins
    exact .ite (.same (by simp) (by simp)) (.ite (.trans (.same (by simp) (by simp)) (storeJoin_woken _ c)) .rfl)
  have kept : StoreKept a (channels.foldl (Machine.channelAtTier old new) s) := by
    unfold StoreKept
    rw [(Woken.foldl one channels s).tier, tier]
    exact followed
  exact keeps_ite (P := StoreKept a) kept kept.evalVote

omit h in
/-- A change of tier leaves the store sound for the channels of the new tier. -/
theorem tierChange (hs : StoreKept a s) (startUp : Bool) (new : Tier) : StoreKept a (tierChange startUp new s) := by
  unfold Machine.tierChange
  dsimp only
  have ws : (sensorForTier new (announceTier startUp new s)).ws = s.ws := by simp
  have tier : (sensorForTier new (announceTier startUp new s)).pt.tier = new := by
    unfold sensorForTier
    (repeat' split) <;> simp [announceTier_tier]
  have railed : Sound a (enabledIn s.pt.tier) (sensorForTier new (announceTier startUp new s)).ws := by rwa [ws]
  generalize sensorForTier new (announceTier startUp new s) = x at tier railed ⊢
  have closed : Sound a (enabledIn s.pt.tier) (detectorForTier s.pt.tier new x).ws := by
    unfold detectorForTier
    split
    · exact truncateEvent_sound railed .disarmed
    · split
      · exact railed
      · exact railed
  have followed : StoreKept a (Machine.applyEnabled s.pt.tier new (detectorForTier s.pt.tier new x)) :=
    applyEnabled closed ((detectorForTier_woken x _ _).tier.trans tier)
  have patrolled : StoreKept a (patrolForTier s.pt.tier new (Machine.applyEnabled s.pt.tier new (detectorForTier s.pt.tier new x))) :=
    keeps_ite (P := StoreKept a) followed (freshPatrol_sound followed)
  have decided := patrolled.woken (heaterDecide_woken _ false) (by simp)
  have window (y : State) (hy : StoreKept a y) : StoreKept a (entryWindow y) := hy.same (by simp) (by simp)
  have entered (y : State) (hy : StoreKept a y) : StoreKept a (enterHibernate y) := hy.same (by simp) rfl
  have windowed := keeps_ite (P := StoreKept a) (c := s.pt.tier = .full ∧ (new = .conserve ∨ new = .survive)) (window _ decided) decided
  exact (StoreKept.woken (keeps_ite (entered _ windowed) windowed)
    (syncModem_woken _) (by simp)).woken (gaspCheck_woken _) (by simp)

theorem tierScan (startUp : Bool) : StoreKept a (tierScan startUp s) := by
  have exit : StoreKept a (hibernateScan startUp s) := by
    unfold hibernateScan
    have ended : StoreKept a (s.modPt fun p => { p with gasp := none }) := h.same rfl rfl
    have leaving : StoreKept a (beginExit s) := h.same rfl rfl
    exact keeps_ite (keeps_ite (ended.tierChange _ _) (keeps_ite leaving h)) h
  unfold Machine.tierScan
  exact keeps_ite exit (keeps_ite h (h.tierChange _ _))

theorem scan (raw : RawScan) : StoreKept a (scan raw s) := by
  have counted : StoreKept a (chargeWork (chargeStep s.hm.interval (takeScan raw s).hm.readings) (takeScan raw s)) :=
    h.woken ((takeScan_woken s raw).trans (chargeWork_woken _ _)) (by simp)
  have tested := counted.woken (lowCurrentTest_woken _) (by simp)
  unfold Machine.scan
  exact ((tested.tierScan false).woken (heaterDecide_woken _ false) (by simp)).woken (endScan_woken _ _) (by simp)

theorem completeExit : StoreKept a (completeExit s) := by
  have returned : StoreKept a ((returnToMain s).modPt fun p => { p with exitMark := false }) :=
    (h.woken (returnToMain_woken s) (by simp)).same rfl rfl
  exact keeps_ite (P := StoreKept a) (returned.tierChange _ _) (returned.woken (toWatchClock_woken _) (by simp))

/-! ## The resets -/

omit h in
/-- Channels without a route join one after the other. -/
theorem joinAll {e : Channel → Bool} {cs : List Channel} (hs : Sound a e s.ws) (once : cs.Nodup) (out : ∀ c ∈ cs, e c = false) :
    Sound a (fun c => e c || cs.contains c) (cs.foldl (fun s c => storeJoin c s) s).ws := by
  induction cs generalizing e s with
  | nil => simpa using hs
  | cons c cs ih =>
    obtain ⟨new, once⟩ := List.nodup_cons.mp once
    have joined := joinEnabled (e' := fun x => e x || x == c) (c := c) hs (out c (by simp)) (by simp) (by simp_all)
    have rest := ih joined once (by
      intro x hx
      have : x ≠ c := fun he => new (he ▸ hx)
      simp [out x (by simp [hx]), this])
    have same : (fun x => (e x || x == c) || cs.contains x) = fun x => e x || (c :: cs).contains x := by
      funext x
      rw [List.contains_cons, Bool.or_assoc]
    rw [List.foldl_cons, ← same]
    exact rest

omit h in
/-- The enabled channels get their rings in a store that has none (R93). -/
theorem startStore (hs : Sound a (fun _ => false) s.ws) : StoreKept a (startStore s) := by
  refine stored (startStore_woken s) (freshPatrol_sound ?_)
  have joined := joinAll (cs := enabledChannels s.pt.tier) hs (List.Nodup.filter _ (by decide)) (by simp)
  have same : (fun c => false || (enabledChannels s.pt.tier).contains c) = enabledIn s.pt.tier := by
    funext c
    rw [Bool.false_or, Bool.eq_iff_iff, List.contains_iff_mem, mem_enabledChannels]
  rwa [same] at joined

omit h in
/-- After a reset every page is free and no channel has a route (R93). -/
theorem resetStore {array : PageArray} (wf : a = .memory → array.wf = true) (p : StoreParams) :
    Sound a (fun _ => false) (resetStore array p) := by
  have page (q) : (Machine.resetStore array p).page q = freePage := by simp [Machine.resetStore, WaveStore.page]
  have chan (c) : (Machine.resetStore array p).chan c = emptyStoreChannel := by cases c <;> rfl
  have list (n c) : (Machine.resetStore array p).eventList n c = [] := rfl
  refine ⟨wf, fun _ => ?_, fun _ q => by simp [page, freePage]⟩
  constructor
  case events => exact List.nodup_nil
  all_goals simp [page, chan, list, freePage, emptyStoreChannel]

theorem powerOn (raw : RawScan) : StoreKept a (powerOn raw s) := by
  unfold Machine.powerOn
  dsimp only
  have bare : Sound a (fun _ => false) (bootRails (bootTier (bootScanned raw s))
      { resetBlocks (loadedSettings s.sm) (bootTier (bootScanned raw s)) (bootScanned raw s) with hm := (bootScanned raw s).hm }).ws := by
    have ws : (bootRails (bootTier (bootScanned raw s))
      { resetBlocks (loadedSettings s.sm) (bootTier (bootScanned raw s)) (bootScanned raw s) with hm := (bootScanned raw s).hm }).ws =
        Machine.resetStore s.ws.array (loadedSettings s.sm).store := by
      simp [bootRails, resetBlocks, bootScanned]
    rw [ws]
    exact resetStore h.memory _
  generalize bootRails (bootTier (bootScanned raw s)) _ = x at bare ⊢
  generalize bootTier (bootScanned raw s) = t
  have decided := (((startStore bare).woken (offerAlert_woken _ .pwr (.tier t)) (by simp)).woken (lowCurrentTest_woken _) (by simp)).woken
    (heaterDecide_woken _ false) (by simp)
  have entered (y : State) (hy : StoreKept a y) : StoreKept a (enterHibernate y) := hy.same (by simp) rfl
  exact StoreKept.woken (keeps_ite (entered _ decided) decided)
    (((syncModem_woken _).trans (gaspCheck_woken _)).trans (endScan_woken _ _)) (by simp)

theorem pinReset (raw : RawScan) : StoreKept a (pinReset raw s) := by
  have loaded : StoreKept a (pinLoaded s) := by
    unfold pinLoaded
    dsimp only
    refine StoreKept.woken (startStore ?_) (syncModem_woken _) (by simp)
    exact resetStore h.memory _
  have scanned : StoreKept a (chargeWork id (takeScan raw (pinLoaded s))) :=
    loaded.woken ((takeScan_woken _ raw).trans (chargeWork_woken _ _)) (by simp)
  have tested := scanned.woken (lowCurrentTest_woken _) (by simp)
  have tier (x : State) (hx : StoreKept a x) : StoreKept a (pinTierScan x) :=
    keeps_ite (P := StoreKept a) ((hx.tierScan true).woken (offerAlert_woken _ _ _) (by simp)) (hx.tierScan true)
  unfold Machine.pinReset
  exact ((tier _ tested).woken (heaterDecide_woken _ false) (by simp)).woken (endScan_woken _ _) (by simp)

/-! ## Every command -/

/-- What leaves the array, the pages, the routes and the lists of the store. -/
theorem kept (array : t.ws.array = s.ws.array) (pages : t.ws.pages = s.ws.pages) (chans : t.ws.chans = s.ws.chans)
    (events : t.ws.events = s.ws.events) (tier : t.pt.tier = s.pt.tier) : StoreKept a t := by
  unfold StoreKept
  rw [tier]
  exact WaveStore.Sound.of_same h (fun ha => by rw [array]; exact h.memory ha) pages chans events

theorem settingsDefaults (p : List Byte) : StoreKept a (Machine.settingsDefaults p s).2 := by
  have filters (x : State) := ChangesOnly.foldl defaultFilter_changes channels x
  have set (x : State) (hx : StoreKept a x) : StoreKept a ((channels.foldl defaultFilter x).modSm fun m => { m with defaultFlag := true }) :=
    hx.same (by rw [State.modSm_ws, (filters x).ws (by simp)]) (by rw [State.modSm_pt, (filters x).pt (by simp)])
  unfold Machine.settingsDefaults applyDefaults
  split
  · exact h
  · refine set _ (h.kept ?_ ?_ ?_ ?_ ?_) <;> simp [setHeater, setStore, freshPatrol, setTier]

theorem work (c : Instr) : StoreKept a (work c s) := by
  have answered := fun x e (t : State) (h : StoreKept a t) => (h.same rfl rfl : StoreKept a (answer x e t))
  have frame (hb : Block.ws ∉ footprint c) (hc : Block.hc ∉ footprint c ∨ Block.pt ∉ footprint c) : StoreKept a (Machine.work c s) := by
    refine h.same (by rw [(work_changes c s).ws (by simp [hb])]) ?_
    obtain hc | hc := hc
    · exact work_tier c s hc
    · rw [(work_changes c s).pt (by simp [hc])]
  have served {kind : Byte} {f : List Byte → State → List Byte × State} (hf : ∀ p, StoreKept a (f p s).2) :
      StoreKept a (serve kind f s) := serve_keeps answered hf h
  have request {n : Nat} {kind : Byte} {f : List Byte → State → List Byte × State} (hf : ∀ p, StoreKept a (f p s).2) :
      StoreKept a (serve kind (withLength n f) s) := served (withLength_keeps (fun p _ => hf p) h)
  cases c <;> dsimp only [Machine.work] at frame ⊢
  case powerOnReset d raw => exact h.powerOn raw
  case pinReset d raw => exact h.pinReset raw
  case sampleStrobe => exact h.takeStrobe
  case digitizerFrame d bytes => exact keeps_ite (List.foldlRecOn (motive := StoreKept a) bytes _ h fun _ hx b _ => hx.digitizerByte b) h
  case filterPass => exact keeps_ite (P := StoreKept a) h.nextFilterPass h
  case housekeepingScan d raw => exact keeps_ite (h.scan raw) h
  case settleEnd => exact keeps_ite h.completeExit h
  case settingsDefaults => exact request h.settingsDefaults
  case patrolRead d xs =>
    have upset : StoreKept a (applyUpsets s xs) := applyUpsets_sound h xs
    have read : StoreKept a (patrolRead (applyUpsets s xs)) := stored (patrolRead_woken _) (patrolRead_sound upset)
    exact keeps_ite (P := StoreKept a) (freshPatrol_sound read) upset
  case waveRead d xs =>
    have upset : StoreKept a (applyUpsets s xs) := applyUpsets_sound h xs
    exact serve_keeps answered (withLength_keeps (fun p _ => stored (waveRead_woken _ p) (waveRead_sound upset p)) upset) upset
  case storeSet =>
    refine served fun p => ?_
    unfold Machine.storeSet storeSetStatus
    dsimp only
    split
    · exact h
    · split
      · exact h
      · exact h.kept rfl rfl rfl rfl rfl
  case eventDelete =>
    refine request (withRecord_keeps (fun r => ?_) h)
    unfold Machine.eventDelete
    split
    · exact h
    · exact stored (.same (by simp) (by simp)) (removeRecord_sound h _)
  case restartDetection =>
    refine serveWith_keeps answered (withLength_keeps (fun p _ => ?_) h) h
    unfold restartDetectionRequest
    split
    · exact (h.truncateEvent .idle).same (by simp [Machine.restartDetection]) (by simp [Machine.restartDetection])
    · exact h
  case detectArm =>
    refine request fun p => ?_
    unfold Machine.detectArm
    dsimp only
    split
    · exact h
    · exact keeps_ite (h.same (by simp) (by simp)) ((h.truncateEvent .disarmed).same rfl rfl)
  all_goals exact frame (by simp [footprint]) (by simp [footprint])

end StoreKept

/-- The page map of a state is that of its store, for the channels that its tier enables. -/
theorem pageInv_iff (s : State) : PageInv s ↔ WaveStore.Mapped (enabledIn s.pt.tier) s.ws := by
  constructor
  · intro h
    have once (c) := List.nodup_append.mp (h.once.1 c)
    exact
      { events := h.events, free := h.free, faulty := h.faulty, ring := h.ring, event := h.event, onceRing := fun c => (once c).1
        onceFilling := fun c p hf hp => (once c).2.2 p hp p (by
          rw [show (s.ws.chans.get c).filling = some p from hf]
          simp) rfl
        onceEvent := h.once.2, filling := h.filling, fills := h.fills, pair := h.pair, rings := h.rings, off := h.off }
  · intro h
    exact
      { events := h.events, free := h.free, faulty := h.faulty, ring := h.ring, event := h.event
        once := ⟨fun c => List.nodup_append.mpr ⟨h.onceRing c, by cases (s.ws.chans.get c).filling <;> simp, fun p hp q hq he =>
          h.onceFilling c q (Option.mem_toList.mp hq) (he ▸ hp)⟩, h.onceEvent⟩
        filling := h.filling, fills := h.fills, pair := h.pair, rings := h.rings, off := h.off }

theorem storeKept_memory (s : State) : StoreKept .memory s ↔ MemoryInv s :=
  ⟨fun h => h.memory rfl, fun h => ⟨fun _ => h, fun no => absurd rfl no, nofun⟩⟩

theorem storeKept_pages (s : State) : StoreKept .pages s ↔ PageInv s :=
  ⟨fun h => (pageInv_iff s).mpr (h.pages nofun), fun h => ⟨nofun, fun _ => (pageInv_iff s).mp h, nofun⟩⟩

theorem storeKept_counts (s : State) : StoreKept .counts s ↔ PageInv s ∧ CountInv s :=
  ⟨fun h => ⟨(pageInv_iff s).mpr (h.pages nofun), h.counts rfl⟩, fun h => ⟨nofun, fun _ => (pageInv_iff s).mp h.1, fun _ => h.2⟩⟩

theorem StoreKept.step {a : Aspect} {s t : State} (h : StoreKept a s) (hstep : step s = .next t) : StoreKept a t :=
  step_keeps (P := StoreKept a) (fun _ _ h => h.same rfl rfl) (fun _ _ h => h.same rfl rfl) (fun c _ h => h.work c) hstep h

end Sys2Proof.Machine

/-! PROOFS. The pending list, the alert queue and the results keep their limits, and alert ids stay distinct (R112, R114, R130, R187; the
last two parts of O58). -/

namespace Sys2Proof.Machine

/-! ## The next alert id (R114) -/

/-- The id `k` places on from an id, from 65,535 back to 1. -/
def idAfter (n k : Nat) : Nat := (n - 1 + k) % 65535 + 1

theorem idAfter_range (n k : Nat) : 1 ≤ idAfter n k ∧ idAfter n k ≤ 65535 := by
  unfold idAfter
  omega

theorem idAfter_one {n : Nat} (h : 1 ≤ n ∧ n ≤ 65535) : (if n ≥ 65535 then 1 else n + 1) = idAfter n 1 := by
  unfold idAfter
  split <;> omega

theorem idAfter_idAfter (n k : Nat) : idAfter (idAfter n 1) k = idAfter n (k + 1) := by
  unfold idAfter
  omega

theorem idAfter_inj {n j k : Nat} (hj : j ≤ 17) (hk : k ≤ 17) (h : idAfter n j = idAfter n k) : j = k := by
  unfold idAfter at h
  omega

/-- The next id is some places on; every id between is held, and it is too only if the search has run out. -/
theorem nextAlertId_eq (held : List Nat) (fuel : Nat) {n : Nat} (h : 1 ≤ n ∧ n ≤ 65535) :
    ∃ k, nextAlertId held (fuel + 1) n = idAfter n k ∧ 1 ≤ k ∧ k ≤ fuel + 1 ∧ (∀ j, 1 ≤ j → j < k → idAfter n j ∈ held) ∧
      (idAfter n k ∈ held → k = fuel + 1) := by
  induction fuel generalizing n with
  | zero =>
    refine ⟨1, ?_, le_rfl, le_rfl, fun j hj hk => absurd hj (by omega), fun _ => rfl⟩
    simp only [nextAlertId, idAfter_one h, ite_self]
  | succ fuel ih =>
    rw [nextAlertId, idAfter_one h]
    by_cases used : held.contains (idAfter n 1) = true
    · obtain ⟨k, hk, one, le, between, out⟩ := ih (idAfter_range n 1)
      rw [if_pos used]
      refine ⟨k + 1, by rw [hk, idAfter_idAfter], by omega, by omega, fun j hj hlt => ?_, fun hm => ?_⟩
      · by_cases first : j = 1
        · rw [first]
          exact List.contains_iff_mem.mp used
        · have := between (j - 1) (by omega) (by omega)
          rwa [idAfter_idAfter, Nat.sub_add_cancel hj] at this
      · rw [← idAfter_idAfter] at hm
        have := out hm
        omega
    · rw [if_neg used]
      exact ⟨1, rfl, le_rfl, by omega, fun j hj hk => absurd hj (by omega), fun hm => absurd (List.contains_iff_mem.mpr hm) used⟩

/-- Among 17 places one is not held by 16 entries: the next id is new, and another than the present one. -/
theorem nextAlertId_fresh {held : List Nat} (few : held.length ≤ 16) {n : Nat} (h : 1 ≤ n ∧ n ≤ 65535) :
    nextAlertId held 17 n ∉ held ∧ nextAlertId held 17 n ≠ n ∧ 1 ≤ nextAlertId held 17 n ∧ nextAlertId held 17 n ≤ 65535 := by
  obtain ⟨k, hk, one, le, between, out⟩ := nextAlertId_eq held 16 h
  rw [hk]
  refine ⟨fun hm => ?_, fun same => ?_, idAfter_range n k⟩
  · have last := out hm
    have once : ((List.range 17).map fun j => idAfter n (j + 1)).Nodup := by
      refine List.Nodup.map_on (fun i hi j hj he => ?_) List.nodup_range
      have := idAfter_inj (by simp at hi; omega) (by simp at hj; omega) he
      omega
    have inside : ((List.range 17).map fun j => idAfter n (j + 1)) ⊆ held := by
      intro x hx
      obtain ⟨j, hj, rfl⟩ := List.mem_map.mp hx
      have hj : j < 17 := List.mem_range.mp hj
      by_cases final : j = 16
      · subst final
        rwa [last] at hm
      · exact between (j + 1) (by omega) (by omega)
    have := (List.subperm_of_subset once inside).length_le
    simp at this
    omega
  · unfold idAfter at same
    omega

/-! ## The queue and the results -/

/-- The queue and the results in their limits, and, where `ids` is asked, the ids as `IdInv` has them. -/
structure QueueKept (ids : Prop) (a : AlertScheduler) : Prop where
  queue : a.queue.length ≤ 16
  results : a.results.length ≤ 8
  distinct : ids → (a.queue.map Entry.id).Nodup
  fresh : ids → a.idCounter ∉ a.queue.map Entry.id
  counter : ids → 1 ≤ a.idCounter ∧ a.idCounter ≤ 65535
  ids : ids → ∀ e ∈ a.queue, 1 ≤ e.id ∧ e.id ≤ 65535

namespace QueueKept

variable {ids : Prop} {s t : State} {a b : AlertScheduler}

theorem same (h : QueueKept ids a) (queue : b.queue = a.queue) (results : b.results = a.results) (counter : b.idCounter = a.idCounter) :
    QueueKept ids b := by
  constructor
  case queue => exact queue ▸ h.queue
  case results => exact results ▸ h.results
  case distinct => exact queue ▸ h.distinct
  case fresh => exact queue ▸ counter ▸ h.fresh
  case counter => exact counter ▸ h.counter
  case ids => exact queue ▸ h.ids

/-- An entry changed in place keeps its id. -/
theorem updEntry (h : QueueKept ids s.al) (id : Nat) {f : Entry → Entry} (hf : ∀ x, x.id = id → (f x).id = x.id) :
    QueueKept ids (updEntry id f s).al := by
  have same : ((Machine.updEntry id f s).al.queue.map Entry.id) = s.al.queue.map Entry.id := by
    simp only [Machine.updEntry, State.modAl, List.map_map]
    refine List.map_congr_left fun x _ => ?_
    simp only [Function.comp]
    split
    · next here => exact hf x here
    · rfl
  constructor
  case queue => simpa [Machine.updEntry, State.modAl] using h.queue
  case results => exact h.results
  case distinct => exact fun hi => same ▸ h.distinct hi
  case fresh => exact fun hi => same ▸ h.fresh hi
  case counter => exact h.counter
  case ids =>
    intro hi e he
    obtain ⟨x, hx, rfl⟩ := List.mem_map.mp he
    have := h.ids hi x hx
    split
    · next here => rwa [hf x here]
    · exact this

/-- An entry leaves the queue for the results. -/
theorem outcome (h : QueueKept ids s.al) (e : Entry) (o : AlertState) (w : Bool) : QueueKept ids (outcome e o w s).al := by
  have sub : (s.al.queue.filter fun x => x.id != e.id).Sublist s.al.queue := List.filter_sublist
  rw [outcome_eq, raise_al]
  constructor
  case queue => exact sub.length_le.trans h.queue
  case results =>
    have := h.results
    unfold withResult
    dsimp only
    split <;> simp <;> omega
  case distinct => exact fun hi => (sub.map _).nodup (h.distinct hi)
  case fresh => exact fun hi hm => h.fresh hi ((sub.map _).subset hm)
  case counter => exact h.counter
  case ids => exact fun hi x hx => h.ids hi x (sub.subset hx)

/-- An entry with the id that the counter gave up joins a queue that has room. -/
theorem join (h : QueueKept ids s.al) {e : Entry} (room : s.al.queue.length < 16)
    (new : ids → e.id ∉ s.al.queue.map Entry.id ∧ e.id ≠ s.al.idCounter ∧ 1 ≤ e.id ∧ e.id ≤ 65535) :
    QueueKept ids (joinQueue e s).al := by
  have al : (joinQueue e s).al = { s.al with queue := s.al.queue ++ [e] } := by
    rw [joinQueue, writeAlert_eq]
    rfl
  rw [al]
  constructor
  case queue => simpa using room
  case results => exact h.results
  case distinct =>
    intro hi
    rw [List.map_append]
    exact List.nodup_append.mpr ⟨h.distinct hi, List.nodup_singleton _, fun x hx y hy he => (new hi).1 (by simp_all)⟩
  case fresh =>
    intro hi hm
    obtain hm | hm := by simpa using hm
    · exact h.fresh hi (by simpa using hm)
    · exact (new hi).2.1 hm.symm
  case counter => exact h.counter
  case ids =>
    intro hi x hx
    obtain hx | hx := by simpa using hx
    · exact h.ids hi x hx
    · exact hx ▸ (new hi).2.2

/-- The id counter goes on to an id that no entry holds. -/
theorem advance (h : QueueKept ids s.al) : QueueKept ids { s.al with idCounter := nextId s } := by
  have next (hi : ids) := nextAlertId_fresh (held := s.al.queue.map Entry.id) (by simpa using h.queue) (h.counter hi)
  exact
    { queue := h.queue, results := h.results, distinct := h.distinct, fresh := fun hi => (next hi).1
      counter := fun hi => (next hi).2.2, ids := h.ids }

/-- A creation takes the id that no entry holds, and no more than the queue's places. -/
theorem createEntry (h : QueueKept ids s.al) (c : AlertClass) (j : Subject) (text : List Byte) :
    QueueKept ids (createEntry c j text s).al := by
  have advanced : QueueKept ids (s.modAl fun a => { a with idCounter := nextId s }).al := h.advance
  have new (hi : ids) : (newEntry s c j text).id ∉ s.al.queue.map Entry.id ∧ (newEntry s c j text).id ≠ nextId s ∧
      1 ≤ (newEntry s c j text).id ∧ (newEntry s c j text).id ≤ 65535 :=
    ⟨h.fresh hi, (nextAlertId_fresh (by simpa using h.queue) (h.counter hi)).2.1.symm, h.counter hi⟩
  by_cases room : s.al.queue.length < 16
  · have joined : Machine.createEntry c j text s = joinQueue (newEntry s c j text) (s.modAl fun a => { a with idCounter := nextId s }) := by
      unfold Machine.createEntry
      exact if_pos room
    rw [joined]
    exact advanced.join room new
  · cases hv : displaceable s.al.queue c with
    | none =>
      rw [createEntry_displaced c j text (not_lt.mp room) hv]
      exact advanced.outcome _ _ _
    | some v =>
      rw [createEntry_displacing c j text (not_lt.mp room) hv]
      have left := advanced.outcome v .displaced true
      have queue : (Machine.outcome v .displaced true (s.modAl fun a => { a with idCounter := nextId s })).al.queue =
          s.al.queue.filter fun x => x.id != v.id := by rw [outcome_eq, raise_al]; rfl
      have counter : (Machine.outcome v .displaced true (s.modAl fun a => { a with idCounter := nextId s })).al.idCounter = nextId s := by
        rw [outcome_eq, raise_al]
        rfl
      refine left.join ?_ fun hi => ?_
      · have fewer : (s.al.queue.filter fun x => x.id != v.id).length < s.al.queue.length :=
          List.length_filter_lt_length_iff_exists.mpr ⟨v, (displaceable_mem hv).1, by simp⟩
        have := h.queue
        rw [queue]
        omega
      · rw [queue, counter]
        exact ⟨fun hm => (new hi).1 ((List.filter_sublist.map _).subset hm), (new hi).2⟩

end QueueKept

/-- The queue and the results of a state in their limits. -/
def AlertsKept (ids : Prop) (s : State) : Prop := QueueKept ids s.al

namespace AlertsKept

variable {ids : Prop} {s t : State} (h : AlertsKept ids s)

include h

theorem same (hal : t.al = s.al) : AlertsKept ids t := by
  unfold AlertsKept
  rw [hal]
  exact h

/-- What changes neither the queue, nor the results, nor the id counter. -/
theorem rest (queue : t.al.queue = s.al.queue) (results : t.al.results = s.al.results) (counter : t.al.idCounter = s.al.idCounter) :
    AlertsKept ids t := QueueKept.same h queue results counter

theorem writeAlert (j : Subject) (a : AlertState) (c : AlertClass) : AlertsKept ids (writeAlert j a c s) :=
  h.same (by rw [writeAlert_eq])

theorem offerAlert (c : AlertClass) (j : Subject) : AlertsKept ids (offerAlert c j s) := by
  unfold Machine.offerAlert
  split
  · split
    · exact h.rest rfl rfl rfl
    · exact QueueKept.updEntry h _ fun _ _ => rfl
  · exact QueueKept.createEntry h c j []

theorem quakeAlert (n : Nat) : AlertsKept ids (quakeAlert n s) := by
  unfold Machine.quakeAlert
  split
  · exact keeps_ite (P := AlertsKept ids) (QueueKept.createEntry h _ _ _) h
  · exact h

theorem strongReport (n : Nat) : AlertsKept ids (strongReport n s) := by
  have raised (i : Nat) : AlertsKept ids (updEntry i (fun x => { x with cls := .q1 }) s) := QueueKept.updEntry h i fun _ _ => rfl
  unfold Machine.strongReport
  split
  · split
    · exact h
    · split
      · exact h.rest rfl rfl rfl
      · exact (raised _).writeAlert _ _ _
  · split
    · exact keeps_ite (P := AlertsKept ids) h (QueueKept.createEntry h _ _ _)
    · exact h

theorem sohCheck : AlertsKept ids (sohCheck s) := by
  unfold Machine.sohCheck
  split
  · exact keeps_ite (P := AlertsKept ids) ((h.offerAlert _ _).rest rfl rfl rfl) h
  · exact h

theorem changeGrade (g : Grade) : AlertsKept ids (changeGrade g s) := by
  have raised (f : TimeBase → TimeBase) : AlertsKept ids (raise .timeGrade (s.modTb f)) := h.same (by simp)
  unfold Machine.changeGrade
  dsimp only
  exact keeps_ite h (keeps_ite ((raised _).offerAlert _ _) (raised _))

theorem growU (n : Nat) : AlertsKept ids (growU n s) := by
  have set (f : TimeBase → TimeBase) : AlertsKept ids (s.modTb f) := h.same rfl
  unfold Machine.growU
  dsimp only
  exact keeps_ite (keeps_ite ((set _).changeGrade _) (set _)) h

theorem afterStep (old : Nat) : AlertsKept ids (afterStep old s) := by
  have closed : AlertsKept ids (closePassedWindows old s) := h.rest rfl rfl rfl
  unfold Machine.afterStep
  exact closed.sohCheck.same (by simp)

theorem toWatchClock : AlertsKept ids (toWatchClock s) := by
  have off : AlertsKept ids ((s.modTb fun t => { t with clock := .watch }).modAl fun a => { a with windows := [] }) := h.rest rfl rfl rfl
  unfold Machine.toWatchClock
  exact keeps_ite (off.changeGrade _) off

theorem gaspCheck : AlertsKept ids (gaspCheck s) := by
  have ended : AlertsKept ids (endGasp s) := (h.same (by simp)).toWatchClock
  unfold Machine.gaspCheck
  split
  · exact keeps_ite ended h
  · exact h

end AlertsKept

end Sys2Proof.Machine

/-! PROOFS. The limits of the lists through every command, and O58 (R112, R114, R130, R187). -/

namespace Sys2Proof.Machine

/-! ## The alert queue through every command -/

namespace AlertsKept

variable {ids : Prop} {s t : State} (h : AlertsKept ids s)

include h

theorem modTb (f : TimeBase → TimeBase) : AlertsKept ids (s.modTb f) := h.same rfl

theorem modPt (f : PowerTier → PowerTier) : AlertsKept ids (s.modPt f) := h.same rfl

theorem closeWindow (f : Nat) : AlertsKept ids (closeWindow f s) := h.rest rfl rfl rfl

theorem raise (f : AttnFlag) : AlertsKept ids (raise f s) := h.same (raise_al s f)

theorem syncModem : AlertsKept ids (syncModem s) := h.same (syncModem_al s)

theorem wakeAtTime : AlertsKept ids (wakeAtTime s) := h.same (wakeAtTime_al s)

theorem markStep : AlertsKept ids (markStep s) := h.same (by simp)

/-! ### Time -/

theorem stepPulse (sec : Nat) (θ : Int) : AlertsKept ids (stepPulse sec θ s) := by
  unfold Machine.stepPulse
  have set (f : TimeBase → TimeBase) : AlertsKept ids ((s.setTime ⟨sec, 0⟩).modTb f) := h.same rfl
  exact ((((set _).changeGrade _).modTb _).markStep).afterStep _

theorem usePulse (θ : Int) : AlertsKept ids (usePulse θ s) := by
  have used (f g : TimeBase → TimeBase) (k : Grade) : AlertsKept ids ((Machine.changeGrade k (s.modTb f)).modTb g) :=
    ((h.modTb f).changeGrade k).modTb g
  have learned (x : State) (hx : AlertsKept ids x) : AlertsKept ids (learnDrift x) := hx.same (by simp)
  unfold Machine.usePulse
  exact keeps_ite (learned _ (used _ _ _)) (used _ _ _)

theorem pulseEdge : AlertsKept ids (pulseEdge s) := by
  have counted (f g : TimeBase → TimeBase) : AlertsKept ids ((s.modTb f).modTb g) := h.same rfl
  unfold Machine.pulseEdge acceptPulse rejectPulse
  dsimp only
  split
  · exact keeps_ite (keeps_ite (keeps_ite (keeps_ite (counted _ _) ((h.modTb _).usePulse _))
      (keeps_ite ((h.modTb _).stepPulse _ _) ((h.modTb _).usePulse _))) (counted _ _)) (counted _ _)
  · exact counted _ _

theorem loseReference : AlertsKept ids (loseReference s) := (h.changeGrade _).modTb _

theorem mainSecond : AlertsKept ids (mainSecond s) := by
  unfold Machine.mainSecond
  have steered (b : Option DriftBin) : AlertsKept ids (holdoverSteer b (s.modClk fun c => { c with watch := ⟨c.time.sec, 0⟩ })) :=
    h.same (by simp)
  exact ((steered _).growU _).sohCheck.wakeAtTime

theorem watchSecond : AlertsKept ids (watchSecond s) := ((h.growU _).sohCheck).wakeAtTime

theorem timeSet (p : List Byte) : AlertsKept ids (Machine.timeSet p s).2 := by
  have set (t : Time) (n : Nat) : AlertsKept ids (setStationTime t n s) := by
    unfold setStationTime
    have moved (f : TimeBase → TimeBase) : AlertsKept ids ((s.setTime t).modTb f) := h.same rfl
    exact ((((moved _).changeGrade _).modTb _).markStep).afterStep _
  unfold Machine.timeSet
  split
  · exact h
  · split
    · exact h
    · exact set _ _

theorem returnToMain : AlertsKept ids (returnToMain s) := by
  have set (f : TimeBase → TimeBase) : AlertsKept ids ((s.setTime s.clk.watch.toTime).modTb f) := h.same rfl
  unfold Machine.returnToMain
  exact (keeps_ite (P := AlertsKept ids) (set _) (keeps_ite ((set _).changeGrade _) ((set _).changeGrade _))).afterStep _

/-! ### Attempts -/

theorem settleEntry (ok : Bool) (x : Attempt) (e : Entry) : AlertsKept ids (settleEntry ok x e s) := by
  have left (y : State) (hy : AlertsKept ids y) (e : Entry) : AlertsKept ids (leaveQueue ok x.upgrade e y) := by
    have gone (o : AlertState) (w : Bool) : AlertsKept ids (outcome e o w y) := QueueKept.outcome hy e o w
    unfold leaveQueue
    exact keeps_ite (P := AlertsKept ids) (QueueKept.createEntry (gone _ _) _ _ _) (gone _ _)
  have back (y : State) (hy : AlertsKept ids y) (e : Entry) : AlertsKept ids (returnToQueue x.upgrade e y) := by
    unfold returnToQueue
    have changed (f : Entry → Entry) (hf : ∀ x, (f x).id = x.id) : AlertsKept ids (updEntry e.id f y) :=
      QueueKept.updEntry hy e.id fun x _ => hf x
    exact (changed (fun z => { z with cls := if x.upgrade then .q1 else e.cls }) fun _ => rfl).writeAlert _ _ _
  have follow (y : State) (hy : AlertsKept ids y) (b : Bool) (e : Entry) : AlertsKept ids (followOn b e x.followOn y) := by
    unfold followOn
    split
    · exact keeps_ite (P := AlertsKept ids) (hy.offerAlert _ _) (QueueKept.updEntry hy _ fun _ _ => rfl)
    · exact hy
  have counted : AlertsKept ids (updEntry (afterAttempt ok e).id (fun _ => afterAttempt ok e) s) :=
    QueueKept.updEntry h _ fun _ hx => hx.symm
  unfold Machine.settleEntry
  exact follow _ (keeps_ite (left _ counted _) (back _ counted _)) _ _

theorem endAttempt (ok : Bool) : AlertsKept ids (endAttempt ok s) := by
  have idle : AlertsKept ids (s.modAl fun x => { x with attempt := none }) := h.rest rfl rfl rfl
  have ended (y : State) (hy : AlertsKept ids y) (f : Nat) : AlertsKept ids (Machine.gaspCheck (Machine.syncModem (Machine.closeWindow f y))) :=
    (hy.closeWindow f).syncModem.gaspCheck
  unfold Machine.endAttempt
  split
  · dsimp only
    split
    · exact ended _ (idle.settleEntry _ _ _) _
    · exact ended _ idle _
  · exact h

theorem modemReceives (b : Byte) : AlertsKept ids (modemReceives s b) := by
  have set (y : State) (hy : AlertsKept ids y) (f : AlertScheduler → AlertScheduler) (queue : (f y.al).queue = y.al.queue)
      (results : (f y.al).results = y.al.results) (counter : (f y.al).idCounter = y.al.idCounter) : AlertsKept ids (y.modAl f) :=
    hy.rest queue results counter
  have stray (y : State) (hy : AlertsKept ids y) : AlertsKept ids (strayFrame y) := set y hy _ rfl rfl rfl
  have taken (k x : Byte) (body : List Byte) (y : State) (hy : AlertsKept ids y) : AlertsKept ids (takeModemFrame k x body y) := by
    unfold takeModemFrame
    split
    · split
      · split
        · exact stray y hy
        · exact keeps_ite (set y hy _ rfl rfl rfl) (keeps_ite (hy.endAttempt _) (stray y hy))
        · exact keeps_ite (hy.endAttempt _) (keeps_ite (hy.endAttempt _) (stray y hy))
      · exact stray y hy
    · exact stray y hy
  have go (r : ModemRx) : AlertsKept ids (s.modAl fun a => { a with rx := r }) := set s h _ rfl rfl rfl
  have complete (f : List Byte) : AlertsKept ids (completeModemFrame f (s.modAl fun a => { a with rx := .hunt })) :=
    keeps_ite (taken _ _ _ _ (go _)) (go _)
  have byte : AlertsKept ids (modemByte s b) := by
    unfold modemByte
    dsimp only
    split
    · exact keeps_ite (go _) h
    · exact keeps_ite (go _) (keeps_ite h (go _))
    · exact keeps_ite (go _) (keeps_ite (complete _) (go _))
  exact keeps_ite byte h

theorem transmitSent : AlertsKept ids (Machine.transmitSent s) := by
  unfold Machine.transmitSent
  split
  · exact keeps_ite (P := AlertsKept ids) (h.rest rfl rfl rfl) h
  · exact h

theorem issueAfter (mbf : Bool) : AlertsKept ids (issueAfter mbf s) := by
  have started (y : State) (hy : AlertsKept ids y) (f : Nat) (e : Entry) : AlertsKept ids (startAttempt f e y) := by
    unfold startAttempt
    have flying : AlertsKept ids (updEntry e.id (fun x => { x with inFlight := true }) y) := QueueKept.updEntry hy _ fun _ _ => rfl
    exact (flying.writeAlert _ _ _).rest rfl rfl rfl
  have checked (y : State) (hy : AlertsKept ids y) (x : Decided) : AlertsKept ids (issueChecks x mbf y) := by
    have closed := hy.closeWindow x.frame
    have skipped : AlertsKept ids (y.modAl fun a => { a with mbfSkips := inc32 a.mbfSkips }) := hy.rest rfl rfl rfl
    unfold issueChecks
    refine keeps_ite closed (keeps_ite closed (keeps_ite closed (keeps_ite (skipped.closeWindow _) ?_)))
    split
    · exact started y hy _ _
    · exact closed
  have taken (x : Decided) : AlertsKept ids (s.modAl fun a => { a with decided := some { x with taken := true } }) := h.rest rfl rfl rfl
  unfold Machine.issueAfter takeIssue
  split
  · exact (checked _ (taken _) _).syncModem
  · exact h

theorem decideUplink : AlertsKept ids (decideUplink s) := by
  unfold Machine.decideUplink
  dsimp only
  exact keeps_ite (keeps_ite (h.closeWindow _).syncModem h) (h.rest rfl rfl rfl)

theorem railMark : AlertsKept ids (railMark s) := by
  unfold Machine.railMark
  have opened (f : Nat) : AlertsKept ids (openWindow f s) := h.rest rfl rfl rfl
  exact keeps_ite (opened _).syncModem h

/-! ### Events -/

theorem openEvent (onset : Time) (d : Nat) (trigger : Tri Bool) (external : Bool) :
    AlertsKept ids (openEvent onset d trigger external s) := by
  unfold Machine.openEvent
  dsimp only
  refine AlertsKept.raise (AlertsKept.quakeAlert ?_ _) _
  exact h.same (by simp)

theorem evalVote : AlertsKept ids (evalVote s) := by
  have opened : AlertsKept ids (openByVote s) := by
    unfold openByVote
    split
    · exact h.openEvent _ _ _ _
    · exact h
  have post : AlertsKept ids (toPost s) := h.same (by simp)
  have again : AlertsKept ids (reopen s) := h.same (by simp)
  unfold Machine.evalVote
  refine keeps_ite h ?_
  split
  · exact h
  · exact keeps_ite opened h
  · exact keeps_ite h post
  · exact keeps_ite again h

theorem closeEvent (endTime : Option Time) (truncated : Bool) (final : DetectorState) :
    AlertsKept ids (closeEvent endTime truncated final s) := h.same (by
  unfold Machine.closeEvent
  dsimp only
  rw [heaterDecide_al, raise_al]
  split <;> simp)

theorem truncateEvent (final : DetectorState) : AlertsKept ids (truncateEvent final s) := keeps_ite (h.closeEvent _ _ _) h

theorem deliveryStart (prev : Option Time) : AlertsKept ids (deliveryStart prev s) := by
  have closed (p q : Bool) : AlertsKept ids
      (if p = true then Machine.closeEvent prev false .idle s
      else if q = true then Machine.closeEvent prev true .idle (rebaseline s)
      else s) :=
    keeps_ite (h.closeEvent _ _ _) (keeps_ite (AlertsKept.closeEvent (h.same (by simp)) _ _ _) h)
  have aux (x : State) (hx : AlertsKept ids x) : AlertsKept ids (x.modTu fun t => { t with auxPending := false }) := hx.same rfl
  have opened (x : State) (hx : AlertsKept ids x) : AlertsKept ids (openExternal x) := by
    unfold openExternal
    split
    · next t _ =>
      have opened := hx.openEvent t x.tu.delivery (.replicate false) true
      exact opened.same (toPost_al _)
    · exact hx
  unfold Machine.deliveryStart
  dsimp only
  exact keeps_ite (keeps_ite (opened _ (aux _ (closed _ _))) (aux _ (closed _ _))) (closed _ _)

theorem triggerPass (c : Channel) (y : Int) (t : Time) (restart : Bool) : AlertsKept ids (triggerPass c y t restart s) := by
  have upd (f : TriggerChannel → TriggerChannel) (x : State) (hx : AlertsKept ids x) : AlertsKept ids (updChannel c f x) := hx.same rfl
  have joined (x : State) (hx : AlertsKept ids x) : AlertsKept ids (joinTriggerSet c x) := by
    have recorded (n : Nat) (f : EventRecord → EventRecord) : AlertsKept ids (updRecord n f x) := hx.same (by simp)
    unfold joinTriggerSet
    split
    · exact keeps_ite ((recorded _ _).quakeAlert _) (recorded _ _)
    · exact hx
  have peak (x : State) (n : Nat) (hx : AlertsKept ids x) : AlertsKept ids (takePeak c n t x) := by
    have recorded (n : Nat) (f : EventRecord → EventRecord) : AlertsKept ids (updRecord n f x) := hx.same (by simp)
    have flagged (n : Nat) (f : EventRecord → EventRecord) (g : EventFlags → EventFlags) :
        AlertsKept ids (setEventFlag n g (updRecord n f x)) := hx.same (by simp)
    unfold takePeak
    split
    · split
      · split
        · exact keeps_ite (keeps_ite ((flagged _ _ _).strongReport _) (recorded _ _)) hx
        · exact hx
      · exact hx
    · exact hx
  have began : AlertsKept ids (beginDelivery t s) := by
    unfold beginDelivery
    dsimp only
    refine keeps_ite (AlertsKept.deliveryStart ?_ _) h
    exact h.same rfl
  have begun : AlertsKept ids (if restart = true then updChannel c enterWarmup (beginDelivery t s) else beginDelivery t s) :=
    keeps_ite (upd _ _ began) began
  unfold Machine.triggerPass
  dsimp only
  generalize (if restart = true then updChannel c enterWarmup (beginDelivery t s) else beginDelivery t s) = x at begun ⊢
  have passed := upd (channelPass x.tu (charValue y) t) _ begun
  generalize updChannel c (channelPass x.tu (charValue y) t) x = z at passed ⊢
  have vote (b : Bool) : AlertsKept ids (Machine.evalVote (if b = true then joinTriggerSet c z else z)) :=
    (keeps_ite (joined _ passed) passed).evalVote
  exact upd _ _ (keeps_ite (peak _ _ (vote _)) (vote _))

theorem nextFilterPass : AlertsKept ids (nextFilterPass s) := by
  have pass (x : State) (c : Channel) (v : Int) (t : Time) (hx : AlertsKept ids x) : AlertsKept ids (channelFilterPass c v t x) := by
    have ctx (f : FilterContext → FilterContext) : AlertsKept ids (modContext c f x) := hx.same rfl
    exact AlertsKept.triggerPass (keeps_ite ((ctx _).raise _) (ctx _)) _ _ _ _
  unfold Machine.nextFilterPass
  split
  · exact h
  · exact h.same rfl
  · exact pass _ _ _ _ (h.same rfl)

/-! ### The tier and the resets -/

theorem applyEnabled (old new : Tier) : AlertsKept ids (applyEnabled old new s) := by
  have one (x : State) (c : Channel) (hx : AlertsKept ids x) : AlertsKept ids (channelAtTier old new x c) := by
    unfold channelAtTier channelLeaves channelJoins
    exact keeps_ite (hx.same (by simp)) (keeps_ite (hx.same (by simp)) hx)
  have all : AlertsKept ids (channels.foldl (channelAtTier old new) s) :=
    List.foldlRecOn (motive := AlertsKept ids) _ _ h fun x hx c _ => one x c hx
  unfold Machine.applyEnabled
  exact keeps_ite all all.evalVote

theorem tierChange (startUp : Bool) (new : Tier) : AlertsKept ids (tierChange startUp new s) := by
  have railed : AlertsKept ids (hostRailForTier s.pt.tier new (s.modPt fun p => { p with tier := new, tierTime := s.now })) :=
    h.same (by simp)
  have announced : AlertsKept ids (announceTier startUp new s) := by
    unfold announceTier
    exact (keeps_ite (P := AlertsKept ids) railed (railed.raise _)).offerAlert _ _
  have sensed : AlertsKept ids (sensorForTier new (announceTier startUp new s)) := announced.same (by simp)
  have detected (x : State) (hx : AlertsKept ids x) : AlertsKept ids (detectorForTier s.pt.tier new x) := by
    have set (y : State) (hy : AlertsKept ids y) (f : TriggerUnit → TriggerUnit) : AlertsKept ids (y.modTu f) := hy.same rfl
    unfold detectorForTier
    exact keeps_ite (set _ (hx.truncateEvent _) _) (keeps_ite (set _ hx _) hx)
  unfold Machine.tierChange
  dsimp only
  generalize sensorForTier new (announceTier startUp new s) = x at sensed ⊢
  have decided : AlertsKept ids (heaterDecide false
      (patrolForTier s.pt.tier new (Machine.applyEnabled s.pt.tier new (detectorForTier s.pt.tier new x)))) :=
    ((detected x sensed).applyEnabled s.pt.tier new).same (by simp)
  generalize heaterDecide false _ = y at decided ⊢
  have window (y : State) (hy : AlertsKept ids y) : AlertsKept ids (entryWindow y) := by
    have opened (f : Nat) : AlertsKept ids (openWindow f y) := hy.rest rfl rfl rfl
    unfold entryWindow
    exact keeps_ite (keeps_ite (opened _) (opened _)) hy
  have entered (y : State) (hy : AlertsKept ids y) : AlertsKept ids (enterHibernate y) := hy.same rfl
  have windowed := keeps_ite (P := AlertsKept ids) (c := s.pt.tier = .full ∧ (new = .conserve ∨ new = .survive)) (window _ decided) decided
  exact (AlertsKept.syncModem (keeps_ite (entered _ windowed) windowed)).gaspCheck

theorem tierScan (startUp : Bool) : AlertsKept ids (tierScan startUp s) := by
  have leaving : AlertsKept ids (beginExit s) := h.same rfl
  unfold Machine.tierScan hibernateScan
  exact keeps_ite (keeps_ite (keeps_ite ((h.modPt _).tierChange _ _) (keeps_ite leaving h)) h) (keeps_ite h (h.tierChange _ _))

theorem scan (raw : RawScan) : AlertsKept ids (scan raw s) := by
  have tested : AlertsKept ids (lowCurrentTest (chargeWork (chargeStep s.hm.interval (takeScan raw s).hm.readings) (takeScan raw s))) :=
    h.same (by simp)
  unfold Machine.scan
  exact (tested.tierScan false).same (by simp)

theorem completeExit : AlertsKept ids (completeExit s) := by
  have returned := h.returnToMain.modPt fun p => { p with exitMark := false }
  unfold Machine.completeExit
  exact keeps_ite (returned.tierChange _ _) returned.toWatchClock

omit h in
theorem reset (p : UplinkParams) (now : Time) : QueueKept ids (resetAlerts p now) where
  queue := Nat.zero_le _
  results := Nat.zero_le _
  distinct _ := List.nodup_nil
  fresh _ := List.not_mem_nil
  counter _ := ⟨le_rfl, by simp [resetAlerts]⟩
  ids _ := nofun

omit h in
theorem powerOn (raw : RawScan) (s : State) : AlertsKept ids (powerOn raw s) := by
  have started (x : State) (hx : x.al = resetAlerts (loadedSettings s.sm).uplink (bootScanned raw s).now) :
      AlertsKept ids (startStore (bootRails (bootTier (bootScanned raw s)) x)) := by
    unfold AlertsKept
    rw [(startStore_changes _).al (by simp), bootRails_eq]
    simp only [setHostRail_al, State.modPt_al, hx]
    exact reset _ _
  have offered := (started { resetBlocks (loadedSettings s.sm) (bootTier (bootScanned raw s)) (bootScanned raw s) with
    hm := (bootScanned raw s).hm } rfl).offerAlert .pwr (.tier (bootTier (bootScanned raw s)))
  have decided : AlertsKept ids (heaterDecide false (lowCurrentTest (Machine.offerAlert .pwr (.tier (bootTier (bootScanned raw s)))
      (startStore (bootRails (bootTier (bootScanned raw s)) { resetBlocks (loadedSettings s.sm) (bootTier (bootScanned raw s))
        (bootScanned raw s) with hm := (bootScanned raw s).hm }))))) := offered.same (by simp)
  have entered (y : State) (hy : AlertsKept ids y) : AlertsKept ids (enterHibernate y) := hy.same rfl
  unfold Machine.powerOn
  exact (AlertsKept.syncModem (keeps_ite (entered _ decided) decided)).gaspCheck.same (endScan_al _ _)

omit h in
theorem pinReset (raw : RawScan) (s : State) : AlertsKept ids (pinReset raw s) := by
  have loaded : AlertsKept ids (pinLoaded s) := by
    unfold AlertsKept pinLoaded
    dsimp only
    rw [syncModem_al, (startStore_changes _).al (by simp)]
    exact reset _ _
  have tested : AlertsKept ids (lowCurrentTest (chargeWork id (takeScan raw (pinLoaded s)))) := loaded.same (by simp)
  have tier (x : State) (hx : AlertsKept ids x) : AlertsKept ids (pinTierScan x) := by
    unfold pinTierScan
    exact keeps_ite ((hx.tierScan true).offerAlert _ _) (hx.tierScan true)
  unfold Machine.pinReset
  exact (tier _ tested).same (by simp)

/-! ### Every command -/

theorem settingsDefaults (p : List Byte) : AlertsKept ids (Machine.settingsDefaults p s).2 := by
  have filters (x : State) := ChangesOnly.foldl defaultFilter_changes channels x
  have uplink (x : State) (hx : AlertsKept ids x) : AlertsKept ids (setUplink defaultUplink x) := hx.rest rfl rfl rfl
  have detected : AlertsKept ids (setDetect defaultDetect s) := h.same rfl
  unfold Machine.settingsDefaults
  split
  · exact h
  · exact (uplink _ detected).same (by simp [applyDefaults, setHeater, setTier, (filters _).al])

theorem work (c : Instr) : AlertsKept ids (work c s) := by
  have answered := fun x e (t : State) (h : AlertsKept ids t) => (h.same rfl : AlertsKept ids (answer x e t))
  have frame (hb : Block.al ∉ footprint c) : AlertsKept ids (Machine.work c s) :=
    h.same (by rw [(work_changes c s).al (by simp [hb])])
  have served {kind : Byte} {f : List Byte → State → List Byte × State} (hf : ∀ p, AlertsKept ids (f p s).2) :
      AlertsKept ids (serve kind f s) := serve_keeps answered hf h
  have request {n : Nat} {kind : Byte} {f : List Byte → State → List Byte × State} (hf : ∀ p, AlertsKept ids (f p s).2) :
      AlertsKept ids (serve kind (withLength n f) s) := served (withLength_keeps (fun p _ => hf p) h)
  cases c <;> dsimp only [Machine.work] at frame ⊢
  case powerOnReset d raw => exact .powerOn raw s
  case pinReset d raw => exact .pinReset raw s
  case refpPulse => exact keeps_ite (P := AlertsKept ids) h.pulseEdge h
  case referenceLoss => exact whileMainIf_keeps (P := AlertsKept ids) h.loseReference h
  case wholeSecond => exact keeps_ite h.mainSecond h
  case watchWholeSecond => exact keeps_ite h.watchSecond h
  case filterPass => exact keeps_ite (P := AlertsKept ids) h.nextFilterPass h
  case railWindowMark => exact keeps_ite h.railMark h
  case uplinkDecision => exact keeps_ite h.decideUplink h
  case issueInstant d mbf =>
    have lines : AlertsKept ids (s.modLines fun l => { l with mbf := mbf }) := h.same rfl
    exact lines.issueAfter mbf
  case transmitSent => exact keeps_ite (P := AlertsKept ids) h.transmitSent h
  case taken | refused | done | modemFrameDiscard =>
    exact List.foldlRecOn (motive := AlertsKept ids) _ _ h fun x hx b _ => hx.modemReceives b
  case modemGapTimeout => exact keeps_ite (P := AlertsKept ids) (h.rest rfl rfl rfl) h
  case modemFramingError => exact keeps_ite (P := AlertsKept ids) (h.rest rfl rfl rfl) h
  case awaitTakenTimeout | awaitDoneTimeout => exact whileMainIf_keeps (P := AlertsKept ids) (h.endAttempt _) h
  case housekeepingScan d raw => exact keeps_ite (h.scan raw) h
  case lastGaspLimit => exact h.gaspCheck
  case settleEnd => exact keeps_ite h.completeExit h
  case settingsSaveComplete d agrees =>
    have saved (f : SettingsMemory → SettingsMemory) (g : StationLink → StationLink) : AlertsKept ids ((s.modSm f).modSl g) := h.same rfl
    unfold completeSave
    split
    · exact (saved _ _).gaspCheck
    · exact h
  case settingsDefaults => exact request h.settingsDefaults
  case timeSet => exact request h.timeSet
  case alertPost =>
    refine served fun p => ?_
    unfold Machine.alertPost
    split
    · exact h
    · split
      · exact h
      · exact QueueKept.createEntry h _ _ _
  case alertCancel =>
    refine request fun p => ?_
    unfold Machine.alertCancel
    split
    · exact h
    · split
      · exact h
      · have left (e : Entry) : AlertsKept ids (outcome e .cancelled true s) := QueueKept.outcome h _ _ _
        exact (left _).gaspCheck
  case uplinkSet =>
    have set (x : UplinkParams) : AlertsKept ids (setUplink x s) := h.rest rfl rfl rfl
    refine served fun p => ?_
    unfold Machine.uplinkSet uplinkSetStatus
    dsimp only
    split
    · exact h
    · exact set _
  all_goals exact frame (by simp [footprint])

end AlertsKept

theorem AlertsKept.step {ids : Prop} {s t : State} (h : AlertsKept ids s) (hstep : step s = .next t) : AlertsKept ids t :=
  step_keeps (P := AlertsKept ids) (fun _ _ h => h.same rfl) (fun _ _ h => h.same rfl) (fun c _ h => h.work c) hstep h

end Sys2Proof.Machine

/-! PROOFS. The pending list keeps its limit (R187), and with the store and the alert queue O58. -/

namespace Sys2Proof.Machine

/-- At most 4 requests pend. -/
def ListKept (s : State) : Prop := s.sl.list.length ≤ 4

namespace ListKept

variable {s t : State} (h : ListKept s)

include h

theorem same (hl : t.sl.list = s.sl.list) : ListKept t := by
  unfold ListKept
  rw [hl]
  exact h

theorem modPt (f : PowerTier → PowerTier) : ListKept (s.modPt f) := h

/-- A change of the link that adds no request. -/
theorem modSl {f : StationLink → StationLink} (hf : (f s.sl).list.length ≤ s.sl.list.length) : ListKept (s.modSl f) := Nat.le_trans hf h

theorem setHostRail (r : HostRail) : ListKept (setHostRail r s) := by
  have placed (f : PowerTier → PowerTier) (g : PowerTier → PowerTier) : ListKept ((s.modPt f).modPt g) := h
  unfold Machine.setHostRail hostRailOff hostRailOn
  exact keeps_ite ((placed _ _).modSl (Nat.zero_le _)) (keeps_ite ((placed _ _).modSl (Nat.zero_le _)) (h.modPt _))

theorem wakeHost (c : WakeCause) : ListKept (wakeHost c s) := by
  have woken (r : HostRail) : ListKept (Machine.setHostRail r (s.modPt fun p => { p with wakeTime := none, lastWake := some c })) :=
    (h.modPt _).setHostRail r
  unfold Machine.wakeHost
  split
  · exact woken _
  · exact woken _
  all_goals exact h

theorem raise (f : AttnFlag) : ListKept (raise f s) := by
  have flagged : ListKept (s.modSl fun l => { l with flags := l.flags ||| f.bit }) := h
  exact keeps_ite (P := ListKept) flagged (flagged.wakeHost _)

theorem woken (w : Woken s t) : ListKept t :=
  w.keeps (P := ListKept) (fun _ _ _ hsl hx => hx.same (by rw [hsl])) (fun _ f hx => hx.raise f) (fun _ c hx => hx.wakeHost c)
    (fun _ _ hsl _ hx => hx.same (by rw [hsl])) h

omit h in
theorem moveFirst_length (p : Progress) (e : AtReplyEnd) (l : List Request) : (moveFirst p e l).length = l.length := by
  induction l with
  | nil => rfl
  | cons r l ih =>
    unfold moveFirst
    split <;> simp [ih]

theorem answer (reply : List Byte) (e : AtReplyEnd) : ListKept (answer reply e s) := by
  exact h.modSl (moveFirst_length ..).le

/-! ## The tier and the resets -/

theorem hostRailForTier (old new : Tier) : ListKept (hostRailForTier old new s) := by
  have put (r : HostRail) : ListKept (railByTier r s) :=
    (h.modPt _).setHostRail r
  unfold Machine.hostRailForTier
  split
  · refine keeps_ite ?_ h
    split
    · exact put _
    · exact put _
    · exact put _
    · exact put _
    all_goals exact h
  · exact put _
  all_goals
    refine keeps_ite ?_ (keeps_ite (h.wakeHost _) h)
    split
    · exact put _
    · exact put _
    all_goals exact h

theorem tierChange (startUp : Bool) (new : Tier) : ListKept (tierChange startUp new s) := by
  refine ListKept.woken ?_ (tierChange_woken startUp new s)
  have railed : ListKept (Machine.hostRailForTier s.pt.tier new (s.modPt fun p => { p with tier := new, tierTime := s.now })) :=
    (h.modPt _).hostRailForTier _ _
  have announced : ListKept (announceTier startUp new s) :=
    ListKept.woken (keeps_ite (P := ListKept) railed (railed.raise _)) (offerAlert_woken _ _ _)
  exact announced.same (by simp)

theorem tierScan (startUp : Bool) : ListKept (tierScan startUp s) := by
  have ended : ListKept (s.modPt fun p => { p with gasp := none }) := h
  have leaving : ListKept (beginExit s) := h
  unfold Machine.tierScan hibernateScan
  exact keeps_ite (keeps_ite (keeps_ite (ended.tierChange _ _) (keeps_ite leaving h)) h) (keeps_ite h (h.tierChange _ _))

theorem scan (raw : RawScan) : ListKept (scan raw s) :=
  ListKept.woken (ListKept.tierScan (h.woken (((takeScan_woken s raw).trans (chargeWork_woken _ _)).trans (lowCurrentTest_woken _))) false)
    ((heaterDecide_woken _ false).trans (endScan_woken _ _))

theorem completeExit : ListKept (completeExit s) := by
  have returned : ListKept ((returnToMain s).modPt fun p => { p with exitMark := false }) :=
    (h.woken (returnToMain_woken s)).modPt _
  exact keeps_ite (P := ListKept) (returned.tierChange _ _) (returned.woken (toWatchClock_woken _))

omit h in
theorem powerOn (raw : RawScan) (s : State) : ListKept (powerOn raw s) := by
  obtain ⟨x, -, hsl, hw⟩ := powerOn_woken raw s
  refine ListKept.woken ?_ hw
  have empty : ListKept x := by
    unfold ListKept
    rw [hsl]
    exact Nat.zero_le _
  rw [bootRails_eq]
  exact (empty.modPt _).setHostRail _

omit h in
theorem pinReset (raw : RawScan) (s : State) : ListKept (pinReset raw s) := by
  have loaded : ListKept (pinLoaded s) := by
    unfold pinLoaded
    dsimp only
    exact ListKept.woken (Nat.zero_le _) ((startStore_woken _).trans (syncModem_woken _))
  have tested := loaded.woken (((takeScan_woken _ raw).trans (chargeWork_woken _ id)).trans (lowCurrentTest_woken _))
  have tier (x : State) (hx : ListKept x) : ListKept (pinTierScan x) :=
    keeps_ite (P := ListKept) ((hx.tierScan true).woken (offerAlert_woken _ _ _)) (hx.tierScan true)
  exact (tier _ tested).woken ((heaterDecide_woken _ false).trans (endScan_woken _ _))

/-! ## The link -/

theorem linkByte (b : Byte) : ListKept (linkByte s b) := by
  have go (r : LinkRx) : ListKept (s.modSl fun l => { l with rx := r }) := h
  have discarded : ListKept (discardLinkFrame s) := h
  have valid (tag kind : Byte) (payload : List Byte) : ListKept (validFrame tag kind payload s) := by
    unfold validFrame takeFrame
    split
    · next room =>
      unfold ListKept
      have room : s.sl.list.length < 4 := room
      simpa using room
    · have counted (f : StationLink → StationLink) (g : PowerTier → PowerTier) (k : StationLink → StationLink)
          (hf : (f s.sl).list = s.sl.list) (hk : (k (f s.sl)).list = (f s.sl).list) : ListKept (((s.modSl f).modPt g).modSl k) :=
        h.same (hk.trans hf)
      exact ListKept.raise (counted _ _ _ rfl rfl) _
  unfold Machine.linkByte
  split
  · exact keeps_ite (go _) h
  · exact keeps_ite (go _) (keeps_ite h (go _))
  · exact keeps_ite (go _) discarded
  · exact go _
  · exact go _
  · exact keeps_ite (go _) (go _)
  · exact go _
  · exact keeps_ite (valid _ _ _) discarded

theorem linkBytes (bytes : List Byte) : ListKept (bytes.foldl Machine.linkByte s) :=
  List.foldlRecOn (motive := ListKept) bytes _ h fun _ hx b _ => hx.linkByte b

theorem completeReply : ListKept (completeReply s) := by
  unfold Machine.completeReply
  split
  · next r rest _ hl =>
    have left : ListKept (s.modSl fun l => { l with tx := none, list := rest }) := h.modSl (by simp [hl])
    unfold atReplyEnd
    split
    · exact left
    · split
      · exact left.modPt _
      all_goals exact left
    · exact left.modSl (Nat.zero_le _)
  · exact h

theorem supervise : ListKept (supervise s) := by
  have counted (x : State) (hx : ListKept x) : ListKept (countCycle x) := hx
  unfold Machine.supervise
  split
  · exact counted _ ((h.modPt _).setHostRail _)
  · exact counted _ ((h.modPt _).setHostRail _)
  · exact counted _ (h.setHostRail _)
  all_goals exact h

theorem hostSleep (p : List Byte) : ListKept (Machine.hostSleep p s).2 := by
  have slept (w : Option Nat) : ListKept (takeSleep w s) := (h.modPt _).modSl (by simp)
  unfold Machine.hostSleep
  split
  · exact h
  · split
    · exact h
    · split
      · exact h
      · split
        · exact h
        · split
          · exact slept _
          · exact slept _
          all_goals exact h

theorem work (c : Instr) : ListKept (work c s) := by
  have answered := fun x e (t : State) (h : ListKept t) => h.answer x e
  have changes := work_changes c s
  have frame (hb : Block.sl ∉ footprint c) : ListKept (Machine.work c s) :=
    (work_effect c s).keeps answered fun t ht => h.same (by rw [ht.sl hb])
  have served {kind : Byte} {f : List Byte → State → List Byte × State} (hf : ∀ p, ListKept (f p s).2) :
      ListKept (serve kind f s) := serve_keeps answered hf h
  have request {n : Nat} {kind : Byte} {f : List Byte → State → List Byte × State} (hf : ∀ p, ListKept (f p s).2) :
      ListKept (serve kind (withLength n f) s) := served (withLength_keeps (fun p _ => hf p) h)
  cases c <;> dsimp only [Machine.work] at frame changes ⊢
  case powerOnReset d raw => exact .powerOn raw s
  case pinReset d raw => exact .pinReset raw s
  case refpPulse => exact keeps_ite (P := ListKept) (h.woken (pulseEdge_woken s)) h
  case referenceLoss => exact whileMainIf_keeps (P := ListKept) (h.woken (loseReference_woken s)) h
  case wholeSecond => exact keeps_ite (h.woken (mainSecond_woken s)) h
  case watchWholeSecond => exact keeps_ite (h.woken (watchSecond_woken s)) h
  case sampleStrobe => exact h.woken (takeStrobe_woken s)
  case digitizerFrame d bytes => exact keeps_ite (h.woken (.foldl digitizerByte_woken bytes s)) h
  case filterPass => exact keeps_ite (P := ListKept) (h.woken (nextFilterPass_woken s)) h
  case patrolRead d xs =>
    exact ListKept.woken h (t := patrolAfter (applyUpsets s xs)) (.trans (.same (t := applyUpsets s xs) rfl rfl)
      (.ite ((patrolRead_woken _).trans (.same rfl rfl)) .rfl))
  case taken | refused | done | modemFrameDiscard => exact h.woken (receiveModem_woken s _)
  case awaitTakenTimeout | awaitDoneTimeout => exact whileMainIf_keeps (P := ListKept) (h.woken (endAttempt_woken s _)) h
  case housekeepingScan d raw => exact keeps_ite (h.scan raw) h
  case lastGaspLimit => exact h.woken (gaspCheck_woken s)
  case settleEnd => exact keeps_ite h.completeExit h
  case graceDeadline =>
    unfold endGrace
    split
    · exact keeps_ite (h.setHostRail _) h
    all_goals exact h
  case dozeDeadline =>
    unfold endDoze
    split
    · exact keeps_ite (h.setHostRail _) h
    all_goals exact h
  case cycleEnd =>
    unfold endCycle
    split
    · exact keeps_ite (h.setHostRail _) h
    all_goals exact h
  case hostSilenceExpiry => exact keeps_ite h.supervise h
  case linkFrame d bytes => exact keeps_ite (h.linkBytes bytes) h
  case linkGapTimeout => exact keeps_ite (keeps_ite (P := ListKept) h h) h
  case linkFrameDiscard d b stopLow => exact keeps_ite (keeps_ite (keeps_ite (P := ListKept) h h) (h.linkByte b)) h
  case replyStart d hrdy =>
    have lines : ListKept (s.modLines fun l => { l with hrdy := hrdy }) := h
    unfold startReply
    split
    · split
      · exact keeps_ite (lines.modSl le_rfl) lines
      all_goals exact lines
    · exact lines
  case replyComplete => exact h.completeReply
  case settingsSave =>
    have begun : ListKept (beginSave s) := ListKept.modSl (s := s.modSm _) h (moveFirst_length ..).le
    unfold Machine.settingsSave
    split
    · exact keeps_ite (keeps_ite begun (h.answer _ _)) h
    · exact h
  case settingsSaveComplete d agrees =>
    have saved (f : SettingsMemory → SettingsMemory) (l : List Byte) : ListKept ((s.modSm f).modSl fun x =>
        { x with executing := false, list := x.list.map (finishRequest l) }) := ListKept.modSl (s := s.modSm f) h (by simp)
    unfold completeSave
    split
    · exact (saved _ _).woken (gaspCheck_woken _)
    · exact h
  case restartLink =>
    refine serveWith_keeps answered (fun p => ?_) h
    unfold Machine.restartLink
    split
    · exact h
    · split
      · exact h.modSl le_rfl
      · exact h
  case hostSleep => exact serveWith_keeps answered h.hostSleep h
  case restartDetection =>
    refine serveWith_keeps answered (withLength_keeps (fun p _ => ?_) h) h
    unfold restartDetectionRequest
    split
    · exact h.woken (restartDetection_woken s)
    · exact h
  case attnRead | attnMask => exact request fun p => h
  case timeSet => exact request fun p => h.woken (timeSet_woken s p)
  case detectArm => exact request fun p => h.woken (detectArm_woken s p)
  case waveRead d xs =>
    have upset : ListKept (applyUpsets s xs) := h
    exact serve_keeps answered (withLength_keeps (fun p _ => upset.woken (waveRead_woken _ p)) upset) upset
  case alertPost => exact served fun p => h.woken (alertPost_woken s p)
  case alertCancel => exact request fun p => h.woken (alertCancel_woken s p)
  all_goals exact frame (by simp [footprint])

end ListKept

/-- Settles O58: the work of every command keeps the store sound in each of its aspects, and the lists and the ids in their limits. -/
theorem stepKeepsMemoryAndLists : Obligations.StepKeepsMemoryAndLists := by
  refine ⟨fun s t hs hstep => ?_, fun s t hs hstep => ?_, fun s t hp hc hstep => ?_, fun s t hs hstep => ?_, fun s t hl hi hstep => ?_⟩
  · exact (storeKept_memory t).mp (StoreKept.step ((storeKept_memory s).mpr hs) hstep)
  · exact (storeKept_pages t).mp (StoreKept.step ((storeKept_pages s).mpr hs) hstep)
  · exact ((storeKept_counts t).mp (StoreKept.step ((storeKept_counts s).mpr ⟨hp, hc⟩) hstep)).2
  · obtain ⟨list, queue, results⟩ := hs
    have alerts : AlertsKept False s := ⟨queue, results, nofun, nofun, nofun, nofun⟩
    have link := step_keeps (P := ListKept) (fun _ _ h => h) (fun _ _ h => h) (fun c _ h => h.work c) hstep list
    have kept := alerts.step hstep
    exact ⟨link, kept.queue, kept.results⟩
  · obtain ⟨-, queue, results⟩ := hl
    have alerts : AlertsKept True s :=
      ⟨queue, results, fun _ => hi.distinct, fun _ => hi.fresh, fun _ => hi.counter, fun _ => hi.ids⟩
    have kept := alerts.step hstep
    exact ⟨kept.distinct trivial, kept.fresh trivial, kept.counter trivial, kept.ids trivial⟩

end Sys2Proof.Machine

/-! PROOFS. What a change of tier meets after its rails are set: of PT and the link only raised flags, until the last gasp is entered
and EN_MODEM follows its demand (R170 to R173, R192). -/

namespace Sys2Proof.Machine

@[simp] theorem setHostRail_linkFlags (h : HostRail) (s : State) :
    (setHostRail h s).sl.flags = s.sl.flags ∧ (setHostRail h s).sl.wakeMask = s.sl.wakeMask := by
  unfold setHostRail
  dsimp only
  (repeat' split) <;> exact ⟨rfl, rfl⟩

@[simp] theorem wakeHost_linkFlags (c : WakeCause) (s : State) :
    (wakeHost c s).sl.flags = s.sl.flags ∧ (wakeHost c s).sl.wakeMask = s.sl.wakeMask := by
  unfold wakeHost
  split
  · exact setHostRail_linkFlags _ _
  · exact setHostRail_linkFlags _ _
  all_goals exact ⟨rfl, rfl⟩

theorem raise_wakeMask (f : AttnFlag) (s : State) : (raise f s).sl.wakeMask = s.sl.wakeMask := by
  rw [raise_eq]
  split
  · rfl
  · exact (wakeHost_linkFlags .attention _).2

/-- A flag that stands stays. -/
theorem Woken.flags_stand {s t : State} (h : Woken s t) {f : BitVec 8} (hf : s.sl.flags &&& f ≠ 0) : t.sl.flags &&& f ≠ 0 := by
  refine h.keeps (P := fun x => x.sl.flags &&& f ≠ 0) (fun _ _ _ hsl hx => by rwa [hsl]) (fun x g hx => ?_)
    (fun x c hx => by rwa [(wakeHost_linkFlags c x).1]) (fun _ _ hsl _ hx => by rwa [hsl]) hf
  rw [raise_flags]
  generalize x.sl.flags = a at hx ⊢
  generalize g.bit = b
  contrapose! hx
  refine BitVec.eq_of_getLsbD_eq fun i _ => ?_
  have bit := congrArg (·.getLsbD i) hx
  simp only [BitVec.getLsbD_and, BitVec.getLsbD_or] at bit ⊢
  revert bit
  cases a.getLsbD i <;> simp

/-- A host that neither sleeps nor dozes stays as it is. -/
theorem Woken.host_awake {s t : State} (h : Woken s t) (ha : s.pt.host ≠ .asleep ∧ ∀ x, s.pt.host ≠ .dozing x) :
    t.pt.host = s.pt.host :=
  have woken (x : State) (c : WakeCause) (hx : x.pt.host = s.pt.host) : (wakeHost c x).pt.host = s.pt.host := by
    rw [wakeHost_awake c (by rwa [hx]), hx]
  h.keeps (P := fun x => x.pt.host = s.pt.host) (fun _ _ hpt _ hx => by rwa [hpt])
    (fun x f hx => by
      rw [raise_eq]
      split
      · exact hx
      · exact woken _ .attention hx)
    woken (fun _ _ _ ⟨_, _, _, hpt⟩ hx => by rw [hpt]; exact hx) (Eq.refl _)

/-- From `s` to `t` the power tier controller and the link have met nothing but raised flags; the other parts of the state may have
changed. -/
inductive Flagged : State → State → Prop where
  | same {s t : State} (hpt : t.pt = s.pt) (hsl : t.sl = s.sl) : Flagged s t
  | flag (s : State) (f : AttnFlag) : Flagged s (raise f s)
  | trans {s t u : State} (h : Flagged s t) (k : Flagged t u) : Flagged s u

namespace Flagged

variable {s t u : State}

theorem rfl : Flagged s s := .same (Eq.refl _) (Eq.refl _)

theorem raised (h : Flagged s t) (f : AttnFlag) : Flagged s (raise f t) := h.trans (.flag t f)

theorem ite {c : Prop} [Decidable c] (h : Flagged s t) (k : Flagged s u) : Flagged s (if c then t else u) := keeps_ite h k

theorem foldl {α : Type} {f : State → α → State} (h : ∀ s a, Flagged s (f s a)) (l : List α) (s : State) :
    Flagged s (l.foldl f s) :=
  List.foldlRecOn (motive := Flagged s) l f .rfl fun t ht a _ => ht.trans (h t a)

/-- A property that equal parts and raised flags keep holds on. -/
theorem keeps {P : State → Prop} (same : ∀ s t : State, t.pt = s.pt → t.sl = s.sl → P s → P t)
    (flag : ∀ s f, P s → P (raise f s)) (h : Flagged s t) (hs : P s) : P t := by
  induction h with
  | same hpt hsl => exact same _ _ hpt hsl hs
  | flag s f => exact flag s f hs
  | trans _ _ ih ik => exact ik (ih hs)

theorem woken (h : Flagged s t) : Woken s t :=
  h.keeps (P := Woken s) (fun _ _ hpt hsl hs => hs.trans (.same hpt hsl)) (fun x f hs => hs.trans (.flag x f)) .rfl

theorem wakeMask (h : Flagged s t) : t.sl.wakeMask = s.sl.wakeMask :=
  h.keeps (P := fun x => x.sl.wakeMask = s.sl.wakeMask) (fun _ _ _ hsl hx => by rwa [hsl])
    (fun x f hx => by rwa [raise_wakeMask]) (Eq.refl _)

/-- A host that neither sleeps nor dozes is not woken, and PT stays whole. -/
theorem awake (h : Flagged s t) (ha : s.pt.host ≠ .asleep ∧ ∀ x, s.pt.host ≠ .dozing x) : t.pt = s.pt :=
  h.keeps (P := fun x => x.pt = s.pt) (fun _ _ hpt _ hx => hpt.trans hx)
    (fun x f hx => by
      rw [raise_eq]
      split
      · exact hx
      · exact (congrArg State.pt (wakeHost_awake (s := { x with sl := { x.sl with flags := x.sl.flags ||| f.bit } }) .attention
          (by simpa [hx] using ha))).trans hx) (Eq.refl _)

/-- The last-gasp record and the modem rail stay. -/
theorem gasp (h : Flagged s t) : t.pt.gasp = s.pt.gasp :=
  h.keeps (P := fun x => x.pt.gasp = s.pt.gasp) (fun _ _ hpt _ hx => by rwa [hpt]) (fun x f hx => by rwa [raise_gasp]) (Eq.refl _)

theorem enModem (h : Flagged s t) : t.pt.enModem = s.pt.enModem :=
  h.keeps (P := fun x => x.pt.enModem = s.pt.enModem) (fun _ _ hpt _ hx => by rwa [hpt]) (fun x f hx => by rwa [raise_enModem])
    (Eq.refl _)

end Flagged

/-! ## The steps of a tier change -/

section

variable (s : State)

theorem joinQueue_flagged (e : Entry) : Flagged s (joinQueue e s) := .same (by simp) (by simp)

theorem outcome_flagged (e : Entry) (o : AlertState) (w : Bool) : Flagged s (outcome e o w s) := by
  unfold outcome
  cases w
  · exact (Flagged.same (by simp) (by simp)).raised _
  · exact (Flagged.same (by simp) (by simp)).raised _

theorem createEntry_flagged (c : AlertClass) (j : Subject) (x : List Byte) : Flagged s (createEntry c j x s) := by
  have counted (f : AlertScheduler → AlertScheduler) : Flagged s (s.modAl f) := .same rfl rfl
  unfold createEntry
  dsimp only
  split
  · exact .same (by simp) (by simp)
  · split
    · exact ((counted _).trans (outcome_flagged _ _ _ _)).trans (joinQueue_flagged _ _)
    · exact (counted _).trans (outcome_flagged _ _ _ _)

theorem quakeAlert_flagged (n : Nat) : Flagged s (quakeAlert n s) := by
  unfold quakeAlert
  split
  · exact .ite (createEntry_flagged s _ _ _) .rfl
  · exact .rfl

theorem ringNeed_flagged (c : Channel) : Flagged s (ringNeed c s) := by
  unfold ringNeed
  dsimp only
  split
  · refine .same ?_ ?_ <;> (repeat' split) <;> simp
  · refine .ite (.same ?_ ?_) (.raised (.same ?_ ?_) _) <;> (repeat' split) <;> simp

theorem storeJoin_flagged (c : Channel) : Flagged s (storeJoin c s) :=
  Flagged.trans (t := s.modWs _) (.same rfl rfl) (ringNeed_flagged _ c)

theorem storeClose_flagged : Flagged s (storeClose s) := by
  refine .foldl (fun s c => ?_) _ s
  have closed (f : WaveStore → WaveStore) : Flagged s (storeJoin c (s.modWs f)) :=
    Flagged.trans (t := s.modWs f) (.same rfl rfl) (storeJoin_flagged _ c)
  unfold storeCloseChannel
  split
  · exact closed _
  · exact closed _
  all_goals exact .rfl

theorem openEvent_flagged (t : Time) (n : Nat) (set : Tri Bool) (ext : Bool) : Flagged s (openEvent t n set ext s) := by
  unfold openEvent
  exact (Flagged.trans (.same (by simp) (by simp)) (quakeAlert_flagged _ _)).raised _

theorem evalVote_flagged : Flagged s (evalVote s) := by
  have byVote : Flagged s (openByVote s) := by
    unfold openByVote
    split
    · exact openEvent_flagged s _ _ _ _
    · exact .rfl
  unfold evalVote
  refine .ite .rfl ?_
  split
  · exact .rfl
  · exact .ite byVote .rfl
  · exact .ite .rfl (.same (by simp) (by simp))
  · exact .ite (.same (by simp) (by simp)) .rfl

theorem heaterDecide_flagged (b : Bool) : Flagged s (heaterDecide b s) := .same (by simp) (by simp)

theorem closeEvent_flagged (t : Option Time) (trunc : Bool) (final : DetectorState) : Flagged s (closeEvent t trunc final s) := by
  have set (x : State) (f : TriggerUnit → TriggerUnit) : Flagged x (x.modTu f) := .same rfl rfl
  unfold closeEvent
  dsimp only
  refine (Flagged.raised (.trans (.trans (.same ?_ ?_) (storeClose_flagged _)) (set _ _)) _).trans (heaterDecide_flagged _ _)
  all_goals split <;> simp

theorem detectorForTier_flagged (old new : Tier) : Flagged s (detectorForTier old new s) := by
  have set (x : State) (f : TriggerUnit → TriggerUnit) : Flagged x (x.modTu f) := .same rfl rfl
  unfold detectorForTier truncateEvent
  exact .ite ((Flagged.ite (closeEvent_flagged s _ _ _) .rfl).trans (set _ _)) (.ite (set _ _) .rfl)

theorem channelAtTier_flagged (old new : Tier) (c : Channel) : Flagged s (channelAtTier old new s c) := by
  unfold channelAtTier channelLeaves channelJoins
  exact .ite (.same (by simp) (by simp)) (.ite (.trans (.same (by simp) (by simp)) (storeJoin_flagged _ c)) .rfl)

theorem applyEnabled_flagged (old new : Tier) : Flagged s (applyEnabled old new s) := by
  unfold applyEnabled
  have joined := Flagged.foldl (fun x c => channelAtTier_flagged x old new c) channels s
  exact .ite joined (joined.trans (evalVote_flagged _))

end

/-- The state of a change of tier when its rails are set. -/
def State.railed (s : State) (startUp : Bool) (new : Tier) : State := sensorForTier new (announceTier startUp new s)

/-- The change as the blocks take it: detector, channels, patrol, heater, and the entry window. -/
def State.blocksAtTier (s : State) (startUp : Bool) (new : Tier) : State :=
  let x := heaterDecide false (patrolForTier s.pt.tier new (applyEnabled s.pt.tier new (detectorForTier s.pt.tier new (s.railed startUp new))))
  if s.pt.tier = .full ∧ (new = .conserve ∨ new = .survive) then entryWindow x else x

theorem tierChange_eq (startUp : Bool) (new : Tier) (s : State) :
    tierChange startUp new s =
      gaspCheck (syncModem (if new = .hibernate then enterHibernate (s.blocksAtTier startUp new) else s.blocksAtTier startUp new)) := rfl

theorem blocksAtTier_flagged (startUp : Bool) (new : Tier) (s : State) :
    Flagged (s.railed startUp new) (s.blocksAtTier startUp new) := by
  have patrol (y : State) : Flagged y (patrolForTier s.pt.tier new y) := .same (by simp) (by simp)
  have window (y : State) : Flagged y (entryWindow y) := .same (by simp) (by simp)
  have blocks := (((detectorForTier_flagged (s.railed startUp new) s.pt.tier new).trans
    (applyEnabled_flagged _ s.pt.tier new)).trans (patrol _)).trans (heaterDecide_flagged _ false)
  exact .ite (blocks.trans (window _)) blocks

/-! ## The channels and the detector -/

section

variable (s : State)

@[simp] theorem openEvent_chans (t : Time) (n : Nat) (set : Tri Bool) (ext : Bool) :
    (openEvent t n set ext s).tu.chans = s.tu.chans := by
  simp [openEvent]

@[simp] theorem evalVote_chans : (evalVote s).tu.chans = s.tu.chans := by
  have byVote : (openByVote s).tu.chans = s.tu.chans := by
    unfold openByVote
    split
    · exact openEvent_chans s _ _ _ _
    · rfl
  unfold evalVote toPost reopen
  dsimp only
  (repeat' split) <;> simp [byVote]

/-- A decision of the heater moves of TU nothing but the quiet-window end. -/
theorem heaterDecide_tu (b : Bool) : ∃ q, (heaterDecide b s).tu = { s.tu with quietEnd := q } := by
  have switched (st : HeaterState) (x : State) (hx : x.tu = s.tu) : ∃ q, (switchHeater st x).tu = { s.tu with quietEnd := q } := by
    unfold switchHeater startQuiet
    dsimp only
    split
    · simp only [setCurrentFlag_tu, State.modSi_tu, State.modTu_tu, State.modHc_tu, hx]
      by_cases hq : s.tu.params.quietWindow = 0
      · exact ⟨s.tu.quietEnd, if_pos hq⟩
      · exact ⟨_, if_neg hq⟩
    · exact ⟨s.tu.quietEnd, hx⟩
  unfold heaterDecide
  dsimp only
  (repeat' split)
  · exact ⟨_, rfl⟩
  · exact ⟨_, rfl⟩
  · exact switched _ _ rfl
  · exact ⟨_, rfl⟩

@[simp] theorem heaterDecide_chans (b : Bool) : (heaterDecide b s).tu.chans = s.tu.chans := by
  obtain ⟨q, hq⟩ := heaterDecide_tu s b
  rw [hq]

@[simp] theorem heaterDecide_det (b : Bool) : (heaterDecide b s).tu.det = s.tu.det := by
  obtain ⟨q, hq⟩ := heaterDecide_tu s b
  rw [hq]

@[simp] theorem detectorForTier_chans (old new : Tier) : (detectorForTier old new s).tu.chans = s.tu.chans := by
  have closed (t : Option Time) (b : Bool) (x : DetectorState) : (closeEvent t b x s).tu.chans = s.tu.chans := by
    unfold closeEvent
    dsimp only
    split <;> simp
  unfold detectorForTier truncateEvent
  (repeat' split) <;> simp [closed]

/-- What a change of tier makes of a channel: a leaving one is DISABLED, a joining one goes to WARMUP (R49). -/
def TriggerChannel.atTier (ch : TriggerChannel) (was is : Bool) : TriggerChannel :=
  if was && !is then { ch with state := .disabled } else if !was && is then enterWarmup ch else ch

theorem channelAtTier_chans (old new : Tier) (c : Channel) :
    (channelAtTier old new s c).tu.chans =
      s.tu.chans.set c ((s.tu.chans.get c).atTier (enabledIn old c) (enabledIn new c)) := by
  have same : s.tu.chans = s.tu.chans.set c (s.tu.chans.get c) := by cases c <;> rfl
  unfold channelAtTier channelLeaves channelJoins TriggerChannel.atTier
  split
  · simp; rfl
  · split
    · simp; rfl
    · exact same

theorem applyEnabled_chan (old new : Tier) (c : Channel) :
    (applyEnabled old new s).tu.chans.get c = (s.tu.chans.get c).atTier (enabledIn old c) (enabledIn new c) := by
  have all : ((channels.foldl (channelAtTier old new) s).tu.chans.get c) =
      (s.tu.chans.get c).atTier (enabledIn old c) (enabledIn new c) := by
    simp only [channels, List.foldl, channelAtTier_chans]
    cases c <;> rfl
  unfold applyEnabled
  split
  · exact all
  · rwa [evalVote_chans]

end

@[simp] theorem patrolForTier_chans (old new : Tier) (s : State) : (patrolForTier old new s).tu.chans = s.tu.chans := by simp

theorem blocksAtTier_chan (s : State) (startUp : Bool) (new : Tier) (c : Channel) :
    (s.blocksAtTier startUp new).tu.chans.get c = (s.tu.chans.get c).atTier (enabledIn s.pt.tier c) (enabledIn new c) := by
  have decided (x : State) (h : x.tu.chans = s.tu.chans) :
      (heaterDecide false (patrolForTier s.pt.tier new (applyEnabled s.pt.tier new x))).tu.chans.get c =
        (s.tu.chans.get c).atTier (enabledIn s.pt.tier c) (enabledIn new c) := by
    rw [heaterDecide_chans, patrolForTier_chans, applyEnabled_chan, h]
  unfold State.blocksAtTier
  split
  · rw [entryWindow_tu]
    exact decided _ (by simp [State.railed])
  · exact decided _ (by simp [State.railed])

/-- What a change of tier makes of each channel (R49). -/
theorem tierChange_chan (s : State) (startUp : Bool) (new : Tier) (c : Channel) :
    (tierChange startUp new s).tu.chans.get c = (s.tu.chans.get c).atTier (enabledIn s.pt.tier c) (enabledIn new c) := by
  rw [tierChange_eq, gaspCheck_tu, syncModem_tu]
  split
  · exact blocksAtTier_chan s startUp new c
  · exact blocksAtTier_chan s startUp new c

theorem tierChange_warmup (s : State) (startUp : Bool) {new : Tier} (h : s.pt.tier = .hibernate) {c : Channel}
    (hc : c ∈ enabledChannels new) : ((tierChange startUp new s).tu.chans.get c).state = .warmup := by
  rw [tierChange_chan, h, (mem_enabledChannels new c).mp hc]
  rfl

/-! ## The rise from HIBERNATE -/

section

variable {s : State} {new : Tier} (h : s.pt.tier = .hibernate) (hn : new ≠ .hibernate)

include h

/-- In HIBERNATE no channel is enabled, so that a rise finds none TRIGGERED and the vote stays unmet. -/
theorem tierChange_det (startUp : Bool) (hv : s.tu.params.vote ≠ 0) (hd : ∀ c, (s.tu.chans.get c).state = .disabled)
    (hn : new ≠ .hibernate) : (tierChange startUp new s).tu.det = if s.tu.armed then .idle else .disarmed := by
  have idle (x : State) (hx : ∀ c, (x.tu.chans.get c).state ≠ .triggered) (hp : x.tu.params.vote ≠ 0)
      (hdet : x.tu.det = if s.tu.armed then .idle else .disarmed) : (evalVote x).tu.det = x.tu.det := by
    have none : triggeredCount x = 0 := by
      simp only [triggeredCount, List.length_eq_zero_iff, List.filter_eq_nil_iff, decide_eq_true_eq]
      exact fun c _ => hx c
    unfold evalVote
    split
    · rfl
    · next some =>
      have unmet : voteMet x = false := by
        simp only [voteMet, none, Nat.le_zero, decide_eq_false_iff_not]
        omega
      revert hdet
      cases s.tu.armed <;> intro hdet <;> simp [hdet, unmet]
  have followed (x : State) (hc : ∀ c, (x.tu.chans.get c).state = .disabled) (hp : x.tu.params.vote ≠ 0)
      (hdet : x.tu.det = if s.tu.armed then .idle else .disarmed) :
      (applyEnabled .hibernate new x).tu.det = if s.tu.armed then .idle else .disarmed := by
    have one (y : State) (c : Channel) : (channelAtTier .hibernate new y c).tu.det = y.tu.det ∧
        (channelAtTier .hibernate new y c).tu.params = y.tu.params := by
      unfold channelAtTier channelLeaves channelJoins
      (repeat' split) <;> simp [updChannel, TriggerUnit.modChan]
    have chan (c : Channel) : ((channels.foldl (channelAtTier .hibernate new) x).tu.chans.get c).state ≠ .triggered := by
      have all : ((channels.foldl (channelAtTier .hibernate new) x).tu.chans.get c) =
          (x.tu.chans.get c).atTier false (enabledIn new c) := by
        simp only [channels, List.foldl, channelAtTier_chans]
        cases c <;> rfl
      rw [all]
      unfold TriggerChannel.atTier
      cases enabledIn new c
      · simp [hc]
      · simp [enterWarmup]
    have det : (channels.foldl (channelAtTier .hibernate new) x).tu.det = x.tu.det := by
      simp only [channels, List.foldl, one]
    have params : (channels.foldl (channelAtTier .hibernate new) x).tu.params = x.tu.params := by
      simp only [channels, List.foldl, one]
    unfold applyEnabled
    split
    · exact det.trans hdet
    · exact (idle _ chan (by rwa [params]) (det.trans hdet)).trans (det.trans hdet)
  unfold tierChange
  simp only [gaspCheck_tu, syncModem_tu, if_neg hn, h, reduceCtorEq, false_and, if_false, heaterDecide_det]
  have patrol (x : State) : (patrolForTier .hibernate new x).tu = x.tu := by simp
  rw [patrol]
  refine followed _ ?_ ?_ ?_
  · simpa using hd
  · simpa [detectorForTier, hn] using hv
  · simp [detectorForTier, hn]

end

/-! ## PT after a change of tier -/

section

variable (s : State) (startUp : Bool) (new : Tier)

theorem hostRailForTier_settled (old : Tier) : (hostRailForTier old new s).pt.settled = s.pt.settled := by
  have rail (r : HostRail) : (railByTier r s).pt.settled = s.pt.settled := setHostRail_settled _ _
  unfold hostRailForTier
  (repeat' split) <;> simp [rail, wakeHost_settled]

theorem hostRailForTier_flags (old new : Tier) (s : State) : (hostRailForTier old new s).sl.flags = s.sl.flags := by
  have rail (r : HostRail) : (railByTier r s).sl.flags = s.sl.flags := (setHostRail_linkFlags _ _).1
  unfold hostRailForTier
  (repeat' split) <;> simp [rail]

theorem hostRailForTier_gasp (old : Tier) : (hostRailForTier old new s).pt.gasp = s.pt.gasp := by
  have rail (r : HostRail) : (railByTier r s).pt.gasp = s.pt.gasp := setHostRail_gasp _
  unfold hostRailForTier
  (repeat' split) <;> simp [rail]

/-- The fields of PT that its operations on the rails leave alone, after the change is announced. -/
theorem announceTier_settled :
    (announceTier startUp new s).pt.settled = ({ s.pt with tier := new, tierTime := s.now } : PowerTier).settled := by
  unfold announceTier
  dsimp only
  have offered (x : State) : (offerAlert .pwr (.tier new) x).pt.settled = x.pt.settled := (offerAlert_woken x _ _).settled
  rw [offered]
  split
  · exact hostRailForTier_settled _ _ _
  · rw [raise_settled]
    exact hostRailForTier_settled _ _ _

theorem announceTier_gasp : (announceTier startUp new s).pt.gasp = s.pt.gasp := by
  unfold announceTier
  dsimp only
  rw [offerAlert_gasp]
  split <;> simp [hostRailForTier_gasp]

theorem railed_settled (hn : new ≠ .hibernate) :
    (s.railed startUp new).pt.settled = ({ s.pt with tier := new, tierTime := s.now, enSens := true } : PowerTier).settled := by
  have announced := announceTier_settled s startUp new
  simp only [PowerTier.settled, Prod.mk.injEq] at announced
  obtain ⟨tier, time, params, cycles, -, mark⟩ := announced
  unfold State.railed sensorForTier
  simp [if_neg hn, PowerTier.settled, tier, time, params, cycles, mark]

theorem railed_gasp : (s.railed startUp new).pt.gasp = s.pt.gasp := by
  unfold State.railed sensorForTier
  (repeat' split) <;> simp [announceTier_gasp]

variable {s new}

/-- Without a last gasp, a change to a tier above HIBERNATE ends with the demand of the modem rail. -/
theorem tierChange_above (hn : new ≠ .hibernate) (hg : s.pt.gasp = none) :
    tierChange startUp new s = syncModem (s.blocksAtTier startUp new) := by
  rw [tierChange_eq, if_neg hn, gaspCheck_of_none]
  rw [syncModem_gasp, (blocksAtTier_flagged startUp new s).gasp, railed_gasp, hg]

theorem tierChange_fields (hn : new ≠ .hibernate) (hg : s.pt.gasp = none) {t : State} (ht : t = tierChange startUp new s) :
    t.pt.tier = new ∧ t.pt.tierTime = s.now ∧ t.pt.enSens = true ∧ t.pt.exitMark = s.pt.exitMark ∧ t.pt.gasp = none ∧
      t.pt.params = s.pt.params ∧ t.tb = s.tb ∧ t.clk = s.clk := by
  have settled := (tierChange_woken startUp new s).settled.trans (railed_settled s startUp new hn)
  rw [← ht] at settled
  simp only [PowerTier.settled, Prod.mk.injEq] at settled
  obtain ⟨tier, time, params, -, sens, mark⟩ := settled
  have above := ht.trans (tierChange_above startUp hn hg)
  refine ⟨tier, time, sens, mark, ?_, params, ?_, ?_⟩
  · rw [above, syncModem_gasp, (blocksAtTier_flagged startUp new s).gasp, railed_gasp, hg]
  · rw [above]
    unfold State.blocksAtTier State.railed
    split <;> simp
  · rw [ht, tierChange_clk]

/-- EN_MODEM as the new tier asks (R172). -/
theorem tierChange_modem (hn : new ≠ .hibernate) (hg : s.pt.gasp = none) {t : State} (ht : t = tierChange startUp new s) :
    t.pt.enModem = true ↔ t.pt.tier = .full ∨ t.al.windows ≠ [] ∨ t.al.attempt ≠ none := by
  have tier : t.pt.tier = new := (tierChange_fields startUp hn hg ht).1
  rw [tierChange_above startUp hn hg] at ht
  generalize s.blocksAtTier startUp new = x at ht
  have tierX : x.pt.tier = new := (syncModem_woken x).tier.symm.trans (ht ▸ tier)
  have demand : t.pt.enModem = modemDemand x := by
    rw [ht]
    unfold syncModem
    simp only [State.modPt_pt]
    (repeat' split) <;> simp_all
  have al : t.al = x.al := by rw [ht, syncModem_al]
  rw [demand, tier, al]
  unfold modemDemand
  rw [tierX]
  cases new
  case hibernate => exact absurd rfl hn
  all_goals simp [Option.isSome_iff_ne_none]

/-- A change of tier outside a start raises POWER_TIER. -/
theorem tierChange_flag {t : State} (ht : t = tierChange false new s) : t.sl.flags &&& 0x10 ≠ 0 := by
  have announced : (announceTier false new s).sl.flags &&& 0x10 ≠ 0 := by
    unfold announceTier
    exact (offerAlert_woken _ _ _).flags_stand (raise_flag_set _ .powerTier)
  rw [ht]
  exact (tierChange_woken false new s).flags_stand (by simpa using announced)

/-- The rise from HIBERNATE takes a host rail that was shed back by the tier (R177). -/
theorem tierChange_host (h : s.pt.tier = .hibernate) (hn : new ≠ .hibernate) (hh : s.pt.host = .shed) {t : State}
    (ht : t = tierChange startUp new s) : t.pt.host = if new = .survive then .shed else .on := by
  have rail (x : State) (hx : x.pt.host = .shed) :
      (hostRailForTier .hibernate new x).pt.host = if new = .survive then .shed else .on := by
    cases new
    case hibernate => exact absurd rfl hn
    all_goals simp [hostRailForTier, hx, railByTier, setHostRail, hostRailOn, HostRail.isOn]
  have announced : (announceTier startUp new s).pt.host = if new = .survive then .shed else .on := by
    have railed := rail (s.modPt fun p => { p with tier := new, tierTime := s.now }) hh
    unfold announceTier
    rw [h]
    generalize hostRailForTier .hibernate new _ = x at railed ⊢
    have awake : x.pt.host ≠ .asleep ∧ ∀ y, x.pt.host ≠ .dozing y := by
      rw [railed]
      split <;> simp
    exact ((Woken.ite .rfl (.flag x .powerTier)).trans (offerAlert_woken _ _ _)).host_awake awake |>.trans railed
  have sensed : (s.railed startUp new).pt.host = (announceTier startUp new s).pt.host := by
    unfold State.railed sensorForTier
    (repeat' split) <;> simp
  rw [ht, ((tierChange_woken startUp new s).host_awake ?_)]
  · exact sensed.trans announced
  · rw [show sensorForTier new (announceTier startUp new s) = s.railed startUp new from rfl, sensed, announced]
    split <;> simp

end

end Sys2Proof.Machine

/-! PROOFS. The end of the last gasp and the end of the settle (R17, R18, R169, R174, R176). -/

namespace Sys2Proof.Machine

section

variable {s : State}

theorem raise_awake (f : AttnFlag) (h : s.pt.host ≠ .asleep ∧ ∀ x, s.pt.host ≠ .dozing x) :
    raise f s = { s with sl := { s.sl with flags := s.sl.flags ||| f.bit } } := by
  rw [raise_eq]
  split
  · rfl
  · exact wakeHost_awake .attention h

theorem shed_awake {h : HostRail} (hh : h = .shed) : h ≠ .asleep ∧ ∀ x, h ≠ .dozing x := by simp [hh]

/-! ## The last gasp -/

theorem exec_lastGaspLimit (d : Elapsed) (hp : s.powered = true) : exec (.lastGaspLimit d) s = .next (gaspCheck (s.elapse d)) :=
  timed_powered s d gaspCheck hp

/-- The end of the last gasp with the host rail shed. -/
theorem endGasp_shed (ht : s.pt.tier = .hibernate) (hh : s.pt.host = .shed) :
    endGasp s =
      if s.tb.grade = .tracking ∨ s.tb.grade = .locked then
        { s with
          tb := { s.tb with clock := .watch, grade := .hold, rejectRun := if s.tb.grade = .locked then 0 else s.tb.rejectRun }
          al := { s.al with windows := [] }
          pt := { s.pt with gasp := none, enModem := false }
          sl := { s.sl with flags := s.sl.flags ||| AttnFlag.timeGrade.bit } }
      else
        { s with
          tb := { s.tb with clock := .watch }, al := { s.al with windows := [] }
          pt := { s.pt with gasp := none, enModem := false } } := by
  rw [endGasp_eq ht, toWatchClock_eq]
  split
  · exact raise_awake .timeGrade (shed_awake hh)
  · rfl

theorem endGasp_shed_fields (ht : s.pt.tier = .hibernate) (hh : s.pt.host = .shed) {t : State} (h : t = endGasp s) :
    ChangesOnly [.tb, .al, .pt, .sl] s t ∧
      t.pt = { s.pt with gasp := none, enModem := false } ∧ t.al = { s.al with windows := [] } ∧
      (s.tb.grade ≠ .tracking → s.tb.grade ≠ .locked → t.tb = { s.tb with clock := .watch } ∧ t.sl = s.sl) ∧
      (s.tb.grade = .tracking ∨ s.tb.grade = .locked →
        t.tb =
            { s.tb with
              clock := .watch, grade := .hold, rejectRun := if s.tb.grade = .locked then 0 else s.tb.rejectRun } ∧
          t.sl = { s.sl with flags := s.sl.flags ||| 0x08 }) := by
  rw [endGasp_shed ht hh] at h
  by_cases hg : s.tb.grade = .tracking ∨ s.tb.grade = .locked
  · rw [if_pos hg] at h
    subst h
    refine ⟨fun b hb => ?_, rfl, rfl, fun h1 h2 => absurd hg (by simp [h1, h2]), fun _ => ⟨rfl, rfl⟩⟩
    cases b <;> simp_all [Block.same]
  · rw [if_neg hg] at h
    subst h
    refine ⟨fun b hb => ?_, rfl, rfl, fun _ _ => ⟨rfl, rfl⟩, fun h => absurd h hg⟩
    cases b <;> simp_all [Block.same]

/-! ## The return to the main clock (R18) -/

theorem exec_settleEnd (d : Elapsed) (hp : s.powered = true) :
    exec (.settleEnd d) s = .next (if settleOver (s.elapse d) then completeExit (s.elapse d) else s.elapse d) :=
  timed_powered s d (fun s => if settleOver s then completeExit s else s) hp

/-- The grade at the end of the settle: UNSET stays, and u decides between HOLD and FREE. -/
def TimeBase.settledGrade (t : TimeBase) : Grade :=
  if t.grade = .unset then .unset else if t.u ≤ freeLimit then .hold else .free

/-- TB at the end of the settle. -/
def TimeBase.returned (t : TimeBase) (now : Time) : TimeBase :=
  { t with
    clock := .main, grade := t.settledGrade, labelRx := [], label := none, lastPulse := none, lossTimer := none, goodRun := 0
    rejectRun := 0, movedTo := some now }

theorem returnToMain_tb : (returnToMain s).tb = s.tb.returned s.clk.watch.toTime := by
  unfold returnToMain
  simp only [afterStep_tb]
  generalize hx : ((s.setTime s.clk.watch.toTime).modTb _) = x
  have tb : x.tb = { s.tb.returned s.clk.watch.toTime with grade := s.tb.grade } := by
    rw [← hx]
    rfl
  have to_ (g : Grade) (hu : g = .hold ∨ g = .free) (hg : s.tb.settledGrade = g) :
      (changeGrade g x).tb = s.tb.returned s.clk.watch.toTime := by
    rw [changeGrade_tb, tb]
    unfold TimeBase.returned
    rw [hg]
    split
    · next same =>
      dsimp only at same
      rw [same]
    · obtain h | h := hu <;> simp [h]
  have grade : x.tb.grade = s.tb.grade := by rw [tb]
  have u : x.tb.u = s.tb.u := by rw [tb]; rfl
  rw [grade, u]
  by_cases unset : s.tb.grade = .unset
  · rw [if_pos unset, tb]
    unfold TimeBase.returned TimeBase.settledGrade
    rw [if_pos unset, unset]
  · rw [if_neg unset]
    by_cases hu : s.tb.u ≤ freeLimit
    · rw [if_pos hu]
      exact to_ .hold (.inl rfl) (by rw [TimeBase.settledGrade, if_neg unset, if_pos hu])
    · rw [if_neg hu]
      exact to_ .free (.inr rfl) (by rw [TimeBase.settledGrade, if_neg unset, if_neg hu])

theorem changeGrade_flag {g : Grade} (h : g ≠ s.tb.grade) : (changeGrade g s).sl.flags &&& 0x08 ≠ 0 := by
  rw [changeGrade_eq, if_neg (Ne.symm h)]
  have raised := raise_flag_set (s.withTb (s.tb.graded g)) .timeGrade
  split
  · exact (offerAlert_woken _ _ _).flags_stand raised
  · exact raised

/-- A change of grade at the end of the settle raises TIME_GRADE. -/
theorem returnToMain_flag (h : s.tb.settledGrade ≠ s.tb.grade) : (returnToMain s).sl.flags &&& 0x08 ≠ 0 := by
  unfold returnToMain
  dsimp only
  refine (afterStep_woken _ _).flags_stand ?_
  generalize hx : ((s.setTime s.clk.watch.toTime).modTb _) = x
  have grade : x.tb.grade = s.tb.grade := by rw [← hx]; rfl
  have u : x.tb.u = s.tb.u := by rw [← hx]; rfl
  unfold TimeBase.settledGrade at h
  rw [grade, u]
  by_cases unset : s.tb.grade = .unset
  · exact absurd (by rw [if_pos unset, unset]) h
  · rw [if_neg unset] at h ⊢
    split
    · next hu =>
      rw [if_pos hu] at h
      exact changeGrade_flag (by rwa [grade])
    · next hu =>
      rw [if_neg hu] at h
      exact changeGrade_flag (by rwa [grade])

theorem returnToMain_clk : (returnToMain s).clk = { s.clk with time := s.clk.watch.toTime, frac := 0 } := by
  unfold returnToMain
  dsimp only
  (repeat' split) <;> simp [State.setTime]

theorem sohCheck_gasp : (sohCheck s).pt.gasp = s.pt.gasp := by
  unfold sohCheck
  (repeat' split) <;> simp

theorem wakeAtTime_gasp : (wakeAtTime s).pt.gasp = s.pt.gasp := by
  unfold wakeAtTime
  (repeat' split) <;> simp

theorem changeGrade_gasp (g : Grade) : (changeGrade g s).pt.gasp = s.pt.gasp := by
  rw [changeGrade_eq]
  (repeat' split) <;> simp [State.withTb]

theorem returnToMain_gasp : (returnToMain s).pt.gasp = s.pt.gasp := by
  unfold returnToMain afterStep
  dsimp only
  rw [syncModem_gasp, wakeAtTime_gasp, sohCheck_gasp, closePassedWindows_pt]
  (repeat' split) <;> simp [changeGrade_gasp, State.setTime]

/-! ## The exit -/

/-- The state in which the exit condition is looked at again, with the exit mark cleared (R169). -/
def State.exiting (s : State) : State := (returnToMain s).modPt fun p => { p with exitMark := false }

theorem completeExit_eq :
    completeExit s =
      if s.pt.exitMark && exitMet s.exiting then tierChange false (exitTier s.exiting) s.exiting else toWatchClock s.exiting := by
  have mark : (returnToMain s).pt.exitMark = s.pt.exitMark := congrArg (·.2.2.2.2.2) (returnToMain_woken s).settled
  unfold completeExit
  simp only [mark]
  rfl

theorem exiting_pt : s.exiting.pt.settled = ({ s.pt with exitMark := false } : PowerTier).settled := by
  have same := (returnToMain_woken s).settled
  simp only [PowerTier.settled, Prod.mk.injEq] at same
  simp [State.exiting, PowerTier.settled, same]

theorem exiting_host (hh : s.pt.host = .shed) : s.exiting.pt.host = .shed :=
  ((returnToMain_woken s).host_awake (shed_awake hh)).trans hh

theorem exitMet_iff :
    exitMet s = true ↔
      s.pt.params.hibernateBelow + s.pt.params.hysteresis ≤ s.ca.soc ∧
        ¬(s.hm.readings.vbat.valid = true ∧ ∃ v, s.hm.readings.vbat.value = some v ∧ v ≤ s.pt.params.vCut) := by
  simp only [exitMet, Bool.and_eq_true, decide_eq_true_eq, and_congr_right_iff]
  intro _
  unfold cutForced Reading.val
  by_cases hv : s.hm.readings.vbat.valid = true
  · cases hx : s.hm.readings.vbat.value <;> simp [hv]
  · simp [hv]

theorem exitTier_eq :
    exitTier s =
      if s.pt.params.conserveBelow + s.pt.params.hysteresis ≤ s.ca.soc then .full
      else if s.pt.params.surviveBelow + s.pt.params.hysteresis ≤ s.ca.soc then .conserve
      else .survive := by
  unfold exitTier riseTo
  (repeat' split) <;> simp_all

theorem toWatchClock_settled (h1 : s.tb.grade ≠ .tracking) (h2 : s.tb.grade ≠ .locked) :
    toWatchClock s = { s with tb := { s.tb with clock := .watch }, al := { s.al with windows := [] } } := by
  rw [toWatchClock_eq, if_neg (by simp [h1, h2])]

theorem settledGrade_ne (t : TimeBase) : t.settledGrade ≠ .tracking ∧ t.settledGrade ≠ .locked := by
  unfold TimeBase.settledGrade
  (repeat' split) <;> simp

/-- The condition still holds: the tier rises (R169). -/
theorem exit_rises (ht : s.pt.tier = .hibernate) (hh : s.pt.host = .shed) (hg : s.pt.gasp = none) {t : State}
    (h : t = tierChange false (exitTier s.exiting) s.exiting) :
    t.pt.exitMark = false ∧ t.clk = { s.clk with time := s.clk.watch.toTime, frac := 0 } ∧ t.tb = s.tb.returned s.clk.watch.toTime ∧
      t.pt.tier = exitTier s.exiting ∧ t.pt.enSens = true ∧ t.pt.tierTime = s.clk.watch.toTime ∧
      (s.tu.params.vote ≠ 0 → (∀ c, (s.tu.chans.get c).state = .disabled) →
        t.tu.det = if s.tu.armed then .idle else .disarmed) ∧
      t.pt.host = (if t.pt.tier = .survive then .shed else .on) ∧ t.sl.flags &&& 0x10 ≠ 0 ∧
      (∀ c ∈ enabledChannels t.pt.tier, (t.tu.chans.get c).state = .warmup) ∧
      (s.exiting.sl.flags &&& 0x08 ≠ 0 → t.sl.flags &&& 0x08 ≠ 0) := by
  have settled := exiting_pt (s := s)
  simp only [PowerTier.settled, Prod.mk.injEq] at settled
  obtain ⟨tier, -, -, -, -, mark⟩ := settled
  have hib : s.exiting.pt.tier = .hibernate := tier.trans ht
  have above := exitTier_ne_hibernate s.exiting
  obtain ⟨tierT, time, sens, markT, -, -, tb, clk⟩ :=
    tierChange_fields false above (by simpa [State.exiting, returnToMain_gasp] using hg) h
  have tu : s.exiting.tu = s.tu := by simp [State.exiting]
  have now : s.exiting.now = s.clk.watch.toTime := by
    simp [State.exiting, State.now, returnToMain_tb, TimeBase.returned, returnToMain_clk]
  refine ⟨markT.trans mark, ?_, ?_, tierT, sens, time.trans now, fun hv hd => ?_, ?_, tierChange_flag h, fun c hc => ?_, fun hf => ?_⟩
  · rw [clk]
    exact returnToMain_clk
  · rw [tb]
    exact returnToMain_tb
  · rw [h]
    have det := tierChange_det (s := s.exiting) hib false (by rwa [tu]) (by rwa [tu]) above
    rwa [tu] at det
  · rw [tierT]
    exact tierChange_host false hib above (exiting_host hh) h
  · rw [tierT] at hc
    rw [h]
    exact tierChange_warmup _ _ hib hc
  · rw [h]
    refine (tierChange_woken _ _ _).flags_stand ?_
    have announced : (announceTier false (exitTier s.exiting) s.exiting).sl.flags &&& 0x08 ≠ 0 := by
      unfold announceTier
      refine ((Woken.ite .rfl (.flag _ .powerTier)).trans (offerAlert_woken _ _ _)).flags_stand ?_
      rw [show ∀ o n (x : State), (hostRailForTier o n x).sl.flags = x.sl.flags from hostRailForTier_flags]
      exact hf
    simpa using announced

/-- It no longer holds: the watch clock is taken again at once (R169). -/
theorem exit_stays (ht : s.pt.tier = .hibernate) {t : State} (h : t = toWatchClock s.exiting) :
    t.pt.exitMark = false ∧ t.clk = { s.clk with time := s.clk.watch.toTime, frac := 0 } ∧
      t.tb = { s.tb.returned s.clk.watch.toTime with clock := .watch } ∧ t.pt.tier = .hibernate ∧
      ChangesOnly [.clk, .tb, .et, .al, .pt, .sl] s t ∧ t.sl = s.exiting.sl := by
  have settled := exiting_pt (s := s)
  simp only [PowerTier.settled, Prod.mk.injEq] at settled
  obtain ⟨tier, -, -, -, -, mark⟩ := settled
  have tb : s.exiting.tb = s.tb.returned s.clk.watch.toTime := returnToMain_tb
  have grade := settledGrade_ne s.tb
  rw [toWatchClock_settled (by rw [tb]; exact grade.1) (by rw [tb]; exact grade.2)] at h
  subst h
  refine ⟨mark, returnToMain_clk, ?_, tier.trans ht, fun b hb => ?_, rfl⟩
  · dsimp only
    rw [tb]
  · cases b <;> simp_all [Block.same, State.exiting]

end

theorem settleEnd_facts (d : Elapsed) (s : State) (due : Nat) (met : Prop) (grade : Grade) (hp : s.powered = true)
    (hc : s.tb.clock = .settle due) (ht : s.pt.tier = .hibernate) (hh : s.pt.host = .shed) (hg : s.pt.gasp = none)
    (hmet : met ↔
      s.pt.exitMark = true ∧ s.pt.params.hibernateBelow + s.pt.params.hysteresis ≤ s.ca.soc ∧
        ¬(s.hm.readings.vbat.valid = true ∧ ∃ v, s.hm.readings.vbat.value = some v ∧ v ≤ s.pt.params.vCut))
    (hgrade : grade = s.tb.settledGrade) (hdue : due ≤ (s.elapse d).clk.watchRun) :
    ∃ t, exec (.settleEnd d) s = .next t ∧ t.pt.exitMark = false ∧
      t.clk = { (s.elapse d).clk with time := (s.elapse d).clk.watch.toTime, frac := 0 } ∧
      t.tb =
        { s.tb with
          clock := if t.pt.tier = .hibernate then .watch else .main, grade := grade, labelRx := [], label := none
          lastPulse := none, lossTimer := none, goodRun := 0, rejectRun := 0
          movedTo := some (s.elapse d).clk.watch.toTime } ∧
      (grade ≠ s.tb.grade → t.sl.flags &&& 0x08 ≠ 0) ∧
      (¬met → t.pt.tier = .hibernate ∧ ChangesOnly [.clk, .tb, .et, .al, .pt, .sl] s t) ∧
      (met →
        t.pt.tier =
            (if s.pt.params.conserveBelow + s.pt.params.hysteresis ≤ s.ca.soc then .full
            else if s.pt.params.surviveBelow + s.pt.params.hysteresis ≤ s.ca.soc then .conserve
            else .survive) ∧
          t.pt.enSens = true ∧ t.pt.tierTime = (s.elapse d).now ∧
          (s.tu.params.vote ≠ 0 → (∀ c, (s.tu.chans.get c).state = .disabled) →
            t.tu.det = if s.tu.armed then .idle else .disarmed) ∧
          t.pt.host = (if t.pt.tier = .survive then .shed else .on) ∧ t.sl.flags &&& 0x10 ≠ 0 ∧
          ∀ c ∈ enabledChannels t.pt.tier, (t.tu.chans.get c).state = .warmup) := by
  have ends : settleOver (s.elapse d) = true := by simpa [settleOver, hc] using hdue
  generalize hx : s.elapse d = x at *
  have tb : x.tb = s.tb := by rw [← hx]; rfl
  have pt : x.pt = s.pt := by rw [← hx]; rfl
  have ca : x.ca = s.ca := by rw [← hx]; rfl
  have hm : x.hm = s.hm := by rw [← hx]; rfl
  have tu : x.tu = s.tu := by rw [← hx]; rfl
  have params : x.exiting.pt.params = s.pt.params := (congrArg (·.2.2.1) (exiting_pt (s := x))).trans (by rw [pt]; rfl)
  have caX : x.exiting.ca = s.ca := by rw [← ca]; simp [State.exiting]
  have hmX : x.exiting.hm = s.hm := by rw [← hm]; simp [State.exiting]
  have cond : met ↔ (x.pt.exitMark && exitMet x.exiting) = true := by
    rw [hmet, Bool.and_eq_true, exitMet_iff, params, caX, hmX, pt]
  have flag (hne : grade ≠ s.tb.grade) : x.exiting.sl.flags &&& 0x08 ≠ 0 :=
    returnToMain_flag (s := x) (by rwa [tb, ← hgrade])
  have now : x.now = x.clk.watch.toTime := by simp [State.now, tb, hc]
  have tierX : x.pt.tier = .hibernate := by rw [pt, ht]
  rw [exec_settleEnd d hp, hx, if_pos ends, completeExit_eq]
  by_cases hm : met
  · rw [if_pos (cond.mp hm)]
    refine ⟨_, rfl, ?_⟩
    obtain ⟨mark, clk, tbT, tier, sens, time, det, host, power, warm, stands⟩ :=
      exit_rises (s := x) tierX (by rw [pt, hh]) (by rw [pt, hg]) rfl
    generalize tierChange false (exitTier x.exiting) x.exiting = t at *
    have main : t.pt.tier ≠ .hibernate := by rw [tier]; exact exitTier_ne_hibernate _
    refine ⟨mark, clk, ?_, fun hne => stands (flag hne), fun hn => absurd hm hn,
      fun _ => ⟨?_, sens, time.trans now.symm, ?_, host, power, warm⟩⟩
    · rw [tbT, if_neg main, tb, hgrade]
      rfl
    · rw [tier, exitTier_eq, params, caX]
    · rwa [tu] at det
  · rw [if_neg (fun h => hm (cond.mpr h))]
    refine ⟨_, rfl, ?_⟩
    obtain ⟨mark, clk, tbT, tier, changes, sl⟩ := exit_stays (s := x) tierX rfl
    generalize toWatchClock x.exiting = t at *
    refine ⟨mark, clk, ?_, fun hne => by rw [sl]; exact flag hne, fun _ => ⟨tier, ?_⟩, fun h => absurd h hm⟩
    · rw [tbT, if_pos tier, tb, hgrade]
      rfl
    · rw [← hx] at changes
      exact (elapse_changes s d).mono (by decide) |>.trans changes

/-- Settles O43: the last gasp ends when nothing holds it, and the end of the settle loads time from the watch-time counter and looks at
the exit condition again. -/
theorem lastGaspAndSettleEnd : Obligations.LastGaspAndSettleEnd := by
  refine ⟨fun d s limit ended hp ht hg hended => ⟨fun hn => ?_, fun he hh => ?_⟩,
    fun d s due met grade hp hc ht hh hg hmet hgrade => ⟨fun hearly => ?_, fun hdue =>
      settleEnd_facts d s due met grade hp hc ht hh hg hmet (hgrade.trans rfl) hdue⟩⟩
  · rw [exec_lastGaspLimit d hp]
    congr 1
    refine gaspCheck_stays ?_
    by_cases ha : s.al.attempt = none
    · by_cases hw : s.sm.writing = none
      · refine .inr (.inr (.inr ⟨limit, hg, ?_⟩))
        rw [hended] at hn
        simp only [ha, hw, true_and, not_or, not_forall, not_not, not_le] at hn
        obtain ⟨⟨e, he, hcls⟩, before⟩ := hn
        exact ⟨before, e, he, hcls⟩
      · exact .inr (.inr (.inl hw))
    · exact .inr (.inl ha)
  · obtain ⟨ha, hw, hq⟩ := hended.mp he
    refine ⟨_, exec_lastGaspLimit d hp, ?_⟩
    exact endGasp_shed_fields (s := s.elapse d) ht hh (gaspCheck_ends hg ha hw hq)
  · have runs : settleOver (s.elapse d) = false := by
      simp only [settleOver, State.elapse_tb, hc, decide_eq_false_iff_not]
      omega
    rw [exec_settleEnd d hp, runs]
    rfl

end Sys2Proof.Machine

/-! PROOFS. One storage word read through the code (R87, R88). -/

namespace Sys2Proof.Machine

section

variable {s : State} {p : PageId} {i : Nat}

theorem readStorage_clean {r : EccAnswer} (h : eccCheck (readWord s.ws.array (wordAddress p i)) = r) (hc : r.cls = .clean) :
    readStorage p i s = (r, s) := by
  unfold readStorage
  simp only [h, hc]

/-- A corrected word: its page counts it, and with scrub on the word is written back. -/
theorem readStorage_single {r : EccAnswer} (wf : MemoryInv s) (h : eccCheck (readWord s.ws.array (wordAddress p i)) = r)
    (hc : r.cls = .single) :
    ∃ t, readStorage p i s = (r, t) ∧ ChangesOnly [.ws] s t ∧ t.ws = { s.ws with array := t.ws.array, pages := t.ws.pages } ∧
      (∀ b, readWord t.ws.array b =
        if b = wordAddress p i ∧ s.ws.scrub = true then ⟨r.first, r.second, 0⟩ else readWord s.ws.array b) ∧
      ∀ q, t.ws.page q =
        if q = p then { s.ws.page p with correctable := min 255 ((s.ws.page p).correctable + 1) } else s.ws.page q := by
  refine ⟨(readStorage p i s).2, ?_, fun b hb => ?_, ?_⟩
  · unfold readStorage
    simp only [h, hc]
  · cases b with
    | ws => simp at hb
    | _ => unfold readStorage; simp only [h, hc]; rfl
  · have paged (q : PageId) := WaveStore.page_modPage s.ws (p := p) (f := fun g => { g with correctable := satInc 255 g.correctable }) (q := q)
    rw [readStorage_ws, h, hc]
    by_cases scrub : s.ws.scrub = true
    · rw [if_pos scrub]
      refine ⟨rfl, fun b => ?_, paged⟩
      have written := readWord_writeWord wf (wordAddress p i) b ⟨r.first, r.second, 0⟩
      simp only [scrub, and_true]
      exact written
    · rw [if_neg scrub]
      exact ⟨rfl, fun b => (if_neg fun hb => scrub hb.2).symm, paged⟩

/-- A word that cannot be corrected: its page is faulty, an event whose page it is is DAMAGED, and STORE is raised. -/
theorem readStorage_uncorrectable {r : EccAnswer} (h : eccCheck (readWord s.ws.array (wordAddress p i)) = r)
    (hc : r.cls = .uncorrectable) :
    ∃ t, readStorage p i s = (r, t) ∧ ChangesOnly [.ws, .et, .pt, .sl] s t ∧
      t.ws = { s.ws with pages := t.ws.pages, uncorrectable := (s.ws.uncorrectable + 1) % 4294967296 } ∧
      (∀ q, t.ws.page q = if q = p then { s.ws.page p with faulty := true } else s.ws.page q) ∧
      (∀ n c, (s.ws.page p).state = .event n c →
        t.et.records =
          s.et.records.map fun r => if r.number = n then { r with flags := { r.flags with damaged := true } } else r) ∧
      ((∀ n c, (s.ws.page p).state ≠ .event n c) → t.et = s.et) ∧ t.sl.flags &&& 0x20 ≠ 0 := by
  refine ⟨(readStorage p i s).2, ?_, fun b hb => ?_, ?_, fun q => ?_, fun n c hp => ?_, fun hp => ?_, ?_⟩
  · unfold readStorage
    simp only [h, hc]
  · unfold readStorage
    simp only [h, hc]
    cases b with
    | ws | et | pt | sl => simp at hb
    | _ => dsimp only [Block.same]; split <;> simp
  · rw [readStorage_ws, h, hc]
    rfl
  · rw [readStorage_ws, h, hc]
    exact WaveStore.page_modPage s.ws (p := p) (f := fun g => { g with faulty := true }) (q := q)
  · unfold readStorage
    simp only [h, hc, hp]
    simp [setEventFlag, updRecord_eq]
  · unfold readStorage
    simp only [h, hc]
    cases hs : (s.ws.page p).state with
    | event n c => exact absurd hs (hp n c)
    | _ => simp
  · unfold readStorage
    simp only [h, hc]
    exact raise_flag_set _ .store

theorem eccCheck_many {w : StorageWord} (h : 3 ≤ errorWeight w.err) :
    eccCheck w =
      match Config.eccManyErrors w.first w.second w.err with
      | .clean => ⟨.clean, w.rawFirst, w.rawSecond⟩
      | .single bit => ⟨.single, (w.flip bit).rawFirst, (w.flip bit).rawSecond⟩
      | .uncorrectable => ⟨.uncorrectable, w.rawFirst, w.rawSecond⟩ := by
  obtain ⟨n, hn⟩ := Nat.exists_eq_add_of_le' h
  unfold eccCheck
  rw [hn]
  rfl

end

/-- Settles O20: a storage word read through the code, by the class of its check. -/
theorem storageWordChecked : Obligations.StorageWordChecked := by
  intro s p i a w rawFirst rawSecond corrected lost wf ha hw hfirst hsecond hcorr hlost
  have here : wordAddress p i = a := ha.symm
  have raw1 (bit : Fin 72) : rawFirst (w.err ^^^ (1#72 <<< bit.val)) = (w.flip bit).rawFirst := by rw [hfirst]; rfl
  have raw2 (bit : Fin 72) : rawSecond (w.err ^^^ (1#72 <<< bit.val)) = (w.flip bit).rawSecond := by rw [hsecond]; rfl
  have raw1' : rawFirst w.err = w.rawFirst := by rw [hfirst]; rfl
  have raw2' : rawSecond w.err = w.rawSecond := by rw [hsecond]; rfl
  have checked {r : EccAnswer} (h : eccCheck w = r) : eccCheck (readWord s.ws.array (wordAddress p i)) = r := by
    rwa [here, ← hw]
  have single {x y : BitVec 32} (h : eccCheck w = ⟨.single, x, y⟩) : corrected x y := by
    rw [hcorr, ← here]
    exact readStorage_single wf (checked h) rfl
  have double (h : eccCheck w = ⟨.uncorrectable, w.rawFirst, w.rawSecond⟩) : lost := by
    rw [hlost, raw1', raw2']
    exact readStorage_uncorrectable (checked h) rfl
  refine ⟨fun h => readStorage_clean (checked (eccCheck_clean h)) rfl, fun h => single (eccCheck_single h),
    fun h => double (eccCheck_double h), fun h => ?_⟩
  have many := eccCheck_many h
  cases hv : Config.eccManyErrors w.first w.second w.err with
  | clean =>
    rw [hv] at many
    dsimp only
    rw [raw1', raw2']
    exact readStorage_clean (checked many) rfl
  | single bit =>
    rw [hv] at many
    dsimp only
    rw [raw1, raw2]
    exact single many
  | uncorrectable =>
    rw [hv] at many
    exact double many

end Sys2Proof.Machine

/-! PROOFS. One pass of the filter engine is the rounded, saturated convolution (R36 to R38). -/

namespace Sys2Proof.Machine

/-- The index that lies `k` samples back from `i`. -/
def back (i : Fin 32) (k : Nat) : Fin 32 := Fin.ofNat 32 (i.val + 32 - k % 32)

theorem back_zero (i : Fin 32) : back i 0 = i := by
  apply Fin.ext
  simp only [back, Fin.ofNat]
  omega

theorem back_succ (i : Fin 32) (k : Nat) : back (i + 31) k = back i (k + 1) := by
  apply Fin.ext
  simp only [back, Fin.ofNat, Fin.val_add]
  omega

/-- The accumulator is the sum of products over the samples counted modulo 32. -/
theorem firSum_eq (x : Vector Int 32) (i : Fin 32) (cs : List Int) :
    firSum x i cs = ∑ k ∈ Finset.range cs.length, cs.getD k 0 * x.get (back i k) := by
  induction cs generalizing i with
  | nil => rfl
  | cons c cs ih =>
    rw [firSum, ih, List.length_cons, Finset.sum_range_succ', add_comm]
    simp only [List.getD_cons_zero, List.getD_cons_succ, back_zero, back_succ]

/-- The bank that filters after a pending swap has been made. -/
def FilterContext.nextBank (f : FilterContext) : BankName := if f.swapPending then f.active.other else f.active

theorem FilterContext.swapped_eq (f : FilterContext) :
    (if f.swapPending then f.swap else f) = { f with active := f.nextBank, swapPending := false } := by
  unfold nextBank
  by_cases hs : f.swapPending = true
  · rw [if_pos hs, if_pos hs]
    rfl
  · rw [if_neg hs, if_neg hs]
    rw [Bool.not_eq_true] at hs
    rw [← hs]

/-- The pass after the swap (R36 steps 2 to 6, R37). -/
def FilterContext.convolved (f : FilterContext) (v : Int) : FilterContext :=
  let delay := f.delay.set f.w.val v f.w.isLt
  let r := roundAcc (firSum delay f.w f.activeBank)
  let sat := r < sampleMin || sampleMax < r
  { f with
    delay := delay, w := f.w + 1, y := clampInt r sampleMin sampleMax, sat := sat, clip := f.clip || sat, passes := inc32 f.passes }

theorem FilterContext.pass_convolved (f : FilterContext) (v : Int) :
    f.pass v = ({ f with active := f.nextBank, swapPending := false } : FilterContext).convolved v := by
  rw [← swapped_eq]
  rfl

/-- One pass with its swap written out. -/
theorem FilterContext.pass_eq (f : FilterContext) (v : Int) {delay : Vector Int 32} {y : Int}
    (hd : delay = f.delay.set f.w.val v f.w.isLt) (hy : y = roundAcc (firSum delay f.w (f.bank f.nextBank))) :
    f.pass v =
      { f with
        active := f.nextBank, swapPending := false, delay := delay, w := f.w + 1, y := max (-8388608) (min y 8388607)
        sat := decide (y < -8388608 ∨ 8388607 < y), clip := f.clip || decide (y < -8388608 ∨ 8388607 < y)
        passes := (f.passes + 1) % 4294967296 } := by
  have outside (r : Int) : (decide (r < sampleMin) || decide (sampleMax < r)) = decide (r < -8388608 ∨ 8388607 < r) :=
    (Bool.decide_or _ _).symm
  have bank : ({ f with active := f.nextBank, swapPending := false } : FilterContext).activeBank = f.bank f.nextBank := by
    unfold activeBank bank
    rfl
  rw [pass_convolved]
  unfold convolved
  dsimp only
  rw [bank, outside]
  subst hd hy
  rfl

section

variable {s : State}

theorem nextFilterPass_eq {t : Time} {c : Channel} {w : SampleWord} {items : List (Channel × SampleWord)} {rest : List Delivery}
    (h : s.fe.waiting = ⟨t, (c, w) :: items⟩ :: rest) :
    nextFilterPass s =
      channelFilterPass c w.value t (s.modFe fun e => { e with waiting := if items.isEmpty then rest else ⟨t, items⟩ :: rest }) := by
  unfold nextFilterPass
  rw [h]

theorem channelFilterPass_fe (c : Channel) (v : Int) (t : Time) :
    (channelFilterPass c v t s).fe = { s.fe with ctx := s.fe.ctx.set c ((s.fe.ctx.get c).pass v) } := by
  unfold channelFilterPass
  dsimp only
  rw [triggerPass_fe]
  split <;> simp [modContext]

/-- A rise of CLIP from clear is raised. -/
theorem channelFilterPass_flag (c : Channel) (v : Int) (t : Time) (h : (s.fe.ctx.get c).clip = false)
    (hc : ((s.fe.ctx.get c).pass v).clip = true) : (channelFilterPass c v t s).sl.flags &&& 0x40 ≠ 0 := by
  unfold channelFilterPass
  simp only [h, hc, Bool.not_false, Bool.and_self, if_true]
  exact (triggerPass_woken _ _ _ _ _).flags_stand (raise_flag_set _ .clip)

end

/-- Settles O12: a pass of the oldest waiting delivery convolves. -/
theorem filterPassConvolves : Obligations.FilterPassConvolves := by
  intro d s t c w items rest bank active delay y hp hm hw hactive hbank hdelay hy
  have active' : active = (s.fe.ctx.get c).nextBank := by
    rw [hactive]
    unfold FilterContext.nextBank BankName.other
    rfl
  have bank' : bank = (s.fe.ctx.get c).bank (s.fe.ctx.get c).nextBank := by
    rw [hbank, ← active']
    cases active <;> rfl
  have acc : y = roundAcc (firSum delay (s.fe.ctx.get c).w ((s.fe.ctx.get c).bank (s.fe.ctx.get c).nextBank)) := by
    rw [hy, ← bank', firSum_eq]
    rfl
  have pass := FilterContext.pass_eq (s.fe.ctx.get c) w.value hdelay acc
  rw [← active'] at pass
  have run : exec (.filterPass d) s = .next (nextFilterPass (s.elapse d)) := by
    refine (timed_powered s d (whileMain nextFilterPass) hp).trans ?_
    rw [whileMain_main (s := s.elapse d) hm]
  have changes : ChangesOnly [.si, .fe, .tu, .ws, .et, .al, .hc, .pt, .sl] (s.elapse d) (nextFilterPass (s.elapse d)) := by
    have all := work_changes (.filterPass d) (s.elapse d)
    rw [show work (.filterPass d) (s.elapse d) = nextFilterPass (s.elapse d) from whileMain_main (s := s.elapse d) hm _] at all
    exact all.mono (by simp [footprint])
  rw [nextFilterPass_eq (s := s.elapse d) hw] at run changes
  have fe := channelFilterPass_fe (s := (s.elapse d).modFe fun e => { e with waiting := if items.isEmpty then rest else ⟨t, items⟩ :: rest })
    c w.value t
  refine ⟨_, run, ?_, fun c' hc' => ?_, ?_, fun hclip over_ => ?_, changes⟩
  · rw [fe, ← pass]
    exact Tri.get_set_same _ _ _
  · rw [fe]
    exact Tri.get_set_of_ne _ _ _ _ hc'
  · rw [fe]
    simp only [State.modFe_fe, List.isEmpty_iff]
  · refine channelFilterPass_flag c w.value t hclip ?_
    rw [show ((s.elapse d).modFe _).fe.ctx.get c = s.fe.ctx.get c from rfl, pass]
    simp [over_]

end Sys2Proof.Machine

/-! PROOFS. A delivery of the sample interface: what joins the filter engine's waiting passes and what the store takes, and the strobe
that opens a window (R15, R16, R26, R29 to R33). -/

namespace Sys2Proof.Machine

section

variable {s : State}

theorem storeWord_changes (c : Channel) (word : BitVec 32) (time : Time) :
    ChangesOnly [.ws, .et, .pt, .sl] s (storeWord c word time s) := fun b hb => by
  cases b with
  | ws | et | pt | sl => simp at hb
  | _ => simp [Block.same]

/-- The words of a delivery as the store takes them, in channel order. -/
def storeAll (words : Channel → SampleWord) (time : Time) (cs : List Channel) (s : State) : State :=
  cs.foldl (fun x c => storeWord c (words c).bits time x) s

theorem storeAll_changes (words : Channel → SampleWord) (time : Time) (cs : List Channel) :
    ChangesOnly [.ws, .et, .pt, .sl] s (storeAll words time cs s) :=
  ChangesOnly.foldl (fun _ c => storeWord_changes c (words c).bits time) cs s

theorem enabledChannels_ne_nil {t : Tier} (h : t ≠ .hibernate) : enabledChannels t ≠ [] := by
  cases t <;> first | exact absurd rfl h | decide

/-- SI with the two marks that the delivery takes along cleared. -/
def SampleInterface.unmarked (i : SampleInterface) : SampleInterface := { i with stepCarry := false, heatMark := false }

/-- A delivery: the store takes its words, and its passes wait behind those of the deliveries before. -/
theorem deliver_eq (h : s.pt.tier ≠ .hibernate) (w : Window) (word : Bool → Bool → Channel → SampleWord)
    {words : Channel → SampleWord} (hw : words = word (w.step || s.si.stepCarry) s.si.heatMark) :
    deliver w word s =
      { storeAll words w.time (enabledChannels s.pt.tier) { s with si := s.si.unmarked } with
        fe := { s.fe with waiting := s.fe.waiting ++ [⟨w.time, (enabledChannels s.pt.tier).map fun c => (c, words c)⟩] } } := by
  subst hw
  have items : ((enabledChannels s.pt.tier).map fun c => (c, word (w.step || s.si.stepCarry) s.si.heatMark c)).isEmpty = false := by
    simp [enabledChannels_ne_nil h]
  have fe := (storeAll_changes (s := { s with si := s.si.unmarked }) (word (w.step || s.si.stepCarry) s.si.heatMark) w.time
    (enabledChannels s.pt.tier)) .fe (by decide)
  generalize hy : storeAll (word (w.step || s.si.stepCarry) s.si.heatMark) w.time (enabledChannels s.pt.tier)
    { s with si := s.si.unmarked } = y at fe ⊢
  have fe' : y.fe = s.fe := fe
  unfold deliver enqueueDelivery
  simp only [items, Bool.false_eq_true, if_false]
  change (storeAll _ _ _ { s with si := s.si.unmarked }).modFe _ = _
  rw [hy, ← fe']
  rfl

/-! ## The strobe -/

theorem boundary_toNs (sec k : Nat) : Time.toNs ⟨sec, k * 10000000⟩ = sec * 1000000000 + k * 10000000 := rfl

/-- A boundary is a multiple of 10 ms. -/
theorem boundary_whole (sec : Nat) {k : Nat} (_hk : k < 100) :
    Time.toNs ⟨sec, k * 10000000⟩ / sampleNs * sampleNs = Time.toNs ⟨sec, k * 10000000⟩ := by
  rw [boundary_toNs, show sampleNs = 10000000 from rfl]
  omega

theorem timeOfNs_boundary {sec k : Nat} (hs : sec < 4294967296) (hk : k < 100) :
    timeOfNs (Time.toNs ⟨sec, k * 10000000⟩) = ⟨sec, k * 10000000⟩ := by
  have h1 : Time.toNs ⟨sec, k * 10000000⟩ / nsPerSec = sec := by
    rw [boundary_toNs, show nsPerSec = 1000000000 from rfl]
    omega
  have h2 : Time.toNs ⟨sec, k * 10000000⟩ % nsPerSec = k * 10000000 := by
    rw [boundary_toNs, show nsPerSec = 1000000000 from rfl]
    omega
  rw [timeOfNs, h1, h2, secondsCount, if_pos hs]

theorem laterThan_iff (b : Nat) (t : Option Time) : laterThan b t = true ↔ ∀ x, t = some x → x.toNs < b := by
  cases t <;> simp [laterThan]

/-- What lets the strobe of a boundary through: the main clock, the sensor rail, and that the boundary lies after the last strobe and
after the time to which time was last moved (R15, R16, R171). -/
def StrobeFree (s : State) (b : Nat) : Prop :=
  s.tb.clock = .main ∧ s.pt.enSens = true ∧ ∀ t, s.tb.lastStrobe = some t ∨ s.tb.movedTo = some t → t.toNs < b

theorem strobeBoundary_at {sec k : Nat} (hs : sec < 4294967296) (hk : k < 100) (ht : s.clk.time = ⟨sec, k * 10000000⟩) :
    (StrobeFree s (sec * 1000000000 + k * 10000000) → strobeBoundary s = some ⟨sec, k * 10000000⟩) ∧
      (¬StrobeFree s (sec * 1000000000 + k * 10000000) → strobeBoundary s = none) := by
  by_cases hm : s.tb.clock = .main
  · have now : s.now.toNs = Time.toNs ⟨sec, k * 10000000⟩ := by rw [now_main hm, ht]
    have reached : reachedNs (Time.toNs ⟨sec, k * 10000000⟩) (Time.toNs ⟨sec, k * 10000000⟩) = true := by simp [reachedNs]
    have free : StrobeFree s (sec * 1000000000 + k * 10000000) ↔
        (s.mainRuns && s.pt.enSens && true && laterThan (Time.toNs ⟨sec, k * 10000000⟩) s.tb.lastStrobe &&
          laterThan (Time.toNs ⟨sec, k * 10000000⟩) s.tb.movedTo) = true := by
      rw [← boundary_toNs]
      simp only [StrobeFree, State.mainRuns, Bool.and_eq_true, laterThan_iff, hm, decide_true, true_and, and_assoc]
      exact and_congr_right fun _ =>
        ⟨fun h => ⟨fun t ht => h t (.inl ht), fun t ht => h t (.inr ht)⟩, fun h t ht => ht.elim (h.1 t) (h.2 t)⟩
    unfold strobeBoundary
    dsimp only
    rw [now, boundary_whole sec hk, reached, timeOfNs_boundary hs hk]
    exact ⟨fun h => if_pos (free.mp h), fun h => if_neg fun hc => h (free.mpr hc)⟩
  · refine ⟨fun h => absurd h.1 hm, fun _ => if_neg fun h => ?_⟩
    simp [State.mainRuns, hm] at h

theorem exec_sampleStrobe (d : Elapsed) (hp : s.powered = true) : exec (.sampleStrobe d) s = .next (takeStrobe (s.elapse d)) :=
  timed_powered s d takeStrobe hp

end

/-- TB after a strobe is issued. -/
def TimeBase.strobed (t : TimeBase) (b : Time) : TimeBase :=
  { t with strobeSeq := (t.strobeSeq + 1) % 256, lastStrobe := some b, stepPending := false }

/-- SI after its open window has closed as a missing gap. -/
def SampleInterface.missed (i : SampleInterface) : SampleInterface :=
  { i with window := none, missingCount := inc32 i.missingCount, stepCarry := false, heatMark := false }

/-- A strobe with a window open: the gap is delivered, and the new window opens. -/
theorem issueStrobe_open {s : State} {w : Window} (hw : s.si.window = some w) (h : s.pt.tier ≠ .hibernate) (b : Time)
    {words : Channel → SampleWord} (hwords : words = gapWords s.si (w.step || s.si.stepCarry) s.si.heatMark) :
    issueStrobe b s =
      { storeAll words w.time (enabledChannels s.pt.tier) { s with tb := s.tb.strobed b, si := s.si.missed } with
        tb := s.tb.strobed b
        si := { s.si.missed with window := some ⟨b, (s.tb.strobeSeq + 1) % 256, s.tb.stepPending⟩ }
        fe := { s.fe with waiting := s.fe.waiting ++ [⟨w.time, (enabledChannels s.pt.tier).map fun c => (c, words c)⟩] } } := by
  have changes := storeAll_changes (s := { s with tb := s.tb.strobed b, si := s.si.missed }) words w.time (enabledChannels s.pt.tier)
  generalize hy : storeAll words w.time (enabledChannels s.pt.tier) { s with tb := s.tb.strobed b, si := s.si.missed } = y at changes ⊢
  have tb : y.tb = s.tb.strobed b := changes .tb (by decide)
  have si : y.si = s.si.missed := changes .si (by decide)
  generalize hx : (s.modTb fun t => t.strobed b).modSi (fun i => { i with window := none, missingCount := inc32 i.missingCount }) = x
  have tier : x.pt.tier = s.pt.tier := by rw [← hx]; rfl
  have delivered : deliverGap w x =
      { y with
        fe := { s.fe with waiting := s.fe.waiting ++ [⟨w.time, (enabledChannels s.pt.tier).map fun c => (c, words c)⟩] } } := by
    unfold deliverGap
    rw [deliver_eq (by rwa [tier]) w _ (words := words) (by rw [hwords, ← hx]; rfl), tier, ← hy, ← hx]
    rfl
  unfold issueStrobe siStrobe
  dsimp only [State.modTb_si]
  rw [hw]
  dsimp only
  change (deliverGap w ((s.modTb fun t => t.strobed b).modSi fun i =>
    { i with window := none, missingCount := inc32 i.missingCount })).modSi _ = _
  rw [hx, delivered, ← tb, ← si]
  rfl

/-- Settles O10: the strobe of a boundary opens a window, and an open one closes first as a missing gap. -/
theorem sampleStrobeOpensWindow : Obligations.SampleStrobeOpensWindow := by
  intro d s sec k hp hsec hk htime
  have boundary := strobeBoundary_at (s := s.elapse d) hsec hk htime
  refine ⟨fun hm hsens hlast => ?_, fun hno => ?_⟩
  · replace boundary := boundary.1 ⟨hm, hsens, hlast⟩
    have run : exec (.sampleStrobe d) s = .next (issueStrobe ⟨sec, k * 10000000⟩ (s.elapse d)) := by
      rw [exec_sampleStrobe d hp, takeStrobe, boundary]
    rw [run]
    refine ⟨fun hw => ?_, fun w hw ht => ⟨_, rfl, ?_⟩⟩
    · unfold issueStrobe siStrobe
      simp only [State.modTb_si, State.elapse_si, hw]
      rfl
    · have issued := issueStrobe_open (s := s.elapse d) hw ht ⟨sec, k * 10000000⟩ (words := gapWords s.si (w.step || s.si.stepCarry) s.si.heatMark) rfl
      generalize issueStrobe ⟨sec, k * 10000000⟩ (s.elapse d) = t at issued ⊢
      have start : ChangesOnly [.tb, .si] (s.elapse d)
          { s.elapse d with tb := (s.elapse d).tb.strobed ⟨sec, k * 10000000⟩, si := (s.elapse d).si.missed } := fun b hb => by
        cases b with
        | tb | si => simp at hb
        | _ => rfl
      have stored := storeAll_changes
        (s := { s.elapse d with tb := (s.elapse d).tb.strobed ⟨sec, k * 10000000⟩, si := (s.elapse d).si.missed })
        (gapWords s.si (w.step || s.si.stepCarry) s.si.heatMark) w.time (enabledChannels (s.elapse d).pt.tier)
      have all := (start.mono (cs := [.tb, .si, .fe, .ws, .et, .pt, .sl]) (by decide)).trans (stored.mono (by decide))
      refine ⟨?_, ?_, ?_, ⟨_, start, ?_⟩, fun b hb => ?_⟩
      · rw [issued]
        rfl
      · rw [issued]
        rfl
      · rw [issued]
        rfl
      · rw [issued]
        rfl
      · have kept := all b hb
        rw [issued]
        cases b with
        | tb | si | fe => simp at hb
        | _ => exact kept
  · rw [exec_sampleStrobe d hp, takeStrobe, boundary.2 ?_]
    rintro ⟨hm, hsens, hlast⟩
    obtain h | h | ⟨t, ht, hle⟩ := hno
    · exact h hm
    · exact absurd (h.symm.trans hsens) (by decide)
    · exact absurd (hlast t ht) (not_lt.mpr hle)

end Sys2Proof.Machine

/-! PROOFS. What the store does with one sample word (R72, R75, R76, R83, R84). -/

namespace Sys2Proof.Machine

section

variable {s : State} {c : Channel} {e : Channel → Bool}

/-- The channel fills a page that has just been allocated. -/
def FreshFill (c : Channel) (w : WaveStore) : Prop :=
  ∃ p, (w.chan c).filling = some p ∧ (w.page p).count = 0 ∧ (w.page p).faulty = false ∧
    ((w.chan c).route = .ring ∨ ∃ n, (w.chan c).route = .event n)

/-- What a page need that is met leaves, or one that is not: a fresh page, or an idle route without pages to be had. -/
def NeedOutcome (c : Channel) (w : WaveStore) : Prop :=
  FreshFill c w ∨ ((w.chan c).filling = none ∧ ((w.chan c).route = .starved ∨ (w.chan c).route = .stopped))

/-! ## One word -/

theorem storeWord_stopped (h : (s.ws.chan c).route = .stopped) (word : BitVec 32) (t : Time) :
    storeWord c word t s = dropWord c s := by
  unfold storeWord
  rw [h]

theorem storeWord_starved (h : (s.ws.chan c).route = .starved) (word : BitVec 32) (t : Time) :
    storeWord c word t s =
      if ((ringNeed c s).ws.chan c).route = .ring then putWord c word t (ringNeed c s) else dropWord c (ringNeed c s) := by
  unfold storeWord
  rw [h]

/-- A page that fills and takes the word: no close before it. -/
theorem storeWord_filling {p : PageId} (hf : (s.ws.chan c).filling = some p)
    (hr : (s.ws.chan c).route = .ring ∨ ∃ n, (s.ws.chan c).route = .event n) {t : Time} (open_ : mustClose s.ws c t = false)
    (word : BitVec 32) : storeWord c word t s = putWord c word t s := by
  unfold storeWord
  obtain hr | ⟨n, hr⟩ := hr <;> simp [hr, open_, hf]

theorem storeWord_fresh (h : FreshFill c s.ws) (word : BitVec 32) (t : Time) : storeWord c word t s = putWord c word t s := by
  obtain ⟨p, hf, count, marked, hr⟩ := h
  refine storeWord_filling hf hr ?_ word
  simp only [mustClose, hf, marked, count]
  split <;> simp

/-- A page that is closed first, with the need of its route. -/
theorem storeWord_closing
    (hr : (s.ws.chan c).route = .ring ∨ ∃ n, (s.ws.chan c).route = .event n) {t : Time} (closes : mustClose s.ws c t = true)
    {u : State} (hu : u = completionStep c (s.modWs fun w => w.closeFilling c)) (outcome : NeedOutcome c u.ws) (word : BitVec 32) :
    storeWord c word t s = if (u.ws.chan c).filling = none then dropWord c u else storeWord c word t u := by
  obtain fresh | ⟨idle, stuck⟩ := outcome
  · rw [storeWord_fresh fresh]
    obtain ⟨q, hq, -⟩ := fresh
    unfold storeWord
    obtain hr | ⟨n, hr⟩ := hr <;> simp [hr, closes, ← hu, hq]
  · rw [if_pos idle]
    unfold storeWord
    obtain hr | ⟨n, hr⟩ := hr <;> obtain stuck | stuck := stuck <;> simp [hr, closes, ← hu, idle, stuck]

theorem storeWord_event {n : Nat} (hr : (s.ws.chan c).route = .event n) (hf : (s.ws.chan c).filling = none)
    (word : BitVec 32) (t : Time) :
    storeWord c word t s =
      if ((eventNeed n c s).ws.chan c).filling.isSome then putWord c word t (eventNeed n c s) else dropWord c (eventNeed n c s) := by
  unfold storeWord
  simp only [hr]
  rw [show mustClose s.ws c t = false by simp [mustClose, hf]]
  simp [hf, hr]

/-! ## Page needs -/

theorem lowestFree_unmarked {w : WaveStore} {p : PageId} (h : WaveStore.Mapped e w) (hp : w.lowestFree = some p) :
    (w.page p).faulty = false := h.free p (lowestFree_free hp)

theorem ringNeed_outcome (h : WaveStore.Sound .pages e s.ws) :
    (FreshFill c (ringNeed c s).ws ∧ ((ringNeed c s).ws.chan c).route = .ring) ∨
      (((ringNeed c s).ws.chan c).filling = none ∧ ((ringNeed c s).ws.chan c).route = .starved) := by
  have ready := (reclaimed_sound (shortened_sound h c)).pages nofun
  rw [ringNeed_ws]
  generalize (s.shortened c).reclaimed.ws = w at ready ⊢
  cases hp : w.lowestFree with
  | some p =>
    refine .inl ⟨⟨p, ?_, ?_, ?_, .inl ?_⟩, ?_⟩
    all_goals simp [WaveStore.page_allocate, lowestFree_unmarked ready hp]
  | none => simp

theorem eventNeed_outcome {n : Nat} (h : WaveStore.Sound .pages e s.ws) (idle : IdleRoute c (.event n) s.ws) :
    (FreshFill c (eventNeed n c s).ws ∧ ((eventNeed n c s).ws.chan c).route = .event n) ∨
      (((eventNeed n c s).ws.chan c).filling = none ∧ ((eventNeed n c s).ws.chan c).route = .stopped) := by
  have ready := (reclaimed_sound h).pages nofun
  have still := reclaimed_idle idle
  rw [eventNeed_ws]
  generalize s.reclaimed.ws = w at ready still ⊢
  obtain ⟨-, route⟩ := still
  cases hp : w.lowestFree with
  | some p =>
    have kept : (((w.allocate p (.event n c)).appendPage n c p).chan c) = w.chan c := rfl
    have page : (((w.allocate p (.event n c)).appendPage n c p).page p) = (w.allocate p (.event n c)).page p := rfl
    refine .inl ⟨⟨p, ?_, ?_, ?_, .inr ⟨n, ?_⟩⟩, ?_⟩
    all_goals simp [page, kept, route, WaveStore.page_allocate, lowestFree_unmarked ready hp]
  | none => simp

/-- A ring that is trimmed keeps the page it fills. -/
theorem trimRing_fresh (h : WaveStore.Mapped e s.ws) (hf : FreshFill c s.ws) : FreshFill c (trimRing c s).ws := by
  obtain ⟨p, fills, count, marked, hr⟩ := hf
  have out : p ∉ (s.ws.chan c).ring.take ((s.ws.chan c).ring.length - ringDepth s.tu.params.pre) :=
    fun hp => h.onceFilling c p fills (List.mem_of_mem_take hp)
  unfold trimRing
  refine ⟨p, ?_, ?_, ?_, ?_⟩
  all_goals simp [WaveStore.page_releaseAll, out, fills, count, marked, hr]

theorem completionStep_outcome (h : WaveStore.Sound .pages e s.ws) (idle : (s.ws.chan c).filling = none)
    (hr : (s.ws.chan c).route = .ring ∨ ∃ n, (s.ws.chan c).route = .event n) : NeedOutcome c (completionStep c s).ws := by
  have has := enabled_of_route (c := c) h
  unfold completionStep
  obtain hr | ⟨n, hr⟩ := hr
  · rw [hr]
    dsimp only
    have after := (ringNeed_sound h (fun _ => idle) fun _ => has (by simp [hr]) nofun).pages nofun
    obtain ⟨fresh, -⟩ | ⟨none, starved⟩ := ringNeed_outcome (c := c) h
    · exact .inl (trimRing_fresh after fresh)
    · exact .inr (by simp [trimRing, none, starved])
  · rw [hr]
    dsimp only
    obtain ⟨fresh, -⟩ | ⟨none, stopped⟩ := eventNeed_outcome (c := c) h ⟨idle, hr⟩
    · exact .inl fresh
    · exact .inr ⟨none, .inr stopped⟩

/-! ## The pages and routes that a word leaves -/

theorem page_get (w : WaveStore) (p : PageId) : w.page p = w.pages.get p := rfl

/-- The waiting half makes a storage word with the next word, or the word waits (R72). -/
theorem put_fields (wf : s.ws.array.wf = true) {p : PageId} (word : BitVec 32) (t : Time) {g : Page} (hg : g = s.ws.page p) :
    s.ws.put c p word t =
        { s.ws with
          array := (s.ws.put c p word t).array
          pages := s.ws.pages.set p { g with first := if g.count = 0 then some t else g.first, count := g.count + 1 }
          chans := s.ws.chans.set c
            { s.ws.chan c with pair := if (s.ws.chan c).pair = none then some word else none } } ∧
      ∀ a, readWord (s.ws.put c p word t).array a =
        match (s.ws.chan c).pair with
        | some h => if a = p.val * 512 + g.count / 2 then ⟨h, word, 0⟩ else readWord s.ws.array a
        | none => readWord s.ws.array a := by
  subst hg
  unfold WaveStore.put WaveStore.paired
  cases hp : (s.ws.chan c).pair with
  | none => exact ⟨rfl, fun _ => rfl⟩
  | some h => exact ⟨rfl, fun a => readWord_writeWord wf _ a _⟩

theorem closeFilling_fields (wf : s.ws.array.wf = true) {p : PageId} (hf : (s.ws.chan c).filling = some p) {g : Page}
    (hg : g = s.ws.page p) {w : WaveStore} (hw : s.ws.closeFilling c = w) :
    w =
        { s.ws with
          array := w.array, pages := s.ws.pages.set p { g with filling := false }
          chans :=
            s.ws.chans.set c
              { s.ws.chan c with
                filling := none, pair := none
                ring := if (s.ws.chan c).route = .ring then (s.ws.chan c).ring ++ [p] else (s.ws.chan c).ring } } ∧
      ∀ a, readWord w.array a =
        match (s.ws.chan c).pair with
        | some h => if a = p.val * 512 + g.count / 2 then ⟨h, padWord.bits, 0⟩ else readWord s.ws.array a
        | none => readWord s.ws.array a := by
  subst hg hw
  unfold WaveStore.closeFilling WaveStore.flushPair
  rw [hf]
  cases hp : (s.ws.chan c).pair with
  | none => exact ⟨rfl, fun _ => rfl⟩
  | some h => exact ⟨rfl, fun a => readWord_writeWord wf _ a _⟩

theorem mustClose_iff {p : PageId} (hf : (s.ws.chan c).filling = some p) {time : Time}
    (hfirst : 1 ≤ (s.ws.page p).count → ∃ f, (s.ws.page p).first = some f) :
    mustClose s.ws c time = true ↔
      (s.ws.page p).faulty = true ∨
        ¬((s.ws.page p).count = 0 ∨
          ∃ f, (s.ws.page p).first = some f ∧ time.toNs = f.toNs + 10000000 * (s.ws.page p).count) := by
  simp only [mustClose, hf, Bool.or_eq_true]
  refine or_congr Iff.rfl ?_
  cases hx : (s.ws.page p).first with
  | none =>
    have zero : (s.ws.page p).count = 0 := by
      by_contra no
      obtain ⟨f, hf⟩ := hfirst (by omega)
      simp [hx] at hf
    simp [zero]
  | some f => simp [sampleNs, Nat.one_le_iff_ne_zero]

end

/-- What the store does with one word, on a page map as every step keeps it. -/
theorem storeWord_facts (s : State) (c : Channel) (word : BitVec 32) (time : Time) (ch : StoreChannel) (dropped : State → State)
    (hmem : MemoryInv s) (hpage : PageInv s) (hch : ch = s.ws.chans.get c)
    (hdrop : dropped = fun x =>
      { x with
        ws :=
          { x.ws with
            chans := x.ws.chans.set c { x.ws.chans.get c with dropped := ((x.ws.chans.get c).dropped + 1) % 4294967296 } } }) :
    (ch.route = .off → storeWord c word time s = s) ∧ (ch.route = .stopped → storeWord c word time s = dropped s) ∧
    (ch.route = .starved →
      storeWord c word time s =
        if ((ringNeed c s).ws.chans.get c).route = .ring then storeWord c word time (ringNeed c s)
        else dropped (ringNeed c s)) ∧
    (∀ n, ch.route = .event n → ch.filling = none →
      storeWord c word time s =
        if ((eventNeed n c s).ws.chans.get c).route = .stopped then dropped (eventNeed n c s)
        else storeWord c word time (eventNeed n c s)) ∧
    (∀ (p : PageId) (g : Page) (follows : Prop), ch.filling = some p → g = s.ws.pages.get p →
      (follows ↔ g.count = 0 ∨ ∃ f, g.first = some f ∧ time.toNs = f.toNs + 10000000 * g.count) →
      (1 ≤ g.count → ∃ f, g.first = some f) →
      (g.faulty = false → follows →
        ∃ u, ChangesOnly [.ws] s u ∧
          u.ws =
            { s.ws with
              array := u.ws.array
              pages :=
                s.ws.pages.set p { g with first := if g.count = 0 then some time else g.first, count := g.count + 1 }
              chans := s.ws.chans.set c { ch with pair := if ch.pair = none then some word else none } } ∧
          (∀ a, readWord u.ws.array a =
            match ch.pair with
            | some h => if a = p.val * 512 + g.count / 2 then ⟨h, word, 0⟩ else readWord s.ws.array a
            | none => readWord s.ws.array a) ∧
          storeWord c word time s =
            if g.count + 1 = 1024 then completionStep c { u with ws := u.ws.closeFilling c } else u) ∧
      (g.faulty = true ∨ ¬follows →
        ∃ u, u = completionStep c { s with ws := s.ws.closeFilling c } ∧
          storeWord c word time s =
            if (u.ws.chans.get c).filling = none then dropped u else storeWord c word time u) ∧
      ∃ w, s.ws.closeFilling c = w ∧
        w =
          { s.ws with
            array := w.array, pages := s.ws.pages.set p { g with filling := false }
            chans :=
              s.ws.chans.set c
                { ch with filling := none, pair := none, ring := if ch.route = .ring then ch.ring ++ [p] else ch.ring } } ∧
        ∀ a, readWord w.array a =
          match ch.pair with
          | some h =>
            if a = p.val * 512 + g.count / 2 then
              ⟨h, (⟨0, false, false, false, false, true⟩ : SampleWord).bits, 0⟩
            else readWord s.ws.array a
          | none => readWord s.ws.array a) := by
  have sound : WaveStore.Sound .pages (enabledIn s.pt.tier) s.ws := (storeKept_pages s).mpr hpage
  have mapped := sound.pages nofun
  have drop (x : State) : dropped x = dropWord c x := by
    rw [hdrop]
    rfl
  simp only [drop]
  obtain rfl : ch = s.ws.chan c := hch
  refine ⟨fun hr => ?_, fun hr => storeWord_stopped hr word time, fun hr => ?_, fun n hr hf => ?_,
    fun p g follows hf hg hfollows hfirst => ⟨fun good hfol => ?_, fun bad => ?_, ?_⟩⟩
  · unfold storeWord
    rw [hr]
  · rw [storeWord_starved hr]
    refine if_ctx_congr Iff.rfl (fun ring => ?_) fun _ => rfl
    obtain ⟨fresh, -⟩ | ⟨-, starved⟩ := ringNeed_outcome (c := c) sound
    · exact (storeWord_fresh fresh word time).symm
    · exact absurd (starved.symm.trans ring) nofun
  · rw [storeWord_event hr hf]
    obtain ⟨fresh, route⟩ | ⟨idle, stopped⟩ := eventNeed_outcome (c := c) (n := n) sound ⟨hf, hr⟩
    · rw [if_neg (show ((eventNeed n c s).ws.chans.get c).route ≠ .stopped from fun h => nomatch route.symm.trans h),
        storeWord_fresh fresh]
      obtain ⟨q, hq, -⟩ := fresh
      rw [if_pos (by simp [hq])]
    · rw [if_pos (show ((eventNeed n c s).ws.chans.get c).route = .stopped from stopped), if_neg (by simp [idle])]
  all_goals
    obtain rfl : g = s.ws.page p := hg
    have route : (s.ws.chan c).route = .ring ∨ ∃ n, (s.ws.chan c).route = .event n :=
      (mapped.fills c p hf).imp id fun ⟨n, hn, _⟩ => ⟨n, hn⟩
  · have stays : mustClose s.ws c time = false := by
      rw [← Bool.not_eq_true, mustClose_iff hf hfirst, good, ← hfollows]
      simp [hfol]
    obtain ⟨ws, array⟩ := put_fields (s := s) (c := c) hmem word time (p := p) rfl
    refine ⟨{ s with ws := s.ws.put c p word time }, fun b hb => ?_, ws, array, ?_⟩
    · cases b with
      | ws => simp at hb
      | _ => rfl
    · rw [storeWord_filling hf route stays, putWord_eq hf]
  · have closes : mustClose s.ws c time = true := by
      rw [mustClose_iff hf hfirst, ← hfollows]
      exact bad
    refine ⟨_, rfl, storeWord_closing route closes rfl ?_ word⟩
    refine completionStep_outcome (e := enabledIn s.pt.tier) (s := s.modWs fun w => w.closeFilling c) (sound.closeFilling c)
      (filling_closeFilling s.ws c) ?_
    simpa only [State.modWs_ws, route_closeFilling] using route
  · exact ⟨_, rfl, closeFilling_fields hmem hf rfl rfl⟩

end Sys2Proof.Machine

/-! PROOFS. A whole frame of the digitizer and its decision (R25 to R28, R30 to R33). -/

namespace Sys2Proof.Machine

section

variable {s : State}

/-- A byte inside a frame: the thirteenth completes it. -/
theorem digitizerByte_inside {b : Byte} {rx : List Byte} (hs : s.si.rx = b :: rx) (x : Byte) :
    digitizerByte s x =
      if (b :: rx ++ [x]).length = digitizerLength then decideFrame (b :: rx ++ [x]) (s.modSi fun i => { i with rx := [] })
      else s.modSi fun i => { i with rx := b :: rx ++ [x] } := by
  unfold digitizerByte
  rw [hs]
  rfl

/-- Bytes inside a frame are gathered. -/
theorem digitizerBytes_gather (l : List Byte) (b : Byte) (rx : List Byte) (h : rx.length + 1 + l.length < 13)
    (hs : s.si.rx = b :: rx) :
    l.foldl digitizerByte s = s.modSi fun i => { i with rx := b :: rx ++ l } := by
  induction l generalizing s rx with
  | nil =>
    rw [List.append_nil, ← hs]
    rfl
  | cons x l ih =>
    have one : digitizerByte s x = s.modSi fun i => { i with rx := b :: (rx ++ [x]) } := by
      have short : ((b :: rx) ++ [x]).length ≠ digitizerLength := by
        simp only [List.length_append, List.length_cons, List.length_nil] at h ⊢
        rw [show digitizerLength = 13 from rfl]
        omega
      rw [digitizerByte_inside hs, if_neg short]
      rfl
    rw [List.foldl_cons, one, ih (rx ++ [x]) (by simp at h ⊢; omega) rfl]
    simp [State.modSi]

/-- A whole frame into an empty receiver is decided. -/
theorem digitizerBytes_frame {f : List Byte} (hrx : s.si.rx = []) (hlen : f.length = 13) (hhead : f.head? = some 0x5A) :
    f.foldl digitizerByte s = decideFrame f s := by
  obtain ⟨l, z, rfl⟩ : ∃ l z, f = 0x5A :: l ++ [z] := by
    obtain _ | ⟨b, f⟩ := f
    · simp at hlen
    · obtain rfl : b = 0x5A := by simpa using hhead
      have ne : f ≠ [] := by
        rintro rfl
        simp at hlen
      exact ⟨f.dropLast, f.getLast ne, by simp [List.dropLast_append_getLast]⟩
  have first : digitizerByte s 0x5A = s.modSi fun i => { i with rx := [0x5A] } := by
    unfold digitizerByte
    rw [hrx]
    rfl
  have short : l.length = 11 := by simp at hlen; omega
  have whole : (0x5A :: l ++ [z]).length = digitizerLength := hlen
  rw [List.foldl_append]
  show digitizerByte (l.foldl digitizerByte (digitizerByte s 0x5A)) z = _
  rw [first, digitizerBytes_gather l 0x5A [] (by simp [short]) rfl]
  have empty : (s.modSi fun i => { i with rx := [0x5A] }).modSi (fun i => { i with rx := [0x5A] ++ l }) =
      s.modSi fun i => { i with rx := 0x5A :: l } := rfl
  rw [empty]
  show digitizerByte (s.modSi fun i => { i with rx := 0x5A :: l }) z = _
  rw [digitizerByte_inside (s := s.modSi fun i => { i with rx := 0x5A :: l }) rfl, if_pos whole]
  congr 1
  have same : ({ s.si with rx := [] } : SampleInterface) = s.si := by rw [← hrx]
  exact congrArg (fun i => { s with si := i }) same

theorem exec_digitizerFrame (d : Elapsed) (f : List Byte) (hp : s.powered = true) (hm : s.tb.clock = .main) (hsens : s.pt.enSens = true) :
    exec (.digitizerFrame d f) s = .next (f.foldl digitizerByte (s.elapse d)) := by
  refine (timed_powered s d (fun s => if siListens s then f.foldl digitizerByte s else s) hp).trans ?_
  rw [if_pos]
  simp [siListens, State.mainRuns, hm, hsens]

/-! ## The decision -/

/-- What SI makes of the frame: its window closes, with the counts and marks of R28. -/
def SampleInterface.decided (i : SampleInterface) (f : List Byte) (w : Window) : SampleInterface :=
  if !frameCrcGood f then { i with window := none, crcGapCount := inc32 i.crcGapCount }
  else if i.aligned && frameNumber f != (w.seq + i.offset) % 256 then noteSequenceGap i
  else noteGood f w i

/-- The words of the window that the frame closes. -/
def frameWords (f : List Byte) (w : Window) (i : SampleInterface) (step heat : Bool) : Channel → SampleWord :=
  if frameCrcGood f && (!i.aligned || frameNumber f == (w.seq + i.offset) % 256) then goodWords f step heat else gapWords i step heat

theorem decided_marks (i : SampleInterface) (f : List Byte) (w : Window) :
    (i.decided f w).stepCarry = i.stepCarry ∧ (i.decided f w).heatMark = i.heatMark := by
  unfold SampleInterface.decided noteSequenceGap noteGood
  dsimp only
  (repeat' split) <;> exact ⟨rfl, rfl⟩

theorem decideFrame_eq {w : Window} (hw : s.si.window = some w) (h : s.pt.tier ≠ .hibernate) (f : List Byte)
    {words : Channel → SampleWord} (hwords : words = frameWords f w s.si (w.step || s.si.stepCarry) s.si.heatMark) :
    decideFrame f s =
      { storeAll words w.time (enabledChannels s.pt.tier) { s with si := (s.si.decided f w).unmarked } with
        fe := { s.fe with waiting := s.fe.waiting ++ [⟨w.time, (enabledChannels s.pt.tier).map fun c => (c, words c)⟩] } } := by
  have marks := decided_marks s.si f w
  have run : ∃ word : Bool → Bool → Channel → SampleWord, words = word (w.step || s.si.stepCarry) s.si.heatMark ∧
      decideFrame f s = deliver w word { s with si := s.si.decided f w } := by
    unfold frameWords at hwords
    unfold decideFrame SampleInterface.decided
    rw [hw]
    by_cases crc : frameCrcGood f = true
    · by_cases gap : (s.si.aligned && frameNumber f != (w.seq + s.si.offset) % 256) = true
      · refine ⟨gapWords s.si, ?_, ?_⟩
        · rw [hwords, if_neg]
          simp only [Bool.and_eq_true, bne_iff_ne] at gap
          simp [gap]
        · simp only [crc, gap, Bool.not_true, Bool.false_eq_true, if_false, if_true]
          have held : (noteSequenceGap s.si).held = s.si.held := by
            unfold noteSequenceGap
            dsimp only
            split <;> rfl
          have same : gapWords (noteSequenceGap s.si) = gapWords s.si := by
            funext a b c
            simp only [gapWords, held]
          unfold deliverGap
          exact congrArg (fun x => deliver w x (s.modSi noteSequenceGap)) same
      · refine ⟨goodWords f, ?_, ?_⟩
        · rw [hwords, if_pos]
          simp only [Bool.and_eq_true, bne_iff_ne, not_and_or, not_not, Bool.not_eq_true] at gap
          simpa [crc] using gap
        · simp only [crc, gap, Bool.not_true, Bool.false_eq_true, if_false]
          rfl
    · refine ⟨gapWords s.si, ?_, ?_⟩
      · rw [hwords, if_neg]
        simp [crc]
      · simp only [crc, Bool.not_false, if_true]
        rfl
  obtain ⟨word, hword, run⟩ := run
  rw [run]
  exact deliver_eq (s := { s with si := s.si.decided f w }) h w word (words := words) (by rw [hword, marks.1, marks.2])

end

/-- Settles O11: the decision on a whole frame by the table of R28, and what the store does with a word. -/
theorem digitizerFrameDecided : Obligations.DigitizerFrameDecided := by
  refine ⟨fun d s f hp hm hsens ht hrx hlen hhead => ⟨fun hw => ?_, fun w crcOk number expected sample ovr hw hcrc hnum hexp hsample hovr => ?_⟩,
    storeWord_facts⟩
  · rw [exec_digitizerFrame d f hp hm hsens, digitizerBytes_frame (s := s.elapse d) hrx hlen hhead]
    unfold decideFrame
    rw [show (s.elapse d).si.window = none from hw]
    rfl
  · have crc : frameCrcGood f = crcOk := hcrc.symm
    have num : frameNumber f = number := by
      obtain _ | ⟨a, _ | ⟨b, l⟩⟩ := f
      · simp at hlen
      · simp at hlen
      · rw [hnum]
        exact getU_byte b l
    have value (c : Channel) : (frameSamples f).get c = sample c := by
      rw [hsample]
      cases c <;> rfl
    have over_ (c : Channel) : (frameOverranges f).get c = ovr c := by
      rw [hovr]
      cases c <;> rfl
    have held : frameSamples f = ⟨sample .z, sample .n, sample .e⟩ := by rw [← value .z, ← value .n, ← value .e]; rfl
    have words : (fun c =>
        if crcOk && (!s.si.aligned || number = expected) then
          (⟨sample c, false, ovr c, w.step || s.si.stepCarry, s.si.heatMark, false⟩ : SampleWord)
        else ⟨s.si.held.get c, true, false, w.step || s.si.stepCarry, s.si.heatMark, false⟩) =
        frameWords f w s.si (w.step || s.si.stepCarry) s.si.heatMark := by
      funext c
      unfold frameWords
      rw [crc, num, ← hexp, beq_eq_decide]
      split
      · simp only [goodWords, value, over_]
      · rfl
    have run := decideFrame_eq (s := s.elapse d) hw ht f words
    rw [exec_digitizerFrame d f hp hm hsens, digitizerBytes_frame (s := s.elapse d) hrx hlen hhead]
    refine ⟨_, rfl, ?_⟩
    generalize decideFrame f (s.elapse d) = t at run ⊢
    have start : ChangesOnly [.si] (s.elapse d) { s.elapse d with si := (s.si.decided f w).unmarked } := fun b hb => by
      cases b with
      | si => simp at hb
      | _ => rfl
    have stored := storeAll_changes (s := { s.elapse d with si := (s.si.decided f w).unmarked })
      (frameWords f w s.si (w.step || s.si.stepCarry) s.si.heatMark) w.time (enabledChannels (s.elapse d).pt.tier)
    rw [← words] at stored
    have all := (start.mono (cs := [.si, .fe, .ws, .et, .pt, .sl]) (by decide)).trans (stored.mono (by decide))
    have si : t.si = (s.si.decided f w).unmarked := by
      rw [run]
      exact stored .si (by decide)
    refine ⟨fun b hb => ?_, ⟨_, start, ?_⟩, ?_, fun hbad => ?_, fun hok hal heq => ?_, fun hok hal hne => ?_, fun hok hal => ?_⟩
    · have kept := all b hb
      rw [run]
      cases b with
      | si | fe => simp at hb
      | _ => exact kept
    · have same : t = { storeAll (fun c =>
            if crcOk && (!s.si.aligned || number = expected) then
              (⟨sample c, false, ovr c, w.step || s.si.stepCarry, s.si.heatMark, false⟩ : SampleWord)
            else ⟨s.si.held.get c, true, false, w.step || s.si.stepCarry, s.si.heatMark, false⟩) w.time
            (enabledChannels s.pt.tier) { s.elapse d with si := (s.si.decided f w).unmarked } with si := t.si, fe := t.fe } := by
        rw [run]
        rfl
      exact same
    · rw [run]
      rfl
    all_goals
      rw [si]
      unfold SampleInterface.decided
      rw [crc]
    · rw [hbad]
      rfl
    · simp only [hok, hal, num, ← hexp, heq, noteGood, held, Bool.not_true, Bool.false_eq_true, if_false, bne_self_eq_false,
        Bool.and_false, if_true]
      rfl
    · have gap : (true && number != expected) = true := by simpa using hne
      simp only [hok, hal, num, ← hexp, gap, Bool.not_true, Bool.false_eq_true, if_false, if_true]
      unfold noteSequenceGap
      dsimp only
      rw [show mismatchLimit = 8 from rfl]
      by_cases run8 : s.si.mismatchRun + 1 < 8
      · rw [if_neg (by omega), if_pos run8, decide_eq_true run8, ← hal]
        rfl
      · rw [if_pos (by omega), if_neg run8, decide_eq_false run8]
        rfl
    · simp only [hok, hal, noteGood, held, num, Bool.not_true, Bool.false_eq_true, if_false, Bool.false_and]
      rfl

end Sys2Proof.Machine

/-! PROOFS. The schedule of the uplink: the decision of a frame, the rail-window mark, and the demand for the modem rail
(R122, R124, R172). -/

namespace Sys2Proof.Machine

section

variable {s : State}

/-! ## The modem rail -/

theorem modemDemand_iff :
    modemDemand s = true ↔
      match s.pt.tier with
      | .full => True
      | .conserve | .survive => s.al.windows ≠ [] ∨ s.al.attempt ≠ none
      | .hibernate => s.pt.gasp ≠ none := by
  unfold modemDemand
  cases s.pt.tier <;> simp [Option.isSome_iff_ne_none]

theorem syncModem_eq {demand : Bool} (h : modemDemand s = demand) :
    syncModem s =
      { s with
        pt :=
          { s.pt with
            enModem := demand
            modemOnAt := if demand = true ∧ s.pt.enModem = false then s.clk.mainRun else s.pt.modemOnAt } } := by
  have pt (p : PowerTier) :
      (if demand then if p.enModem then p else { p with enModem := true, modemOnAt := s.clk.mainRun } else { p with enModem := false }) =
        { p with
          enModem := demand, modemOnAt := if demand = true ∧ p.enModem = false then s.clk.mainRun else p.modemOnAt } := by
    cases p
    cases demand
    · simp
    · simp only [if_true, true_and]
      split <;> simp_all
  unfold syncModem
  rw [h]
  exact congrArg (fun p => { s with pt := p }) (pt s.pt)

/-! ## The decision of a frame -/

theorem exec_uplinkDecision (d : Elapsed) (hp : s.powered = true) :
    exec (.uplinkDecision d) s = .next (if atDecision (s.elapse d) then decideUplink (s.elapse d) else s.elapse d) :=
  timed_powered s d (fun s => if atDecision s then decideUplink s else s) hp

theorem decisionNs_eq (f : Nat) : decisionNs f = f * 60000000000 + 100000000 := by
  unfold decisionNs frameStart nsPerSec
  omega

theorem decision_toNs (f : Nat) : Time.toNs ⟨f * 60, 100000000⟩ = decisionNs f := rfl

/-- Time stands at the decision instant of the frame. -/
theorem atDecision_now {f : Nat} (ht : s.clk.time = ⟨f * 60, 100000000⟩) (hm : s.tb.clock = .main) :
    s.now.sec / 60 = f ∧ atDecision s = true := by
  have now : s.now = ⟨f * 60, 100000000⟩ := (now_main hm).trans ht
  have frame : s.now.sec / 60 = f := by
    rw [now]
    exact Nat.mul_div_cancel f (by decide)
  refine ⟨frame, ?_⟩
  rw [atDecision, frame, Bool.and_eq_true, State.reached_iff, now, decision_toNs]
  exact ⟨decide_eq_true hm, .inl rfl⟩

theorem atDecision_stopped (hm : s.tb.clock ≠ .main) : atDecision s = false := by simp [atDecision, State.mainRuns, hm]

/-- The decision instant that a step has carried time past is not reached. -/
theorem atDecision_passed {p : Time} (hm : s.tb.clock = .main) (hp : s.tb.movedTo = some p)
    (before : decisionNs (s.clk.time.sec / 60) < p.toNs) (after : p.toNs ≤ s.clk.time.toNs) : atDecision s = false := by
  rw [atDecision, Bool.and_eq_false_iff, ← Bool.not_eq_true (s.reached _), State.reached_iff, now_main hm]
  refine .inr fun h => ?_
  obtain h | ⟨-, -, h⟩ := h
  · omega
  · exact absurd (h p hp) (not_le.mpr before)

theorem ownSlotAllowed_iff (t : TimeBase) :
    ownSlotAllowed t = true ↔ (t.grade = .tracking ∨ t.grade = .locked ∨ t.grade = .hold) ∧ t.u ≤ 400000000 := by
  rw [ownSlotAllowed, Bool.and_eq_true]
  exact and_congr (by simp [or_assoc]) decide_eq_true_iff

theorem timeOfNs_decision {f : Nat} (hf : f * 60 < 4294967296) : timeOfNs (decisionNs f) = ⟨f * 60, 100000000⟩ := by
  have sec : decisionNs f / nsPerSec = f * 60 := by
    rw [decisionNs_eq, show nsPerSec = 1000000000 from rfl]
    omega
  have ns : decisionNs f % nsPerSec = 100000000 := by
    rw [decisionNs_eq, show nsPerSec = 1000000000 from rfl]
    omega
  rw [timeOfNs, sec, ns, secondsCount, if_pos hf]

theorem decidedUpTo_eq_false (a : AlertScheduler) (f : Nat) (h : ∀ x, a.decided = some x → x.frame < f) : decidedUpTo a f = false := by
  unfold decidedUpTo
  split
  · next x hx => simpa using h x hx
  · rfl

theorem noIssueAhead_iff {a : AlertScheduler} {x : Decided} (hx : a.decided = some x) (f : Nat) :
    noIssueAhead a f = true ↔ ¬((x.frame = f ∧ x.taken = false) ∨ ∃ y, a.attempt = some y ∧ y.frame = f) := by
  unfold noIssueAhead awaitsIssue holdsAttempt
  rw [hx]
  cases hy : a.attempt <;> simp

/-! ## The rail-window mark -/

theorem exec_railWindowMark (d : Elapsed) (hp : s.powered = true) :
    exec (.railWindowMark d) s = .next (if atRailMark (s.elapse d) then railMark (s.elapse d) else s.elapse d) :=
  timed_powered s d (fun s => if atRailMark s then railMark s else s) hp

theorem atRailMark_now {f : Nat} (ht : s.clk.time = ⟨f * 60 + 55, 100000000⟩) (hm : s.tb.clock = .main) :
    s.now.sec / 60 = f ∧ atRailMark s = true := by
  have now : s.now = ⟨f * 60 + 55, 100000000⟩ := (now_main hm).trans ht
  have frame : s.now.sec / 60 = f := by
    rw [now]
    show (f * 60 + 55) / 60 = f
    omega
  refine ⟨frame, ?_⟩
  rw [atRailMark, frame, Bool.and_eq_true, State.reached_iff, now, decisionNs_eq]
  refine ⟨decide_eq_true hm, .inl ?_⟩
  show (f * 60 + 55) * 1000000000 + 100000000 = _
  omega

theorem headSelectable_isSome_iff : (headSelectable s).isSome = true ↔ ∃ e ∈ s.al.queue, e.inFlight = false ∧ Admitted s e := by
  rw [headSelectable_eq, List.findSome?_isSome_iff]
  simp only [List.find?_isSome, Bool.and_eq_true, decide_eq_true_eq, selectable_iff]
  constructor
  · rintro ⟨c, -, e, he, -, sel⟩
    exact ⟨e, he, sel⟩
  · rintro ⟨e, he, sel⟩
    exact ⟨e.cls, by cases e.cls <;> decide, e, he, rfl, sel⟩

theorem railMark_opens (ht : s.pt.tier = .conserve ∨ s.pt.tier = .survive)
    (he : ∃ e ∈ s.al.queue, e.inFlight = false ∧ Admitted s e) {f : Nat} (hf : s.now.sec / 60 = f) :
    railMark s =
      { s with
        al := { s.al with windows := if f + 1 ∈ s.al.windows then s.al.windows else s.al.windows ++ [f + 1] }
        pt := { s.pt with enModem := true, modemOnAt := if s.pt.enModem then s.pt.modemOnAt else s.clk.mainRun } } := by
  have open_ : ((s.pt.tier = .conserve || s.pt.tier = .survive) && (headSelectable s).isSome) = true := by
    simp [headSelectable_isSome_iff.mpr he, ht]
  have windows : (openWindow (f + 1) s).al.windows = if f + 1 ∈ s.al.windows then s.al.windows else s.al.windows ++ [f + 1] := by
    simp [openWindow]
  have demand : modemDemand (openWindow (f + 1) s) = true := by
    have some : (openWindow (f + 1) s).al.windows ≠ [] := by
      rw [windows]
      split
      · next h => exact List.ne_nil_of_mem h
      · simp
    rw [modemDemand_iff, openWindow_pt]
    obtain ht | ht := ht <;> rw [ht] <;> exact .inl some
  unfold railMark
  rw [if_pos open_, hf, syncModem_eq demand]
  simp only [openWindow, State.modAl, List.contains_iff_mem, true_and]
  cases s.pt.enModem <;> rfl

theorem railMark_idle (h : s.pt.tier = .full ∨ s.pt.tier = .hibernate ∨ ∀ e ∈ s.al.queue, e.inFlight = true ∨ ¬Admitted s e) :
    railMark s = s := by
  refine if_neg ?_
  rw [Bool.and_eq_true, headSelectable_isSome_iff]
  rintro ⟨ht, e, he, sel, adm⟩
  obtain h | h | h := h
  · simp [h] at ht
  · simp [h] at ht
  · obtain h | h := h e he
    · simp [h] at sel
    · exact h adm

end

/-- Settles O31: the decision of a frame, the opening of its rail window, and the demand for the modem rail. -/
theorem framesDecidedAndRailWindows : Obligations.FramesDecidedAndRailWindows := by
  refine ⟨fun d s f hp hf ht => ⟨fun hm hd => ⟨fun hown => ?_, fun hown => ?_⟩, fun x hm hx hle => ⟨fun h => ?_, fun h => ?_⟩, fun hm => ?_⟩,
    fun d s p hp hm hmoved hb ha => ?_, fun d s f hp hm ht => ⟨fun htier he => ?_, fun h => ?_⟩, fun s demand h => ?_⟩
  case refine_5 => rw [exec_uplinkDecision d hp, atDecision_stopped (s := s.elapse d) hm]; rfl
  case refine_6 =>
    rw [exec_uplinkDecision d hp, atDecision_passed (s := s.elapse d) hm hmoved (by rwa [decisionNs_eq]) ha]
    rfl
  case refine_7 =>
    obtain ⟨frame, mark⟩ := atRailMark_now (s := s.elapse d) ht hm
    rw [exec_railWindowMark d hp, if_pos mark, railMark_opens (s := s.elapse d) htier he frame]
    rfl
  case refine_8 =>
    obtain ⟨frame, mark⟩ := atRailMark_now (s := s.elapse d) ht hm
    rw [exec_railWindowMark d hp, if_pos mark, railMark_idle (s := s.elapse d) h]
  case refine_9 =>
    have dem : modemDemand s = demand := Bool.eq_iff_iff.mpr (modemDemand_iff.trans (h.trans (by cases s.pt.tier <;> rfl)).symm)
    exact ⟨dem, syncModem_eq dem⟩
  all_goals
    obtain ⟨frame, now⟩ := atDecision_now (s := s.elapse d) ht hm
    rw [exec_uplinkDecision d hp, if_pos now]
    unfold decideUplink
    dsimp only
    rw [frame]
  · rw [show decidedUpTo (s.elapse d).al f = false from decidedUpTo_eq_false _ _ hd]
    simp only [Bool.false_eq_true, if_false, decideFrameSlot]
    rw [if_pos (show ownSlotAllowed (s.elapse d).tb = true from (ownSlotAllowed_iff _).mpr hown)]
    rfl
  · rw [show decidedUpTo (s.elapse d).al f = false from decidedUpTo_eq_false _ _ hd]
    simp only [Bool.false_eq_true, if_false, decideFrameSlot]
    rw [if_neg (show ¬ownSlotAllowed (s.elapse d).tb = true from fun h => hown ((ownSlotAllowed_iff _).mp h)), timeOfNs_decision hf]
    rfl
  all_goals rw [if_pos (show decidedUpTo (s.elapse d).al f = true by simpa [decidedUpTo, hx] using hle)]
  · rw [if_neg fun hno => (noIssueAhead_iff (a := (s.elapse d).al) hx f).mp hno h]
  · rw [if_pos ((noIssueAhead_iff (a := (s.elapse d).al) hx f).mpr h)]
    rfl

end Sys2Proof.Machine

/-! PROOFS. The issue instant of a decided frame: its checks, and the attempt with its payload (R119, R123, R125, 11.5). -/

namespace Sys2Proof.Machine

section

variable {s : State}

theorem exec_issueInstant (d : Elapsed) (mbf : Bool) (hp : s.powered = true) {x : State}
    (hx : x = { s.elapse d with lines := { s.lines with mbf := mbf } }) :
    exec (.issueInstant d mbf) s =
      .next (match issueFrame x with
        | some y => takeIssue y mbf x
        | none => x) := by
  subst hx
  exact timed_powered s d (fun s =>
    match issueFrame (s.modLines fun l => { l with mbf := mbf }) with
    | some y => takeIssue y mbf (s.modLines fun l => { l with mbf := mbf })
    | none => s.modLines fun l => { l with mbf := mbf }) hp

theorem issueFrame_taken {x : Decided} (hx : s.al.decided = some x) (ht : x.taken = true) : issueFrame s = none := by
  unfold issueFrame
  rw [hx]
  simp [ht]

theorem issueFrame_due {x : Decided} (hm : s.tb.clock = .main) (hx : s.al.decided = some x) (ht : x.taken = false)
    (hd : s.clk.time.toNs = x.issue.toNs) : issueFrame s = some x := by
  unfold issueFrame
  rw [hx]
  simp [ht, State.mainRuns, hm, now_main hm, hd, reachedNs]

theorem modemWarm_iff : modemWarm s = true ↔ s.pt.enModem = true ∧ s.pt.modemOnAt + 120000000 ≤ s.clk.mainRun := by
  rw [modemWarm, Bool.and_eq_true]
  exact and_congr_right fun _ => decide_eq_true_iff

/-- The checks that let an issue instant make no attempt (R123). -/
def IssueFails (x : Decided) (s : State) : Prop :=
  (x.slot ≠ 0 ∧ ¬((s.tb.grade = .tracking ∨ s.tb.grade = .locked ∨ s.tb.grade = .hold) ∧ s.tb.u ≤ 400000000)) ∨
    s.al.attempt ≠ none ∨ ¬(s.pt.enModem = true ∧ s.pt.modemOnAt + 120000000 ≤ s.clk.mainRun)

theorem issueChecks_fails {x : Decided} (h : IssueFails x s) (mbf : Bool) : issueChecks x mbf s = closeWindow x.frame s := by
  unfold issueChecks
  obtain h | h | h := h
  · rw [if_pos ⟨h.1, fun ho => h.2 ((ownSlotAllowed_iff _).mp ho)⟩]
  · rw [if_pos (Option.isSome_iff_ne_none.mpr h), ite_self]
  · have cold : (!modemWarm s) = true := by simpa using fun hw => h (modemWarm_iff.mp hw)
    rw [if_pos cold, ite_self, ite_self]

theorem issueChecks_passes {x : Decided} (h : ¬IssueFails x s) (mbf : Bool) :
    issueChecks x mbf s =
      if mbf then closeWindow x.frame (s.modAl fun a => { a with mbfSkips := inc32 a.mbfSkips })
      else match headSelectable s with
        | some e => startAttempt x.frame e s
        | none => closeWindow x.frame s := by
  unfold IssueFails at h
  rw [not_or, not_or, not_and, not_not, not_not, not_not] at h
  obtain ⟨slot, idle, warm⟩ := h
  unfold issueChecks
  rw [if_neg fun hs => hs.2 ((ownSlotAllowed_iff _).mpr (slot hs.1)), if_neg (by simp [idle]),
    if_neg (by simp [modemWarm_iff.mpr warm])] <;> rfl

/-! ## The payload -/

theorem alertPayload_head (e : Entry) :
    (alertPayload s e).take 5 = putU 2 s.al.params.stationId ++ putU 2 e.id ++ putU 1 (e.cls.priority * 16 + (e.attempts + 1)) ∧
      (alertPayload s e).drop 5 = e.subject.bytes ++ alertBody s e := by
  have len : (putU 2 s.al.params.stationId ++ putU 2 e.id ++ putU 1 (e.cls.priority * 16 + (e.attempts + 1))).length = 5 := by
    simp [putU_length]
  unfold alertPayload
  rw [List.append_assoc _ e.subject.bytes]
  exact ⟨List.take_left' len, List.drop_left' len⟩

theorem quakeFlags_eq (f : EventFlags) :
    quakeFlags f =
      (if f.strong then 1 else 0) + (if f.external then 2 else 0) + (if f.merged then 4 else 0) + (if f.truncated then 8 else 0) := by
  unfold quakeFlags
  cases f.strong <;> cases f.external <;> cases f.merged <;> cases f.truncated <;> rfl

theorem quakeBody_eq {n : Nat} {y : EventRecord} (h : s.record n = some y) :
    quakeBody s (.event n) =
      putTime y.onset ++ [y.grade.code] ++ putU 4 y.u ++ [y.tier.code] ++
        putU 1
          ((if y.flags.strong then 1 else 0) + (if y.flags.external then 2 else 0) +
            (if y.flags.merged then 4 else 0) + (if y.flags.truncated then 8 else 0)) ++
        [y.peaks.z, y.peaks.n, y.peaks.e].flatMap fun k => match k with
          | some k => putU 3 k.peak
          | none => [0, 0, 0] := by
  have peak (k : Option Peak) : putU 3 (peakValue k) = (match k with
      | some k => putU 3 k.peak
      | none => [0, 0, 0]) := by cases k <;> rfl
  simp only [quakeBody, h, quakeFlags_eq, putTri, peak, List.flatMap_cons, List.flatMap_nil, List.append_nil, List.append_assoc]

/-- The record of an event whose alert goes in flight has the content of before. -/
theorem record_alertWritten {n : Nat} {y : EventRecord} (h : s.et.records.find? (fun y => y.number = n) = some y) (j : Subject)
    (a : AlertState) (c : AlertClass) :
    ∃ z, (alertWritten j a c s.et.records).find? (fun y => y.number = n) = some z ∧ z.onset = y.onset ∧ z.grade = y.grade ∧ z.u = y.u ∧
      z.tier = y.tier ∧ z.flags = y.flags ∧ z.peaks = y.peaks := by
  unfold alertWritten
  rw [List.find?_map]
  have same : ((fun y : EventRecord => decide (y.number = n)) ∘ fun r : EventRecord =>
      if j = .event r.number then { r with alert := a, alertClass := some c } else r) = fun y => decide (y.number = n) := by
    funext r
    simp only [Function.comp_apply]
    split <;> rfl
  rw [same, h]
  refine ⟨_, rfl, ?_⟩
  by_cases hj : j = .event y.number <;> simp [hj]

/-- The state in which the payload of an attempt is composed. -/
def State.issuing (s : State) (e : Entry) : State :=
  writeAlert e.subject .inFlight e.cls (updEntry e.id (fun x => { x with inFlight := true }) s)

theorem issuing_fields (e : Entry) :
    s.issuing e =
      { s with
        al := { s.al with queue := s.al.queue.map fun y => if y.id = e.id then { y with inFlight := true } else y }
        et := { s.et with records := alertWritten e.subject .inFlight e.cls s.et.records } } := by
  unfold State.issuing
  rw [writeAlert_eq]
  rfl

/-- The bodies of the payload by class, from the state of the instant. -/
theorem issuing_body (e : Entry) {p : List Byte} (hp : p = alertBody (s.issuing e) e) :
    (e.cls = .host → p = e.text) ∧ (e.cls = .time → p = putU 4 s.tb.u ++ putTime s.now) ∧
      (e.cls = .pwr → p = putU 2 s.ca.soc ++ putS 2 (s.hm.readings.vbat.value.getD 0) ++ putTime s.now) ∧
      (e.cls = .soh →
        p =
          putTime s.now ++ putU 2 s.ca.soc ++ [s.pt.tier.code] ++ putS 2 (s.hm.readings.tbat.value.getD 0) ++
            putS 2 (s.hm.readings.tenc.value.getD 0) ++
            putU 1 ((if s.hm.readings.tbat.valid then 1 else 0) + (if s.hm.readings.tenc.valid then 2 else 0)) ++
            [s.hc.state.code, s.tb.grade.code] ++ putU 4 s.tb.u ++ putU 1 s.al.queue.length) ∧
      ∀ n y, e.cls = .q1 ∨ e.cls = .q2 → e.subject = .event n → s.et.records.find? (fun y => y.number = n) = some y →
        p =
          putTime y.onset ++ [y.grade.code] ++ putU 4 y.u ++ [y.tier.code] ++
            putU 1
              ((if y.flags.strong then 1 else 0) + (if y.flags.external then 2 else 0) +
                (if y.flags.merged then 4 else 0) + (if y.flags.truncated then 8 else 0)) ++
            [y.peaks.z, y.peaks.n, y.peaks.e].flatMap fun k => match k with
              | some k => putU 3 k.peak
              | none => [0, 0, 0] := by
  have valid (b c : Bool) : b.toNat + 2 * c.toNat = (if b then 1 else 0) + (if c then 2 else 0) := by cases b <;> cases c <;> rfl
  have et : (s.issuing e).et.records = alertWritten e.subject .inFlight e.cls s.et.records := by rw [issuing_fields]
  unfold alertBody at hp
  refine ⟨fun hc => ?_, fun hc => ?_, fun hc => ?_, fun hc => ?_, fun n y hc hs hy => ?_⟩
  · rw [hp, hc]
  · rw [hp, hc, issuing_fields]
    rfl
  · rw [hp, hc, issuing_fields]
    rfl
  · rw [hp, hc, issuing_fields]
    simp only [valid, List.length_map]
    rfl
  · have body : p = quakeBody (s.issuing e) (.event n) := by
      rw [hp, ← hs]
      obtain hc | hc := hc <;> rw [hc]
    obtain ⟨z, hz, onset, grade, u, tier, flags, peaks⟩ := record_alertWritten hy e.subject .inFlight e.cls
    have record : (s.issuing e).record n = some z := by rwa [State.record, et]
    rw [body, quakeBody_eq record, onset, grade, u, tier, flags, peaks]

end

/-- Settles O32: the issue instant of a decided frame. -/
theorem issueInstantChecked : Obligations.IssueInstantChecked := by
  intro d s mbf x fails hp hm hx hdue hfails
  generalize hs : ({ s.elapse d with lines := { s.lines with mbf := mbf } } : State) = u
  have base : ChangesOnly [.lines] (s.elapse d) u := fun b hb => by
    rw [← hs]
    cases b with
    | lines => simp at hb
    | _ => rfl
  have al : u.al = s.al := by rw [← hs]; rfl
  refine ⟨fun ht => ?_, fun ht => ?_⟩
  · rw [exec_issueInstant d mbf hp hs.symm, issueFrame_taken (by rwa [al]) ht]
  have frame : issueFrame u = some x := issueFrame_due (by rw [← hs]; exact hm) (by rwa [al]) ht (by rw [← hs]; exact hdue)
  have run : exec (.issueInstant d mbf) s = .next (takeIssue x mbf u) := by
    rw [exec_issueInstant d mbf hp hs.symm, frame]
  obtain ⟨v, hv⟩ : ∃ v, v = u.modAl fun a => { a with decided := some { x with taken := true } } := ⟨_, rfl⟩
  have start : ChangesOnly [.al, .lines] (s.elapse d) v := fun b hb => by
    rw [hv, ← hs]
    cases b with
    | al | lines => simp at hb
    | _ => rfl
  have lines : v.lines = { s.lines with mbf := mbf } := by rw [hv, ← hs]; rfl
  have alV : v.al = { s.al with decided := some { x with taken := true } } := by rw [hv, ← hs]; rfl
  have failsV : IssueFails x v ↔ fails := by
    rw [hfails, hv, ← hs]
    rfl
  have head : headSelectable v = headSelectable s := by rw [hv, ← hs]; rfl
  have run' : exec (.issueInstant d mbf) s = .next (syncModem (issueChecks x mbf v)) := by rw [run, hv, takeIssue]
  have synced (y : State) (bs : List Block) (h : ChangesOnly bs v y) : ChangesOnly (.pt :: .al :: .lines :: bs) (s.elapse d) (syncModem y) :=
    ((start.mono (by simp)).trans (h.mono (by simp +contextual))).trans fun b hb => by
      cases b with
      | pt => simp at hb
      | _ => simp [Block.same]
  have closed (y : State) : ChangesOnly [.al] y (closeWindow x.frame y) := fun b hb => by
    cases b with
    | al => simp at hb
    | _ => rfl
  refine ⟨_, run', ?_, fun h => ?_, fun hn hmbf => ?_, fun e hn hmbf he => ?_⟩
  · rw [syncModem_lines, issueChecks_lines, lines]
  · have checks : issueChecks x mbf v = closeWindow x.frame v := by
      by_cases hf : fails
      · exact issueChecks_fails (failsV.mpr hf) mbf
      · obtain ⟨hmbf, none⟩ := h.resolve_left hf
        rw [issueChecks_passes (fun h => hf (failsV.mp h)), hmbf, head, none]
        rfl
    rw [checks]
    refine ⟨?_, (synced _ _ (closed v)).mono (by decide)⟩
    rw [syncModem_al, closeWindow, State.modAl_al, alV]
  · have checks : issueChecks x mbf v = closeWindow x.frame (v.modAl fun a => { a with mbfSkips := inc32 a.mbfSkips }) := by
      rw [issueChecks_passes (fun h => hn (failsV.mp h)), if_pos hmbf]
    rw [checks]
    have counted : ChangesOnly [.al] v (v.modAl fun a => { a with mbfSkips := inc32 a.mbfSkips }) := fun b hb => by
      cases b with
      | al => simp at hb
      | _ => rfl
    refine ⟨?_, (synced _ _ (counted.trans (closed _))).mono (by decide)⟩
    rw [syncModem_al, closeWindow, State.modAl_al, State.modAl_al, alV]
    rfl
  · have checks : issueChecks x mbf v = startAttempt x.frame e v := by
      rw [issueChecks_passes (fun h => hn (failsV.mp h)), hmbf, head, he]
      rfl
    have fields := issuing_fields (s := v) e
    obtain ⟨hd, tl⟩ := alertPayload_head (s := v.issuing e) e
    obtain ⟨host, time, pwr, soh, quake⟩ := issuing_body (s := v) e rfl
    have ids : (v.issuing e).al.params.stationId = s.al.params.stationId := by rw [fields, alV]
    have changed : ChangesOnly [.al, .et] v (startAttempt x.frame e v) := fun b hb => by
      have same : ∀ b : Block, b ∉ [Block.al, .et] → b.same v (v.issuing e) := fun b hb => by
        rw [fields]
        cases b with
        | al | et => simp at hb
        | _ => rfl
      cases b with
      | al => simp at hb
      | _ => exact same _ hb
    have now : v.now = (s.elapse d).now := by rw [hv, ← hs]; rfl
    have tb : v.tb = s.tb := by rw [hv, ← hs]; rfl
    have ca : v.ca = s.ca := by rw [hv, ← hs]; rfl
    have hmR : v.hm = s.hm := by rw [hv, ← hs]; rfl
    have hcR : v.hc = s.hc := by rw [hv, ← hs]; rfl
    have ptR : v.pt = s.pt := by rw [hv, ← hs]; rfl
    have etR : v.et = s.et := by rw [hv, ← hs]; rfl
    have len : v.al.queue.length = s.al.queue.length := by rw [alV]
    rw [now, tb] at time
    rw [ca, hmR, now] at pwr
    rw [now, tb, ca, hmR, hcR, ptR, len] at soh
    rw [etR] at quake
    rw [checks]
    refine ⟨alertPayload (v.issuing e) e, ?_, hd.trans (by rw [ids]), fun hc => ?_, fun hc => ?_, fun hc => ?_, fun hc => ?_,
      fun n y hc hs hy => ?_, fun n hs => ?_, (synced _ _ changed).mono (by decide)⟩
    · have started : (startAttempt x.frame e v).al =
          { (v.issuing e).al with
            attempt :=
              some ⟨e.id, v.al.handleCounter, .sending, false, none, x.frame,
                modemFrame 0x01 (BitVec.ofNat 8 v.al.handleCounter) (alertPayload (v.issuing e) e)⟩
            handleCounter := (v.al.handleCounter + 1) % 256, attemptsStarted := inc32 (v.issuing e).al.attemptsStarted } := rfl
      have alI : (v.issuing e).al =
          { v.al with queue := v.al.queue.map fun y => if y.id = e.id then { y with inFlight := true } else y } := by rw [fields]
      rw [syncModem_al, started, alI, alV]
      rfl
    · rw [tl, host hc]
    · rw [tl, time hc, ← List.append_assoc]
    · rw [tl, pwr hc]
      simp only [List.append_assoc]
    · rw [tl, soh hc]
      simp only [List.append_assoc]
    · rw [tl, quake n y hc hs hy, hs]
      simp only [List.append_assoc, Subject.bytes] <;> rfl
    · have written : (startAttempt x.frame e v).et.records = alertWritten e.subject .inFlight e.cls v.et.records := by
        show (v.issuing e).et.records = _
        rw [fields]
      rw [syncModem_et, written, hs, alertWritten_event, etR]

end Sys2Proof.Machine

/-! PROOFS. The modem receiver, the stages of an attempt, and what ends it (R126 to R129). -/

namespace Sys2Proof.Machine

section

variable {s : State}

/-- The state with the modem receiver moved on. -/
def State.receivingModem (s : State) (r : ModemRx) : State := s.modAl fun a => { a with rx := r }

theorem receivingModem_same {r : ModemRx} (h : s.al.rx = r) : s.receivingModem r = s := by
  subst h
  rfl

theorem receiveModem_cons (b : Byte) (bytes : List Byte) (h : modemListens s = true) :
    receiveModem (b :: bytes) s = receiveModem bytes (modemByte s b) := by
  rw [receiveModem, List.foldl_cons, modemReceives, if_pos h]
  rfl

theorem receiveModem_deaf (bytes : List Byte) (h : modemListens s = false) : receiveModem bytes s = s := by
  induction bytes with
  | nil => rfl
  | cons b bytes ih =>
    rw [receiveModem, List.foldl_cons, modemReceives, h]
    exact ih

/-! ## A frame byte by byte -/

theorem modemByte_frame (got : List Byte) (b : Byte) :
    modemByte (s.receivingModem (.frame got)) b =
      if (got ++ [b]).length = 3 ∧ maxBody < b.toNat then s.receivingModem .hunt
      else if 3 ≤ (got ++ [b]).length ∧ (got ++ [b]).length = getU (got ++ [b]) 2 1 + 5 then
        completeModemFrame (got ++ [b]) (s.receivingModem .hunt)
      else s.receivingModem (.frame (got ++ [b])) := rfl

/-- Up to its last byte a frame is gathered. -/
theorem receiveModem_gather {kind handle len : Byte} (h : modemListens s = true) (p : List Byte) (got rest : List Byte)
    (hp : got.length + p.length < len.toNat + 2) :
    receiveModem (p ++ rest) (s.receivingModem (.frame (kind :: handle :: len :: got))) =
      receiveModem rest (s.receivingModem (.frame (kind :: handle :: len :: (got ++ p)))) := by
  induction p generalizing got with
  | nil => simp
  | cons b p ih =>
    rw [List.length_cons] at hp
    have listens (r : ModemRx) : modemListens (s.receivingModem r) = true := h
    have field : getU (kind :: handle :: len :: got ++ [b]) 2 1 = len.toNat := getU_byte len (got ++ [b])
    have size : (kind :: handle :: len :: got ++ [b]).length = got.length + 4 := by simp
    rw [List.cons_append, receiveModem_cons _ _ (listens _), modemByte_frame, field, size, if_neg (by omega), if_neg (by omega)]
    have moved := ih (got ++ [b]) (by simp; omega)
    rwa [List.append_assoc] at moved

/-- A whole frame into an empty receiver. -/
theorem receiveModem_frame {kind handle hi lo : Byte} {body : List Byte} (hb : body.length ≤ 48) (h : modemListens s = true)
    (hrx : s.al.rx = .hunt) :
    receiveModem ([0xA5, 0x5A, kind, handle, BitVec.ofNat 8 body.length] ++ body ++ [hi, lo]) s =
      if [hi, lo] = crc16Bytes ([kind, handle, BitVec.ofNat 8 body.length] ++ body) then takeModemFrame kind handle body s else s := by
  have len : (BitVec.ofNat 8 body.length).toNat = body.length := by
    simp only [BitVec.toNat_ofNat]
    omega
  generalize BitVec.ofNat 8 body.length = n at len
  have sync1 : modemByte s 0xA5 = s.receivingModem .sync := by
    unfold modemByte
    rw [hrx]
    rfl
  have sync2 : modemByte (s.receivingModem .sync) 0x5A = s.receivingModem (.frame []) := rfl
  have first : modemByte (s.receivingModem (.frame [])) kind = s.receivingModem (.frame [kind]) := rfl
  have second : modemByte (s.receivingModem (.frame [kind])) handle = s.receivingModem (.frame [kind, handle]) := rfl
  have third : modemByte (s.receivingModem (.frame [kind, handle])) n = s.receivingModem (.frame [kind, handle, n]) := by
    rw [modemByte_frame, if_neg, if_neg]
    · rfl
    · rintro ⟨-, h⟩
      rw [show getU ([kind, handle] ++ [n]) 2 1 = n.toNat from getU_byte n [], len] at h
      simp at h
    · rw [len, show maxBody = 48 from rfl]
      omega
  have listens (r : ModemRx) : modemListens (s.receivingModem r) = true := h
  rw [List.append_assoc]
  show receiveModem (0xA5 :: 0x5A :: kind :: handle :: n :: (body ++ [hi, lo])) s = _
  rw [receiveModem_cons _ _ h, sync1, receiveModem_cons _ _ (listens _), sync2, receiveModem_cons _ _ (listens _), first,
    receiveModem_cons _ _ (listens _), second, receiveModem_cons _ _ (listens _), third]
  rw [show body ++ [hi, lo] = (body ++ [hi]) ++ [lo] by simp, receiveModem_gather h (body ++ [hi]) [] [lo] (by simp; omega),
    List.nil_append, receiveModem_cons _ _ (listens _), modemByte_frame]
  have size : (kind :: handle :: n :: (body ++ [hi]) ++ [lo]).length = body.length + 5 := by simp
  have field : getU (kind :: handle :: n :: (body ++ [hi]) ++ [lo]) 2 1 = n.toNat := getU_byte n _
  rw [size, field, len, if_neg (by omega), if_pos ⟨by omega, rfl⟩, receivingModem_same hrx]
  have frame : kind :: handle :: n :: (body ++ [hi]) ++ [lo] = ([kind, handle, n] ++ body) ++ [hi, lo] := by simp
  have short : ([kind, handle, n] ++ body ++ [hi, lo]).length - 2 = ([kind, handle, n] ++ body).length := by simp
  show completeModemFrame _ s = _
  unfold completeModemFrame
  dsimp only
  rw [frame, short, List.take_left, List.drop_left]
  rfl

end

section

variable {s : State} {a : Attempt} (d : Elapsed)

/-- A frame as it stands on the line, with its own check. -/
theorem receiveModem_modemFrame {kind handle : Byte} {body : List Byte} (hb : body.length ≤ 48) (h : modemListens s = true)
    (hrx : s.al.rx = .hunt) : receiveModem (modemFrame kind handle body) s = takeModemFrame kind handle body s := by
  obtain ⟨hi, lo, hcrc⟩ : ∃ hi lo, [hi, lo] = crc16Bytes ([kind, handle, BitVec.ofNat 8 body.length] ++ body) :=
    ⟨_, _, (crc16Bytes_eq _).symm⟩
  have frame : modemFrame kind handle body =
      [0xA5, 0x5A, kind, handle, BitVec.ofNat 8 body.length] ++ body ++ [hi, lo] := by
    unfold modemFrame
    dsimp only
    rw [← hcrc]
    rfl
  rw [frame, receiveModem_frame hb h hrx, if_pos hcrc]

theorem modemListens_of (hm : s.tb.clock = .main) (he : s.pt.enModem = true) : modemListens s = true := by
  simp [modemListens, State.mainRuns, hm, he]

/-- A frame that a listening receiver takes in HUNT. -/
theorem exec_modemFrame {c : Instr} {kind handle : Byte} {body : List Byte} (hc : exec c s = timed d s (receiveModem (modemFrame kind handle body)))
    (hp : s.powered = true) (hm : s.tb.clock = .main) (he : s.pt.enModem = true) (hrx : s.al.rx = .hunt) (hb : body.length ≤ 48) :
    exec c s = .next (takeModemFrame kind handle body (s.elapse d)) := by
  rw [hc, timed_powered s d _ hp, receiveModem_modemFrame hb (modemListens_of (s := s.elapse d) hm he) hrx]

/-! ## The stages -/

theorem setStage_eq (ha : s.al.attempt = some a) (st : Stage) :
    setStage st s = { s with al := { s.al with attempt := some { a with stage := st } } } := by
  simp only [setStage, State.modAl, ha, Option.map_some]

theorem takeModemFrame_stray (ha : s.al.attempt = some a) {kind handle : Byte} {body : List Byte}
    (h : handle.toNat ≠ a.handle ∨ (kind = modemTaken ∨ kind = modemRefused) ∧ (∀ due, a.stage ≠ .awaitTaken due) ∨
      kind = modemDone ∧ ∀ due, a.stage ≠ .awaitDone due) : takeModemFrame kind handle body s = strayFrame s := by
  unfold takeModemFrame
  rw [ha]
  dsimp only
  by_cases hh : handle.toNat = a.handle
  · rw [if_pos hh]
    obtain h | ⟨kinds, no⟩ | ⟨rfl, no⟩ := h
    · exact absurd hh h
    · cases hst : a.stage with
      | sending => rfl
      | awaitTaken due => exact absurd hst (no due)
      | awaitDone due => obtain rfl | rfl := kinds <;> rfl
    · cases hst : a.stage with
      | sending => rfl
      | awaitTaken due => rfl
      | awaitDone due => exact absurd hst (no due)
  · rw [if_neg hh]

theorem takeModemFrame_awaitTaken (ha : s.al.attempt = some a) {due : Nat} (hs : a.stage = .awaitTaken due) {handle : Byte}
    (hh : handle.toNat = a.handle) :
    takeModemFrame modemTaken handle [] s =
        { s with al := { s.al with attempt := some { a with stage := .awaitDone (s.clk.mainRun + 400000000) } } } ∧
      takeModemFrame modemRefused handle [] s = endAttempt false s := by
  have staged := setStage_eq ha (.awaitDone (s.clk.mainRun + doneWait))
  constructor
  · unfold takeModemFrame
    rw [ha]
    dsimp only
    rw [if_pos hh, hs]
    exact (if_pos ⟨rfl, rfl⟩).trans staged
  · unfold takeModemFrame
    rw [ha]
    dsimp only
    rw [if_pos hh, hs]
    exact (if_neg (by simp [modemRefused, modemTaken])).trans (if_pos ⟨rfl, rfl⟩)

theorem takeModemFrame_awaitDone (ha : s.al.attempt = some a) {due : Nat} (hs : a.stage = .awaitDone due) {handle : Byte}
    (hh : handle.toNat = a.handle) :
    takeModemFrame modemDone handle [0] s = endAttempt true s ∧ takeModemFrame modemDone handle [1] s = endAttempt false s := by
  constructor
  · unfold takeModemFrame
    rw [ha]
    dsimp only
    rw [if_pos hh, hs]
    exact if_pos ⟨rfl, rfl⟩
  · unfold takeModemFrame
    rw [ha]
    dsimp only
    rw [if_pos hh, hs]
    exact (if_neg (by simp)).trans (if_pos ⟨rfl, rfl⟩)

theorem takeModemFrame_idle (ha : s.al.attempt = none) (kind handle : Byte) (body : List Byte) :
    takeModemFrame kind handle body s = strayFrame s := by
  unfold takeModemFrame
  rw [ha]

theorem exec_awaitTakenTimeout (hp : s.powered = true) (hm : s.tb.clock = .main) :
    exec (.awaitTakenTimeout d) s = .next (if takenExpired (s.elapse d) then endAttempt false (s.elapse d) else s.elapse d) := by
  refine (timed_powered s d (whileMain fun s => if takenExpired s then endAttempt false s else s) hp).trans ?_
  rw [whileMain_main (s := s.elapse d) hm]

theorem exec_awaitDoneTimeout (hp : s.powered = true) (hm : s.tb.clock = .main) :
    exec (.awaitDoneTimeout d) s = .next (if doneExpired (s.elapse d) then endAttempt false (s.elapse d) else s.elapse d) := by
  refine (timed_powered s d (whileMain fun s => if doneExpired s then endAttempt false s else s) hp).trans ?_
  rw [whileMain_main (s := s.elapse d) hm]

theorem exec_transmitSent (hp : s.powered = true) (hm : s.tb.clock = .main) :
    exec (.transmitSent d) s = .next (transmitSent (s.elapse d)) := by
  refine (timed_powered s d (whileMain transmitSent) hp).trans ?_
  rw [whileMain_main (s := s.elapse d) hm]

/-- Bytes without a first sync byte change nothing. -/
theorem receiveModem_noise (hrx : s.al.rx = .hunt) {bytes : List Byte} (h : ∀ b ∈ bytes, b ≠ 0xA5) : receiveModem bytes s = s := by
  induction bytes with
  | nil => rfl
  | cons b bytes ih =>
    have one : modemReceives s b = s := by
      unfold modemReceives modemByte
      rw [hrx]
      dsimp only
      rw [if_neg (show ¬b = modemSync1 from h b List.mem_cons_self), ite_self]
    rw [receiveModem, List.foldl_cons, one]
    exact ih fun x hx => h x (List.mem_cons_of_mem _ hx)

end

/-- Settles O33: the stages of an attempt, its ends, and stray frames. -/
theorem attemptStagesAndEnds : Obligations.AttemptStagesAndEnds := by
  refine ⟨fun d s a h hp hm he hrx ha => ⟨fun hs => ?_, fun hs => ?_, fun due hs hh => ?_, fun hno => ⟨?_, ?_⟩, fun b hno => ?_⟩,
    fun d s a h due hp hm ha => ⟨fun hs => ⟨fun he hrx hh => ?_, fun hdue => ?_, fun hdue => ?_, ?_⟩,
      fun hs => ⟨fun he hrx hh => ⟨?_, ?_⟩, fun hdue => ?_, fun hdue => ?_, ?_⟩⟩,
    fun d s hp hm he hrx => ⟨fun bytes hb => ?_, fun kind handle hi lo hcrc => ?_, fun kind handle body hb ha => ?_⟩,
    fun d s t xs ys hp hrun hdeaf => ?_⟩
  · rw [exec_transmitSent d hp hm, transmitSent, show (s.elapse d).al.attempt = some a from ha]
    dsimp only
    rw [if_pos hs, setStage_eq (s := s.elapse d) ha]
    rfl
  · rw [exec_transmitSent d hp hm, transmitSent, show (s.elapse d).al.attempt = some a from ha]
    dsimp only
    rw [if_neg hs]
  · rw [exec_modemFrame d (c := .taken d h []) rfl hp hm he hrx (by simp), (takeModemFrame_awaitTaken (s := s.elapse d) ha hs hh).1]
    rfl
  · rw [exec_modemFrame d (c := .taken d h []) rfl hp hm he hrx (by simp),
      takeModemFrame_stray (s := s.elapse d) ha (hno.imp id fun no => .inl ⟨.inl rfl, no⟩)]
    rfl
  · rw [exec_modemFrame d (c := .refused d h []) rfl hp hm he hrx (by simp),
      takeModemFrame_stray (s := s.elapse d) ha (hno.imp id fun no => .inl ⟨.inr rfl, no⟩)]
    rfl
  · rw [exec_modemFrame d (c := .done d h [b]) rfl hp hm he hrx (by simp),
      takeModemFrame_stray (s := s.elapse d) ha (hno.imp id fun no => .inr ⟨rfl, no⟩)]
    rfl
  · rw [exec_modemFrame d (c := .refused d h []) rfl hp hm he hrx (by simp), (takeModemFrame_awaitTaken (s := s.elapse d) ha hs hh).2]
  · rw [exec_awaitTakenTimeout d hp hm, if_pos (by simpa [takenExpired, ha, hs] using hdue)]
  · rw [exec_awaitTakenTimeout d hp hm, if_neg (by simpa [takenExpired, ha, hs] using hdue)]
  · rw [exec_awaitDoneTimeout d hp hm, if_neg (by simp [doneExpired, ha, hs])]
  · rw [exec_modemFrame d (c := .done d h [0]) rfl hp hm he hrx (by simp), (takeModemFrame_awaitDone (s := s.elapse d) ha hs hh).1]
  · rw [exec_modemFrame d (c := .done d h [1]) rfl hp hm he hrx (by simp), (takeModemFrame_awaitDone (s := s.elapse d) ha hs hh).2]
  · rw [exec_awaitDoneTimeout d hp hm, if_pos (by simpa [doneExpired, ha, hs] using hdue)]
  · rw [exec_awaitDoneTimeout d hp hm, if_neg (by simpa [doneExpired, ha, hs] using hdue)]
  · rw [exec_awaitTakenTimeout d hp hm, if_neg (by simp [takenExpired, ha, hs])]
  · exact (timed_powered s d (receiveModem bytes) hp).trans (congrArg _ (receiveModem_noise (s := s.elapse d) hrx hb))
  · refine (timed_powered s d (receiveModem [0xA5, 0x5A, kind, handle, 0, hi, lo]) hp).trans ?_
    have frame := receiveModem_frame (s := s.elapse d) (kind := kind) (handle := handle) (hi := hi) (lo := lo) (body := []) (by simp)
      (modemListens_of (s := s.elapse d) hm he) hrx
    exact congrArg _ (frame.trans (if_neg fun h => hcrc ((crc16Bytes_iff hi lo _).mp h)))
  · rw [exec_modemFrame d (c := .modemFrameDiscard d (modemFrame kind handle body)) rfl hp hm he hrx hb,
      takeModemFrame_idle (s := s.elapse d) ha]
    rfl
  · have run (bytes : List Byte) : exec (.modemFrameDiscard d bytes) s = .next (receiveModem bytes (s.elapse d)) :=
      timed_powered s d (receiveModem bytes) hp
    rw [run] at hrun ⊢
    have last : receiveModem xs (s.elapse d) = t := by injection hrun
    have deaf : modemListens t = false := by
      obtain h | h := hdeaf <;> simp [modemListens, State.mainRuns, h]
    rw [receiveModem, List.foldl_append]
    show Host.Outcome.next (receiveModem ys (receiveModem xs (s.elapse d))) = _
    rw [last, receiveModem_deaf ys deaf]

end Sys2Proof.Machine

/-! PROOFS. Several storage words of one page read through the code (R87, R88, R90). -/

namespace Sys2Proof.Machine

section

variable {s t : State} {p : PageId}

/-- The bits in error of a storage word of a page. -/
def WaveStore.weight (w : WaveStore) (p : PageId) (i : Nat) : Nat := errorWeight (readWord w.array (wordAddress p i)).err

/-- The event of a page with an uncorrectable word is DAMAGED (R88). -/
def EventTable.damagedBy (e : EventTable) (st : PageState) : EventTable :=
  match st with
  | .event n _ =>
    { e with records := e.records.map fun r => if r.number = n then { r with flags := { r.flags with damaged := true } } else r }
  | .ring _ | .free | .faultySet => e

theorem damagedBy_twice (e : EventTable) (st : PageState) : (e.damagedBy st).damagedBy st = e.damagedBy st := by
  cases st with
  | event n c =>
    unfold EventTable.damagedBy
    simp only [List.map_map]
    congr 1
    refine List.map_congr_left fun r _ => ?_
    simp only [Function.comp_apply]
    by_cases h : r.number = n <;> simp [h]
  | _ => rfl

theorem wordAddress_inj {i j : Nat} : wordAddress p i = wordAddress p j ↔ i = j := by
  unfold wordAddress
  omega

/-- What a read of words with at most two bits in error leaves: `single i` says which words had one, and `k` and `n` how
many had one and two. -/
structure WordsRead (p : PageId) (single : Nat → Prop) (k n : Nat) (s t : State) : Prop where
  changes : ChangesOnly [.ws, .et, .pt, .sl] s t
  flagged : Flagged s t
  ws : t.ws = { s.ws with array := t.ws.array, pages := t.ws.pages, uncorrectable := t.ws.uncorrectable }
  other : ∀ a, (∀ i, single i → a ≠ wordAddress p i) → readWord t.ws.array a = readWord s.ws.array a
  array : MemoryInv s → MemoryInv t ∧
    ∀ i, single i → readWord t.ws.array (wordAddress p i) =
      if s.ws.scrub then { readWord s.ws.array (wordAddress p i) with err := 0 } else readWord s.ws.array (wordAddress p i)
  page : ∀ q, t.ws.page q =
    if q = p then
      { s.ws.page p with
        correctable := if k = 0 then (s.ws.page p).correctable else min 255 ((s.ws.page p).correctable + k)
        faulty := (s.ws.page p).faulty || decide (n ≠ 0) }
    else s.ws.page q
  uncorrectable : t.ws.uncorrectable % 4294967296 = (s.ws.uncorrectable + n) % 4294967296
  same : n = 0 → ChangesOnly [.ws] s t
  store : n ≠ 0 → t.sl.flags &&& 0x20 ≠ 0
  et : t.et = if n = 0 then s.et else s.et.damagedBy (s.ws.page p).state

/-- One word, corrected. -/
theorem readStorage_one {i : Nat} (h : s.ws.weight p i = 1) :
    (readStorage p i s).2 =
      s.modWs fun w =>
        { w.modPage p fun g => { g with correctable := satInc 255 g.correctable } with
          array :=
            if w.scrub then writeWord w.array (wordAddress p i) { readWord w.array (wordAddress p i) with err := 0 } else w.array } := by
  unfold readStorage
  simp only [eccCheck_single h, State.modWs]
  by_cases hs : s.ws.scrub = true
  · rw [if_pos hs, if_pos hs]
    rfl
  · rw [if_neg hs, if_neg hs]
    rfl

theorem readStorage_words {i : Nat} (hw : s.ws.weight p i ≤ 2) :
    WordsRead p (fun j => j = i ∧ s.ws.weight p i = 1) (if s.ws.weight p i = 1 then 1 else 0) (if s.ws.weight p i = 2 then 1 else 0) s
      (readStorage p i s).2 := by
  have cases : s.ws.weight p i = 0 ∨ s.ws.weight p i = 1 ∨ s.ws.weight p i = 2 := by omega
  obtain h | h | h := cases
  · have clean : (readStorage p i s).2 = s := by rw [readStorage_clean (eccCheck_clean h) rfl]
    rw [clean]
    simp only [h]
    exact ⟨.rfl, .rfl, rfl, fun _ _ => rfl, fun wf => ⟨wf, by simp⟩, fun q => by split <;> simp_all, rfl, fun _ => .rfl, by simp, rfl⟩
  · rw [readStorage_one h]
    simp only [h, if_true, and_true, OfNat.one_ne_ofNat, if_false]
    refine ⟨fun b hb => ?_, .same rfl rfl, rfl, fun a ha => ?_, fun wf => ⟨?_, ?_⟩, fun q => ?_, rfl, fun _ b hb => ?_, by simp, rfl⟩
    · cases b with
      | ws => simp at hb
      | _ => rfl
    · have ne := ha i rfl
      simp only [State.modWs_ws]
      split
      · exact readWord_writeWord_ne ne _ _
      · rfl
    · simp only [MemoryInv, State.modWs_ws]
      split
      · exact writeWord_wf wf _ _
      · exact wf
    · rintro j rfl
      simp only [State.modWs_ws]
      split
      · rw [readWord_writeWord wf, if_pos rfl]
      · rfl
    · have paged := WaveStore.page_modPage s.ws (p := p) (f := fun g => { g with correctable := satInc 255 g.correctable }) (q := q)
      refine Eq.trans (b := (s.ws.modPage p fun g => { g with correctable := satInc 255 g.correctable }).page q) rfl (paged.trans ?_)
      simp [satInc]
    · cases b with
      | ws => simp at hb
      | _ => rfl
  · obtain ⟨t, run, changes, ws, page, -, -, flag⟩ := readStorage_uncorrectable (s := s) (eccCheck_double h) rfl
    have woken : Flagged s t := by
      have all : (readStorage p i s).2 = t := by rw [run]
      rw [← all]
      unfold readStorage
      simp only [eccCheck_double h]
      refine .raised (.same ?_ ?_) _ <;> split <;> simp
    rw [run]
    simp only [h, if_true, OfNat.ofNat_ne_one, and_false, if_false]
    have array : t.ws.array = s.ws.array := by rw [ws]
    refine ⟨changes, woken, ?_, fun a _ => by rw [array], fun wf => ⟨?_, by simp⟩, fun q => ?_, ?_, by simp, fun _ => flag, ?_⟩
    · rw [ws]
    · unfold MemoryInv
      rwa [array]
    · rw [page]
      simp
    · rw [ws]
      simp
    · have all : (readStorage p i s).2 = t := by rw [run]
      rw [← all, if_neg one_ne_zero]
      unfold readStorage
      simp only [eccCheck_double h, raise_et]
      cases hs : (s.ws.page p).state <;> simp [EventTable.damagedBy, setEventFlag, updRecord_eq]

/-- Reads in a row. -/
theorem WordsRead.trans {u : State} {single single' : Nat → Prop} {k k' n n' : Nat} (h : WordsRead p single k n s t)
    (h' : WordsRead p single' k' n' t u) (disjoint : ∀ i, single' i → ¬single i) :
    WordsRead p (fun i => single i ∨ single' i) (k + k') (n + n') s u := by
  have scrub : t.ws.scrub = s.ws.scrub := by rw [h.ws]
  have apart {i j : Nat} (hi : single i) (hj : single' j) : i ≠ j := fun e => disjoint j hj (e ▸ hi)
  refine ⟨h.changes.trans h'.changes, h.flagged.trans h'.flagged, ?_, fun a ha => ?_, fun wf => ⟨?_, fun i hi => ?_⟩, fun q => ?_, ?_,
    fun z => ?_, fun z => ?_, ?_⟩
  · rw [h'.ws, h.ws]
  · rw [h'.other a fun i hi => ha i (.inr hi), h.other a fun i hi => ha i (.inl hi)]
  · exact (h'.array (h.array wf).1).1
  · obtain hi | hi := hi
    · rw [h'.other _ fun j hj => wordAddress_inj.not.mpr (apart hi hj)]
      exact (h.array wf).2 i hi
    · rw [(h'.array (h.array wf).1).2 i hi, scrub, h.other _ fun j hj => wordAddress_inj.not.mpr (apart hj hi).symm]
  · rw [h'.page, h.page p, if_pos rfl, h.page q]
    split
    · next e =>
      subst e
      have count : (if k' = 0 then (if k = 0 then (s.ws.page q).correctable else min 255 ((s.ws.page q).correctable + k))
          else min 255 ((if k = 0 then (s.ws.page q).correctable else min 255 ((s.ws.page q).correctable + k)) + k')) =
          if k + k' = 0 then (s.ws.page q).correctable else min 255 ((s.ws.page q).correctable + (k + k')) := by
        split <;> split <;> split <;> omega
      have mark : ((s.ws.page q).faulty || decide (n ≠ 0) || decide (n' ≠ 0)) = ((s.ws.page q).faulty || decide (n + n' ≠ 0)) := by
        rw [Bool.or_assoc, ← Bool.decide_or]
        congr 2
        simp only [eq_iff_iff]
        omega
      simp only [count, mark]
    · rfl
  · have a := h.uncorrectable
    have b := h'.uncorrectable
    omega
  · exact (h.same (by omega)).trans (h'.same (by omega))
  · by_cases hz : n' = 0
    · exact h'.flagged.woken.flags_stand (h.store (by omega))
    · exact h'.store hz
  · rw [h'.et, h.et, h.page p, if_pos rfl]
    by_cases hn : n = 0 <;> by_cases hn' : n' = 0 <;> simp [hn, hn', damagedBy_twice]

theorem WordsRead.congr {single single' : Nat → Prop} {k k' n n' : Nat} (h : WordsRead p single k n s t) (hs : ∀ i, single i ↔ single' i)
    (hk : k = k') (hn : n = n') : WordsRead p single' k' n' s t := by
  obtain rfl : single = single' := funext fun i => propext (hs i)
  subst hk hn
  exact h

/-- The words of a list of indices, each read once. -/
theorem foldl_readStorage_words (l : List Nat) (once : l.Nodup) (hw : ∀ i ∈ l, s.ws.weight p i ≤ 2) :
    WordsRead p (fun i => i ∈ l ∧ s.ws.weight p i = 1) (l.countP fun i => s.ws.weight p i = 1) (l.countP fun i => s.ws.weight p i = 2) s
      (l.foldl (fun s i => (readStorage p i s).2) s) := by
  induction l generalizing s with
  | nil => exact ⟨.rfl, .rfl, rfl, fun _ _ => rfl, fun wf => ⟨wf, by simp⟩, fun q => by split <;> simp_all, rfl, fun _ => .rfl, by simp, rfl⟩
  | cons i l ih =>
    obtain ⟨fresh, rest⟩ := List.nodup_cons.mp once
    have one := readStorage_words (s := s) (hw i List.mem_cons_self)
    have kept {j : Nat} (hj : j ∈ l) : (readStorage p i s).2.ws.weight p j = s.ws.weight p j := by
      have ne : j ≠ i := fun e => fresh (e ▸ hj)
      unfold WaveStore.weight
      rw [one.other (wordAddress p j) fun x hx => wordAddress_inj.not.mpr fun e => ne (e.trans hx.1)]
    have counted (v : Nat) : (l.countP fun j => (readStorage p i s).2.ws.weight p j = v) = l.countP fun j => s.ws.weight p j = v :=
      List.countP_congr fun j hj => by rw [kept hj]
    have more := ih (s := (readStorage p i s).2) rest fun j hj => by
      rw [kept hj]
      exact hw j (List.mem_cons_of_mem _ hj)
    rw [List.foldl_cons]
    refine (one.trans more fun j hj hi => fresh (hi.1 ▸ hj.1)).congr (fun j => ?_) ?_ ?_
    · rw [List.mem_cons]
      constructor
      · rintro (⟨rfl, h⟩ | ⟨hj, h⟩)
        · exact ⟨.inl rfl, h⟩
        · exact ⟨.inr hj, (kept hj) ▸ h⟩
      · rintro ⟨rfl | hj, h⟩
        · exact .inl ⟨rfl, h⟩
        · exact .inr ⟨hj, (kept hj).trans h⟩
    · rw [List.countP_cons, add_comm, counted]
      simp
    · rw [List.countP_cons, add_comm, counted]
      simp

end

end Sys2Proof.Machine

/-! PROOFS. The patrol read with its choice of a page, and STORE SET (R87 to R91). -/

namespace Sys2Proof.Machine

section

variable {w : WaveStore} {p : PageId}

theorem occupied_iff (st : PageState) : st.occupied = true ↔ (∃ c, st = .ring c) ∨ ∃ n c, st = .event n c := by
  cases st <;> simp [PageState.occupied]

/-- The first page of rising order that passes a test is the lowest. -/
theorem find?_lowest {test : PageId → Bool} (hp : test p = true) (least : ∀ q, test q = true → p ≤ q) :
    allPages.find? test = some p := by
  have rising : allPages.Pairwise (· < ·) := List.pairwise_lt_finRange 256
  obtain ⟨as, bs, split⟩ := List.append_of_mem (show p ∈ allPages from List.mem_finRange p)
  rw [List.find?_eq_some_iff_append]
  refine ⟨hp, as, bs, split, fun a ha => ?_⟩
  rw [split, List.pairwise_append] at rising
  have below : a < p := rising.2.2 a ha p List.mem_cons_self
  by_contra no
  exact absurd (least a (by simpa using no)) (not_le.mpr below)

/-- The page of a patrol read: the lowest occupied page above the cursor, or else the lowest overall (R90). -/
theorem patrolPage_eq (hp : (w.page p).state.occupied = true)
    (h : (∀ q, w.cursor = some q → q < p) ∧ (∀ q, (w.page q).state.occupied = true → (∀ k, w.cursor = some k → k < q) → p ≤ q) ∨
      (∃ k, w.cursor = some k ∧ ∀ q, (w.page q).state.occupied = true → ¬k < q) ∧
        ∀ q, (w.page q).state.occupied = true → p ≤ q) : patrolPage w = some p := by
  unfold patrolPage
  dsimp only
  cases hc : w.cursor with
  | none =>
    rw [List.head?_filter]
    obtain ⟨-, least⟩ | ⟨⟨k, hk, -⟩, -⟩ := h
    · exact find?_lowest hp fun q hq => least q hq (by simp [hc])
    · simp [hc] at hk
  | some c =>
    dsimp only
    rw [List.find?_filter]
    obtain ⟨above, least⟩ | ⟨⟨k, hk, nothing⟩, least⟩ := h
    · have found := find?_lowest (p := p) (test := fun q => decide ((w.page q).state.occupied = true ∧ decide (c < q) = true))
        (by simp [hp, above c hc]) fun q hq => by
          simp only [decide_eq_true_eq] at hq
          exact least q hq.1 (by simpa [hc] using hq.2)
      rw [found]
    · obtain rfl : c = k := by simpa [hc] using hk
      have missing : allPages.find? (fun q => decide ((w.page q).state.occupied = true ∧ decide (c < q) = true)) = none := by
        rw [List.find?_eq_none]
        intro q _ hq
        simp only [decide_eq_true_eq] at hq
        exact nothing q hq.1 hq.2
      rw [missing, List.head?_filter]
      exact find?_lowest hp least

theorem patrolPage_none (h : ∀ q, (w.page q).state.occupied = false) : patrolPage w = none := by
  unfold patrolPage
  simp only [h, List.filter_false, List.head?_nil, List.find?_nil]
  split <;> rfl

variable {s : State}

theorem patrolExpired_due {due : Nat} (hm : s.tb.clock = .main) (hd : s.ws.patrolDue = some due) (h : due ≤ s.clk.mainRun) :
    patrolExpired s = true := by simp [patrolExpired, State.mainRuns, hm, hd, h]

theorem patrolExpired_early (h : s.tb.clock ≠ .main ∨ ∀ due, s.ws.patrolDue = some due → s.clk.mainRun < due) :
    patrolExpired s = false := by
  unfold patrolExpired
  obtain h | h := h
  · simp [State.mainRuns, h]
  · cases hd : s.ws.patrolDue with
    | none => simp
    | some due => simp [h due hd]

theorem exec_patrolRead (d : Elapsed) (xs : List Upset) (hp : s.powered = true) {u : State} (hu : u = applyUpsets (s.elapse d) xs) :
    exec (.patrolRead d xs) s = .next (if patrolExpired u then freshPatrol (patrolRead u) else u) := by
  subst hu
  exact timed_powered s d (fun s =>
    if patrolExpired (applyUpsets s xs) then freshPatrol (patrolRead (applyUpsets s xs)) else applyUpsets s xs) hp

theorem freshPatrol_eq :
    freshPatrol s =
      { s with
        ws :=
          { s.ws with
            patrolDue :=
              if s.ws.interval ≠ 0 ∧ (s.pt.tier = .full ∨ s.pt.tier = .conserve) then
                some (s.clk.mainRun + s.ws.interval * 40000000)
              else none } } := by
  have runs : patrolRuns s.ws.interval s.pt.tier = true ↔ s.ws.interval ≠ 0 ∧ (s.pt.tier = .full ∨ s.pt.tier = .conserve) := by
    simp [patrolRuns]
  exact congrArg (fun x => { s with ws := { s.ws with patrolDue := x } })
    (if_congr runs rfl rfl : (if patrolRuns s.ws.interval s.pt.tier then some (s.clk.mainRun + s.ws.interval * cyclesPerSec) else none) = _)

/-- A patrol read of a page: each written word once, then the cursor and the timer. -/
theorem patrolRead_page {u t : State} {p : PageId} (chosen : patrolPage u.ws = some p) (due : patrolExpired u = true)
    {words : List Nat} (hwords : words = List.range (writtenWords (u.ws.page p))) (hw : ∀ i ∈ words, u.ws.weight p i ≤ 2)
    (ht : t = freshPatrol (patrolRead u)) :
    (if patrolExpired u then freshPatrol (patrolRead u) else u) = t ∧
      ∃ v, WordsRead p (fun i => i ∈ words ∧ u.ws.weight p i = 1) (words.countP fun i => u.ws.weight p i = 1)
          (words.countP fun i => u.ws.weight p i = 2) u v ∧
        t = freshPatrol (v.modWs fun w => { w with cursor := some p }) := by
  refine ⟨by rw [if_pos due, ht], words.foldl (fun s i => (readStorage p i s).2) u, ?_, ?_⟩
  · exact foldl_readStorage_words words (hwords ▸ List.nodup_range) hw
  · rw [ht, patrolRead, chosen, hwords]
    rfl

end

/-- What a patrol read of a page leaves, in the terms of R87 to R90. -/
theorem patrolRead_facts {u t v : State} {p : PageId} {words : List Nat} {weight : Nat → Nat} {fresh : Option Nat}
    (hweight : ∀ i, weight i = u.ws.weight p i)
    (hv : WordsRead p (fun i => i ∈ words ∧ u.ws.weight p i = 1) (words.countP fun i => u.ws.weight p i = 1)
      (words.countP fun i => u.ws.weight p i = 2) u v)
    (hfresh : fresh =
      (if u.ws.interval ≠ 0 ∧ (u.pt.tier = .full ∨ u.pt.tier = .conserve) then
        some (u.clk.mainRun + u.ws.interval * 40000000)
      else none))
    (ht : t = freshPatrol (v.modWs fun w => { w with cursor := some p })) :
    ChangesOnly [.ws, .et, .pt, .sl] u t ∧
      t.ws =
        { u.ws with
          array := t.ws.array, pages := t.ws.pages, uncorrectable := t.ws.uncorrectable, cursor := some p
          patrolDue := fresh } ∧
      (MemoryInv u → ∀ a, readWord t.ws.array a =
        if u.ws.scrub = true ∧ ∃ i ∈ words, weight i = 1 ∧ a = p.val * 512 + i then { readWord u.ws.array a with err := 0 }
        else readWord u.ws.array a) ∧
      (∀ q, t.ws.page q =
        if q = p then
          { u.ws.page p with
            correctable :=
              if ∃ i ∈ words, weight i = 1 then min 255 ((u.ws.page p).correctable + words.countP fun i => weight i = 1)
              else (u.ws.page p).correctable
            faulty := (u.ws.page p).faulty || decide (∃ i ∈ words, weight i = 2) }
        else u.ws.page q) ∧
      t.ws.uncorrectable % 4294967296 = (u.ws.uncorrectable + words.countP fun i => weight i = 2) % 4294967296 ∧
      ((∀ i ∈ words, weight i ≠ 2) → ChangesOnly [.ws] u t) ∧
      ((∃ i ∈ words, weight i = 2) →
        t.sl.flags &&& 0x20 ≠ 0 ∧
          (∀ c, (u.ws.page p).state = .ring c → t.et = u.et) ∧
          (∀ n c, (u.ws.page p).state = .event n c →
            t.et =
              { u.et with
                records :=
                  u.et.records.map fun x => if x.number = n then { x with flags := { x.flags with damaged := true } } else x })) := by
  obtain rfl : weight = u.ws.weight p := funext hweight
  have ones : (words.countP fun i => decide (u.ws.weight p i = 1)) = 0 ↔ ¬∃ i ∈ words, u.ws.weight p i = 1 := by
    simp [List.countP_eq_zero]
  have twos : (words.countP fun i => decide (u.ws.weight p i = 2)) = 0 ↔ ¬∃ i ∈ words, u.ws.weight p i = 2 := by
    simp [List.countP_eq_zero]
  have tier : v.pt.tier = u.pt.tier := hv.flagged.woken.tier
  have clk : v.clk = u.clk := hv.changes .clk (by decide)
  have interval : v.ws.interval = u.ws.interval := by rw [hv.ws]
  have written : ChangesOnly [.ws] v t := fun b hb => by
    rw [ht]
    cases b with
    | ws => simp at hb
    | _ => rfl
  have ws : t.ws = { v.ws with cursor := some p, patrolDue := fresh } := by
    rw [ht, freshPatrol_eq, hfresh, ← tier, ← clk, ← interval]
    rfl
  have sl : t.sl = v.sl := written .sl (by decide)
  have et : t.et = v.et := written .et (by decide)
  refine ⟨hv.changes.trans (written.mono (by decide)), ?_, fun wf a => ?_, fun q => ?_, ?_, fun h => ?_, fun h => ⟨?_, fun c hs => ?_, fun n c hs => ?_⟩⟩
  · rw [ws, hv.ws]
  · rw [ws]
    by_cases ha : ∃ i ∈ words, u.ws.weight p i = 1 ∧ a = p.val * 512 + i
    · obtain ⟨i, hi, one, rfl⟩ := ha
      have read := (hv.array wf).2 i ⟨hi, one⟩
      refine read.trans (if_congr ?_ rfl rfl)
      exact (and_iff_left ⟨i, hi, one, rfl⟩).symm
    · rw [if_neg fun h => ha h.2]
      exact hv.other a fun i hi e => ha ⟨i, hi.1, hi.2, e⟩
  · have page : t.ws.page q = v.ws.page q := by rw [ws]; rfl
    rw [page, hv.page]
    simp only [ones, ne_eq, twos, not_not, ite_not]
  · rw [ws]
    exact hv.uncorrectable
  · exact (hv.same (twos.mpr (by simpa using h))).trans written
  · rw [sl]
    exact hv.store (twos.not.mpr (not_not.mpr h))
  · rw [et, hv.et, if_neg (twos.not.mpr (not_not.mpr h)), hs]
    rfl
  · rw [et, hv.et, if_neg (twos.not.mpr (not_not.mpr h)), hs]
    rfl

theorem storeSet_badLength {s : State} {q : List Byte} (h : q.length ≠ 2) :
    storeSet q s = ([(0x03 : Byte)] ++ putU 1 s.ws.interval ++ putMark s.ws.scrub, s) := by
  simp only [storeSet, storeSetStatus, if_pos h]
  rfl

theorem storeSet_badCode {s : State} {n b : Byte} (h : 1 < b.toNat) :
    storeSet [n, b] s = ([(0x04 : Byte)] ++ putU 1 s.ws.interval ++ putMark s.ws.scrub, s) := by
  have code : onOffOfCode b = none := by
    unfold onOffOfCode
    rw [if_neg, if_neg]
    · rintro rfl
      simp at h
    · rintro rfl
      simp at h
  have status : storeSetStatus [n, b] s = (stOutOfRange, s) := by
    unfold storeSetStatus
    rw [if_neg (by simp)]
    show (match onOffOfCode b with
      | none => (stOutOfRange, s)
      | some scrub => _) = _
    rw [code]
  rw [storeSet, status]
  rfl

theorem storeSet_taken {s : State} {n b : Byte} (h : b.toNat ≤ 1) :
    storeSet [n, b] s =
      ([if 60 < n.toNat then 0x01 else 0x00, BitVec.ofNat 8 (min n.toNat 60), b],
        { s with
          ws :=
            { s.ws with
              interval := min n.toNat 60, scrub := decide (b = 1)
              patrolDue :=
                if n ≠ 0 ∧ (s.pt.tier = .full ∨ s.pt.tier = .conserve) then
                  some (s.clk.mainRun + min n.toNat 60 * 40000000)
                else none } }) := by
  have byte : b = 0 ∨ b = 1 := by bv_omega
  have code : onOffOfCode b = some (decide (b = 1)) := by obtain rfl | rfl := byte <;> rfl
  have asked : getU [n, b] 0 1 = n.toNat := getU_byte n [b]
  have status : storeSetStatus [n, b] s = (if 60 < n.toNat then stClamped else stOk, setStore (min n.toNat 60) (decide (b = 1)) s) := by
    unfold storeSetStatus
    rw [if_neg (by simp), asked]
    show (match onOffOfCode b with
      | none => (stOutOfRange, s)
      | some scrub => _) = _
    rw [code]
  have zero : min n.toNat 60 ≠ 0 ↔ n ≠ 0 := by
    rw [← not_iff_not, not_not, not_not]
    bv_omega
  have mark : putMark (decide (b = 1)) = [b] := by obtain rfl | rfl := byte <;> rfl
  have set := freshPatrol_eq (s := s.modWs fun w => { w with interval := min n.toNat 60, scrub := decide (b = 1) })
  have state : setStore (min n.toNat 60) (decide (b = 1)) s =
      { s with
        ws :=
          { s.ws with
            interval := min n.toNat 60, scrub := decide (b = 1)
            patrolDue :=
              if n ≠ 0 ∧ (s.pt.tier = .full ∨ s.pt.tier = .conserve) then some (s.clk.mainRun + min n.toNat 60 * 40000000)
              else none } } := by
    refine set.trans ?_
    simp only [State.modWs, zero]
  rw [storeSet, status, state]
  refine Prod.ext (congrArg₂ List.cons rfl ?_) rfl
  show putU 1 (min n.toNat 60) ++ putMark (decide (b = 1)) = _
  rw [mark]
  rfl

/-- Settles O21: the patrol read at its timer's expiry, and STORE SET. -/
theorem patrolReadsAndStoreSet : Obligations.PatrolReadsAndStoreSet := by
  refine ⟨fun d s u xs occupied fresh hp hu hocc hfresh => ⟨fun early => ?_, fun due hm hd hle => ⟨fun idle => ?_,
      fun p words weight hoccp hchoice hwords hweight hle2 => ?_⟩⟩,
    fun d s pre r post h hk hlen => ?_, fun d s pre r post n b h hk hpay => ⟨fun hb => ?_, fun hb => ?_⟩⟩
  case refine_4 => exact h.answers hk (f := storeSet) rfl (storeSet_badLength hlen) rfl
  case refine_5 => exact h.answers hk (f := storeSet) rfl (by rw [hpay]; exact storeSet_badCode hb) rfl
  case refine_6 => exact h.answers hk (f := storeSet) rfl (by rw [hpay]; exact storeSet_taken hb) rfl
  all_goals
    have tb : u.tb = s.tb := by rw [hu]; rfl
    have pt : u.pt = s.pt := by rw [hu]; rfl
    have et : u.et = s.et := by rw [hu]; rfl
    have ws : u.ws = { s.ws with array := u.ws.array } := by rw [hu]; rfl
    have page (q : PageId) : u.ws.page q = s.ws.pages.get q := by rw [ws]; rfl
    have occ (q : PageId) : (u.ws.page q).state.occupied = true ↔ occupied q := by rw [page, occupied_iff, hocc]
    have timer : u.ws.patrolDue = s.ws.patrolDue := by rw [ws]
    have interval : u.ws.interval = s.ws.interval := by rw [ws]
    have cursor : u.ws.cursor = s.ws.cursor := by rw [ws]
    rw [exec_patrolRead d xs hp hu]
  · rw [patrolExpired_early (by rwa [tb, timer])]
    rfl
  all_goals
    have expired : patrolExpired u = true := patrolExpired_due (by rwa [tb]) (by rwa [timer]) hle
    have freshU : fresh =
        (if u.ws.interval ≠ 0 ∧ (u.pt.tier = .full ∨ u.pt.tier = .conserve) then
          some (u.clk.mainRun + u.ws.interval * 40000000)
        else none) := by rw [hfresh, interval, pt]
  · have none := patrolPage_none (w := u.ws) fun q => Bool.eq_false_iff.mpr fun h => idle q ((occ q).mp h)
    rw [if_pos expired, patrolRead, none]
    dsimp only
    rw [freshPatrol_eq, ← freshU]
  · have chosen : patrolPage u.ws = some p := patrolPage_eq ((occ p).mpr hoccp) (by simpa only [cursor, occ] using hchoice)
    have weights (i : Nat) : weight i = u.ws.weight p i := hweight i
    obtain ⟨run, v, read, ht⟩ := patrolRead_page (t := freshPatrol (patrolRead u)) chosen expired (words := words)
      (by rw [hwords, page]; rfl) (fun i hi => (weights i) ▸ hle2 i hi) rfl
    obtain ⟨changes, wsT, array, pages, unc, same, store⟩ := patrolRead_facts weights read freshU ht
    refine ⟨_, congrArg _ run, changes, wsT, fun wf a => ?_, fun q => ?_, ?_, same, fun h => ?_⟩
    · have wfU : MemoryInv u := by
        rw [hu]
        exact applyUpsets_wf (s := s.elapse d) wf xs
      have scrub : u.ws.scrub = s.ws.scrub := by rw [ws]
      have read := array wfU a
      rwa [scrub] at read
    · exact (pages q).trans (by rw [page, page])
    · rw [unc, ws]
    · rw [page, et] at store
      exact store h

end Sys2Proof.Machine

/-! PROOFS. The tier that a scan leaves behind (R168 to R170, R175 to R177). -/

namespace Sys2Proof.Machine

section

variable (s : State) (raw : RawScan)

/-- The state in which a scan evaluates the tier: readings, charge and low-current test are done. -/
def State.tested : State := lowCurrentTest (s.measured raw)

theorem tested_fields :
    (s.tested raw).pt = s.pt ∧ (s.tested raw).tb = s.tb ∧ (s.tested raw).clk = s.clk ∧ (s.tested raw).al = s.al ∧
      (s.tested raw).sl = s.sl ∧ (s.tested raw).ws = s.ws ∧ (s.tested raw).fe = s.fe := by
  unfold State.tested
  simp only [lowCurrentTest_pt, lowCurrentTest_tb, lowCurrentTest_clk, lowCurrentTest_al, lowCurrentTest_sl, lowCurrentTest_ws, lowCurrentTest_fe]
  exact ⟨rfl, rfl, rfl, rfl, rfl, rfl, rfl⟩

theorem tested_now : (s.tested raw).now = s.now := by
  obtain ⟨-, tb, clk, -⟩ := tested_fields s raw
  unfold State.now
  rw [tb, clk]

/-- What a scan's last steps leave alone of the state that the tier's evaluation has made. -/
theorem scan_tested {t : State} (ht : t = scan raw s) :
    t.pt = (tierScan false (s.tested raw)).pt ∧ t.tb = (tierScan false (s.tested raw)).tb ∧ t.al = (tierScan false (s.tested raw)).al ∧
      t.sl = (tierScan false (s.tested raw)).sl ∧ t.tu.chans = (tierScan false (s.tested raw)).tu.chans ∧
      t.ca = (s.tested raw).ca ∧ t.hm.readings = (s.tested raw).hm.readings := by
  have ca := scan_ca s raw
  have hm := scan_hm s raw
  have run := ht.trans (scan_eq s raw)
  rw [← ht] at ca hm
  generalize hv : tierScan false (s.tested raw) = v
  have run' : t = endScan s.hm.scanDue (heaterDecide false v) := by rw [run, ← hv]; rfl
  refine ⟨?_, ?_, ?_, ?_, ?_, ?_, ?_⟩
  · rw [run', endScan_pt, heaterDecide_pt]
  · rw [run', endScan_tb, heaterDecide_tb]
  · rw [run', endScan_al, heaterDecide_al]
  · rw [run', endScan_sl, heaterDecide_sl]
  · rw [run', endScan_tu, heaterDecide_chans]
  · rw [ca, State.tested, lowCurrentTest_ca, State.measured, scan_ca]
  · rw [hm, State.tested, lowCurrentTest_hm]
    rfl

end

/-! ## The tier's evaluation -/

section

variable {p : TierParams} {soc : Nat} {t : Tier}

/-- The threshold below which a tier is left (R168). -/
def TierParams.lower (p : TierParams) : Tier → Nat
  | .full => p.conserveBelow
  | .conserve => p.surviveBelow
  | .survive => p.hibernateBelow
  | .hibernate => 0

theorem evaluatedTier_below (h : (bandOf p soc).rank < t.rank) : evaluatedTier p soc t = bandOf p soc := if_pos h

/-- The highest tier above the present one whose threshold with the hysteresis is reached. -/
theorem evaluatedTier_rise (h : t.rank ≤ (bandOf p soc).rank) {x : Tier} (hx : t.rank < x.rank)
    (reached : p.lower x + p.hysteresis ≤ soc) (highest : ∀ y : Tier, x.rank < y.rank → soc < p.lower y + p.hysteresis) :
    evaluatedTier p soc t = x := by
  have rise : riseTo p soc = x := by
    unfold riseTo
    cases x with
    | full => exact if_pos reached
    | conserve =>
      have full := highest .full (by decide)
      exact (if_neg (not_le.mpr full)).trans (if_pos reached)
    | survive =>
      have full := highest .full (by decide)
      have conserve := highest .conserve (by decide)
      exact (if_neg (not_le.mpr full)).trans ((if_neg (not_le.mpr conserve)).trans (if_pos reached))
    | hibernate => exact absurd hx (Nat.not_lt_zero _)
  rw [evaluatedTier, if_neg (not_lt.mpr h), rise, if_pos hx]

theorem evaluatedTier_stays (h : t.rank ≤ (bandOf p soc).rank)
    (none : ∀ x : Tier, t.rank < x.rank → soc < p.lower x + p.hysteresis) : evaluatedTier p soc t = t := by
  rw [evaluatedTier, if_neg (not_lt.mpr h), if_neg]
  intro hx
  have above := none (riseTo p soc) hx
  unfold riseTo at above hx
  revert above hx
  split
  · next h => exact fun _ hx => absurd hx (not_lt.mpr h)
  · split
    · next h => exact fun _ hx => absurd hx (not_lt.mpr h)
    · split
      · next h => exact fun _ hx => absurd hx (not_lt.mpr h)
      · exact fun hx _ => absurd hx (by simp [Tier.rank])

end

section

variable {s : State}

theorem tierScan_tier (h : s.pt.tier ≠ .hibernate) (b : Bool) :
    (tierScan b s).pt.tier = if cutForced s then .hibernate else evaluatedTier s.pt.params s.ca.soc s.pt.tier := by
  unfold tierScan
  rw [if_neg h]
  dsimp only
  generalize (if cutForced s then Tier.hibernate else evaluatedTier s.pt.params s.ca.soc s.pt.tier) = new
  split
  · next same => exact same.symm
  · exact tierChange_tier _ _ _

theorem cutForced_iff :
    cutForced s = true ↔
      s.hm.readings.vbat.valid = true ∧ ∃ v, s.hm.readings.vbat.value = some v ∧ v ≤ s.pt.params.vCut := by
  unfold cutForced Reading.val
  by_cases hv : s.hm.readings.vbat.valid = true
  · cases hx : s.hm.readings.vbat.value <;> simp [hv]
  · simp [hv]

end

/-- Settles O40: the tier that a scan leaves behind, and the exit from the last gasp and from the watch clock. -/
theorem scanEvaluatesTier : Obligations.ScanEvaluatesTier := by
  intro d raw s t cut low band hp hdue hrun hcut hlow hband
  have run : t = scan raw (s.elapse d) := by
    rw [exec_housekeepingScan_due hp hdue] at hrun
    injection hrun with h
    exact h.symm
  obtain ⟨ptT, tbT, alT, slT, chansT, caT, hmT⟩ := scan_tested (s.elapse d) raw run
  obtain ⟨pt, tb, clk, al, sl, -, -⟩ := tested_fields (s.elapse d) raw
  have now := tested_now (s.elapse d) raw
  generalize (s.elapse d).tested raw = v at *
  replace pt : v.pt = s.pt := pt
  replace tb : v.tb = s.tb := tb
  have lower : low = s.pt.params.lower := by
    rw [hlow]
    funext x
    cases x <;> rfl
  have bandEq : band = bandOf s.pt.params t.ca.soc := by
    rw [hband, lower]
    rfl
  have forced : cut ↔ cutForced v = true := by rw [hcut, cutForced_iff, hmT, pt]
  have met : exitMet v = true ↔ ¬cut ∧ low .survive + s.pt.params.hysteresis ≤ t.ca.soc := by
    rw [exitMet_iff, hcut, pt, hmT, caT, lower]
    exact and_comm
  refine ⟨fun hlive => ?_, fun hib => ⟨fun hno => ?_, fun hc hs => ?_⟩⟩
  · have tier := tierScan_tier (s := v) (by rwa [pt]) false
    rw [pt, ← caT, ← ptT] at tier
    refine ⟨fun hc => ?_, fun hc hb => ?_, fun hc hb => ⟨fun x hx hr hh => ?_, fun hn => ?_⟩⟩
    · rw [tier, if_pos (forced.mp hc)]
    all_goals rw [tier, if_neg (forced.not.mp hc)]
    · rw [bandEq] at hb ⊢
      exact evaluatedTier_below hb
    · rw [bandEq] at hb
      rw [lower] at hr hh
      exact evaluatedTier_rise hb hx hr hh
    · rw [bandEq] at hb
      rw [lower] at hn
      exact evaluatedTier_stays hb hn
  all_goals
    have scanned : tierScan false v = hibernateScan false v := if_pos (by rw [pt, hib])
    rw [scanned] at ptT tbT alT slT chansT
    unfold hibernateScan at ptT tbT alT slT chansT
  · have unmet : ¬exitMet v = true := by
      rw [met]
      rintro ⟨hc, hs⟩
      exact hno.elim hc fun h => absurd hs (not_le.mpr h)
    rw [if_neg unmet] at ptT tbT
    rw [ptT, tbT, pt, tb]
    exact ⟨hib, rfl, rfl, rfl⟩
  · rw [if_pos (met.mpr ⟨hc, hs⟩)] at ptT tbT alT slT chansT
    refine ⟨fun hg => ?_, fun hg hw hx => ?_, fun hg hx => ?_⟩
    · have some : v.pt.gasp.isSome = true := by rwa [pt, Option.isSome_iff_ne_none]
      rw [if_pos some] at ptT tbT alT slT chansT
      have above := exitTier_ne_hibernate v
      have hibV : (v.modPt fun p => { p with gasp := none }).pt.tier = .hibernate := by
        show v.pt.tier = _
        rw [pt, hib]
      obtain ⟨x, hx⟩ : ∃ x, x = tierChange false (exitTier v) (v.modPt fun p => { p with gasp := none }) := ⟨_, rfl⟩
      obtain ⟨tier, time, sens, -, gasp, -, tbX, -⟩ := tierChange_fields false above rfl hx
      have modem := tierChange_modem false above rfl hx
      have flag := tierChange_flag hx
      have host (hh : (v.modPt fun p => { p with gasp := none }).pt.host = .shed) := tierChange_host false hibV above hh hx
      have warm (c : Channel) (hc : c ∈ enabledChannels (exitTier v)) : (x.tu.chans.get c).state = .warmup := by
        rw [hx]
        exact tierChange_warmup _ _ hibV hc
      rw [← hx] at ptT tbT alT slT chansT
      have exit : exitTier v =
          (if low .full + s.pt.params.hysteresis ≤ t.ca.soc then .full
          else if low .conserve + s.pt.params.hysteresis ≤ t.ca.soc then .conserve
          else .survive) := by
        rw [exitTier_eq, pt, caT, lower]
        rfl
      refine ⟨by rw [ptT, gasp], by rw [ptT, tier, exit], ?_, ?_, by rwa [slT], by rw [ptT, sens], ?_, fun hh => ?_, fun c hc => ?_⟩
      · rw [tbT, tbX, ← tb]
        rfl
      · rw [ptT, time]
        exact now
      · rwa [ptT, alT]
      · rw [ptT, tier]
        exact host (by rw [← hh, ← pt]; rfl)
      · rw [chansT]
        rw [ptT, tier] at hc
        exact warm c hc
    all_goals rw [if_neg (by rw [pt, hg]; simp)] at ptT tbT
    · rw [if_pos (by rw [tb, pt, hw, hx]; simp)] at ptT tbT
      rw [ptT, tbT]
      refine ⟨?_, rfl, ?_⟩
      · show v.pt.tier = _
        rw [pt, hib]
      · show ClockInUse.settle (v.clk.watchRun + 4096) = _
        rw [clk]
    · rw [if_neg (by rw [pt, hx]; simp)] at ptT tbT
      rw [ptT, tbT, pt, tb]
      exact ⟨hib, hx, rfl⟩

end Sys2Proof.Machine

/-! PROOFS. One pass of the trigger unit: delivery start, averages, vote, peak (R46 to R53, R56 to R62). -/

namespace Sys2Proof.Machine

section

variable {s : State} {c : Channel}

/-! ## The averages and the tests of a channel -/

theorem onThreshold_eq (u : TriggerUnit) :
    onThreshold u = if u.quietEnd = none then u.params.onRatio else min 255 (2 * u.params.onRatio) := by
  unfold onThreshold
  cases u.quietEnd <;> rfl

theorem onTest_iff (u : TriggerUnit) (sta lta : Int) {on : Nat}
    (hon : on = if u.quietEnd = none then u.params.onRatio else min 255 (2 * u.params.onRatio)) :
    onTest u sta lta = true ↔ lta * on ≤ sta * 16 ∧ (u.params.ltaFloor : Int) * 256 ≤ lta := by
  unfold onTest
  rw [onThreshold_eq, ← hon, Bool.and_eq_true, decide_eq_true_eq, decide_eq_true_eq]

section

variable {u : TriggerUnit} {cf on : Nat} {t : Time} {ch : TriggerChannel} {sta lta : Int}

theorem channelPass_disabled (h : ch.state = .disabled) : channelPass u cf t ch = { ch with last := some ⟨cf, t, u.delivery⟩ } := by
  unfold channelPass
  rw [h]

theorem channelPass_starts (h : ch.state = .warmup) (hp : ch.startPending = true) :
    channelPass u cf t ch =
      { ch with
        last := some ⟨cf, t, u.delivery⟩, sta := (cf * 256 : Nat), lta := (cf * 256 : Nat), startPending := false, warmCount := 1
        state := if 2 ^ u.params.kl ≤ 1 then .quiet else .warmup } := by
  unfold channelPass
  simp only [h, hp, if_true, Nat.cast_mul, Nat.cast_ofNat]
  split <;> rfl

variable (hsta : sta = ch.sta + ((cf * 256 : Nat) - ch.sta) / 2 ^ u.params.ks)
  (hlta : lta = ch.lta + ((cf * 256 : Nat) - ch.lta) / 2 ^ u.params.kl)
include hsta

theorem channelPass_triggered (h : ch.state = .triggered) :
    channelPass u cf t ch =
      { ch with
        last := some ⟨cf, t, u.delivery⟩, sta := sta
        state := if sta * 16 < ch.lta * u.params.offRatio then .quiet else .triggered } := by
  unfold channelPass offTest avgStep
  push_cast at hsta
  simp only [h, ← hsta, decide_eq_true_eq]
  split <;> rfl

include hlta

theorem channelPass_warms (h : ch.state = .warmup) (hp : ch.startPending = false) :
    channelPass u cf t ch =
      { ch with
        last := some ⟨cf, t, u.delivery⟩, sta := sta, lta := lta, warmCount := ch.warmCount + 1
        state := if 2 ^ u.params.kl ≤ ch.warmCount + 1 then .quiet else .warmup } := by
  unfold channelPass avgStep
  push_cast at hsta hlta
  simp only [h, hp, Bool.false_eq_true, if_false, ← hsta, ← hlta]
  split <;> rfl

theorem channelPass_quiet (hon : on = if u.quietEnd = none then u.params.onRatio else min 255 (2 * u.params.onRatio))
    (h : ch.state = .quiet) :
    channelPass u cf t ch =
      if lta * on ≤ sta * 16 ∧ (u.params.ltaFloor : Int) * 256 ≤ lta then
        { ch with
          last := some ⟨cf, t, u.delivery⟩, sta := sta, lta := lta, state := .triggered, onTime := some t
          onDelivery := some u.delivery }
      else { ch with last := some ⟨cf, t, u.delivery⟩, sta := sta, lta := lta } := by
  unfold channelPass avgStep
  push_cast at hsta hlta
  simp only [h, ← hsta, ← hlta, onTest_iff u sta lta hon]

end

/-! ## The delivery start -/

theorem deliveryAfter_eq (a b : Nat) :
    deliveryAfter a b =
      decide (0 < (a + 4294967296 - b % 4294967296) % 4294967296 ∧ (a + 4294967296 - b % 4294967296) % 4294967296 < 2147483648) := by
  unfold deliveryAfter
  rw [Bool.decide_and]

theorem beginDelivery_seen {t l : Time} (h : s.tu.lastSeen = some l) (ht : t.toNs ≤ l.toNs) : beginDelivery t s = s := by
  unfold beginDelivery
  rw [h]
  simp [not_lt.mpr ht]

/-- The delivery is counted, and a quiet window behind its number is over (R53, R56). -/
def State.delivered (t : Time) (s : State) : State :=
  s.modTu fun u =>
    let d := deliveryPlus u.delivery 1
    { u with
      delivery := d, lastSeen := some t
      quietEnd := match u.quietEnd with
        | some e => if deliveryAfter d e then none else some e
        | none => none }

theorem beginDelivery_later {t : Time} (h : ∀ l, s.tu.lastSeen = some l → l.toNs < t.toNs) :
    beginDelivery t s = deliveryStart s.tu.lastSeen (s.delivered t) := by
  unfold beginDelivery
  cases hl : s.tu.lastSeen with
  | none => rfl
  | some l =>
    simp only [h l hl, decide_true, if_true]
    rfl

/-- The aux-pending mark of a delivery start (R56, R65). -/
theorem deliveryStart_eq (prev : Option Time) {u v : State} (hv : v =
      (if u.tu.det = .post ∧ deliveryAfter u.tu.delivery u.tu.postEnd = true then closeEvent prev false .idle u
      else if (u.tu.det = .open ∨ u.tu.det = .post) ∧
          u.tu.params.cap * 100 ≤ (u.tu.delivery + 4294967296 - u.tu.onsetDelivery) % 4294967296 then
        closeEvent prev true .idle (rebaseline u)
      else u)) :
    deliveryStart prev u =
      if v.tu.auxPending = false then v
      else if v.tu.det = .idle then openExternal (v.modTu fun t => { t with auxPending := false })
      else v.modTu fun t => { t with auxPending := false } := by
  unfold deliveryStart
  have closed : (if (decide (u.tu.det = .post) && deliveryAfter u.tu.delivery u.tu.postEnd) = true then closeEvent prev false .idle u
      else if (eventInProgress u &&
          decide (u.tu.params.cap * 100 ≤ (u.tu.delivery + 4294967296 - u.tu.onsetDelivery) % 4294967296)) = true then
        closeEvent prev true .idle (rebaseline u)
      else u) = v := by
    rw [hv]
    simp only [Bool.and_eq_true, decide_eq_true_eq, eventInProgress_iff]
  dsimp only
  rw [closed]
  cases v.tu.auxPending <;> rfl

/-! ## Peaks, the trigger set, external events -/

theorem takePeak_absent {n : Nat} {r : EventRecord} (hc : s.tu.current = some n) (hr : s.record n = some r)
    (hp : r.peaks.get c = none) (cf : Nat) (t : Time) : takePeak c cf t s = s := by
  unfold takePeak
  simp only [hc, hr, hp]

theorem takePeak_present {n : Nat} {r : EventRecord} {p : Peak} (hc : s.tu.current = some n) (hr : s.record n = some r)
    (hp : r.peaks.get c = some p) (cf : Nat) (t : Time) :
    takePeak c cf t s =
      if p.peak < cf then
        if s.tu.params.strongLevel ≤ cf ∧ r.flags.strong = false then
          strongReport n (setEventFlag n (fun f => { f with strong := true })
            (updRecord n (fun r => { r with peaks := r.peaks.set c (some ⟨cf, some t⟩) }) s))
        else updRecord n (fun r => { r with peaks := r.peaks.set c (some ⟨cf, some t⟩) }) s
      else s := by
  unfold takePeak
  simp only [hc, hr, hp, Bool.not_eq_true']

theorem joinTriggerSet_of_record {n : Nat} {r : EventRecord} (hc : s.tu.current = some n) (hr : s.record n = some r) :
    joinTriggerSet c s =
      if r.trigger.anySet = false then quakeAlert n (updRecord n (fun r => { r with trigger := r.trigger.set c true }) s)
      else updRecord n (fun r => { r with trigger := r.trigger.set c true }) s := by
  unfold joinTriggerSet
  simp only [hc, hr, Bool.not_eq_true']

theorem anySet_eq_false (x : Tri Bool) : x.anySet = false ↔ x = ⟨false, false, false⟩ := by
  obtain ⟨z, n, e⟩ := x
  simp [Tri.anySet, and_assoc]

theorem toPost_of_current {n : Nat} (h : s.tu.current = some n) :
    toPost s =
      updRecord n (fun r => { r with state := .post })
        (s.modTu fun t => { t with det := .post, postEnd := deliveryPlus t.delivery (t.params.post * 100) }) := by
  unfold toPost
  rw [h]

theorem closeEvent_of_current {n : Nat} (h : s.tu.current = some n) (endTime : Option Time) (truncated : Bool) (final : DetectorState) :
    closeEvent endTime truncated final s =
      heaterDecide false (raise .eventClosed ((storeClose (updRecord n
        (fun r =>
          { r with state := .closed, endTime := endTime, flags := { r.flags with truncated := r.flags.truncated || truncated } }) s)).modTu
        fun t => { t with det := final, current := none })) := by
  unfold closeEvent
  rw [h]

/-- A strong mark that falls on the record with its new peak. -/
theorem setStrong_after_peak (n : Nat) (f : EventRecord → EventRecord) :
    setEventFlag n (fun x => { x with strong := true }) (updRecord n (fun r => { f r with number := r.number }) s) =
      updRecord n (fun r => { f r with number := r.number, flags := { (f r).flags with strong := true } }) s := by
  unfold setEventFlag
  rw [updRecord_eq, updRecord_eq, updRecord_eq]
  simp only [List.map_map]
  congr 3
  funext r
  by_cases h : r.number = n <;> simp [h]

/-- The pass of a channel, in the order of R46. -/
theorem triggerPass_eq (s : State) {c : Channel} {y : Int} {t : Time} {restart : Bool} {cf : Nat} (hcf : cf = min y.natAbs 8388607)
    {b x1 x2 x3 x4 x5 : State} (hb : b = beginDelivery t s) (h1 : x1 = if restart then updChannel c enterWarmup b else b)
    (h2 : x2 = updChannel c (channelPass x1.tu cf t) x1)
    (h3 : x3 =
      if (x1.tu.chans.get c).state ≠ .triggered ∧ (x2.tu.chans.get c).state = .triggered ∧
          (x2.tu.det = .open ∨ x2.tu.det = .post) then joinTriggerSet c x2
      else x2)
    (h4 : x4 = evalVote x3) (h5 : x5 = if x4.tu.det = .open ∨ x4.tu.det = .post then takePeak c cf t x4 else x4) :
    triggerPass c y t restart s = updChannel c saveReport x5 := by
  unfold triggerPass charValue
  dsimp only
  rw [← hcf, ← hb, ← h1, ← h2]
  have joined : (if ((x1.tu.chan c).state != .triggered && decide ((x2.tu.chan c).state = .triggered) && eventInProgress x2) = true then
      joinTriggerSet c x2 else x2) = x3 := by
    rw [h3]
    simp only [Bool.and_eq_true, decide_eq_true_eq, bne_iff_ne, eventInProgress_iff, and_assoc]
    rfl
  rw [joined, ← h4]
  congr 1
  rw [h5]
  simp only [eventInProgress_iff]

/-- Nothing after the averages of a pass changes the channel's own averages and state. -/
theorem triggerPass_chan (s : State) {t l : Time} (hl : s.tu.lastSeen = some l) (ht : t.toNs ≤ l.toNs) (y : Int) :
    (triggerPass c y t false s).tu.chans.get c =
      saveReport (channelPass s.tu (min y.natAbs 8388607) t (s.tu.chans.get c)) := by
  rw [triggerPass_eq s (c := c) (y := y) (t := t) (restart := false) rfl rfl rfl rfl rfl rfl rfl, beginDelivery_seen hl ht]
  simp only [Bool.false_eq_true, if_false]
  generalize hx : updChannel c (channelPass s.tu (min y.natAbs 8388607) t) s = x
  have own : x.tu.chans.get c = channelPass s.tu (min y.natAbs 8388607) t (s.tu.chans.get c) := by
    rw [← hx]
    exact Tri.get_set_same _ _ _
  have keeps (x4 : State) : (updChannel c saveReport x4).tu.chans.get c = saveReport (x4.tu.chans.get c) :=
    Tri.get_set_same _ _ _
  rw [keeps, ← own]
  congr 1
  split <;> split <;> simp

end

/-- The pass of the oldest waiting delivery ends in the trigger unit's work on its channel (R38, R46). -/
theorem exec_filterPass {d : Elapsed} {s : State} {t : Time} {c : Channel} {w : SampleWord} {items : List (Channel × SampleWord)}
    {rest : List Delivery} (hp : s.powered = true) (hm : s.tb.clock = .main) (hw : s.fe.waiting = ⟨t, (c, w) :: items⟩ :: rest) :
    ∃ t' u, exec (.filterPass d) s = .next t' ∧ ChangesOnly [.fe, .pt, .sl] (s.elapse d) u ∧
      t' = triggerPass c (t'.fe.ctx.get c).y t (s.fe.ctx.get c).swapPending u := by
  have run : exec (.filterPass d) s = .next (nextFilterPass (s.elapse d)) := by
    refine (timed_powered s d (whileMain nextFilterPass) hp).trans ?_
    rw [whileMain_main (s := s.elapse d) hm]
  rw [nextFilterPass_eq (s := s.elapse d) hw] at run
  obtain ⟨v, hv⟩ : ∃ v, v = (s.elapse d).modFe fun e => { e with waiting := if items.isEmpty then rest else ⟨t, items⟩ :: rest } :=
    ⟨_, rfl⟩
  rw [← hv] at run
  have fe : v.fe.ctx = s.fe.ctx := by rw [hv]; rfl
  have changed : ChangesOnly [.fe, .pt, .sl] (s.elapse d) v := by
    rw [hv]
    exact fun b hb => by cases b with
      | fe => simp at hb
      | _ => rfl
  have passed : ChangesOnly [.fe, .pt, .sl] v (modContext c (fun _ => (v.fe.ctx.get c).pass w.value) v) :=
    fun b hb => by cases b with
      | fe => simp at hb
      | _ => rfl
  have raised (x : State) (p : Bool) : ChangesOnly [.fe, .pt, .sl] x (if p then raise .clip x else x) :=
    .ite ((raise_changes _ .clip).mono (by decide)) .rfl
  refine ⟨_, _, run, changed.trans (passed.trans (raised _ (((v.fe.ctx.get c).pass w.value).clip && !(v.fe.ctx.get c).clip))), ?_⟩
  · rw [channelFilterPass_fe, show (v.fe.ctx.set c ((v.fe.ctx.get c).pass w.value)).get c = _ from Tri.get_set_same _ _ _, ← fe]
    rfl

/-- Settles O15: the pass of the trigger unit, with the delivery start and the close of an event. -/
theorem passUpdatesAverages : Obligations.PassUpdatesAverages := by
  refine ⟨?_, ?_, ?_, ?_, ?_, ?_, ?_, ?_⟩
  · intro d s t l c w items rest ch hp hm hw hswap hl ht hch
    obtain ⟨t', v, run, changed, made⟩ := exec_filterPass (d := d) hp hm hw
    refine ⟨t', run, fun cfs sta lta on hcfs hsta hlta hon => ?_⟩
    have tu : v.tu = s.tu := changed .tu (by decide)
    have own := triggerPass_chan (c := c) v (by rw [tu, hl]) ht (t'.fe.ctx.get c).y
    rw [hswap] at made
    rw [← made, tu, ← hch] at own
    rw [own]
    rw [hcfs] at hsta hlta
    refine ⟨fun h => ?_, fun h => ?_, fun h hs => ?_, fun h hs => ?_, fun h => ?_⟩
    · rw [channelPass_quiet hsta hlta hon h]
      refine ⟨?_, ?_, fun ok => ?_, fun fails => ?_⟩
      · split <;> rfl
      · split <;> rfl
      · rw [if_pos ok]
        exact ⟨rfl, rfl⟩
      · rw [if_neg fails]
        exact ⟨h, rfl⟩
    · rw [channelPass_triggered hsta h]
      exact ⟨rfl, rfl, rfl, rfl⟩
    · rw [channelPass_starts h hs, hcfs]
      exact ⟨rfl, rfl, rfl, rfl⟩
    · rw [channelPass_warms hsta hlta h hs]
      exact ⟨rfl, rfl, rfl, rfl⟩
    · rw [channelPass_disabled h]
      exact ⟨rfl, h⟩
  · exact fun d s t c w items rest hp hm hw => exec_filterPass hp hm hw
  · intro s b x1 x2 x3 x4 x5 c y t restart cf g hcf hb h1 h2 h3 h4 h5 hg
    rw [triggerPass_eq s hcf hb h1 h2 h3 h4 h5, hg]
    rfl
  · intro u cf on t ch sta lta hsta hlta hon
    split
    · next h => exact channelPass_disabled h
    · next h =>
      split
      · next hp => exact channelPass_starts h hp
      · next hp => exact channelPass_warms hsta hlta h (Bool.eq_false_iff.mpr hp)
    · next h => exact channelPass_quiet hsta hlta hon h
    · next h => exact channelPass_triggered hsta h
  · intro s u v t dn after calm
    refine ⟨?_, fun hl hdn hafter hcalm hu hv => ?_⟩
    · rintro ⟨l, hl, ht⟩
      exact beginDelivery_seen hl ht
    · have counted : u = s.delivered t := by
        rw [hu, hdn, hafter]
        unfold State.delivered deliveryPlus
        simp only [deliveryAfter_eq]
        rfl
      rw [beginDelivery_later hl, ← counted]
      refine deliveryStart_eq s.tu.lastSeen ?_
      rw [hv, hafter, hu]
      simp only [deliveryAfter_eq]
      rw [hcalm]
      rfl
  · intro s endTime truncated final n fresh hc hfresh
    refine ⟨_, ?_, closeEvent_of_current hc endTime truncated final⟩
    rw [hfresh]
    refine List.foldl_ext _ _ _ fun x c _ => ?_
    rw [storeCloseChannel, show x.ws.chan c = x.ws.chans.get c from rfl]
    cases (x.ws.chans.get c).route <;> rfl
  · intro s n r c cf t marked hc hr hmarked
    have found : s.record n = some r := hr
    refine ⟨fun h => takePeak_absent hc found h cf t,
      fun p h => ⟨fun hle => ?_, fun hlt hno => ?_, fun hlt hs hw => ?_⟩, _, ?_, rfl⟩
    · rw [takePeak_present hc found h, if_neg (not_lt.mpr hle)]
    · rw [takePeak_present hc found h, if_pos hlt, if_neg, hmarked, updRecord_eq]
      · simp only [Bool.or_false]
      · rintro ⟨hs, hw⟩
        obtain hno | hno := hno
        · exact absurd hs (not_le.mpr hno)
        · simp [hno] at hw
    · rw [takePeak_present hc found h, if_pos hlt, if_pos ⟨hs, hw⟩, hmarked,
        setStrong_after_peak n fun r => { r with peaks := r.peaks.set c (some ⟨cf, some t⟩) }, updRecord_eq]
      simp only [Bool.or_true]
    · rw [joinTriggerSet_of_record hc found]
      simp only [anySet_eq_false, updRecord_eq]
  · intro s u t n hl hu hn
    rw [openExternal, hl]
    dsimp only
    rw [show openEvent t s.tu.delivery (.replicate false) true s = u from hu.symm, toPost_of_current hn]
    rfl

end Sys2Proof.Machine

/-! PROOFS. What pages, alerts and the heater leave of the event records: everything but alert states and incidental flags. -/

namespace Sys2Proof.Machine

/-- A record without its alert state and the flags that pages, time steps and the heater set. -/
def EventRecord.core (r : EventRecord) : EventRecord :=
  { r with
    alert := .none, alertClass := none
    flags := { r.flags with timeStepped := false, incomplete := false, reclaimed := false, damaged := false, heaterSwitched := false } }

/-- The records' cores in their order, and the number counter. -/
def EventTable.outline (t : EventTable) : List EventRecord × Nat := (t.records.map EventRecord.core, t.counter)

section

variable {s t : State}

theorem outline_raise (f : AttnFlag) (s : State) : (raise f s).et.outline = s.et.outline := by rw [raise_et]

/-- A record that comes from one of another state with the same outline. -/
theorem exists_core (h : t.et.outline = s.et.outline) {r : EventRecord} (hr : r ∈ s.et.records) :
    ∃ x ∈ t.et.records, x.core = r.core := by
  have cores : t.et.records.map EventRecord.core = s.et.records.map EventRecord.core := congrArg Prod.fst h
  have mem := List.mem_map_of_mem (f := EventRecord.core) hr
  rw [← cores] at mem
  obtain ⟨x, hx, same⟩ := List.mem_map.mp mem
  exact ⟨x, hx, same⟩

theorem counter_of_outline (h : t.et.outline = s.et.outline) : t.et.counter = s.et.counter := congrArg Prod.snd h

theorem numbers_of_outline (h : t.et.outline = s.et.outline) :
    t.et.records.map EventRecord.number = s.et.records.map EventRecord.number := by
  have cores : t.et.records.map EventRecord.core = s.et.records.map EventRecord.core := congrArg Prod.fst h
  have numbers := congrArg (List.map EventRecord.number) cores
  rwa [List.map_map, List.map_map] at numbers

/-! ## Each operation -/

theorem outline_updRecord (n : Nat) (f : EventRecord → EventRecord) (hf : ∀ r, (f r).core = r.core) (s : State) :
    (updRecord n f s).et.outline = s.et.outline := by
  unfold EventTable.outline
  rw [updRecord_eq, List.map_map]
  refine congrArg (·, _) (List.map_congr_left fun r _ => ?_)
  rw [Function.comp]
  split
  · exact hf r
  · rfl

theorem outline_setEventFlag (n : Nat) (f : EventFlags → EventFlags) (hf : ∀ r : EventRecord, { r with flags := f r.flags }.core = r.core)
    (s : State) : (setEventFlag n f s).et.outline = s.et.outline := outline_updRecord n _ hf s

theorem outline_setCurrentFlag (f : EventFlags → EventFlags) (hf : ∀ r : EventRecord, { r with flags := f r.flags }.core = r.core)
    (s : State) : (setCurrentFlag f s).et.outline = s.et.outline := by
  unfold setCurrentFlag
  split
  · exact outline_setEventFlag _ f hf s
  · rfl

theorem outline_writeAlert (j : Subject) (a : AlertState) (c : AlertClass) (s : State) :
    (writeAlert j a c s).et.outline = s.et.outline := by
  unfold EventTable.outline
  rw [writeAlert_eq, alertWritten, List.map_map]
  refine congrArg (·, _) (List.map_congr_left fun r _ => ?_)
  rw [Function.comp]
  split <;> rfl

theorem outline_outcome (e : Entry) (o : AlertState) (w : Bool) (s : State) : (outcome e o w s).et.outline = s.et.outline := by
  unfold outcome
  dsimp only
  rw [outline_raise]
  split
  · exact outline_writeAlert _ _ _ _
  · rfl

theorem outline_joinQueue (e : Entry) (s : State) : (joinQueue e s).et.outline = s.et.outline := by
  unfold joinQueue
  exact outline_writeAlert _ _ _ _

theorem outline_createEntry (c : AlertClass) (j : Subject) (text : List Byte) (s : State) :
    (createEntry c j text s).et.outline = s.et.outline := by
  unfold createEntry
  dsimp only
  split
  · exact outline_joinQueue _ _
  · split
    · exact (outline_joinQueue _ _).trans (outline_outcome _ _ _ _)
    · exact outline_outcome _ _ _ _

theorem outline_quakeAlert (n : Nat) (s : State) : (quakeAlert n s).et.outline = s.et.outline := by
  unfold quakeAlert
  split
  · split
    · exact outline_createEntry _ _ _ _
    · rfl
  · rfl

theorem outline_reclaimUntilFree (s : State) : (reclaimUntilFree s).et.outline = s.et.outline := by
  unfold reclaimUntilFree
  refine List.foldlRecOn (motive := fun t : State => t.et.outline = s.et.outline) _ _ rfl fun t ht n _ => ?_
  split
  · exact ht
  · exact (outline_setEventFlag n _ (fun _ => rfl) _).trans ht

theorem outline_reclaimed (s : State) : s.reclaimed.et.outline = s.et.outline := by
  unfold State.reclaimed
  split
  · exact outline_reclaimUntilFree s
  · rfl

theorem shortened_et (s : State) (c : Channel) : (s.shortened c).et = s.et := by
  unfold State.shortened
  split <;> rfl

/-- A ring need: the ring shortened, pages reclaimed, and a page taken or the route STARVED. -/
theorem ringNeed_eq (c : Channel) (s : State) :
    ringNeed c s =
      match (s.shortened c).reclaimed.ws.lowestFree with
      | some p =>
        (s.shortened c).reclaimed.modWs fun w =>
          (w.allocate p (.ring c)).modChan c fun ch => { ch with route := .ring, filling := some p }
      | none =>
        if (s.ws.chan c).route = .starved then
          (s.shortened c).reclaimed.modWs fun w => w.modChan c fun ch => { ch with route := .starved, filling := none }
        else
          raise .store
            ((s.shortened c).reclaimed.modWs fun w => w.modChan c fun ch => { ch with route := .starved, filling := none }) := rfl

theorem outline_ringNeed (c : Channel) (s : State) : (ringNeed c s).et.outline = s.et.outline := by
  have ready : (s.shortened c).reclaimed.et.outline = s.et.outline := by rw [outline_reclaimed, shortened_et]
  rw [ringNeed_eq]
  split
  · exact ready
  · split
    · exact ready
    · exact (outline_raise _ _).trans ready

theorem outline_storeJoin (c : Channel) (s : State) : (storeJoin c s).et.outline = s.et.outline := outline_ringNeed c _

theorem outline_storeCloseChannel (c : Channel) (s : State) : (storeCloseChannel c s).et.outline = s.et.outline := by
  unfold storeCloseChannel
  split <;> first | rfl | exact outline_storeJoin c _

theorem outline_storeClose (s : State) : (storeClose s).et.outline = s.et.outline :=
  List.foldlRecOn (motive := fun t : State => t.et.outline = s.et.outline) _ _ rfl fun _ ht c _ =>
    (outline_storeCloseChannel c _).trans ht

theorem outline_switchHeater (x : HeaterState) (s : State) : (switchHeater x s).et.outline = s.et.outline := by
  unfold switchHeater
  dsimp only
  split
  · rw [outline_setCurrentFlag _ fun _ => rfl]
    simp
  · rfl

theorem outline_heaterDecide (b : Bool) (s : State) : (heaterDecide b s).et.outline = s.et.outline := by
  unfold heaterDecide
  dsimp only
  split
  · rfl
  · split
    · rfl
    · split
      · exact outline_switchHeater _ _
      · rfl

theorem outline_handoverChannel (n : Nat) (onset : Time) (c : Channel) (s : State) :
    (handoverChannel n onset c s).et.outline = s.et.outline := by
  unfold handoverChannel
  dsimp only
  split
  · exact outline_setEventFlag n _ (fun _ => rfl) _
  · rfl

theorem outline_handover (n : Nat) (onset : Time) (s : State) : (handover n onset s).et.outline = s.et.outline :=
  List.foldlRecOn (motive := fun t : State => t.et.outline = s.et.outline) _ _ rfl fun _ ht c _ =>
    (outline_handoverChannel n onset c _).trans ht

end

end Sys2Proof.Machine

/-! PROOFS. The vote, the opening of an event, and the handover of the rings (R55, R57, R81, R97, R98). -/

namespace Sys2Proof.Machine

section

variable {s : State}

/-! ## The vote (R55) -/

theorem enabledCount_eq_zero : enabledCount s = 0 ↔ s.pt.tier = .hibernate := by
  unfold enabledCount
  cases s.pt.tier <;> decide

theorem voteMet_iff :
    voteMet s = true ↔ min s.tu.params.vote (enabledChannels s.pt.tier).length ≤
      (channels.countP fun c => (s.tu.chans.get c).state = .triggered) := by
  unfold voteMet triggeredCount enabledCount
  rw [decide_eq_true_eq, List.countP_eq_length_filter]
  rfl

theorem evalVote_off (h : s.pt.tier = .hibernate ∨ s.tu.det = .disarmed) : evalVote s = s := by
  unfold evalVote
  obtain h | h := h
  · rw [if_pos (enabledCount_eq_zero.mpr h)]
  · rw [h, ite_self]

theorem evalVote_stays (h : s.tu.det = .open ∧ voteMet s = true ∨ (s.tu.det = .idle ∨ s.tu.det = .post) ∧ ¬voteMet s = true) :
    evalVote s = s := by
  unfold evalVote
  obtain ⟨det, met⟩ | ⟨det | det, unmet⟩ := h
  · rw [det]
    simp only [met, if_true, ite_self]
  · rw [det]
    simp only [unmet, if_false, ite_self, Bool.false_eq_true]
  · rw [det]
    simp only [unmet, if_false, ite_self, Bool.false_eq_true]

theorem evalVote_toPost (ht : s.pt.tier ≠ .hibernate) (hd : s.tu.det = .open) (h : ¬voteMet s = true) : evalVote s = toPost s := by
  unfold evalVote
  rw [if_neg (mt enabledCount_eq_zero.mp ht), hd]
  exact if_neg h

theorem evalVote_reopen (ht : s.pt.tier ≠ .hibernate) (hd : s.tu.det = .post) (h : voteMet s = true) : evalVote s = reopen s := by
  unfold evalVote
  rw [if_neg (mt enabledCount_eq_zero.mp ht), hd]
  exact if_pos h

theorem evalVote_opens (ht : s.pt.tier ≠ .hibernate) (hd : s.tu.det = .idle) (h : voteMet s = true) :
    evalVote s = openByVote s := by
  unfold evalVote
  rw [if_neg (mt enabledCount_eq_zero.mp ht), hd]
  exact if_pos h

theorem reopen_of_current {n : Nat} (h : s.tu.current = some n) :
    reopen s =
      updRecord n (fun r => { r with state := .open, flags := { r.flags with merged := true } })
        (s.modTu fun t => { t with det := .open }) := by
  unfold reopen
  rw [h]

/-! ## The earliest on-time (R57) -/

/-- The on-time of a TRIGGERED channel. -/
def State.onTime (s : State) (c : Channel) : Option (Time × Nat) :=
  if (s.tu.chans.get c).state = .triggered then
    (s.tu.chans.get c).onTime.bind fun t => (s.tu.chans.get c).onDelivery.map fun d => (t, d)
  else none

/-- The earlier of two on-times, the first one of equal ones. -/
def earlierOf (a b : Option (Time × Nat)) : Option (Time × Nat) :=
  match b, a with
  | some x, some y => if x.1.toNs < y.1.toNs then some x else some y
  | some x, none => some x
  | none, a => a

theorem earliestOn_eq (s : State) : earliestOn s = channels.foldl (fun best c => earlierOf best (s.onTime c)) none := by
  unfold earliestOn
  refine List.foldl_ext _ _ _ fun best c _ => ?_
  unfold State.onTime
  rw [show s.tu.chan c = s.tu.chans.get c from rfl]
  obtain ⟨-, -, state, on, at_, -, -, -, -⟩ := s.tu.chans.get c
  by_cases h : state = .triggered
  · cases on with
    | none => simp [h, earlierOf]
    | some t => cases at_ <;> cases best <;> simp [h, earlierOf]
  · cases on <;> cases at_ <;> simp [h, earlierOf]

theorem earlierOf_cases (a b : Option (Time × Nat)) : earlierOf a b = a ∨ earlierOf a b = b := by
  unfold earlierOf
  split
  · split
    · exact .inr rfl
    · exact .inl rfl
  · exact .inr rfl
  · exact .inl rfl

theorem earlierOf_le {a b : Option (Time × Nat)} {x : Time × Nat} (h : earlierOf a b = some x) :
    (∀ y, a = some y → x.1.toNs ≤ y.1.toNs) ∧ ∀ y, b = some y → x.1.toNs ≤ y.1.toNs := by
  unfold earlierOf at h
  split at h
  · split at h
    · next lt =>
      cases h
      exact ⟨fun y hy => by cases hy; omega, fun y hy => by cases hy; exact le_rfl⟩
    · next ge =>
      cases h
      exact ⟨fun y hy => by cases hy; exact le_rfl, fun y hy => by cases hy; omega⟩
  · cases h
    exact ⟨nofun, fun y hy => by cases hy; exact le_rfl⟩
  · subst h
    exact ⟨fun y hy => by cases hy; exact le_rfl, nofun⟩

theorem earlierOf_isSome {a b : Option (Time × Nat)} (h : a.isSome = true ∨ b.isSome = true) :
    (earlierOf a b).isSome = true := by
  unfold earlierOf
  split
  · split <;> rfl
  · rfl
  · simpa using h

/-- The earliest of a list is one of it, and none of it is earlier. -/
theorem foldl_earlierOf {on : Channel → Option (Time × Nat)} {l : List Channel} {b : Option (Time × Nat)} {x : Time × Nat}
    (h : l.foldl (fun best c => earlierOf best (on c)) b = some x) :
    (b = some x ∨ ∃ c ∈ l, on c = some x) ∧ (∀ y, b = some y → x.1.toNs ≤ y.1.toNs) ∧
      ∀ c ∈ l, ∀ y, on c = some y → x.1.toNs ≤ y.1.toNs := by
  induction l generalizing b with
  | nil =>
    subst h
    exact ⟨.inl rfl, fun y hy => by cases hy; exact le_rfl, nofun⟩
  | cons c l ih =>
    obtain ⟨mem, least, rest⟩ := ih h
    have first : ∀ z, earlierOf b (on c) = some z → (∀ y, b = some y → z.1.toNs ≤ y.1.toNs) ∧ ∀ y, on c = some y → z.1.toNs ≤ y.1.toNs :=
      fun z hz => earlierOf_le hz
    have some_of (y : Time × Nat) (hy : b = some y ∨ on c = some y) : x.1.toNs ≤ y.1.toNs := by
      cases hz : earlierOf b (on c) with
      | none =>
        have present := earlierOf_isSome (a := b) (b := on c) (hy.imp (by simp [·]) (by simp [·]))
        rw [hz] at present
        cases present
      | some z =>
        have bound := least z hz
        obtain hy | hy := hy
        · exact bound.trans ((first z hz).1 y hy)
        · exact bound.trans ((first z hz).2 y hy)
    refine ⟨?_, fun y hy => some_of y (.inl hy), fun k hk y hy => ?_⟩
    · obtain one | ⟨k, hk, on⟩ := mem
      · obtain left | right := earlierOf_cases b (on c)
        · exact .inl (left ▸ one)
        · exact .inr ⟨c, List.mem_cons_self, right ▸ one⟩
      · exact .inr ⟨k, List.mem_cons_of_mem _ hk, on⟩
    · obtain rfl | hk := List.mem_cons.mp hk
      · exact some_of y (.inr hy)
      · exact rest k hk y hy

theorem foldl_earlierOf_isSome {on : Channel → Option (Time × Nat)} {l : List Channel} {b : Option (Time × Nat)}
    (h : b.isSome = true ∨ ∃ c ∈ l, (on c).isSome = true) :
    (l.foldl (fun best c => earlierOf best (on c)) b).isSome = true := by
  induction l generalizing b with
  | nil => simpa using h
  | cons c l ih =>
    refine ih ?_
    obtain h | ⟨k, hk, h⟩ := h
    · exact .inl (earlierOf_isSome (.inl h))
    · obtain rfl | hk := List.mem_cons.mp hk
      · exact .inl (earlierOf_isSome (.inr h))
      · exact .inr ⟨k, hk, h⟩

/-! ## The routes of a handover (R81) -/

theorem chan_givingUp_of_ne (w : WaveStore) {c k : Channel} (h : k ≠ c) : (w.givingUp c).chan k = w.chan k := by
  unfold WaveStore.givingUp
  split
  · rfl
  · rw [WaveStore.chan_closeFilling, if_neg h]

theorem chan_handed (n : Nat) (c : Channel) (keep : PageId → Bool) (w : WaveStore) (k : Channel) :
    (w.handed n c keep).chan k = if k = c then { w.chan c with route := .event n, ring := [] } else w.chan k := by
  unfold WaveStore.handed
  rw [WaveStore.chan_modChan]
  simp only [WaveStore.chan_passPages, WaveStore.chan_releaseAll]

theorem handoverChannel_chan_of_ne (n : Nat) (onset : Time) {c k : Channel} (h : k ≠ c) (s : State) :
    (handoverChannel n onset c s).ws.chan k = s.ws.chan k := by
  rw [handoverChannel_ws, chan_handed, if_neg h, chan_givingUp_of_ne _ h]

/-- A handover leaves every enabled channel on the event's route with an empty ring. -/
theorem handover_chan (n : Nat) (onset : Time) {c : Channel} (h : c ∈ enabledChannels s.pt.tier) :
    ((handover n onset s).ws.chan c).route = .event n ∧ ((handover n onset s).ws.chan c).ring = [] := by
  have own (k : Channel) (x : State) :
      ((handoverChannel n onset k x).ws.chan k).route = .event n ∧ ((handoverChannel n onset k x).ws.chan k).ring = [] := by
    rw [handoverChannel_ws, chan_handed, if_pos rfl]
    exact ⟨rfl, rfl⟩
  have done (l : List Channel) (x : State)
      (hx : c ∈ l ∨ (x.ws.chan c).route = .event n ∧ (x.ws.chan c).ring = []) :
      ((l.foldl (fun s c => handoverChannel n onset c s) x).ws.chan c).route = .event n ∧
        ((l.foldl (fun s c => handoverChannel n onset c s) x).ws.chan c).ring = [] := by
    induction l generalizing x with
    | nil => simpa using hx
    | cons k l ih =>
      refine ih _ ?_
      by_cases hk : c = k
      · exact .inr (hk ▸ own k x)
      · rw [handoverChannel_chan_of_ne n onset hk]
        simpa [hk] using hx
  exact done _ _ (.inl h)

/-! ## The opening (R57, R98) -/

theorem makeRoom_of_lt (h : s.et.records.length < 64) : makeRoom s = s := if_pos h

theorem makeRoom_of_victim (h : 64 ≤ s.et.records.length) {v : EventRecord} {rest : List EventRecord}
    (hv : victimOrder s.et = v :: rest) : makeRoom s = removeRecord v.number s := by
  unfold makeRoom
  rw [if_neg (not_lt.mpr h), hv]

/-- The record that joins the table, and the detector with the event under way. -/
def State.opened (onset : Time) (od : Nat) (trigger : Tri Bool) (external : Bool) (s : State) : State :=
  (createRecord onset trigger (seedPeaks s) (openingFlags s external) s).modTu fun t =>
    { t with det := .open, current := some s.et.counter, onset := onset, onsetDelivery := od }

theorem openEvent_eq (onset : Time) (od : Nat) (trigger : Tri Bool) (external : Bool) (s : State) :
    openEvent onset od trigger external s =
      raise .eventOpened (quakeAlert s.et.counter (handover s.et.counter onset (s.opened onset od trigger external))) := rfl

theorem opened_pt (onset : Time) (od : Nat) (trigger : Tri Bool) (external : Bool) (s : State) :
    (s.opened onset od trigger external).pt = s.pt := by
  unfold State.opened createRecord
  simp

theorem nextEventNumber_free {held : List Nat} {n : Nat} (hn : n < 4294967295) (h : n + 1 ∉ held) (fuel : Nat) :
    nextEventNumber held (fuel + 1) n = n + 1 := by
  unfold nextEventNumber
  dsimp only
  rw [if_neg (show ¬n ≥ max32 from not_le.mpr hn), if_neg (by simpa using h)]

theorem openEvent_outline (onset : Time) (od : Nat) (trigger : Tri Bool) (external : Bool) (s : State) :
    (openEvent onset od trigger external s).et.outline = (s.opened onset od trigger external).et.outline := by
  rw [openEvent_eq, outline_raise, outline_quakeAlert, outline_handover]

theorem openEvent_tu (onset : Time) (od : Nat) (trigger : Tri Bool) (external : Bool) (s : State) :
    (openEvent onset od trigger external s).tu =
      { s.tu with det := .open, current := some s.et.counter, onset := onset, onsetDelivery := od } := by
  rw [openEvent_eq]
  simp [State.opened, createRecord]

theorem openEvent_changes (onset : Time) (od : Nat) (trigger : Tri Bool) (external : Bool) (s : State) :
    ChangesOnly [.tu, .ws, .et, .al, .pt, .sl] s (openEvent onset od trigger external s) :=
  fun b hb => by cases b <;> simp_all [Block.same]

theorem openEvent_chan (onset : Time) (od : Nat) (trigger : Tri Bool) (external : Bool) {c : Channel}
    (h : c ∈ enabledChannels s.pt.tier) :
    ((openEvent onset od trigger external s).ws.chan c).route = .event s.et.counter ∧
      ((openEvent onset od trigger external s).ws.chan c).ring = [] := by
  rw [openEvent_eq, raise_ws, quakeAlert_ws]
  exact handover_chan _ _ (by rwa [opened_pt])

end

end Sys2Proof.Machine

/-! PROOFS. What the vote does to the detector, with the opening of an event and the handover of a ring (R55, R57, R81, R98). -/

namespace Sys2Proof.Machine

section

variable {s : State}

/-! ## The record of an opening -/

theorem seedPeak_eq {peak : Channel → Option Peak}
    (hpeak : ∀ c, peak c =
      if c ∈ enabledChannels s.pt.tier then
        (match (s.tu.chans.get c).last with
          | some x => if x.delivery = s.tu.delivery ∧ 0 < x.cf then some ⟨x.cf, some x.time⟩ else some ⟨0, none⟩
          | none => some ⟨0, none⟩)
      else none) : seedPeak s = peak := by
  funext c
  rw [hpeak]
  unfold seedPeak
  simp only [mem_enabledChannels, show s.tu.chan c = s.tu.chans.get c from rfl] <;> rfl

theorem peakStrong_iff (level : Nat) (p : Option Peak) : peakStrong level p = true ↔ ∃ x, p = some x ∧ level ≤ x.peak := by
  cases p <;> simp [peakStrong]

theorem openingFlags_eq {external strong : Bool}
    (h : strong = true ↔ ∃ c p, seedPeak s c = some p ∧ s.tu.params.strongLevel ≤ p.peak) :
    openingFlags s external = ⟨strong, false, false, false, false, false, false, external, false⟩ := by
  have same : (peakStrong s.tu.params.strongLevel (seedPeak s .z) || peakStrong s.tu.params.strongLevel (seedPeak s .n) ||
      peakStrong s.tu.params.strongLevel (seedPeak s .e)) = strong := by
    rw [Bool.eq_iff_iff, h]
    simp only [Bool.or_eq_true, peakStrong_iff]
    constructor
    · rintro ((h | h) | h)
      exacts [⟨_, h⟩, ⟨_, h⟩, ⟨_, h⟩]
    · rintro ⟨c, h⟩
      cases c with
      | z => exact .inl (.inl h)
      | n => exact .inl (.inr h)
      | e => exact .inr h
  unfold openingFlags seedPeaks Tri.ofFn
  dsimp only
  rw [same]
  rfl

/-! ## The handover of one ring -/

theorem passesHandover_iff (w : WaveStore) (onset : Time) (pre : Nat) (p : PageId) :
    passesHandover w onset pre p = true ↔ ∃ f, (w.pages.get p).first = some f ∧
      onset.toNs ≤ f.toNs + 10000000 * ((w.pages.get p).count - 1) + pre * 1000000000 := by
  unfold passesHandover lastSampleNs
  rw [page_get]
  cases (w.pages.get p).first with
  | none => simp
  | some f =>
    simp only [Option.map_some, decide_eq_true_eq, Option.some.injEq, exists_eq_left']
    rfl

theorem givingUp_of_mapped {e : Channel → Bool} {w : WaveStore} (h : WaveStore.Mapped e w) {c : Channel}
    (hr : (w.chan c).route = .ring ∨ (w.chan c).route = .starved) :
    w.givingUp c = w ∧ ((w.chan c).route ≠ .ring → (w.chan c).filling = none) := by
  have idle : (w.chan c).route ≠ .ring → (w.chan c).filling = none := by
    intro no
    cases hf : (w.chan c).filling with
    | none => rfl
    | some p =>
      obtain ring | ⟨n, route, -⟩ := h.fills c p hf
      · exact absurd ring no
      · rw [route] at hr
        simp at hr
  refine ⟨?_, idle⟩
  unfold WaveStore.givingUp
  split
  · rfl
  · next no => exact WaveStore.closeFilling_of_none (idle no)

/-- The handover of a ring whose route fills for itself alone; a faulty page among those that pass gives DAMAGED. -/
theorem handoverChannel_eq {n : Nat} {onset : Time} {c : Channel} (same : s.ws.givingUp c = s.ws) {keep : PageId → Bool}
    (hkeep : keep = passesHandover s.ws onset s.tu.params.pre) :
    handoverChannel n onset c s =
      if ((s.ws.chan c).ring.filter keep ++ (s.ws.chan c).filling.toList).any fun p => (s.ws.page p).faulty then
        setEventFlag n (fun f => { f with damaged := true }) (s.modWs fun w => w.handed n c keep)
      else s.modWs fun w => w.handed n c keep := by
  have start : (s.modWs fun w => if (w.chan c).route = .ring then w else w.closeFilling c) = s :=
    congrArg (fun w => { s with ws := w }) same
  subst hkeep
  unfold handoverChannel
  rw [start]
  rfl

theorem handoverChannel_changes (n : Nat) (onset : Time) (c : Channel) : ChangesOnly [.ws, .et] s (handoverChannel n onset c s) :=
  fun b hb => by cases b <;> simp_all [Block.same]

theorem passPages_eq (n : Nat) (c : Channel) (ps : List PageId) (w : WaveStore) :
    WaveStore.passPages n c ps w =
      { w with pages := (WaveStore.passPages n c ps w).pages, events := (WaveStore.passPages n c ps w).events } := by
  unfold WaveStore.passPages
  induction ps generalizing w with
  | nil => rfl
  | cons p ps ih => exact ih _

theorem handed_eq (n : Nat) (c : Channel) (keep : PageId → Bool) (w : WaveStore) :
    w.handed n c keep =
      { w with
        pages := (w.handed n c keep).pages, events := (w.handed n c keep).events
        chans := w.chans.set c { w.chan c with route := .event n, ring := [] } } := by
  unfold WaveStore.handed
  rw [passPages_eq, WaveStore.releaseAll_eq]
  rfl

theorem eventList_handed (n : Nat) (c : Channel) (keep : PageId → Bool) (w : WaveStore) (k : Nat) (x : Channel) :
    (w.handed n c keep).eventList k x =
      if k = n ∧ x = c then w.eventList n c ++ ((w.chan c).ring.filter keep ++ (w.chan c).filling.toList) else w.eventList k x := by
  unfold WaveStore.handed
  refine (WaveStore.eventList_passPages n c _ _ k x).trans ?_
  simp only [WaveStore.eventList_releaseAll]

end

/-- Settles O16: the vote moves the detector, and an opening makes its record and takes over the rings. -/
theorem voteDrivesDetector : Obligations.VoteDrivesDetector := by
  refine ⟨?_, ?_, ?_, ?_⟩
  · intro s met hmet
    rw [← voteMet_iff] at hmet
    refine ⟨evalVote_off, fun hd hm => evalVote_stays (.inl ⟨hd, hmet.mp hm⟩),
      fun hd hm => evalVote_stays (.inr ⟨hd, mt hmet.mpr hm⟩), fun n ht hd hm hc => ?_, fun n ht hd hm hc => ?_⟩
    · rw [evalVote_toPost ht hd (mt hmet.mpr hm), toPost_of_current hc]
      rfl
    · rw [evalVote_reopen ht hd (hmet.mp hm), reopen_of_current hc]
      rfl
  · intro s ht hd hroom hsome htimes hmet
    have on {c : Channel} (h : (s.tu.chans.get c).state = .triggered) : ∃ x, s.onTime c = some x ∧
        (s.tu.chans.get c).onTime = some x.1 ∧ (s.tu.chans.get c).onDelivery = some x.2 := by
      obtain ⟨t, ht⟩ := Option.ne_none_iff_exists'.mp (htimes c h).1
      obtain ⟨k, hk⟩ := Option.ne_none_iff_exists'.mp (htimes c h).2
      exact ⟨(t, k), by simp [State.onTime, h, ht, hk], ht, hk⟩
    have of_on {c : Channel} {x : Time × Nat} (h : s.onTime c = some x) : (s.tu.chans.get c).state = .triggered := by
      by_contra no
      simp [State.onTime, no] at h
    obtain ⟨first, hfirst⟩ : ∃ x, earliestOn s = some x := by
      obtain ⟨c, hc⟩ := hsome
      obtain ⟨x, hx, -⟩ := on hc
      rw [earliestOn_eq, ← Option.isSome_iff_exists]
      exact foldl_earlierOf_isSome (.inr ⟨c, channels_mem c, by rw [hx]; rfl⟩)
    obtain ⟨mem, -, least⟩ := foldl_earlierOf ((earliestOn_eq s).symm.trans hfirst)
    obtain ⟨c, -, hc⟩ := mem.resolve_left nofun
    obtain ⟨x, hx, time, delivery⟩ := on (of_on hc)
    obtain rfl : x = first := Option.some.inj (hx.symm.trans hc)
    have opens : evalVote s =
        openEvent x.1 x.2 (Tri.ofFn fun c => decide ((s.tu.chan c).state = .triggered)) false s := by
      rw [evalVote_opens ht hd (voteMet_iff.mpr hmet), openByVote, hfirst]
    have tu := openEvent_tu x.1 x.2 (Tri.ofFn fun c => decide ((s.tu.chan c).state = .triggered)) false s
    have outline := openEvent_outline x.1 x.2 (Tri.ofFn fun c => decide ((s.tu.chan c).state = .triggered)) false s
    have routes := fun c => openEvent_chan x.1 x.2 (Tri.ofFn fun c => decide ((s.tu.chan c).state = .triggered)) false (c := c) (s := s)
    have changes := openEvent_changes x.1 x.2 (Tri.ofFn fun c => decide ((s.tu.chan c).state = .triggered)) false s
    have flag : (openEvent x.1 x.2 (Tri.ofFn fun c => decide ((s.tu.chan c).state = .triggered)) false s).sl.flags &&& 0x01 ≠ 0 :=
      raise_flag_set _ .eventOpened
    have records : (s.opened x.1 x.2 (Tri.ofFn fun c => decide ((s.tu.chan c).state = .triggered)) false).et.records =
        s.et.records ++ [newRecord s s.et.counter x.1 (Tri.ofFn fun c => decide ((s.tu.chan c).state = .triggered)) (seedPeaks s)
          (openingFlags s false)] := by
      unfold State.opened createRecord
      rw [makeRoom_of_lt hroom]
      rfl
    have counter : (s.opened x.1 x.2 (Tri.ofFn fun c => decide ((s.tu.chan c).state = .triggered)) false).et.counter =
        nextEventNumber (s.et.counter :: s.et.records.map EventRecord.number) 66 s.et.counter := by
      unfold State.opened createRecord
      rw [makeRoom_of_lt hroom]
      rfl
    refine ⟨_, opens, ?_⟩
    have whole : openEvent x.1 x.2 (Tri.ofFn fun c => decide ((s.tu.chan c).state = .triggered)) false s =
        openEvent x.1 x.2 ⟨decide ((s.tu.chans.get .z).state = .triggered), decide ((s.tu.chans.get .n).state = .triggered),
          decide ((s.tu.chans.get .e).state = .triggered)⟩ false s := rfl
    generalize openEvent x.1 x.2 (Tri.ofFn fun c => decide ((s.tu.chan c).state = .triggered)) false s = t at *
    have onset : t.tu.onset = x.1 := by rw [tu]
    have onsetDelivery : t.tu.onsetDelivery = x.2 := by rw [tu]
    refine ⟨by rw [tu], by rw [tu], by rw [tu], ⟨c, of_on hc, by rw [onset, time], by rw [onsetDelivery, delivery]⟩,
      fun k y hk hy => ?_, ?_, ?_, fun hn hfree => ?_, routes, flag, changes, by rwa [onset, onsetDelivery]⟩
    · obtain ⟨z, hz, own, -⟩ := on hk
      rw [onset]
      have le := least k (channels_mem k) z hz
      rwa [show z.1 = y from Option.some.inj (own.symm.trans hy)] at le
    · rw [numbers_of_outline outline, records, List.map_append]
      rfl
    · obtain ⟨r, hr, core⟩ := exists_core outline (r := newRecord s s.et.counter x.1
        (Tri.ofFn fun c => decide ((s.tu.chan c).state = .triggered)) (seedPeaks s) (openingFlags s false)) (by rw [records]; simp)
      have field {α : Type} (f : EventRecord → α) := congrArg f core
      refine ⟨r, hr, field EventRecord.number, field EventRecord.state, (field EventRecord.onset).trans onset.symm,
        field EventRecord.grade, field EventRecord.u, field EventRecord.tier, field EventRecord.endTime, field EventRecord.hostPin,
        field EventRecord.released, fun c => ?_⟩
      refine (field fun r => r.trigger.get c).trans ?_
      cases c <;> rfl
    · rw [counter_of_outline outline, counter]
      refine nextEventNumber_free hn ?_ 65
      simpa using fun r hr => hfree r hr
  · intro s m onset od num trigger external strong peak record hnum hroom hfull hpeak hstrong hrecord
    have made : m = makeRoom s := by
      by_cases h : s.et.records.length < 64
      · rw [hroom h, makeRoom_of_lt h]
      · obtain ⟨v, rest, hv, hm⟩ := hfull (not_lt.mp h)
        rw [hm, makeRoom_of_victim (not_lt.mp h) hv]
    have seeds := seedPeak_eq hpeak
    have flags := openingFlags_eq (external := external) (by rw [seeds]; exact hstrong)
    have joins : newRecord s num onset trigger (seedPeaks s) (openingFlags s external) = record := by
      rw [hrecord, flags, ← seeds]
      rfl
    refine ⟨nextEventNumber (num :: m.et.records.map EventRecord.number) 66 num, ?_, fun hn hfree => ?_⟩
    · have opened : s.opened onset od trigger external =
          { m with
            et := { m.et with
              records := m.et.records ++ [record]
              counter := nextEventNumber (num :: m.et.records.map EventRecord.number) 66 num }
            tu := { s.tu with det := .open, current := some num, onset := onset, onsetDelivery := od } } := by
        unfold State.opened createRecord
        rw [← made, ← joins, hnum, show s.tu = m.tu by rw [made, makeRoom_tu]]
        rfl
      have tier : (s.opened onset od trigger external).pt.tier = s.pt.tier := by rw [opened_pt]
      rw [openEvent_eq, ← hnum, handover, tier, opened]
    · refine nextEventNumber_free hn ?_ 65
      simpa using fun r hr => hfree r hr
  · intro s num onset c ch passes pages hpage hch hroute hpasses hpages
    have mapped := ((storeKept_pages s).mpr hpage).pages nofun
    have chan : s.ws.chan c = ch := hch.symm
    obtain ⟨same, idle⟩ := givingUp_of_mapped mapped (c := c) (by rwa [chan])
    have keep : passes = passesHandover s.ws onset s.tu.params.pre := by
      funext p
      rw [Bool.eq_iff_iff, hpasses, passesHandover_iff]
    have fills : (if ch.route = .ring then ch.filling else none) = ch.filling := by
      split
      · rfl
      · next no => exact (chan ▸ idle (chan ▸ no)).symm
    have listed : pages = (s.ws.chan c).ring.filter passes ++ (s.ws.chan c).filling.toList := by
      rw [hpages, chan]
      congr 1
      split
      · rfl
      · next no => rw [show ch.filling = none from chan ▸ idle (chan ▸ no), Option.toList_none]
    have once (p : PageId) (hp : p ∈ pages) : p ∉ (s.ws.chan c).ring.filter fun p => !passes p := by
      rw [listed, List.mem_append, List.mem_filter, Option.mem_toList] at hp
      rw [List.mem_filter]
      rintro ⟨ring, out⟩
      obtain ⟨-, kept⟩ | hf := hp
      · simp [kept] at out
      · exact mapped.onceFilling c p hf ring
    have page (p : PageId) : ((s.ws.handed num c passes).pages.get p) =
        if p ∈ pages then { (s.ws.releaseAll ((s.ws.chan c).ring.filter fun p => !passes p)).page p with state := .event num c }
        else (s.ws.releaseAll ((s.ws.chan c).ring.filter fun p => !passes p)).page p := by
      rw [listed, ← WaveStore.page_passPages]
      rfl
    have run := handoverChannel_eq (n := num) same keep
    rw [← listed] at run
    have ws : (handoverChannel num onset c s).ws = s.ws.handed num c passes := by
      rw [run]
      split <;> rfl
    refine ⟨_, rfl, handoverChannel_changes num onset c, ?_, fun k n => ?_, fun p hp => ?_, fun p hp out => ?_, fun p ring out => ?_, ?_⟩
    · rw [ws, fills, handed_eq, chan]
    · rw [ws, eventList_handed, ← listed]
      split
      · next here => rw [here.1, here.2]
      · rfl
    · rw [ws, page, if_pos hp, WaveStore.page_releaseAll, if_neg (once p hp)]
      rfl
    · rw [ws, page, if_neg out, WaveStore.page_releaseAll, if_pos, WaveStore.released_state]
      · rfl
      · rw [List.mem_filter]
        refine ⟨chan ▸ hp, ?_⟩
        by_contra kept
        refine out ?_
        rw [listed, List.mem_append, List.mem_filter]
        exact .inl ⟨chan ▸ hp, by simpa using kept⟩
    · rw [ws, page, if_neg out, WaveStore.page_releaseAll, if_neg]
      · rfl
      · rw [List.mem_filter, chan]
        exact fun h => ring h.1
    · rw [run]
      simp only [List.any_eq_true, page_get]
      split
      · rfl
      · rfl

end Sys2Proof.Machine

/-! PROOFS. EVENT FORCE, DETECT ARM and RESTART DETECTION, and the close of an event that they may bring (R58, R60, R66, R69, R70). -/

namespace Sys2Proof.Machine

/-! ## The routes that a close leaves -/

namespace WaveStore

section

variable {w : WaveStore} {e : Channel → Bool} {ps : List PageId}

theorem closeIfIn_route (ps : List PageId) (w : WaveStore) (c k : Channel) :
    ((closeIfIn ps w c).chan k).route = (w.chan k).route := by
  unfold closeIfIn
  split
  · exact route_closeFilling w c k
  · rfl

/-- The ring of a channel that fills none of the pages stays. -/
theorem closeIfIn_ring (c : Channel) {k : Channel} (h : ((w.chan k).filling.any ps.contains) = false) :
    ((closeIfIn ps w c).chan k).ring = (w.chan k).ring := by
  unfold closeIfIn
  split
  · next inside =>
    rw [chan_closeFilling, if_neg]
    rintro rfl
    rw [h] at inside
    cases inside
  · rfl

theorem closeIfIn_filling (c : Channel) {k : Channel} (h : ((w.chan k).filling.any ps.contains) = false) :
    ((closeIfIn ps w c).chan k).filling = (w.chan k).filling := by
  rw [Mapped.chan_closeIfIn, h]
  simp

theorem dropEvent_route (n : Nat) (k : Channel) : ((w.dropEvent n).chan k).route = (w.chan k).route := by
  show (((channels.foldl (closeIfIn (w.eventPages n)) w).releaseAll (w.eventPages n)).chan k).route = _
  rw [chan_releaseAll]
  simp only [channels, List.foldl_cons, List.foldl_nil, closeIfIn_route]

theorem dropEvent_ring {n : Nat} {k : Channel} (h : ∀ p, (w.chan k).filling = some p → p ∉ w.eventPages n) :
    ((w.dropEvent n).chan k).ring = (w.chan k).ring := by
  have out : ((w.chan k).filling.any (w.eventPages n).contains) = false := by
    cases hf : (w.chan k).filling with
    | none => rfl
    | some p => simpa using h p hf
  have keep (v : WaveStore) (c : Channel) (hv : (v.chan k).filling = (w.chan k).filling) :
      ((closeIfIn (w.eventPages n) v c).chan k).ring = (v.chan k).ring ∧
        ((closeIfIn (w.eventPages n) v c).chan k).filling = (w.chan k).filling := by
    rw [← hv] at out ⊢
    exact ⟨closeIfIn_ring c out, closeIfIn_filling c out⟩
  show (((channels.foldl (closeIfIn (w.eventPages n)) w).releaseAll (w.eventPages n)).chan k).ring = _
  rw [chan_releaseAll]
  obtain ⟨ringZ, fillsZ⟩ := keep w .z rfl
  obtain ⟨ringN, fillsN⟩ := keep _ .n fillsZ
  obtain ⟨ringE, -⟩ := keep _ .e fillsN
  exact ringE.trans (ringN.trans ringZ)

/-- The page that a ring fills belongs to no event. -/
theorem Mapped.ring_fills_out (h : Mapped e w) {k : Channel} (hr : (w.chan k).route = .ring ∨ (w.chan k).route = .starved) {p : PageId}
    (hp : (w.chan k).filling = some p) (n : Nat) : p ∉ w.eventPages n := by
  rw [mem_eventPages]
  rintro ⟨c, hc⟩
  have event := (h.event p n c).mpr hc
  obtain ring | ⟨m, route, -⟩ := h.fills k p hp
  · rw [(h.ring p k).mpr (.inr ⟨ring, hp⟩)] at event
    cases event
  · rw [route] at hr
    simp at hr

end

end WaveStore

section

variable {s : State} {e : Channel → Bool}

/-- A channel whose route takes up a new list: a ring without completed pages. -/
def Rejoined (c : Channel) (w : WaveStore) : Prop :=
  ((w.chan c).route = .ring ∨ (w.chan c).route = .starved) ∧ (w.chan c).ring = []

theorem Rejoined.reclaimed {k : Channel} (h : WaveStore.Sound .pages e s.ws) (hk : Rejoined k s.ws) : Rejoined k s.reclaimed.ws := by
  unfold State.reclaimed
  split
  · unfold reclaimUntilFree
    refine (List.foldlRecOn (motive := fun t : State => WaveStore.Sound .pages e t.ws ∧ Rejoined k t.ws) _ _ ⟨h, hk⟩
      fun t ⟨sound, route, ring⟩ n _ => ?_).2
    split
    · exact ⟨sound, route, ring⟩
    · rw [reclaim_ws]
      refine ⟨sound.dropEvent n, ?_, ?_⟩
      · rwa [WaveStore.dropEvent_route]
      · rw [WaveStore.dropEvent_ring fun p hp => (sound.pages nofun).ring_fills_out route hp n, ring]
  · exact hk

theorem Rejoined.shortened {k : Channel} (hk : Rejoined k s.ws) (c : Channel) : Rejoined k (s.shortened c).ws := by
  unfold State.shortened
  split
  · show Rejoined k (dropOldest c s.ws)
    unfold dropOldest
    split
    · next p rest hr =>
      have other : k ≠ c := by
        rintro rfl
        rw [hk.2] at hr
        cases hr
      simpa [Rejoined, WaveStore.chan_modChan_of_ne _ _ _ _ other, WaveStore.release_eq] using hk
    · exact hk
  · exact hk

/-- A need of another route, or of its own, leaves a channel rejoined. -/
theorem Rejoined.ringNeed {k : Channel} (h : WaveStore.Sound .pages e s.ws) (hk : Rejoined k s.ws) (c : Channel) :
    Rejoined k (ringNeed c s).ws := by
  have ready := (hk.shortened c).reclaimed (shortened_sound h c)
  have set (w : WaveStore) (hw : Rejoined k w) (g : StoreChannel → StoreChannel)
      (hg : ∀ ch, ((g ch).route = .ring ∨ (g ch).route = .starved) ∧ (g ch).ring = ch.ring) : Rejoined k (w.modChan c g) := by
    unfold Rejoined
    rw [WaveStore.chan_modChan]
    split
    · next same => exact ⟨(hg _).1, (hg _).2.trans (same ▸ hw.2)⟩
    · exact hw
  rw [ringNeed_ws]
  split
  · next p _ =>
    have allocated : Rejoined k ((s.shortened c).reclaimed.ws.allocate p (.ring c)) := ready
    apply set _ allocated
    exact fun _ => ⟨.inl rfl, rfl⟩
  · apply set _ ready
    exact fun _ => ⟨.inr rfl, rfl⟩

/-- A route that an event has had, or has stopped on. -/
def OpenRoute (c : Channel) (w : WaveStore) : Prop := (∃ n, (w.chan c).route = .event n) ∨ (w.chan c).route = .stopped

/-- The route of a closed list, before its first page. -/
def State.joining (c : Channel) (s : State) : State :=
  (s.modWs fun w => w.closeFilling c).modWs fun w =>
    w.modChan c fun ch => { ch with route := .ring, ring := [], filling := none, pair := none }

theorem storeCloseChannel_open {c : Channel} (h : OpenRoute c s.ws) : storeCloseChannel c s = ringNeed c (s.joining c) := by
  unfold storeCloseChannel
  obtain ⟨n, h⟩ | h := h
  · rw [h]
    rfl
  · rw [h]
    rfl

theorem storeCloseChannel_closed {c : Channel} (h : ¬OpenRoute c s.ws) : storeCloseChannel c s = s := by
  unfold storeCloseChannel
  cases hr : (s.ws.chan c).route with
  | event n => exact absurd (.inl ⟨n, hr⟩) h
  | stopped => exact absurd (.inr hr) h
  | ring | starved | off => rfl

theorem joining_sound {c : Channel} (h : WaveStore.Sound .pages e s.ws) (hr : OpenRoute c s.ws) :
    WaveStore.Sound .pages e (s.joining c).ws := by
  have closed : WaveStore.Sound .pages e (s.ws.closeFilling c) := h.closeFilling c
  have bare : ((s.ws.closeFilling c).chan c).ring = [] := by
    refine bare_of_route (s := s.modWs fun w => w.closeFilling c) closed ?_ ?_ nofun
    all_goals
      show ((s.ws.closeFilling c).chan c).route ≠ _
      rw [route_closeFilling]
      obtain ⟨n, hr⟩ | hr := hr <;> simp [hr]
  have has : e c = true := enabled_of_route h (by obtain ⟨n, hr⟩ | hr := hr <;> simp [hr]) nofun
  exact closed.reroute (c := c) (g := fun ch => { ch with route := .ring, ring := [], filling := none, pair := none })
    (fun _ => filling_closeFilling s.ws c) (fun _ => bare.symm) rfl (fun _ => rfl) (fun _ _ => .inl rfl) (fun _ => by simp [has])
    fun _ _ => rfl

theorem chan_joining (c k : Channel) :
    (s.joining c).ws.chan k =
      if k = c then { (s.ws.closeFilling c).chan c with route := .ring, ring := [], filling := none, pair := none } else s.ws.chan k := by
  show ((s.ws.closeFilling c).modChan c _).chan k = _
  rw [WaveStore.chan_modChan]
  split
  · rfl
  · next other => rw [WaveStore.chan_closeFilling, if_neg other]

/-- The close of a channel's list leaves the channel rejoined, and every other that was. -/
theorem storeCloseChannel_rejoins {c k : Channel} (h : WaveStore.Sound .pages e s.ws)
    (hk : Rejoined k s.ws ∨ k = c ∧ OpenRoute k s.ws) : Rejoined k (storeCloseChannel c s).ws := by
  by_cases hr : OpenRoute c s.ws
  · rw [storeCloseChannel_open hr]
    refine Rejoined.ringNeed (joining_sound h hr) ?_ c
    unfold Rejoined
    rw [chan_joining]
    split
    · exact ⟨.inl rfl, rfl⟩
    · next other => exact hk.resolve_right fun own => other own.1
  · rw [storeCloseChannel_closed hr]
    exact hk.resolve_right fun own => hr (own.1 ▸ own.2)

theorem reclaimed_route (s : State) (k : Channel) : (s.reclaimed.ws.chan k).route = (s.ws.chan k).route := by
  unfold State.reclaimed
  split
  · unfold reclaimUntilFree
    refine List.foldlRecOn (motive := fun t : State => (t.ws.chan k).route = (s.ws.chan k).route) _ _ rfl fun t ht n _ => ?_
    split
    · exact ht
    · rwa [reclaim_ws, WaveStore.dropEvent_route]
  · rfl

theorem shortened_chan_of_ne {c k : Channel} (h : k ≠ c) : (s.shortened c).ws.chan k = s.ws.chan k := by
  unfold State.shortened
  split
  · show (dropOldest c s.ws).chan k = _
    unfold dropOldest
    split
    · simp [WaveStore.chan_modChan_of_ne _ _ _ _ h, WaveStore.release_eq]
    · rfl
  · rfl

theorem ringNeed_route_of_ne {c k : Channel} (h : k ≠ c) : ((ringNeed c s).ws.chan k).route = (s.ws.chan k).route := by
  have ready : ((s.shortened c).reclaimed.ws.chan k).route = (s.ws.chan k).route := by
    rw [reclaimed_route, shortened_chan_of_ne h]
  rw [ringNeed_ws]
  split
  · rw [WaveStore.chan_modChan_of_ne _ _ _ _ h]
    exact ready
  · rwa [WaveStore.chan_modChan_of_ne _ _ _ _ h]

theorem storeCloseChannel_openRoute_of_ne {c k : Channel} (h : k ≠ c) (hk : OpenRoute k s.ws) :
    OpenRoute k (storeCloseChannel c s).ws := by
  by_cases hr : OpenRoute c s.ws
  · rw [storeCloseChannel_open hr]
    unfold OpenRoute
    rwa [ringNeed_route_of_ne h, chan_joining, if_neg h]
  · rwa [storeCloseChannel_closed hr]

/-- After a close every channel of the event has a new ring (R58, R84). -/
theorem storeClose_rejoins {k : Channel} (h : WaveStore.Sound .pages e s.ws) (hk : OpenRoute k s.ws) : Rejoined k (storeClose s).ws := by
  have walk (l : List Channel) (x : State) (hx : WaveStore.Sound .pages e x.ws) (hk : Rejoined k x.ws ∨ k ∈ l ∧ OpenRoute k x.ws) :
      Rejoined k (l.foldl (fun s c => storeCloseChannel c s) x).ws := by
    induction l generalizing x with
    | nil => simpa using hk
    | cons c l ih =>
      refine ih _ (storeCloseChannel_sound hx c) ?_
      obtain done | ⟨mem, waits⟩ := hk
      · exact .inl (storeCloseChannel_rejoins hx (.inl done))
      · by_cases same : k = c
        · exact .inl (storeCloseChannel_rejoins hx (.inr ⟨same, waits⟩))
        · exact .inr ⟨(List.mem_cons.mp mem).resolve_left same, storeCloseChannel_openRoute_of_ne same waits⟩
  exact walk channels s h (.inr ⟨channels_mem k, hk⟩)

end

end Sys2Proof.Machine

/-! PROOFS. EVENT FORCE, DETECT ARM and RESTART DETECTION by the detector state (R58, R60, R66, R69, R70). -/

namespace Sys2Proof.Machine

/-! ## A host that stays powered keeps its requests -/

theorem raise_list_on (f : AttnFlag) {s : State} (h : s.pt.host.isOn = true) :
    (raise f s).sl.list = s.sl.list ∧ (raise f s).pt.host.isOn = true := by
  rw [raise_eq]
  split
  · exact ⟨rfl, h⟩
  · obtain ⟨x, hx⟩ : ∃ x, x = { s with sl := { s.sl with flags := s.sl.flags ||| f.bit } } := ⟨_, rfl⟩
    have list : x.sl.list = s.sl.list := by rw [hx]
    have host : x.pt.host = s.pt.host := by rw [hx]
    rw [← hx, ← list]
    by_cases dozes : ∃ y, x.pt.host = .dozing y
    · obtain ⟨y, hy⟩ := dozes
      rw [wakeHost_dozing .attention hy]
      exact ⟨rfl, rfl⟩
    · rw [wakeHost_awake .attention ⟨fun asleep => ?_, fun y hy => dozes ⟨y, hy⟩⟩, host]
      · exact ⟨rfl, h⟩
      · rw [← host, asleep] at h
        cases h

theorem Flagged.list_on {s t : State} (h : Flagged s t) (ho : s.pt.host.isOn = true) :
    t.sl.list = s.sl.list ∧ t.pt.host.isOn = true :=
  h.keeps (P := fun x => x.sl.list = s.sl.list ∧ x.pt.host.isOn = true) (fun x y hpt hsl hx => by rwa [hpt, hsl])
    (fun x f hx => ⟨(raise_list_on f hx.2).1.trans hx.1, (raise_list_on f hx.2).2⟩) ⟨Eq.refl _, ho⟩

section

variable {s : State}

/-! ## The close of an event (R58, R60) -/

/-- A decision that leaves the heater's state leaves the quiet window. -/
theorem heaterDecide_tu_of_state {b : Bool} (h : (heaterDecide b s).hc.state = s.hc.state) : (heaterDecide b s).tu = s.tu := by
  revert h
  unfold heaterDecide
  dsimp only
  split
  · exact fun _ => rfl
  · split
    · exact fun _ => rfl
    · next other =>
      split
      · intro same
        have switched (x : State) (y : HeaterState) : (switchHeater y x).hc.state = y := by
          unfold switchHeater
          dsimp only
          split <;> simp [startQuiet]
        exact absurd ((switched _ _).symm.trans same) other
      · exact fun _ => rfl

/-- The record of a close. -/
def EventRecord.closedAt (endTime : Option Time) (truncated : Bool) (r : EventRecord) : EventRecord :=
  { r with state := .closed, endTime := endTime, flags := { r.flags with truncated := r.flags.truncated || truncated } }

variable {n : Nat} {t : State} {endTime : Option Time} {truncated : Bool} {final : DetectorState}
  (hc : s.tu.current = some n) (ht : t = closeEvent endTime truncated final s)

include ht in
theorem closeEvent_changes : ChangesOnly [.si, .tu, .ws, .et, .hc, .pt, .sl] s t := by
  rw [ht]
  exact fun b hb => by cases b <;> simp_all [Block.same]

include hc ht

theorem closeEvent_fields :
    (∃ q, t.tu = { s.tu with det := final, current := none, quietEnd := q }) ∧
      (t.hc.state = s.hc.state → t.tu = { s.tu with det := final, current := none }) ∧
      t.ws = (storeClose (updRecord n (EventRecord.closedAt endTime truncated) s)).ws ∧
      t.et.outline = (updRecord n (EventRecord.closedAt endTime truncated) s).et.outline ∧
      t.sl.flags &&& 0x02 ≠ 0 := by
  have made : t = heaterDecide false (raise .eventClosed ((storeClose (updRecord n (EventRecord.closedAt endTime truncated) s)).modTu
      fun t => { t with det := final, current := none })) := ht.trans (closeEvent_of_current hc _ _ _)
  obtain ⟨u, hu⟩ : ∃ u, u = raise .eventClosed ((storeClose (updRecord n (EventRecord.closedAt endTime truncated) s)).modTu
      fun t => { t with det := final, current := none }) := ⟨_, rfl⟩
  rw [← hu] at made
  have tu : u.tu = { s.tu with det := final, current := none } := by
    rw [hu]
    simp
  have hcU : u.hc = s.hc := by
    rw [hu]
    simp
  have ws : u.ws = (storeClose (updRecord n (EventRecord.closedAt endTime truncated) s)).ws := by
    rw [hu]
    simp
  have outline : u.et.outline = (updRecord n (EventRecord.closedAt endTime truncated) s).et.outline := by
    rw [hu, outline_raise]
    exact outline_storeClose _
  have flag : u.sl.flags &&& 0x02 ≠ 0 := by
    rw [hu]
    exact raise_flag_set _ .eventClosed
  obtain ⟨q, hq⟩ := heaterDecide_tu u false
  rw [made]
  refine ⟨⟨q, by rw [hq, tu]⟩, fun same => ?_, by rw [heaterDecide_ws, ws], by rw [outline_heaterDecide, outline],
    by rwa [heaterDecide_sl]⟩
  rw [heaterDecide_tu_of_state (by rw [same, hcU]), tu]

theorem closeEvent_record {x : EventRecord} (hx : x ∈ s.et.records) (hn : x.number = n) :
    ∃ y ∈ t.et.records, y.core = (x.closedAt endTime truncated).core := by
  obtain ⟨-, -, -, outline, -⟩ := closeEvent_fields hc ht
  refine exists_core outline ?_
  rw [updRecord_eq]
  exact List.mem_map.mpr ⟨x, hx, if_pos hn⟩

theorem closeEvent_rejoins {e : Channel → Bool} (h : WaveStore.Sound .pages e s.ws) {k : Channel} (hk : OpenRoute k s.ws) :
    Rejoined k t.ws := by
  obtain ⟨-, -, ws, -, -⟩ := closeEvent_fields hc ht
  rw [ws]
  exact storeClose_rejoins h hk

omit hc in
theorem closeEvent_list (ho : s.pt.host.isOn = true) : t.sl.list = s.sl.list ∧ t.pt.host.isOn = true := by
  rw [ht]
  exact (closeEvent_flagged s endTime truncated final).list_on ho

omit hc in
theorem closeEvent_tier : t.pt.tier = s.pt.tier := by
  rw [ht]
  exact (closeEvent_woken s endTime truncated final).tier

end

/-! ## The restart of the channels (R70) -/

theorem warmEnabled_eq (s : State) :
    ∃ x : Tri TriggerChannel, warmEnabled s = { s with tu := { s.tu with chans := x } } ∧
      ∀ c, x.get c = if c ∈ enabledChannels s.pt.tier then enterWarmup (s.tu.chans.get c) else s.tu.chans.get c := by
  have walk (l : List Channel) (y : State) :
      ∃ x : Tri TriggerChannel, l.foldl (fun s c => updChannel c enterWarmup s) y = { y with tu := { y.tu with chans := x } } ∧
        ∀ c, x.get c = if c ∈ l then enterWarmup (y.tu.chans.get c) else y.tu.chans.get c := by
    induction l generalizing y with
    | nil => exact ⟨y.tu.chans, rfl, fun c => (if_neg (by simp)).symm⟩
    | cons k l ih =>
      obtain ⟨x, hx, get⟩ := ih (updChannel k enterWarmup y)
      have own (c : Channel) : (updChannel k enterWarmup y).tu.chans.get c =
          if c = k then enterWarmup (y.tu.chans.get k) else y.tu.chans.get c := Tri.get_set _ _ _ _
      refine ⟨x, hx, fun c => ?_⟩
      rw [get, own]
      by_cases same : c = k
      · subst same
        simp [enterWarmup]
      · simp [same]
  exact walk _ s

/-! ## The requests -/

theorem truncateEvent_idle {s : State} (h : s.tu.det = .idle ∨ s.tu.det = .disarmed) (final : DetectorState) :
    truncateEvent final s = s := by
  refine if_neg ?_
  rw [eventInProgress_iff]
  obtain h | h := h <;> simp [h]

theorem truncateEvent_running {s : State} (h : s.tu.det = .open ∨ s.tu.det = .post) (final : DetectorState) :
    truncateEvent final s = closeEvent s.tu.lastSeen true final s := if_pos ((eventInProgress_iff s).mpr h)

theorem detectArm_off (s : State) :
    detectArm [0] s =
      ([stOk, 0x00], ((truncateEvent .disarmed s).modTu fun t => { t with det := .disarmed, auxPending := false, armed := false })) := rfl

section

variable {d : Elapsed} {s : State} {pre post : List Request} {r : Request} (h : Front s pre r post)

include h

theorem Front.answers_arm_off (hk : r.kind = kDetectArm) (hp : r.payload = [0]) {t : State}
    (ht : t = (truncateEvent .disarmed (s.elapse d)).modTu fun t => { t with det := .disarmed, auxPending := false, armed := false })
    (hl : t.sl.list = s.sl.list) : Answers (.detectArm d) s pre r post t [0x00, 0x00] := by
  refine h.answers_ofLength hk rfl (f := detectArm) (congrArg List.length hp) ?_ hl
  rw [hp, detectArm_off, ht]
  rfl

theorem Front.answers_restart (hk : r.kind = kRestart) (hp : r.payload = [1]) {t : State}
    (ht : t = warmEnabled ((truncateEvent .idle (s.elapse d)).modTu fun t => { t with auxPending := false }))
    (hl : t.sl.list = s.sl.list) : Answers (.restartDetection d) s pre r post t [0x00] := by
  refine h.exec_serveWith (exec_restartDetection d s) (by rw [hk, hp]; rfl) ?_ hl
  rw [hp, ht]
  rfl

end

/-- Settles O18: EVENT FORCE, DETECT ARM and RESTART DETECTION by the detector state. -/
theorem detectorRequests : Obligations.DetectorRequests := by
  refine ⟨fun d s pre r post h hk hp => ⟨fun hd => ?_, fun hd => ?_, fun n hd hn => ?_⟩,
    fun d s pre r post det h hk hdet => ⟨fun hp => ?_, fun b hp hb => ?_⟩,
    fun d s pre r post h hd => ⟨fun hk hp => ?_, fun hk hp => ?_⟩, fun d s pre r post n c h hd hn hpage hon hc => ?_⟩
  · refine h.answers_ofLength hk rfl (f := eventForce) (congrArg List.length hp) ?_ rfl
    simp [eventForce, hd, stWrongState]
  · refine h.answers_ofLength hk rfl (f := eventForce) (congrArg List.length hp) ?_ rfl
    have idle : eventForce r.payload (s.elapse d) = ([stOk], (s.elapse d).modTu fun t => { t with auxPending := true }) := by
      unfold eventForce
      rw [State.elapse_tu, hd]
    exact idle
  · have external : eventForce r.payload (s.elapse d) = (stOk :: putU 4 n, markExternal (s.elapse d)) := by
      have number : (s.elapse d).tu.current.getD 0 = n := by rw [State.elapse_tu, hn, Option.getD_some]
      unfold eventForce
      rw [number]
      obtain hd | hd := hd <;> simp only [State.elapse_tu, hd]
    refine h.answers_ofLength hk rfl (f := eventForce) (congrArg List.length hp) (external.trans ?_) rfl
    unfold markExternal setCurrentFlag
    rw [State.elapse_tu, hn]
    rfl
  · refine h.answers_ofLength hk rfl (f := detectArm) (congrArg List.length hp) ?_ rfl
    have armed : arm (s.elapse d) = { s.elapse d with tu := { s.tu with armed := true, det := det } } := by
      rw [hdet]
      rfl
    have on : detectArm [1] (s.elapse d) = ([stOk, (arm (s.elapse d)).tu.det.code], arm (s.elapse d)) := rfl
    rw [hp, on, armed]
    refine Prod.ext ?_ rfl
    cases det <;> rfl
  · refine h.answers_ofLength hk rfl (f := detectArm) (congrArg List.length hp) ?_ rfl
    have no : onOffOfCode b = none := by
      unfold onOffOfCode
      rw [if_neg fun h0 => by simp [h0] at hb, if_neg fun h1 => by simp [h1] at hb]
    simp only [hp, detectArm, List.getD_cons_zero, no]
    rfl
  · exact h.answers_arm_off hk hp (by rw [truncateEvent_idle (s := s.elapse d) hd]; rfl) rfl
  · obtain ⟨y, hy⟩ : ∃ y, y = (s.elapse d).modTu fun t => { t with auxPending := false } := ⟨_, rfl⟩
    obtain ⟨x, hx, get⟩ := warmEnabled_eq y
    refine ⟨{ y with tu := { y.tu with chans := x } },
      h.answers_restart hk hp (by rw [truncateEvent_idle (s := s.elapse d) hd, ← hy, hx]) (by rw [hy]; rfl), ?_⟩
    rw [hy] at get ⊢
    exact ⟨rfl, rfl, get⟩
  · obtain ⟨t, ht⟩ : ∃ t, t = closeEvent s.tu.lastSeen true (if r.kind = 0x29 then .disarmed else .idle) (s.elapse d) := ⟨_, rfl⟩
    have sound : WaveStore.Sound .pages (enabledIn s.pt.tier) (s.elapse d).ws := (storeKept_pages s).mpr hpage
    obtain ⟨⟨q, tu⟩, quiet, -, -, flag⟩ := closeEvent_fields (s := s.elapse d) hn ht
    have changes := closeEvent_changes ht
    have list := (closeEvent_list (s := s.elapse d) ht hon).1
    have tier : t.pt.tier = s.pt.tier := closeEvent_tier (s := s.elapse d) ht
    have record (x : EventRecord) (hx : x ∈ s.et.records) (hxn : x.number = n) :
        ∃ y ∈ t.et.records, y.number = n ∧ y.state = .closed ∧ y.endTime = s.tu.lastSeen ∧ y.flags.truncated = true ∧
          y.onset = x.onset ∧ y.peaks = x.peaks := by
      obtain ⟨y, hy, core⟩ := closeEvent_record (s := s.elapse d) hn ht hx hxn
      have field {α : Type} (f : EventRecord → α) := congrArg f core
      exact ⟨y, hy, (field EventRecord.number).trans hxn, field EventRecord.state, field EventRecord.endTime,
        (field fun r => r.flags.truncated).trans (Bool.or_true _), field EventRecord.onset, field EventRecord.peaks⟩
    have rejoined (k : Channel) (hk : (∃ m, (s.ws.chans.get k).route = .event m) ∨ (s.ws.chans.get k).route = .stopped) :
        ((t.ws.chans.get k).route = .ring ∨ (t.ws.chans.get k).route = .starved) ∧ (t.ws.chans.get k).ring = [] :=
      closeEvent_rejoins (s := s.elapse d) hn ht sound hk
    obtain ⟨hk, hp, rfl⟩ | ⟨hk, hp, rfl⟩ := hc
    · rw [if_pos hk] at ht tu quiet
      rw [if_pos hk]
      have restart : r.kind ≠ 0x05 := by rw [hk]; decide
      refine ⟨t.modTu fun t => { t with det := .disarmed, auxPending := false, armed := false },
        h.answers_arm_off hk hp (by rw [truncateEvent_running (s := s.elapse d) hd, State.elapse_tu, ← ht]) list, ?_, fun k => ?_,
        fun same => ?_, flag, record, rejoined, ?_⟩
      · rw [if_pos hk, if_pos hk, State.modTu_tu, tu]
        rfl
      · rw [if_neg fun both => restart both.1, State.modTu_tu, tu]
        rfl
      · rw [State.modTu_tu, quiet same]
        rfl
      · exact changes.trans fun b hb => by cases b with
          | tu => simp at hb
          | _ => rfl
    · have arm : r.kind ≠ 0x29 := by rw [hk]; decide
      rw [if_neg arm] at ht tu quiet
      rw [if_neg arm]
      obtain ⟨y, hy⟩ : ∃ y, y = t.modTu fun t => { t with auxPending := false } := ⟨_, rfl⟩
      obtain ⟨x, hx, get⟩ := warmEnabled_eq y
      have chans (k : Channel) : x.get k =
          if k ∈ enabledChannels s.pt.tier then enterWarmup (s.tu.chans.get k) else s.tu.chans.get k := by
        rw [get, hy, State.modTu_pt, State.modTu_tu, tier, tu]
        rfl
      refine ⟨{ y with tu := { y.tu with chans := x } },
        h.answers_restart hk hp (by rw [truncateEvent_running (s := s.elapse d) hd, State.elapse_tu, ← ht, ← hy, hx])
          (by rw [hy]; exact list), ?_, fun k => ?_, fun same => ?_, ?_, ?_, ?_, ?_⟩
      · rw [if_neg arm, if_neg arm, hy, State.modTu_tu, tu]
        rfl
      · refine (chans k).trans (if_congr ?_ rfl rfl)
        simp [hk]
      · rw [hy] at same ⊢
        rw [State.modTu_tu, quiet same]
        rfl
      · rw [hy]
        exact flag
      · rw [hy]
        exact record
      · rw [hy]
        exact rejoined
      · rw [hy]
        exact changes.trans fun b hb => by cases b with
          | tu => simp at hb
          | _ => rfl

end Sys2Proof.Machine

/-! PROOFS. What a page need takes: the lowest free page, the oldest page of a deep ring, or the pages of the first victim that has
any (R74, R76 to R79, R101). -/

namespace Sys2Proof.Machine

namespace WaveStore

section

variable {w : WaveStore} {p q : PageId} {c : Channel} {e : Channel → Bool}

/-! ## Free pages -/

theorem lowestFree_eq (h : LowestFree w p) : w.lowestFree = some p :=
  find?_lowest (decide_eq_true h.1) fun q hq => not_lt.mp fun below => h.2 q below (of_decide_eq_true hq)

theorem lowestFree_none (h : ∀ q, (w.pages.get q).state ≠ .free) : w.lowestFree = none :=
  List.find?_eq_none.mpr fun q _ => by rw [decide_eq_true_eq]; exact h q

/-! ## The pages of an event that leaves -/

theorem released_closed (g : Page) : released { g with filling := false } = released g := by
  unfold released
  rfl

theorem closeIfIn_page (ps : List PageId) (w : WaveStore) (c : Channel) (q : PageId) :
    (closeIfIn ps w c).page q = w.page q ∨ q ∈ ps ∧ (closeIfIn ps w c).page q = { w.page q with filling := false } := by
  unfold closeIfIn
  split
  · next inside =>
    rw [page_closeFilling]
    split
    · next fills =>
      rw [fills] at inside
      exact .inr ⟨by simpa using inside, rfl⟩
    · exact .inl rfl
  · exact .inl rfl

theorem page_dropEvent (w : WaveStore) (n : Nat) (q : PageId) :
    (w.dropEvent n).page q = if q ∈ w.eventPages n then released (w.page q) else w.page q := by
  have closed (l : List Channel) (v : WaveStore)
      (hv : if q ∈ w.eventPages n then released (v.page q) = released (w.page q) else v.page q = w.page q) :
      if q ∈ w.eventPages n then released ((l.foldl (closeIfIn (w.eventPages n)) v).page q) = released (w.page q)
      else (l.foldl (closeIfIn (w.eventPages n)) v).page q = w.page q := by
    induction l generalizing v with
    | nil => exact hv
    | cons c l ih =>
      refine ih _ ?_
      obtain same | ⟨mem, shut⟩ := closeIfIn_page (w.eventPages n) v c q
      · rwa [same]
      · rw [if_pos mem] at hv ⊢
        rw [shut, released_closed, hv]
  have all := closed channels w (by split <;> rfl)
  show ((channels.foldl (closeIfIn (w.eventPages n)) w).releaseAll (w.eventPages n)).page q = _
  rw [page_releaseAll]
  split
  · next mem => rwa [if_pos mem] at all
  · next out => rwa [if_neg out] at all

theorem dropEvent_filling (w : WaveStore) (n : Nat) (k : Channel) :
    ((w.dropEvent n).chan k).filling = if (w.chan k).filling.any (w.eventPages n).contains then none else (w.chan k).filling := by
  show (((channels.foldl (closeIfIn (w.eventPages n)) w).releaseAll (w.eventPages n)).chan k).filling = _
  rw [chan_releaseAll]
  simp only [channels, List.foldl_cons, List.foldl_nil, Mapped.chan_closeIfIn]
  cases k <;> simp

theorem eventList_dropEvent (w : WaveStore) (n k : Nat) (c : Channel) :
    (w.dropEvent n).eventList k c = if k = n then [] else w.eventList k c := by
  rw [← eventList_without w c n k]
  rfl

theorem eventPages_dropEvent (w : WaveStore) (n k : Nat) :
    (w.dropEvent n).eventPages k = if k = n then [] else w.eventPages k := by
  unfold eventPages
  simp only [eventList_dropEvent]
  split
  · simp [channels]
  · rfl

end

end WaveStore

section

variable {s : State}

/-! ## Victims -/

theorem victim_unpinned {t : EventTable} {v : EventRecord} (h : v ∈ victimOrder t) : v ∈ t.records ∧ v.pinned = false := by
  unfold victimOrder at h
  rw [List.mem_append, List.mem_filter, List.mem_filter] at h
  obtain ⟨mem, test⟩ | ⟨mem, test⟩ := h
  · simp only [Bool.and_eq_true, Bool.not_eq_true'] at test
    exact ⟨mem, test.1⟩
  · simp only [Bool.and_eq_true, Bool.not_eq_true'] at test
    exact ⟨mem, test.1⟩

/-- A pinned record's number is not a victim's. -/
theorem pinned_number_ne {t : EventTable} (nodup : (t.records.map EventRecord.number).Nodup) {r v : EventRecord}
    (hr : r ∈ t.records) (pinned : r.pinned = true) (hv : v ∈ victimOrder t) : r.number ≠ v.number := by
  obtain ⟨mem, free⟩ := victim_unpinned hv
  intro same
  have eq := List.inj_on_of_nodup_map nodup hr mem same
  rw [eq, free] at pinned
  cases pinned

theorem holdsPage_eq_false {w : WaveStore} {n : Nat} : w.holdsPage n = false ↔ w.eventPages n = [] := by
  unfold WaveStore.holdsPage
  cases w.eventPages n <;> simp

/-- Without a page among the victims nothing is reclaimed. -/
theorem reclaimUntilFree_none (h : ∀ r ∈ s.et.records, r.pinned = false → s.ws.eventPages r.number = []) :
    reclaimUntilFree s = s := by
  unfold reclaimUntilFree
  refine List.foldlRecOn (motive := fun t : State => t = s) _ _ rfl fun t ht n hn => ?_
  obtain ⟨v, hv, rfl⟩ := List.mem_map.mp hn
  obtain ⟨mem, free⟩ := victim_unpinned hv
  rw [ht, if_pos]
  simp [holdsPage_eq_false.mpr (h v mem free)]

/-- The first victim with pages gives up all of them, if one of them is free then. -/
theorem reclaimUntilFree_first {a b : List EventRecord} {v : EventRecord} (full : s.ws.lowestFree = none)
    (order : victimOrder s.et = a ++ v :: b) (empty : ∀ x ∈ a, s.ws.eventPages x.number = []) (has : s.ws.eventPages v.number ≠ [])
    (frees : (s.ws.dropEvent v.number).lowestFree.isSome = true) : reclaimUntilFree s = reclaim v.number s := by
  unfold reclaimUntilFree
  rw [order, List.map_append, List.foldl_append, List.map_cons, List.foldl_cons]
  have before : (a.map EventRecord.number).foldl
      (fun s n => if s.ws.lowestFree.isSome || !s.ws.holdsPage n then s else reclaim n s) s = s := by
    refine List.foldlRecOn (motive := fun t : State => t = s) _ _ rfl fun t ht n hn => ?_
    obtain ⟨x, hx, rfl⟩ := List.mem_map.mp hn
    rw [ht, if_pos]
    simp [holdsPage_eq_false.mpr (empty x hx)]
  rw [before, if_neg]
  · refine List.foldlRecOn (motive := fun t : State => t = reclaim v.number s) _ _ rfl fun t ht n _ => ?_
    rw [ht, if_pos]
    rw [reclaim_ws, frees]
    rfl
  · have holds : s.ws.holdsPage v.number = true := by
      rw [← Bool.not_eq_false, holdsPage_eq_false]
      exact has
    simp [full, holds]

/-- Making room and reclaiming keep a pinned record with its pages (R100, R101). -/
theorem pinned_kept (nodup : (s.et.records.map EventRecord.number).Nodup) {r : EventRecord} (hr : r ∈ s.et.records)
    (pinned : r.pinned = true) :
    (r ∈ (makeRoom s).et.records ∧ (makeRoom s).ws.eventPages r.number = s.ws.eventPages r.number) ∧
      r ∈ (reclaimUntilFree s).et.records ∧ (reclaimUntilFree s).ws.eventPages r.number = s.ws.eventPages r.number := by
  constructor
  · unfold makeRoom
    split
    · exact ⟨hr, rfl⟩
    · split
      · next v rest hv =>
        have other := pinned_number_ne nodup hr pinned (v := v) (by rw [hv]; exact List.mem_cons_self)
        refine ⟨List.mem_filter.mpr ⟨hr, by simpa using other⟩, ?_⟩
        exact (WaveStore.eventPages_dropEvent s.ws v.number r.number).trans (if_neg other)
      · exact ⟨hr, rfl⟩
  · unfold reclaimUntilFree
    refine List.foldlRecOn (motive := fun t : State => r ∈ t.et.records ∧ t.ws.eventPages r.number = s.ws.eventPages r.number)
      _ _ ⟨hr, rfl⟩ fun t ⟨mem, pages⟩ n hn => ?_
    obtain ⟨v, hv, rfl⟩ := List.mem_map.mp hn
    have other := pinned_number_ne nodup hr pinned hv
    split
    · exact ⟨mem, pages⟩
    · refine ⟨List.mem_map.mpr ⟨r, mem, if_neg other⟩, ?_⟩
      rw [reclaim_ws, WaveStore.eventPages_dropEvent, if_neg other, pages]

end

end Sys2Proof.Machine

/-! PROOFS. What a page need does, case by case (R74, R76 to R79, R83, R101). -/

namespace Sys2Proof.Machine

section

variable {s : State} {c : Channel} {n : Nat} {p : PageId} {e : Channel → Bool}

theorem eventNeed_eq (n : Nat) (c : Channel) (s : State) :
    eventNeed n c s =
      match s.reclaimed.ws.lowestFree with
      | some p =>
        s.reclaimed.modWs fun w =>
          ((w.allocate p (.event n c)).appendPage n c p).modChan c fun ch => { ch with filling := some p }
      | none =>
        raise .store
          (setEventFlag n (fun f => { f with incomplete := true })
            (s.reclaimed.modWs fun w => w.modChan c fun ch => { ch with route := .stopped, filling := none })) := rfl

/-- A page taken for a ring. -/
def State.ringTakes (c : Channel) (p : PageId) (s : State) : State :=
  s.modWs fun w => (w.allocate p (.ring c)).modChan c fun ch => { ch with route := .ring, filling := some p }

/-- A page taken for an event. -/
def State.eventTakes (n : Nat) (c : Channel) (p : PageId) (s : State) : State :=
  s.modWs fun w => ((w.allocate p (.event n c)).appendPage n c p).modChan c fun ch => { ch with filling := some p }

theorem ringNeed_takes (h : (s.shortened c).reclaimed.ws.lowestFree = some p) :
    ringNeed c s = (s.shortened c).reclaimed.ringTakes c p := by
  rw [ringNeed_eq, h]
  rfl

theorem ringNeed_starves (h : (s.shortened c).reclaimed.ws.lowestFree = none) {u : State}
    (hu : u = (s.shortened c).reclaimed.modWs fun w => w.modChan c fun ch => { ch with route := .starved, filling := none }) :
    ringNeed c s = if (s.ws.chan c).route = .starved then u else raise .store u := by
  rw [ringNeed_eq, h, hu]

theorem eventNeed_takes (h : s.reclaimed.ws.lowestFree = some p) : eventNeed n c s = s.reclaimed.eventTakes n c p := by
  rw [eventNeed_eq, h]
  rfl

theorem eventNeed_stops (h : s.reclaimed.ws.lowestFree = none) :
    eventNeed n c s =
      raise .store (setEventFlag n (fun f => { f with incomplete := true })
        (s.reclaimed.modWs fun w => w.modChan c fun ch => { ch with route := .stopped, filling := none })) := by
  rw [eventNeed_eq, h]

theorem reclaimed_of_free (h : s.ws.lowestFree = some p) : s.reclaimed = s := if_neg (by simp [h])

theorem reclaimed_of_full (h : s.ws.lowestFree = none) : s.reclaimed = reclaimUntilFree s := if_pos (by simp [h])

theorem shortened_of_free (h : s.ws.lowestFree = some p) : s.shortened c = s := if_neg (by simp [h])

theorem shortened_of_shallow (h : (s.ws.chan c).ring.length ≤ ringDepth s.tu.params.pre) : s.shortened c = s :=
  if_neg (by simp [not_lt.mpr h])

/-! ## A free page -/

theorem ringNeed_of_free (h : s.ws.lowestFree = some p) : ringNeed c s = s.ringTakes c p := by
  have take := ringNeed_takes (s := s) (c := c) (p := p)
  rw [shortened_of_free h, reclaimed_of_free h] at take
  exact take h

theorem eventNeed_of_free (h : s.ws.lowestFree = some p) : eventNeed n c s = s.eventTakes n c p := by
  have take := eventNeed_takes (s := s) (n := n) (c := c) (p := p)
  rw [reclaimed_of_free h] at take
  exact take h

/-! ## The oldest page of a deep ring -/

theorem modPage_modPage (w : WaveStore) (p : PageId) (f g : Page → Page) : (w.modPage p f).modPage p g = w.modPage p fun x => g (f x) := by
  unfold WaveStore.modPage WaveStore.page
  simp [Vector.get_eq_getElem]

theorem ringNeed_of_deep {rest : List PageId} (full : ∀ q, (s.ws.pages.get q).state ≠ .free)
    (ring : (s.ws.chan c).ring = p :: rest) (deep : ringDepth s.tu.params.pre < (s.ws.chan c).ring.length)
    (good : (s.ws.page p).faulty = false) :
    ringNeed c s =
      s.modWs fun w =>
        (w.modPage p fun g => { g with state := .ring c, filling := true, first := none, count := 0 }).modChan c
          fun ch => { ch with route := .ring, ring := rest, filling := some p } := by
  have oldest : dropOldest c s.ws = (s.ws.release p).modChan c fun ch => { ch with ring := rest } := by
    unfold dropOldest
    rw [ring]
  have short : s.shortened c = s.modWs fun w => (w.release p).modChan c fun ch => { ch with ring := rest } := by
    refine (if_pos (by simp [WaveStore.lowestFree_none full, deep])).trans ?_
    exact congrArg (fun w => { s with ws := w }) oldest
  have free : (s.shortened c).ws.lowestFree = some p := by
    rw [short]
    refine WaveStore.lowestFree_eq ⟨?_, fun q below => ?_⟩
    · show ((s.ws.modPage p WaveStore.released).page p).state = .free
      rw [WaveStore.page_modPage_same, WaveStore.released_state, good]
      rfl
    · show ((s.ws.modPage p WaveStore.released).page q).state ≠ .free
      rw [WaveStore.page_modPage_of_ne _ _ _ _ (ne_of_lt below)]
      exact full q
  have same : (s.shortened c).reclaimed = s.shortened c := reclaimed_of_free free
  rw [ringNeed_takes (by rw [same, free]), same, short]
  have page : ((s.ws.release p).modPage p fun g => { g with state := .ring c, filling := true, first := none, count := 0 }) =
      s.ws.modPage p fun g => { g with state := .ring c, filling := true, first := none, count := 0 } := by
    rw [WaveStore.release_eq, modPage_modPage]
    refine congrArg (s.ws.modPage p) (funext fun g => ?_)
    unfold WaveStore.released
    split <;> rfl
  have chans := WaveStore.modChan_modChan (s.ws.modPage p fun g => { g with state := .ring c, filling := true, first := none, count := 0 }) c
    (fun ch => { ch with ring := rest }) fun ch => { ch with route := .ring, filling := some p }
  refine congrArg (fun w => { s with ws := w }) (Eq.trans ?_ chans)
  rw [← page]
  rfl

/-! ## No free page, and no deep ring -/

theorem ringNeed_of_nothing (full : s.ws.lowestFree = none) (shallow : (s.ws.chan c).ring.length ≤ ringDepth s.tu.params.pre)
    (empty : ∀ r ∈ s.et.records, r.pinned = false → s.ws.eventPages r.number = []) {u : State}
    (hu : u = s.modWs fun w => w.modChan c fun ch => { ch with route := .starved, filling := none }) :
    ringNeed c s = if (s.ws.chan c).route = .starved then u else raise .store u := by
  have same : (s.shortened c).reclaimed = s := by
    rw [shortened_of_shallow shallow, reclaimed_of_full full, reclaimUntilFree_none empty]
  refine ringNeed_starves (by rw [same, full]) (by rw [same, hu])

theorem eventNeed_of_nothing (full : s.ws.lowestFree = none)
    (empty : ∀ r ∈ s.et.records, r.pinned = false → s.ws.eventPages r.number = []) :
    eventNeed n c s =
      raise .store (setEventFlag n (fun f => { f with incomplete := true })
        (s.modWs fun w => w.modChan c fun ch => { ch with route := .stopped, filling := none })) := by
  have same : s.reclaimed = s := by rw [reclaimed_of_full full, reclaimUntilFree_none empty]
  have stops := eventNeed_stops (s := s) (n := n) (c := c)
  rw [same] at stops
  exact stops full

/-! ## The pages of a victim -/

/-- The pages of a victim with one that is not faulty: the lowest of those is free when the victim has given them up. -/
theorem lowestFree_dropEvent {w : WaveStore} (full : ∀ q, (w.pages.get q).state ≠ .free)
    (good : ∃ q ∈ w.eventPages n, (w.pages.get q).faulty = false) :
    ∃ p, (w.dropEvent n).lowestFree = some p ∧ p ∈ w.eventPages n ∧ (w.pages.get p).faulty = false ∧
      ∀ q ∈ w.eventPages n, (w.pages.get q).faulty = false → p ≤ q := by
  have free_iff (q : PageId) : ((w.dropEvent n).page q).state = .free ↔ q ∈ w.eventPages n ∧ (w.pages.get q).faulty = false := by
    rw [WaveStore.page_dropEvent]
    split
    · next mem =>
      rw [WaveStore.released_state, page_get]
      cases (w.pages.get q).faulty <;> simp [mem]
    · next out => exact ⟨fun h => absurd h (full q), fun h => absurd h.1 out⟩
  obtain ⟨q, hq⟩ := good
  obtain ⟨p, hp⟩ : ∃ p, (w.dropEvent n).lowestFree = some p := by
    rw [← Option.isSome_iff_exists, WaveStore.lowestFree, List.find?_isSome]
    exact ⟨q, List.mem_finRange q, decide_eq_true ((free_iff q).mpr hq)⟩
  refine ⟨p, hp, ((free_iff p).mp (lowestFree_free hp)).1, ((free_iff p).mp (lowestFree_free hp)).2, fun k hk hg => ?_⟩
  by_contra above
  obtain ⟨-, as, bs, split, before⟩ := List.find?_eq_some_iff_append.mp hp
  have rising : allPages.Pairwise (· < ·) := List.pairwise_lt_finRange 256
  have mem : k ∈ allPages := List.mem_finRange k
  rw [split] at rising mem
  rw [List.pairwise_append, List.pairwise_cons] at rising
  obtain early | rfl | late := (List.mem_append.mp mem).imp_right List.mem_cons.mp
  · simpa [(free_iff k).mpr ⟨hk, hg⟩] using before k early
  · exact above le_rfl
  · exact above (le_of_lt (rising.2.1.1 k late))

/-- What the state is after a victim has given up its pages and one of them has been taken. -/
theorem taken_from_victim (mapped : WaveStore.Mapped e s.ws) {v : EventRecord} (mem : p ∈ s.ws.eventPages v.number)
    (unmarked : (s.ws.pages.get p).faulty = false) (least : ∀ q ∈ s.ws.eventPages v.number, (s.ws.pages.get q).faulty = false → p ≤ q)
    {t : State} {o : PageState} (changes : ChangesOnly [.ws] (reclaim v.number s) t) (et : t.et = (reclaim v.number s).et)
    (page : ∀ q, t.ws.page q = ((reclaim v.number s).ws.allocate p o).page q)
    (chan : ∀ k, k ≠ c → t.ws.chan k = (reclaim v.number s).ws.chan k) (fills : (t.ws.chan c).filling = some p)
    (gone : t.ws.eventPages v.number = []) :
    ChangesOnly [.ws, .et] s t ∧ p ∈ s.ws.eventPages v.number ∧ (s.ws.pages.get p).faulty = false ∧
      (∀ q ∈ s.ws.eventPages v.number, (s.ws.pages.get q).faulty = false → p ≤ q) ∧
      (t.ws.chans.get c).filling = some p ∧ (t.ws.pages.get p).filling = true ∧ t.ws.eventPages v.number = [] ∧
      t.et =
        { s.et with
          records :=
            s.et.records.map fun r =>
              if r.number = v.number then { r with flags := { r.flags with reclaimed := true } } else r } ∧
      (∀ q ∈ s.ws.eventPages v.number, q ≠ p →
        (t.ws.pages.get q).state = (if (s.ws.pages.get q).faulty then .faultySet else .free) ∧
          (t.ws.pages.get q).filling = false) ∧
      (∀ q, q ∉ s.ws.eventPages v.number → t.ws.pages.get q = s.ws.pages.get q) ∧
      ∀ k q, k ≠ c → (s.ws.chans.get k).filling = some q → q ∈ s.ws.eventPages v.number →
        (t.ws.chans.get k).filling = none ∧ (t.ws.chans.get k).pair = none := by
  have reclaimed : ChangesOnly [.ws, .et] s (reclaim v.number s) := fun b hb => by cases b with
    | ws | et => simp at hb
    | _ => rfl
  have all (q : PageId) : t.ws.pages.get q =
      if q = p then { ((s.ws.dropEvent v.number).page p) with state := o, filling := true, first := none, count := 0 }
      else (s.ws.dropEvent v.number).page q := by
    rw [← page_get, page, WaveStore.page_allocate, reclaim_ws]
  refine ⟨reclaimed.trans (changes.mono (by decide)), mem, unmarked, least, fills, ?_, gone, et.trans ?_, fun q hq other => ?_,
    fun q out => ?_, fun k q other hf hq => ?_⟩
  · rw [all, if_pos rfl]
  · unfold reclaim setEventFlag
    rw [updRecord_eq]
    rfl
  · rw [all, if_neg other, WaveStore.page_dropEvent, if_pos hq]
    exact ⟨WaveStore.released_state _, WaveStore.released_filling _⟩
  · rw [all, if_neg fun (same : q = p) => out (same ▸ mem), WaveStore.page_dropEvent, if_neg out]
    rfl
  · have idle : ((s.ws.dropEvent v.number).chan k).filling = none := by
      rw [WaveStore.dropEvent_filling, if_pos]
      rw [show (s.ws.chan k).filling = some q from hf]
      simpa using hq
    rw [show t.ws.chans.get k = (s.ws.dropEvent v.number).chan k from (chan k other).trans (by rw [reclaim_ws])]
    exact ⟨idle, (mapped.dropEvent v.number).pair k idle⟩

/-- A need that only a victim's pages can meet. -/
theorem need_of_victim (mapped : WaveStore.Mapped e s.ws) {need : State → State} {v : EventRecord} {a b : List EventRecord}
    (full : ∀ q, (s.ws.pages.get q).state ≠ .free)
    (hneed : (need = ringNeed c ∧ (s.ws.chan c).ring.length ≤ ringDepth s.tu.params.pre) ∨ (need = eventNeed n c ∧ n ≠ v.number))
    (order : victimOrder s.et = a ++ v :: b) (empty : ∀ x ∈ a, s.ws.eventPages x.number = [])
    (good : ∃ q ∈ s.ws.eventPages v.number, (s.ws.pages.get q).faulty = false) :
    ∃ t p, need s = t ∧ ChangesOnly [.ws, .et] s t ∧ p ∈ s.ws.eventPages v.number ∧ (s.ws.pages.get p).faulty = false ∧
      (∀ q ∈ s.ws.eventPages v.number, (s.ws.pages.get q).faulty = false → p ≤ q) ∧
      (t.ws.chans.get c).filling = some p ∧ (t.ws.pages.get p).filling = true ∧ t.ws.eventPages v.number = [] ∧
      t.et =
        { s.et with
          records :=
            s.et.records.map fun r =>
              if r.number = v.number then { r with flags := { r.flags with reclaimed := true } } else r } ∧
      (∀ q ∈ s.ws.eventPages v.number, q ≠ p →
        (t.ws.pages.get q).state = (if (s.ws.pages.get q).faulty then .faultySet else .free) ∧
          (t.ws.pages.get q).filling = false) ∧
      (∀ q, q ∉ s.ws.eventPages v.number → t.ws.pages.get q = s.ws.pages.get q) ∧
      ∀ k q, k ≠ c → (s.ws.chans.get k).filling = some q → q ∈ s.ws.eventPages v.number →
        (t.ws.chans.get k).filling = none ∧ (t.ws.chans.get k).pair = none := by
  obtain ⟨p, free, mem, unmarked, least⟩ := lowestFree_dropEvent full good
  have has : s.ws.eventPages v.number ≠ [] := List.ne_nil_of_mem mem
  have noFree := WaveStore.lowestFree_none full
  have given : s.reclaimed = reclaim v.number s := by
    rw [reclaimed_of_full noFree, reclaimUntilFree_first noFree order empty has (by rw [free]; rfl)]
  have freeAfter : (reclaim v.number s).ws.lowestFree = some p := by rw [reclaim_ws, free]
  obtain ⟨rfl, shallow⟩ | ⟨rfl, other⟩ := hneed
  · have run : ringNeed c s = (reclaim v.number s).ringTakes c p := by
      have take := ringNeed_takes (s := s) (c := c) (p := p)
      rw [shortened_of_shallow shallow, given] at take
      exact take freeAfter
    refine ⟨_, p, run, taken_from_victim mapped mem unmarked least (o := .ring c) (fun b hb => ?_) rfl (fun q => rfl) (fun k hk => ?_)
      ?_ ?_⟩
    · cases b with
      | ws => simp at hb
      | _ => rfl
    · exact WaveStore.chan_modChan_of_ne _ _ _ _ hk
    · exact congrArg StoreChannel.filling (WaveStore.chan_modChan_same _ _ _)
    · show (reclaim v.number s).ws.eventPages v.number = []
      rw [reclaim_ws, WaveStore.eventPages_dropEvent, if_pos rfl]
  · have run : eventNeed n c s = (reclaim v.number s).eventTakes n c p := by
      rw [eventNeed_takes (by rw [given, freeAfter]), given]
    refine ⟨_, p, run, taken_from_victim mapped mem unmarked least (o := .event n c) (fun b hb => ?_) rfl (fun q => rfl) (fun k hk => ?_)
      ?_ ?_⟩
    · cases b with
      | ws => simp at hb
      | _ => rfl
    · exact WaveStore.chan_modChan_of_ne _ _ _ _ hk
    · exact congrArg StoreChannel.filling (WaveStore.chan_modChan_same _ _ _)
    · have pages : ((reclaim v.number s).eventTakes n c p).ws.eventPages v.number =
          (((reclaim v.number s).ws.allocate p (.event n c)).appendPage n c p).eventPages v.number := rfl
      have list (k : Channel) : (((reclaim v.number s).ws.allocate p (.event n c)).appendPage n c p).eventList v.number k = [] := by
        rw [WaveStore.eventList_appendPage, if_neg fun same => other same.1.symm]
        show (reclaim v.number s).ws.eventList v.number k = []
        rw [reclaim_ws, WaveStore.eventList_dropEvent, if_pos rfl]
      rw [pages]
      simp [WaveStore.eventPages, list, channels]

/-! ## A ring that is trimmed -/

theorem releaseAll_modChan (w : WaveStore) (ps : List PageId) (c : Channel) (g : StoreChannel → StoreChannel) :
    (w.releaseAll ps).modChan c g = { w with pages := (w.releaseAll ps).pages, chans := w.chans.set c (g (w.chan c)) } := by
  rw [WaveStore.releaseAll_eq]
  rfl

theorem trimRing_of_parts {x y : List PageId} (parts : (s.ws.chan c).ring = x ++ y)
    (hy : y.length = min (s.ws.chan c).ring.length (ringDepth s.tu.params.pre)) :
    trimRing c s = s.modWs fun w => (w.releaseAll x).modChan c fun ch => { ch with ring := y } := by
  have depth : (s.ws.chan c).ring.length - ringDepth s.tu.params.pre = x.length := by
    rw [parts, List.length_append] at hy ⊢
    omega
  unfold trimRing
  dsimp only
  rw [depth, parts, List.take_left, List.drop_left]

end

/-- Settles O23: what page needs take, and that pinned records are no victims. -/
theorem pinnedRecordsAreNoVictims : Obligations.PinnedRecordsAreNoVictims := by
  refine ⟨fun s nodup r hr pinned => pinned_kept nodup hr pinned,
    fun s c n depth ch taken hpage hch hdepth htaken => ⟨fun p hp => ⟨?_, _, eventNeed_of_free (WaveStore.lowestFree_eq hp), ?_⟩,
      fun p rest full ring deep good => ?_, fun u full empty => ⟨fun shallow hu => ?_, fun hu => ?_⟩,
      fun need v a b full hneed order empty good => ?_, ?_, fun x y parts hy => ?_⟩⟩
  · rw [ringNeed_of_free (WaveStore.lowestFree_eq hp), htaken, hch]
    rfl
  · refine ⟨fun b hb => by cases b with
      | ws => simp at hb
      | _ => rfl, ?_, fun m k => ?_⟩
    · rw [htaken, hch]
      rfl
    · have lists : (s.eventTakes n c p).ws.eventList m k = ((s.ws.allocate p (.event n c)).appendPage n c p).eventList m k := rfl
      rw [lists, WaveStore.eventList_appendPage]
      rfl
  · have deep' : ringDepth s.tu.params.pre < (s.ws.chan c).ring.length := by
      rw [show s.ws.chan c = ch from hch.symm]
      exact (show depth = ringDepth s.tu.params.pre from hdepth) ▸ deep
    rw [ringNeed_of_deep full (by rw [show s.ws.chan c = ch from hch.symm, ring]) deep' good, htaken, hch]
    rfl
  · have noFree := WaveStore.lowestFree_none full
    rw [ringNeed_of_nothing noFree (by rw [show s.ws.chan c = ch from hch.symm]; exact (show depth = ringDepth s.tu.params.pre from hdepth) ▸ shallow) empty
      (hu.trans (by rw [hch]; rfl)), show s.ws.chan c = ch from hch.symm]
  · rw [eventNeed_of_nothing (WaveStore.lowestFree_none full) empty, hu, hch]
    rfl
  · refine need_of_victim (n := n) (((storeKept_pages s).mpr hpage).pages nofun) full ?_ order empty good
    rw [show s.ws.chan c = ch from hch.symm]
    exact hneed.imp_left fun h => ⟨h.1, (show depth = ringDepth s.tu.params.pre from hdepth) ▸ h.2⟩
  · unfold completionStep
    rw [show s.ws.chan c = ch from hch.symm]
    cases ch.route <;> rfl
  · have run := trimRing_of_parts (s := s) (c := c) (x := x) (y := y) (by rw [show s.ws.chan c = ch from hch.symm, parts])
      (by rw [show s.ws.chan c = ch from hch.symm, hy, hdepth]; rfl)
    have page (p : PageId) : ((trimRing c s).ws.pages.get p) = if p ∈ x then WaveStore.released (s.ws.pages.get p) else s.ws.pages.get p := by
      rw [run]
      exact WaveStore.page_releaseAll s.ws x p
    refine ⟨_, rfl, ?_, ?_, fun p hp => ?_, fun p hp => ?_⟩
    · rw [run]
      exact fun b hb => by cases b with
        | ws => simp at hb
        | _ => rfl
    · rw [run, hch]
      exact releaseAll_modChan s.ws x c fun ch => { ch with ring := y }
    · rw [page, if_pos hp, WaveStore.released_state]
    · rw [page, if_neg hp]

end Sys2Proof.Machine

/-! PROOFS. The samples that WAVE READ gathers: a run by 10 ms, in which two samples of one storage word are neighbours (R86, R106). -/

namespace Sys2Proof.Machine

section

/-- One sample follows another by 10 ms. -/
def Follows (a b : SamplePlace) : Prop := b.ns = a.ns + 10000000

/-- The run is the longest start in which every sample follows the one before by 10 ms. -/
theorem consecutiveRun_eq_take {l : List SamplePlace} {k : Nat} (hk : k ≤ l.length) (chain : (l.take k).IsChain Follows)
    (stop : k < l.length → ∃ a b, (l.take k).getLast? = some a ∧ l[k]? = some b ∧ ¬Follows a b) :
    consecutiveRun l = l.take k := by
  induction l generalizing k with
  | nil => simp [consecutiveRun]
  | cons a rest ih =>
    cases k with
    | zero =>
      obtain ⟨x, -, last, -⟩ := stop (by simp)
      simp at last
    | succ k =>
      cases rest with
      | nil => simp [consecutiveRun]
      | cons b rest =>
        rw [consecutiveRun]
        cases k with
        | zero =>
          obtain ⟨x, y, last, next, breaks⟩ := stop (by simp)
          obtain rfl : a = x := by simpa using last
          obtain rfl : b = y := by simpa using next
          rw [if_neg (show ¬b.ns = a.ns + sampleNs from breaks)]
          simp
        | succ k =>
          rw [List.take_succ_cons, List.take_succ_cons, List.isChain_cons_cons] at chain
          have rest_run := ih (k := k + 1) (by simpa using hk) (by rw [List.take_succ_cons]; exact chain.2) fun h => by
            obtain ⟨x, y, last, next, breaks⟩ := stop (by simpa using h)
            refine ⟨x, y, ?_, by simpa using next, breaks⟩
            rw [List.take_succ_cons, List.take_succ_cons, List.getLast?_cons_cons] at last
            rwa [List.take_succ_cons]
          rw [if_pos (show b.ns = a.ns + sampleNs from chain.1), rest_run, List.take_succ_cons, List.take_succ_cons,
            List.take_succ_cons]

/-- Along a run the time tells the distance. -/
theorem ns_of_run {y x : SamplePlace} {l post : List SamplePlace} (chain : (y :: l ++ x :: post).IsChain Follows) :
    x.ns = y.ns + 10000000 * (l.length + 1) := by
  induction l generalizing y with
  | nil => simpa [Follows] using (List.isChain_cons_cons.mp chain).1
  | cons a l ih =>
    obtain ⟨first, rest⟩ := List.isChain_cons_cons.mp chain
    have more := ih rest
    unfold Follows at first
    rw [more, first, List.length_cons]
    ring

/-- The storage word of a sample. -/
def SamplePlace.key (x : SamplePlace) : PageId × Nat := (x.page, x.index / 2)

/-- A sample stands where its page's first sample time puts it. -/
def SamplePlace.Timed (w : WaveStore) (x : SamplePlace) : Prop :=
  x.index < (w.page x.page).count ∧ ∃ f, (w.page x.page).first = some f ∧ x.ns = f.toNs + 10000000 * x.index

/-- In a run two samples of one storage word are neighbours. -/
theorem neighbours_of_run {w : WaveStore} {pre post : List SamplePlace} {x y : SamplePlace}
    (chain : (pre ++ x :: post).IsChain Follows) (hx : x.Timed w) (hy : y.Timed w) (mem : y ∈ pre) (same : y.key = x.key) :
    pre.getLast? = some y ∧ x.index = y.index + 1 := by
  obtain ⟨front, back, rfl⟩ := List.append_of_mem mem
  have run : (y :: back ++ x :: post).IsChain Follows := by
    rw [List.append_assoc] at chain
    exact (List.isChain_append.mp chain).2.1
  have distance := ns_of_run run
  obtain ⟨-, f, hf, nsX⟩ := hx
  obtain ⟨-, g, hg, nsY⟩ := hy
  obtain ⟨page, word⟩ : y.page = x.page ∧ y.index / 2 = x.index / 2 := by simpa [SamplePlace.key] using same
  obtain rfl : f = g := by
    rw [page, hf] at hg
    exact Option.some.inj hg
  have none_between : back = [] := by
    refine List.eq_nil_of_length_eq_zero ?_
    omega
  rw [none_between] at distance ⊢
  refine ⟨by simp, ?_⟩
  rw [List.length_nil] at distance
  omega

theorem extentPlaces_timed {w : WaveStore} {n : Nat} {c : Channel} {x : SamplePlace} (h : x ∈ extentPlaces w n c) :
    x.Timed w ∧ x.page ∈ w.eventList n c := by
  obtain ⟨p, hp, hx⟩ := List.mem_flatMap.mp h
  unfold pagePlaces at hx
  split at hx
  · next f hf =>
    obtain ⟨i, hi, rfl⟩ := List.mem_map.mp hx
    exact ⟨⟨List.mem_range.mp hi, f, hf, rfl⟩, hp⟩
  · cases hx

end

end Sys2Proof.Machine

/-! PROOFS. The storage words of an event read through the code, each once, and the sample words gathered from them (R86 to R88,
R106). -/

namespace Sys2Proof.Machine

section

variable {s t : State} {n : Nat} {c : Channel} {words : List (PageId × Nat)} {x : PageId × Nat}

theorem wordAddress_inj_pages {x y : PageId × Nat} (hx : x.2 < 512) (hy : y.2 < 512) :
    wordAddress x.1 x.2 = wordAddress y.1 y.2 ↔ x = y := by
  unfold wordAddress
  rw [Prod.ext_iff, Fin.ext_iff]
  omega

/-- What a read of storage words of an event's pages leaves, each word being read once with at most two bits in error. -/
structure KeysRead (n : Nat) (words : List (PageId × Nat)) (s t : State) : Prop where
  changes : ChangesOnly [.ws, .et, .pt, .sl] s t
  flagged : Flagged s t
  ws : t.ws = { s.ws with array := t.ws.array, pages := t.ws.pages, uncorrectable := t.ws.uncorrectable }
  memory : MemoryInv t
  word : ∀ a, readWord t.ws.array a =
    if s.ws.scrub = true ∧ ∃ x ∈ words, s.ws.weight x.1 x.2 = 1 ∧ a = wordAddress x.1 x.2 then
      { readWord s.ws.array a with err := 0 }
    else readWord s.ws.array a
  page : ∀ p, t.ws.page p =
    { s.ws.page p with
      correctable :=
        if ∃ x ∈ words, x.1 = p ∧ s.ws.weight x.1 x.2 = 1 then
          min 255 ((s.ws.page p).correctable + words.countP fun x => x.1 = p ∧ s.ws.weight x.1 x.2 = 1)
        else (s.ws.page p).correctable
      faulty := (s.ws.page p).faulty || decide (∃ x ∈ words, x.1 = p ∧ s.ws.weight x.1 x.2 = 2) }
  uncorrectable : t.ws.uncorrectable % 4294967296 =
    (s.ws.uncorrectable + words.countP fun x => s.ws.weight x.1 x.2 = 2) % 4294967296
  clean : (∀ x ∈ words, s.ws.weight x.1 x.2 = 0) → t = s
  same : (∀ x ∈ words, s.ws.weight x.1 x.2 ≠ 2) → ChangesOnly [.ws] s t
  marked : (∃ x ∈ words, s.ws.weight x.1 x.2 = 2) →
    t.sl.flags &&& 0x20 ≠ 0 ∧
      t.et =
        { s.et with
          records := s.et.records.map fun r => if r.number = n then { r with flags := { r.flags with damaged := true } } else r }

theorem KeysRead.nothing (wf : MemoryInv s) : KeysRead n [] s s where
  changes := .rfl
  flagged := .rfl
  ws := rfl
  memory := wf
  word := fun a => by simp
  page := fun p => by simp
  uncorrectable := rfl
  clean := fun _ => rfl
  same := fun _ => .rfl
  marked := fun ⟨_, h, _⟩ => by cases h

theorem KeysRead.state (h : KeysRead n words s t) (p : PageId) : (t.ws.page p).state = (s.ws.page p).state := by rw [h.page]

theorem KeysRead.chan (h : KeysRead n words s t) (k : Channel) : t.ws.chan k = s.ws.chan k := by
  unfold WaveStore.chan
  rw [h.ws]

/-- A word not read yet is as it was. -/
theorem KeysRead.unread (h : KeysRead n words s t) (small : ∀ y ∈ words, y.2 < 512) (hx : x.2 < 512) (fresh : x ∉ words) :
    readWord t.ws.array (wordAddress x.1 x.2) = readWord s.ws.array (wordAddress x.1 x.2) := by
  rw [h.word, if_neg]
  rintro ⟨-, y, hy, -, same⟩
  exact fresh ((wordAddress_inj_pages hx (small y hy)).mp same ▸ hy)

/-- One more word. -/
theorem KeysRead.snoc (h : KeysRead n words s t) (small : ∀ y ∈ words, y.2 < 512) (hx : x.2 < 512) (fresh : x ∉ words)
    (hw : s.ws.weight x.1 x.2 ≤ 2) (hs : (s.ws.page x.1).state = .event n c) :
    KeysRead n (words ++ [x]) s (readStorage x.1 x.2 t).2 := by
  have weight : t.ws.weight x.1 x.2 = s.ws.weight x.1 x.2 := by
    unfold WaveStore.weight
    rw [h.unread small hx fresh]
  have one := readStorage_words (s := t) (p := x.1) (i := x.2) (by rwa [weight])
  rw [weight] at one
  have scrub : t.ws.scrub = s.ws.scrub := by rw [h.ws]
  have counted (P : PageId × Nat → Bool) : (words ++ [x]).countP P = words.countP P + if P x then 1 else 0 := by
    rw [List.countP_append, List.countP_singleton]
  have double : (∃ y ∈ words ++ [x], s.ws.weight y.1 y.2 = 2) ↔ (∃ y ∈ words, s.ws.weight y.1 y.2 = 2) ∨ s.ws.weight x.1 x.2 = 2 := by
    simp only [List.mem_append, List.mem_singleton, or_and_right, exists_or, exists_eq_left]
  refine ⟨h.changes.trans one.changes, h.flagged.trans one.flagged, ?_, (one.array h.memory).1, fun a => ?_, fun p => ?_, ?_,
    fun clean => ?_, fun few => ?_, fun some => ?_⟩
  · rw [one.ws, h.ws]
  · by_cases here : a = wordAddress x.1 x.2
    · subst here
      have before := h.unread small hx fresh
      by_cases single : s.ws.weight x.1 x.2 = 1
      · rw [(one.array h.memory).2 x.2 ⟨rfl, single⟩, scrub, before]
        refine if_congr ?_ rfl rfl
        exact ⟨fun on => ⟨on, x, by simp, single, rfl⟩, fun both => both.1⟩
      · rw [one.other _ fun i hi => absurd hi.2 single, before, if_neg]
        rintro ⟨-, y, hy, weightY, same⟩
        obtain hy | rfl := (List.mem_append.mp hy).imp_right List.mem_singleton.mp
        · exact fresh ((wordAddress_inj_pages hx (small y hy)).mp same ▸ hy)
        · exact single weightY
    · rw [one.other _ fun i hi => hi.1 ▸ here, h.word]
      refine if_congr (and_congr_right fun _ => ⟨fun ⟨y, hy, rest⟩ => ⟨y, List.mem_append_left _ hy, rest⟩, fun ⟨y, hy, one, same⟩ => ?_⟩)
        rfl rfl
      obtain hy | rfl := (List.mem_append.mp hy).imp_right List.mem_singleton.mp
      · exact ⟨y, hy, one, same⟩
      · exact absurd same here
  · have onPage (v : Nat) : (∃ y ∈ words ++ [x], y.1 = p ∧ s.ws.weight y.1 y.2 = v) ↔
        (∃ y ∈ words, y.1 = p ∧ s.ws.weight y.1 y.2 = v) ∨ x.1 = p ∧ s.ws.weight x.1 x.2 = v := by
      simp only [List.mem_append, List.mem_singleton, or_and_right, exists_or, exists_eq_left]
    have some_iff (l : List (PageId × Nat)) (v : Nat) : (∃ y ∈ l, y.1 = p ∧ s.ws.weight y.1 y.2 = v) ↔
        l.countP (fun y => y.1 = p ∧ s.ws.weight y.1 y.2 = v) ≠ 0 := by
      simp [List.countP_eq_zero]
    rw [one.page]
    by_cases here : p = x.1
    · subst here
      rw [if_pos rfl, h.page]
      simp only [onPage, counted]
      have correct : ∀ k C : Nat, (if k = 0 then (if C ≠ 0 then min 255 ((s.ws.page x.1).correctable + C) else (s.ws.page x.1).correctable)
          else min 255 ((if C ≠ 0 then min 255 ((s.ws.page x.1).correctable + C) else (s.ws.page x.1).correctable) + k)) =
          if C ≠ 0 ∨ k ≠ 0 then min 255 ((s.ws.page x.1).correctable + (C + k)) else (s.ws.page x.1).correctable := by
        intro k C
        split <;> split <;> split <;> omega
      have nonzero (v : Nat) : ((if s.ws.weight x.1 x.2 = v then 1 else 0) ≠ 0) = (s.ws.weight x.1 x.2 = v) := by simp
      simp only [some_iff words 1, true_and, decide_eq_true_eq, correct, nonzero, Bool.or_assoc, Bool.decide_or]
    · rw [if_neg here, h.page]
      simp only [onPage, counted, Ne.symm here, false_and, or_false, decide_false, if_false, add_zero, Bool.false_eq_true]
  · rw [one.uncorrectable, counted, Nat.add_mod, h.uncorrectable, ← Nat.add_mod, ← Nat.add_assoc]
    simp
  · have rest : t = s := h.clean fun y hy => clean y (List.mem_append_left _ hy)
    have zero : s.ws.weight x.1 x.2 = 0 := clean x (by simp)
    rw [readStorage_clean (eccCheck_clean (by rw [rest]; exact zero)) rfl, rest]
  · have rest : ∀ y ∈ words, s.ws.weight y.1 y.2 ≠ 2 := fun y hy => few y (List.mem_append_left _ hy)
    exact (h.same rest).trans (one.same (if_neg (few x (by simp))))
  · have state : (t.ws.page x.1).state = .event n c := (h.state x.1).trans hs
    have et : t.et = if ∃ y ∈ words, s.ws.weight y.1 y.2 = 2 then s.et.damagedBy (.event n c) else s.et := by
      split
      · next found => exact (h.marked found).2
      · next missing => exact h.same (fun y hy two => missing ⟨y, hy, two⟩) .et (by decide)
    refine ⟨?_, ?_⟩
    · obtain found | two := double.mp some
      · exact one.flagged.woken.flags_stand (h.marked found).1
      · exact one.store (by simp [two])
    · show _ = s.et.damagedBy (.event n c)
      rw [one.et, state, et]
      obtain found | two := double.mp some
      · rw [if_pos found, damagedBy_twice, ite_self]
      · rw [if_pos two, if_neg one_ne_zero]
        split
        · rw [damagedBy_twice]
        · rfl

end

/-! ## The sample words -/

section

variable {c : Channel} {g : Gather} {x : SamplePlace}

theorem readStorage_answer (p : PageId) (i : Nat) (s : State) :
    (readStorage p i s).1 = eccCheck (readWord s.ws.array (wordAddress p i)) := by
  unfold readStorage
  dsimp only
  split <;> rfl

theorem gatherOne_waiting {h : BitVec 32} (hw : waitingHalf g.state.ws c x = some h) :
    gatherOne c g x = { g with words := g.words ++ [h] } := by
  unfold gatherOne
  rw [hw]

theorem gatherOne_seen (hw : waitingHalf g.state.ws c x = none) {a : EccAnswer} (hl : g.last = some (x.page, x.index / 2, a)) :
    gatherOne c g x = { g with words := g.words ++ [halfOf a x.index] } := by
  unfold gatherOne
  simp only [hw, hl, and_self, if_true]

theorem gatherOne_reads (hw : waitingHalf g.state.ws c x = none) (hl : ∀ a, g.last ≠ some (x.page, x.index / 2, a)) :
    gatherOne c g x =
      ⟨g.words ++ [halfOf (readStorage x.page (x.index / 2) g.state).1 x.index],
        some (x.page, x.index / 2, (readStorage x.page (x.index / 2) g.state).1), (readStorage x.page (x.index / 2) g.state).2⟩ := by
  unfold gatherOne
  cases hg : g.last with
  | none => simp only [hw]
  | some l =>
    obtain ⟨p, i, a⟩ := l
    have other : ¬(p = x.page ∧ i = x.index / 2) := by
      rintro ⟨rfl, rfl⟩
      exact hl a hg
    simp only [hw, if_neg other]

/-- The answer of a storage word. -/
def State.answer (u : State) (k : PageId × Nat) : EccAnswer := eccCheck (readWord u.ws.array (wordAddress k.1 k.2))

/-- The sample word that a read gives: as it waits, or the half of its storage word. -/
def State.sampleWord (u : State) (c : Channel) (x : SamplePlace) : BitVec 32 :=
  (waitingHalf u.ws c x).getD (halfOf (u.answer x.key) x.index)

/-- What has been gathered from a list of places: each storage word is read once. -/
structure Gathered (n : Nat) (c : Channel) (u : State) (places : List SamplePlace) (keys : List (PageId × Nat)) (g : Gather) : Prop where
  once : keys.Nodup
  mem : ∀ k, k ∈ keys ↔ ∃ x ∈ places, waitingHalf u.ws c x = none ∧ x.key = k
  read : KeysRead n keys u g.state
  words : g.words = places.map (u.sampleWord c)
  last : ∀ p i a, g.last = some (p, i, a) → (p, i) ∈ keys ∧ a = u.answer (p, i)
  latest : ∀ y, places.getLast? = some y → waitingHalf u.ws c y = none → ∃ a, g.last = some (y.page, y.index / 2, a)

theorem KeysRead.waitingHalf {n : Nat} {words : List (PageId × Nat)} {s t : State} (h : KeysRead n words s t) (c : Channel) (x : SamplePlace) :
    waitingHalf t.ws c x = waitingHalf s.ws c x := by
  unfold Machine.waitingHalf
  rw [h.chan, h.page]

/-- One more place, whose storage word, if it has been read before, was the last. -/
theorem Gathered.snoc {n : Nat} {u : State} {places : List SamplePlace} {words : List (PageId × Nat)}
    (h : Gathered n c u places words g) (small : ∀ y ∈ places, y.index < 1024) (hx : x.index < 1024)
    (hs : (u.ws.page x.page).state = .event n c)
    (hw : waitingHalf u.ws c x = none → u.ws.weight x.page (x.index / 2) ≤ 2)
    (near : waitingHalf u.ws c x = none → ∀ y ∈ places, y.key = x.key → places.getLast? = some y ∧ waitingHalf u.ws c y = none) :
    ∃ words', Gathered n c u (places ++ [x]) words' (gatherOne c g x) := by
  have mem_snoc (P : SamplePlace → Prop) : (∃ y ∈ places ++ [x], P y) ↔ (∃ y ∈ places, P y) ∨ P x := by
    simp only [List.mem_append, List.mem_singleton, or_and_right, exists_or, exists_eq_left]
  have latest_is {y : SamplePlace} (hy : (places ++ [x]).getLast? = some y) : x = y := by simpa using hy
  have word : (places ++ [x]).map (u.sampleWord c) = g.words ++ [u.sampleWord c x] := by rw [List.map_append, h.words]; rfl
  have smallWords : ∀ k ∈ words, k.2 < 512 := by
    intro k hk
    obtain ⟨y, hy, -, rfl⟩ := (h.mem k).mp hk
    have := small y hy
    show y.index / 2 < 512
    omega
  cases hwait : Machine.waitingHalf u.ws c x with
  | some half =>
    rw [gatherOne_waiting ((h.read.waitingHalf c x).trans hwait)]
    refine ⟨words, h.once, fun k => ?_, h.read, ?_, h.last, fun y hy waits => ?_⟩
    · rw [mem_snoc, h.mem]
      simp [hwait]
    · rw [word, State.sampleWord, hwait]
      rfl
    · rw [← latest_is hy, hwait] at waits
      cases waits
  | none =>
    have free := (h.read.waitingHalf c x).trans hwait
    by_cases seen : x.key ∈ words
    · obtain ⟨y, hy, free', same⟩ := (h.mem _).mp seen
      obtain ⟨last, -⟩ := near hwait y hy same
      obtain ⟨a, ha⟩ := h.latest y last free'
      have keys : (y.page, y.index / 2) = (x.page, x.index / 2) := same
      rw [Prod.mk.injEq] at keys
      rw [keys.1, keys.2] at ha
      rw [gatherOne_seen free ha]
      refine ⟨words, h.once, fun k => ?_, h.read, ?_, h.last, fun z hz _ => ⟨a, latest_is hz ▸ ha⟩⟩
      · rw [mem_snoc, h.mem]
        refine (or_iff_left_of_imp ?_).symm
        rintro ⟨-, rfl⟩
        exact ⟨y, hy, free', same⟩
      · rw [word, State.sampleWord, hwait, (h.last _ _ _ ha).2]
        rfl
    · have unseen (a : EccAnswer) : g.last ≠ some (x.page, x.index / 2, a) := fun hl => seen (h.last _ _ _ hl).1
      have half : x.key.2 < 512 := by
        show x.index / 2 < 512
        omega
      have answer : (readStorage x.page (x.index / 2) g.state).1 = u.answer x.key := by
        rw [readStorage_answer, State.answer, ← h.read.unread smallWords half seen]
        rfl
      rw [gatherOne_reads free unseen]
      refine ⟨words ++ [x.key], ?_, fun k => ?_, h.read.snoc smallWords half seen (hw hwait) hs, ?_, fun p i a hl => ?_, fun z hz _ => ?_⟩
      · exact List.nodup_append.mpr ⟨h.once, List.nodup_singleton _, fun a ha b hb e => seen (by rw [List.mem_singleton] at hb; rwa [← hb, ← e])⟩
      · rw [mem_snoc, List.mem_append, h.mem, List.mem_singleton]
        exact or_congr_right ⟨fun e => ⟨hwait, e.symm⟩, fun e => e.2.symm⟩
      · rw [word, State.sampleWord, hwait, answer]
        rfl
      · rw [answer, Option.some.injEq, Prod.mk.injEq, Prod.mk.injEq] at hl
        obtain ⟨rfl, rfl, rfl⟩ := hl
        exact ⟨List.mem_append_right _ (List.mem_singleton.mpr rfl), rfl⟩
      · rw [← latest_is hz]
        exact ⟨_, rfl⟩

/-- The places of a read, from the first on. -/
theorem gathered_all {n : Nat} {u : State} (wf : MemoryInv u) {places : List SamplePlace} (small : ∀ y ∈ places, y.index < 1024)
    (hs : ∀ y ∈ places, (u.ws.page y.page).state = .event n c)
    (hw : ∀ y ∈ places, waitingHalf u.ws c y = none → u.ws.weight y.page (y.index / 2) ≤ 2)
    (near : ∀ pre x post, places = pre ++ x :: post → waitingHalf u.ws c x = none → ∀ y ∈ pre, y.key = x.key →
      pre.getLast? = some y ∧ waitingHalf u.ws c y = none) :
    ∃ words, Gathered n c u places words (places.foldl (gatherOne c) ⟨[], none, u⟩) := by
  induction places using List.reverseRecOn with
  | nil => exact ⟨[], List.nodup_nil, by simp, .nothing wf, rfl, nofun, nofun⟩
  | append_singleton l x ih =>
    obtain ⟨words, done⟩ := ih (fun y hy => small y (List.mem_append_left _ hy)) (fun y hy => hs y (List.mem_append_left _ hy))
      (fun y hy => hw y (List.mem_append_left _ hy)) fun pre z post parts => near pre z (post ++ [x]) (by rw [parts]; simp)
    rw [List.foldl_append]
    exact done.snoc (fun y hy => small y (List.mem_append_left _ hy)) (small x (by simp)) (hs x (by simp)) (hw x (by simp))
      (near l x [] rfl)

end

end Sys2Proof.Machine

/-! PROOFS. WAVE READ: its refusals, and the reply with the samples of an extent (R86 to R88, R103, R106). -/

namespace Sys2Proof.Machine

section

variable {u : State} {n : Nat} {c : Channel}

/-! ## The places of a read -/

/-- A place as page, index and time. -/
def SamplePlace.triple (x : SamplePlace) : PageId × Nat × Nat := (x.page, x.index, x.ns)

theorem extentPlaces_triples (w : WaveStore) (n : Nat) (c : Channel) :
    (extentPlaces w n c).map SamplePlace.triple =
      (w.eventList n c).flatMap fun p => match (w.pages.get p).first with
        | some f => (List.range (w.pages.get p).count).map fun i => (p, i, f.toNs + 10000000 * i)
        | none => [] := by
  unfold extentPlaces
  rw [List.map_flatMap]
  congr 1
  funext p
  unfold pagePlaces
  rw [page_get]
  cases (w.pages.get p).first with
  | none => rfl
  | some f =>
    rw [List.map_map]
    rfl

/-- The places gathered are the first `k` from the offset on, when these form a run that cannot be longer. -/
theorem gatheredPlaces_eq {w : WaveStore} {off count k : Nat} {samples places : List (PageId × Nat × Nat)}
    (hs : samples = (extentPlaces w n c).map SamplePlace.triple) (hk : k ≤ count) (hl : k ≤ samples.length - off)
    (hp : places = (samples.drop off).take k)
    (run : ∀ (i : Nat) (x y : PageId × Nat × Nat), places[i]? = some x → places[i + 1]? = some y → y.2.2 = x.2.2 + 10000000)
    (stop : k < count → off + k < samples.length →
      ∃ x y, places.getLast? = some x ∧ samples[off + k]? = some y ∧ y.2.2 ≠ x.2.2 + 10000000) :
    gatheredPlaces w n c off count = ((extentPlaces w n c).drop off).take k ∧
      places = (((extentPlaces w n c).drop off).take k).map SamplePlace.triple ∧
      (((extentPlaces w n c).drop off).take k).IsChain Follows := by
  unfold gatheredPlaces
  generalize extentPlaces w n c = ext at hs
  have triples : places = ((ext.drop off).take k).map SamplePlace.triple := by rw [hp, hs, List.map_take, List.map_drop]
  have chain : ((ext.drop off).take k).IsChain Follows := by
    rw [List.isChain_iff_forall_rel_of_append_cons_cons]
    intro a b l1 l2 parts
    refine run l1.length a.triple b.triple ?_ ?_
    · simp [triples, parts]
    · simp [triples, parts]
  have length : samples.length = ext.length := by rw [hs, List.length_map]
  refine ⟨?_, triples, chain⟩
  have take : ((ext.drop off).take count).take k = (ext.drop off).take k := by rw [List.take_take, min_eq_left hk]
  have start := consecutiveRun_eq_take (l := (ext.drop off).take count) (k := k)
    (by rw [List.length_take, List.length_drop]; clear stop; omega) (by rwa [take]) fun short => ?_
  · rwa [take] at start
  · rw [List.length_take, List.length_drop] at short
    have fewer : k < count := lt_of_lt_of_le short (min_le_left _ _)
    have inside : off + k < samples.length := by
      have left := lt_of_lt_of_le short (min_le_right _ _)
      rw [length]
      clear stop
      omega
    obtain ⟨x, y, last, next, breaks⟩ := stop fewer inside
    rw [triples, List.getLast?_map, Option.map_eq_some_iff] at last
    obtain ⟨a, ha, rfl⟩ := last
    rw [hs, List.getElem?_map, Option.map_eq_some_iff] at next
    obtain ⟨b, hb, rfl⟩ := next
    refine ⟨a, b, by rwa [take], ?_, breaks⟩
    rw [List.getElem?_take, if_pos fewer, List.getElem?_drop, hb]

/-! ## The words that wait and the words that are checked -/

theorem waitingHalf_eq_none {w : WaveStore} {x : SamplePlace} :
    waitingHalf w c x = none ↔
      ¬((w.chans.get c).filling = some x.page ∧ x.index + 1 = (w.pages.get x.page).count ∧ (w.chans.get c).pair ≠ none) := by
  unfold waitingHalf
  rw [show w.chan c = w.chans.get c from rfl, page_get]
  split
  · next fills =>
    simp only [Bool.and_eq_true, decide_eq_true_eq] at fills
    simp [fills]
  · next no =>
    simp only [Bool.and_eq_true, decide_eq_true_eq] at no
    exact ⟨fun _ h => no ⟨h.1, h.2.1⟩, fun _ => rfl⟩

theorem waitingHalf_of_waits {w : WaveStore} {x : SamplePlace} (h : waitingHalf w c x ≠ none) :
    waitingHalf w c x = (w.chans.get c).pair := by
  unfold waitingHalf at h ⊢
  split
  · rfl
  · next no => exact absurd (if_neg no) h

/-- The half of a checked word: as it stands with BAD where two bits are in error (R87, R106). -/
theorem halfOf_answer {k : PageId × Nat} (hw : u.ws.weight k.1 k.2 ≤ 2) (index : Nat) {w : StorageWord}
    (h : w = readWord u.ws.array (k.1.val * 512 + k.2)) :
    halfOf (u.answer k) index =
      if u.ws.weight k.1 k.2 = 2 then
        (if index % 2 = 0 then w.first ^^^ w.err.extractLsb' 0 32 else w.second ^^^ w.err.extractLsb' 32 32) ||| 0x80000000
      else if index % 2 = 0 then w.first
      else w.second := by
  have word : w = readWord u.ws.array (wordAddress k.1 k.2) := h
  unfold State.answer
  have cases : u.ws.weight k.1 k.2 = 0 ∨ u.ws.weight k.1 k.2 = 1 ∨ u.ws.weight k.1 k.2 = 2 := by omega
  obtain one | one | one := cases
  · rw [eccCheck_clean one, one, ← word]
    rfl
  · rw [eccCheck_single one, one, ← word]
    rfl
  · rw [eccCheck_double one, one, ← word]
    rfl

theorem KeysRead.perm {words words' : List (PageId × Nat)} {s t : State} (h : KeysRead n words s t) (p : words.Perm words') :
    KeysRead n words' s t where
  changes := h.changes
  flagged := h.flagged
  ws := h.ws
  memory := h.memory
  word := fun a => by rw [h.word]; simp only [p.mem_iff]
  page := fun q => by rw [h.page]; simp only [p.mem_iff, p.countP_eq]
  uncorrectable := by rw [h.uncorrectable, p.countP_eq]
  clean := fun z => h.clean fun x hx => z x (p.mem_iff.mp hx)
  same := fun z => h.same fun x hx => z x (p.mem_iff.mp hx)
  marked := fun ⟨x, hx, two⟩ => h.marked ⟨x, p.mem_iff.mpr hx, two⟩

end

/-! ## The request -/

section

variable {d : Elapsed} {s : State} {xs : List Upset} {pre post : List Request} {r : Request}

theorem exec_waveRead (d : Elapsed) (xs : List Upset) (s : State) :
    exec (.waveRead d xs) s = timed d s fun s => serve kWaveRead (withLength 10 waveRead) (applyUpsets s xs) := rfl

theorem Front.answers_wave (h : Front s pre r post) (hk : r.kind = kWaveRead) {u t : State} (hu : u = applyUpsets (s.elapse d) xs)
    {reply : List Byte} (hf : withLength 10 waveRead r.payload u = (reply, t)) (ht : t.sl.list = u.sl.list) :
    Answers (.waveRead d xs) s pre r post t reply := by
  rw [Answers, exec_waveRead, h.timed, ← hu]
  have front : Front u pre r post := hu ▸ (h.elapse d).upsets xs
  rw [serve_front front hk hf ht]

section

variable {p : List Byte} {u : State} (hp : p.length = 10)

include hp

theorem getU_count : getU p 9 1 = (p.getD 9 0).toNat := by
  have last : p.drop 9 = [p.getD 9 0] := by
    rw [List.drop_eq_getElem_cons (by omega), List.drop_eq_nil_of_le (by omega), List.getD_eq_getElem _ _ (by omega)]
  simp [getU, slice, last, be]

theorem waveRead_outOfRange (h : 2 < (p.getD 4 0).toNat ∨ (p.getD 9 0).toNat = 0 ∨ 56 < (p.getD 9 0).toNat) :
    waveRead p u = ([stOutOfRange], u) := by
  unfold waveRead
  dsimp only
  rw [getU_count hp]
  cases hc : channelOfCode (p.getD 4 0) with
  | none => rfl
  | some c =>
    refine if_pos (h.resolve_left fun large => ?_)
    rw [channelOfCode_none large] at hc
    cases hc

variable {c : Channel} (hc : p.getD 4 0 = c.code) (h0 : 0 < (p.getD 9 0).toNat) (h56 : (p.getD 9 0).toNat ≤ 56)

include hc h0 h56

theorem waveRead_notFound (h : (∀ x ∈ u.et.records, x.number ≠ getU p 0 4) ∨ u.ws.eventList (getU p 0 4) c = []) :
    waveRead p u = ([stNotFound], u) := by
  unfold waveRead
  dsimp only
  rw [getU_count hp, hc, channelOfCode_code]
  dsimp only
  rw [if_neg (by rintro (z | z); exacts [by omega, absurd z (not_lt.mpr h56)])]
  cases hr : u.record (getU p 0 4) with
  | none => rfl
  | some x =>
    have number : x.number = getU p 0 4 := by simpa using List.find?_some hr
    have empty := h.resolve_left fun missing => missing x (List.mem_of_find?_eq_some hr) number
    refine if_pos ?_
    rw [number, WaveStore.extent, empty]
    rfl

theorem waveRead_words (h : ∃ x ∈ u.et.records, x.number = getU p 0 4) (hl : u.ws.eventList (getU p 0 4) c ≠ []) :
    waveRead p u = waveWords (getU p 0 4) c (getU p 5 4) (p.getD 9 0).toNat u := by
  unfold waveRead
  dsimp only
  rw [getU_count hp, hc, channelOfCode_code]
  dsimp only
  rw [if_neg (by rintro (z | z); exacts [by omega, absurd z (not_lt.mpr h56)])]
  cases hr : u.record (getU p 0 4) with
  | none =>
    obtain ⟨x, hx, number⟩ := h
    exact absurd number (by simpa using List.find?_eq_none.mp hr x hx)
  | some x =>
    have number : x.number = getU p 0 4 := by simpa using List.find?_some hr
    dsimp only
    rw [number, if_neg]
    rw [WaveStore.extent]
    cases he : u.ws.eventList (getU p 0 4) c with
    | nil => exact absurd he hl
    | cons q rest => simp

end

end

/-- Settles O25: WAVE READ replies with the samples of an extent, each storage word checked once. -/
theorem waveReadReplies : Obligations.WaveReadReplies := by
  refine ⟨fun d s xs hp ht => ?_, fun d s u xs pre r post n off count ch h hk hu hn hch hoff hcount =>
    ⟨fun hl => ?_, fun hl bad => ?_, fun c hl hc h0 h56 missing => ?_, ?_⟩⟩
  · have turn : NotNext s kWaveRead := NotNext.of_turn ht
    have turnU : NotNext (applyUpsets (s.elapse d) xs) kWaveRead := turn
    have idle := turnU.serve (withLength 10 waveRead)
    rw [exec_waveRead, timed_powered s d (fun s => serve kWaveRead (withLength 10 waveRead) (applyUpsets s xs)) hp, idle]
  · exact h.answers_wave hk hu (if_neg hl) rfl
  · refine h.answers_wave hk hu ((if_pos hl).trans ?_) rfl
    exact waveRead_outOfRange hl (by rw [← hch, ← hcount]; exact bad)
  · refine h.answers_wave hk hu ((if_pos hl).trans ?_) rfl
    have number : getU r.payload 0 4 = n := hn.symm
    refine waveRead_notFound hl (hch ▸ hc) (hcount ▸ h0) (hcount ▸ h56) ?_
    rw [number, hu]
    exact missing
  · intro c samples places k waits checked weight half reply hl hc h0 h56 found hne hpage hmem hcounts hon hsamples hkc hkl hplaces hrun
      hstop hwaits hchecked hweight hsmall hhalf hreply
    have number : getU r.payload 0 4 = n := hn.symm
    have offset : getU r.payload 5 4 = off := hoff.symm
    have ws : u.ws = { s.ws with array := u.ws.array } := by rw [hu]; rfl
    have et : u.et = s.et := by rw [hu]; rfl
    have host : u.pt.host.isOn = true := by rw [hu]; exact hon
    have wf : MemoryInv u := by
      rw [hu]
      exact (applyUpsets_sound (a := .memory) (e := fun _ => true) (s := s.elapse d) ⟨fun _ => hmem, nofun, nofun⟩ xs).memory rfl
    have mapped : WaveStore.Mapped (enabledIn s.pt.tier) u.ws := by
      rw [hu]
      exact (applyUpsets_sound (s := s.elapse d) ((storeKept_pages s).mpr hpage) xs).pages nofun
    have lists (m : Nat) (x : Channel) : u.ws.eventList m x = s.ws.eventList m x := by rw [ws]; rfl
    have pages (q : PageId) : u.ws.pages.get q = s.ws.pages.get q := by rw [ws]
    have chans : u.ws.chans = s.ws.chans := by rw [ws]
    have words := waveRead_words (u := u) hl (hch ▸ hc) (hcount ▸ h0) (hcount ▸ h56) (by rw [number, et]; exact found)
      (by rw [number, lists]; exact hne)
    rw [number, offset, ← hcount] at words
    have ext : samples = (extentPlaces u.ws n c).map SamplePlace.triple := by
      rw [hsamples, extentPlaces_triples]
      simp only [lists, pages] <;> rfl
    obtain ⟨gathered, triples, chain⟩ := gatheredPlaces_eq ext hkc hkl hplaces hrun hstop
    have inside (x : SamplePlace) (hx : x ∈ ((extentPlaces u.ws n c).drop off).take k) : x ∈ extentPlaces u.ws n c :=
      List.mem_of_mem_drop (List.mem_of_mem_take hx)
    generalize ((extentPlaces u.ws n c).drop off).take k = P at gathered triples chain inside
    have weightEq : weight = fun x => u.ws.weight x.1 x.2 := funext hweight
    have waitsIff (x : SamplePlace) : waitingHalf u.ws c x = none ↔ waits x.triple = false := by
      rw [waitingHalf_eq_none, ← Bool.not_eq_true, hwaits, chans, pages]
      rfl
    have memChecked (y : PageId × Nat) : y ∈ checked ↔ ∃ x ∈ P, waitingHalf u.ws c x = none ∧ x.key = y := by
      rw [hchecked, List.mem_dedup, triples]
      simp only [List.mem_map, List.mem_filter, Bool.not_eq_true', waitsIff]
      constructor
      · rintro ⟨-, ⟨⟨x, hx, rfl⟩, free⟩, rfl⟩
        exact ⟨x, hx, free, rfl⟩
      · rintro ⟨x, hx, free, rfl⟩
        exact ⟨x.triple, ⟨⟨x, hx, rfl⟩, free⟩, rfl⟩
    have smallWeight (x : SamplePlace) (hx : x ∈ P) (free : waitingHalf u.ws c x = none) : u.ws.weight x.page (x.index / 2) ≤ 2 := by
      have le := hsmall x.key ((memChecked _).mpr ⟨x, hx, free, rfl⟩)
      rw [weightEq] at le
      exact le
    obtain ⟨keys, all⟩ := gathered_all (n := n) (c := c) wf (places := P)
      (fun x hx => by
        have timed := (extentPlaces_timed (inside x hx)).1.1
        rw [page_get, pages] at timed
        exact lt_of_lt_of_le timed (hcounts _))
      (fun x hx => (mapped.event _ _ _).mpr (extentPlaces_timed (inside x hx)).2)
      smallWeight
      (fun front x back parts free y hy same => by
        have timedX := (extentPlaces_timed (inside x (by rw [parts]; simp))).1
        have timedY := (extentPlaces_timed (inside y (by rw [parts]; exact List.mem_append_left _ hy))).1
        obtain ⟨latest, next⟩ := neighbours_of_run (parts ▸ chain) timedX timedY hy same
        refine ⟨latest, waitingHalf_eq_none.mpr fun ⟨_, last, _⟩ => ?_⟩
        have page : y.page = x.page := congrArg Prod.fst same
        have below := timedX.1
        rw [page, ← page_get] at last
        omega)
    have perm : keys.Perm checked := by
      refine (List.perm_ext_iff_of_nodup all.once (by rw [hchecked]; exact List.nodup_dedup _)).mpr fun y => ?_
      rw [all.mem, memChecked]
    have read := all.read.perm perm
    have list := (read.flagged.list_on host).1
    obtain ⟨t, ht⟩ : ∃ t, t = (P.foldl (gatherOne c) ⟨[], none, u⟩).state := ⟨_, rfl⟩
    rw [← ht] at read list
    have replied : withLength 10 waveRead r.payload u = (reply, t) := by
      rw [withLength_of_length hl, words, waveWords, gathered, ht]
      refine Prod.ext ?_ rfl
      have length : P.length = k := by
        rw [← List.length_map SamplePlace.triple, ← triples, hplaces, List.length_take, List.length_drop]
        exact min_eq_left hkl
      have total : (extentPlaces u.ws n c).length = samples.length := by rw [ext, List.length_map]
      have halves : (P.map (u.sampleWord c)).flatMap (fun h => putU 4 h.toNat) = places.flatMap fun x => putU 4 (half x).toNat := by
        rw [triples, List.flatMap_map, List.flatMap_map]
        refine List.flatMap_congr fun x hx => ?_
        have word : half x.triple = u.sampleWord c x := by
          rw [hhalf x.triple _ rfl]
          by_cases free : waitingHalf u.ws c x = none
          · have idle : waits x.triple = false := (waitsIff x).mp free
            rw [idle, if_neg Bool.false_ne_true, State.sampleWord, free, weightEq]
            exact (halfOf_answer (k := x.key) (smallWeight x hx free) x.index rfl).symm
          · have busy : waits x.triple = true := by rwa [waitsIff, Bool.not_eq_false] at free
            obtain ⟨-, -, present⟩ := (hwaits _).mp busy
            obtain ⟨v, hv⟩ := Option.ne_none_iff_exists'.mp present
            rw [busy, if_pos rfl, State.sampleWord, waitingHalf_of_waits free, chans, hv]
            rfl
        rw [← word]
      dsimp only
      rw [all.words, List.length_map, halves, length, total, hreply, Bool.decide_and, triples]
      cases P <;> rfl
    have answers := h.answers_wave hk hu replied list
    have scrub : u.ws.scrub = s.ws.scrub := by rw [ws]
    have correctable : u.ws.uncorrectable = s.ws.uncorrectable := by rw [ws]
    subst weightEq
    refine ⟨fun z => (read.clean z) ▸ answers, t, answers, read.changes, read.ws, fun a => ?_, fun q => ?_, ?_, read.same, fun two => ?_⟩
    · rw [read.word, scrub]
      rfl
    · have page := read.page q
      rw [page_get, page_get, pages] at page
      exact page
    · rw [read.uncorrectable, correctable]
    · obtain ⟨flag, marked⟩ := read.marked two
      exact ⟨flag, by rw [marked, et]⟩

end Sys2Proof.Machine

/-! PROOFS. SETTINGS SAVE, its completion, and SETTINGS DEFAULTS (R174, R188, R200, R202). -/

namespace Sys2Proof.Machine

section

variable {s : State}

/-! ## The save (R200) -/

theorem exec_settingsSaveComplete (d : Elapsed) (agrees : Bool) (hp : s.powered = true) :
    exec (.settingsSaveComplete d agrees) s = .next (completeSave agrees (s.elapse d)) := timed_powered s d (completeSave agrees) hp

/-- The state after a save has ended, before the last gasp is looked at. -/
def State.saved (agrees : Bool) (x : Settings) (s : State) : State :=
  { s with
    sm :=
      { image := if agrees then some x else none, writing := none
        defaultFlag := if agrees then false else s.sm.defaultFlag }
    sl :=
      { s.sl with
        executing := false
        list :=
          s.sl.list.map fun y =>
            if y.progress = .executing then { y with progress := .executed [if agrees then 0x00 else 0x09] } else y } }

theorem completeSave_idle (agrees : Bool) (h : s.sm.writing = none) : completeSave agrees s = s := by
  unfold completeSave
  rw [h]

theorem completeSave_writing {agrees : Bool} {x : Settings} (h : s.sm.writing = some x) :
    completeSave agrees s = gaspCheck (s.saved agrees x) := by
  unfold completeSave
  rw [h]
  dsimp only
  congr 1
  cases agrees
  · show _ = { s with sm := _, sl := _ }
    simp only [Bool.not_false, Bool.and_true]
    rfl
  · show _ = { s with sm := _, sl := _ }
    simp only [Bool.not_true, Bool.and_false]
    rfl

/-- A save that ends the last gasp, with the host rail shed. -/
theorem endGasp_shed_whole (ht : s.pt.tier = .hibernate) (hh : s.pt.host = .shed) :
    ∃ held : Bool, (held = true ↔ s.tb.grade = .tracking ∨ s.tb.grade = .locked) ∧
      endGasp s =
        { s with
          pt := { s.pt with gasp := none, enModem := false }, al := { s.al with windows := [] }
          tb :=
            { s.tb with
              clock := .watch, grade := if held then .hold else s.tb.grade
              rejectRun := if s.tb.grade = .locked then 0 else s.tb.rejectRun }
          sl := { s.sl with flags := if held then s.sl.flags ||| 0x08 else s.sl.flags } } := by
  refine ⟨decide (s.tb.grade = .tracking ∨ s.tb.grade = .locked), decide_eq_true_iff, ?_⟩
  rw [endGasp_shed ht hh]
  split
  · next held =>
    rw [decide_eq_true held]
    rfl
  · next lost =>
    rw [decide_eq_false lost]
    have unlocked : s.tb.grade ≠ .locked := fun h => lost (.inr h)
    simp only [if_neg unlocked, Bool.false_eq_true, if_false]

/-! ## The defaults (R202) -/

/-- A filter context with the default filter in use, or about to be. -/
def FilterContext.defaulted (enabled : Bool) (f : FilterContext) : FilterContext :=
  if enabled then { f.loadInactive defaultBank with swapPending := true } else (f.loadInactive defaultBank).swap

theorem defaultFilters_eq (s : State) :
    channels.foldl defaultFilter s =
      { s with
        fe :=
          { s.fe with
            ctx := ⟨s.fe.ctx.z.defaulted (enabledIn s.pt.tier .z), s.fe.ctx.n.defaulted (enabledIn s.pt.tier .n),
              s.fe.ctx.e.defaulted (enabledIn s.pt.tier .e)⟩ } } := rfl

theorem defaulted_eq (enabled : Bool) (f : FilterContext) :
    f.defaulted enabled =
      if enabled = true then
        match f.active with
        | .a => { f with bankB := [32767], swapPending := true }
        | .b => { f with bankA := [32767], swapPending := true }
      else
        match f.active with
        | .a => { f with bankB := [32767], active := .b, swapPending := false }
        | .b => { f with bankA := [32767], active := .a, swapPending := false } := by
  unfold FilterContext.defaulted FilterContext.swap FilterContext.loadInactive
  cases enabled <;> cases h : f.active <;> simp [defaultBank, BankName.other]

/-- The groups that act on no charge: detection, uplink, tier and store. -/
def State.grouped (s : State) : State :=
  setStore defaultStore.interval defaultStore.scrub (setTier defaultTier (setUplink defaultUplink (setDetect defaultDetect s)))

/-- All groups but the filters and the heater's decision have their defaults. -/
def State.defaulted (s : State) : State :=
  (setTable defaultTable (setCalibration defaultCalibration (setLimits defaultLimits s.grouped))).modHc
    fun h => { h with params := defaultHeater }

theorem applyDefaults_eq (s : State) :
    applyDefaults s =
      (channels.foldl defaultFilter (heaterDecide false s.defaulted)).modSm fun m => { m with defaultFlag := true } := rfl

theorem setStore_eq {i : Nat} (hi : i ≠ 0) (b : Bool) (s : State) :
    setStore i b s =
      { s with
        ws :=
          { s.ws with
            interval := i, scrub := b
            patrolDue := if s.pt.tier = .full ∨ s.pt.tier = .conserve then some (s.clk.mainRun + i * 40000000) else none } } := by
  have due : (if i ≠ 0 ∧ (s.pt.tier = .full ∨ s.pt.tier = .conserve) then some (s.clk.mainRun + i * 40000000) else none) =
      if s.pt.tier = .full ∨ s.pt.tier = .conserve then some (s.clk.mainRun + i * 40000000) else none :=
    if_congr (and_iff_right hi) rfl rfl
  unfold setStore
  rw [freshPatrol_eq, ← due]
  rfl

theorem setLimits_eq (x : BatteryLimits) (s : State) : setLimits x s = { s with ca := (setLimits x s).ca } := rfl

theorem grouped_eq (s : State) :
    s.grouped =
      { s with
        tu := { s.tu with params := defaultDetect }
        ws :=
          { s.ws with
            interval := 4, scrub := true
            patrolDue := if s.pt.tier = .full ∨ s.pt.tier = .conserve then some (s.clk.mainRun + 160000000) else none }
        al :=
          { s.al with
            params := ⟨1, 0, 24⟩
            lastSoh := if s.al.params.sohInterval = 24 then s.al.lastSoh else some (s.now.sec / 86400 * 86400) }
        pt := { s.pt with params := defaultTier } } := by
  have uplink : setUplink defaultUplink (setDetect defaultDetect s) =
      { s with
        tu := { s.tu with params := defaultDetect }
        al :=
          { s.al with
            params := ⟨1, 0, 24⟩
            lastSoh := if s.al.params.sohInterval = 24 then s.al.lastSoh else some (s.now.sec / 86400 * 86400) } } := by
    have soh : (if (24 : Nat) = s.al.params.sohInterval then s.al.lastSoh else latestSoh 24 s.now.sec) =
        if s.al.params.sohInterval = 24 then s.al.lastSoh else some (s.now.sec / 86400 * 86400) := if_congr eq_comm rfl rfl
    rw [← soh]
    rfl
  unfold State.grouped
  rw [setStore_eq (by decide), uplink]
  rfl

theorem setLimits_ca_congr (x : BatteryLimits) {y : State} (hca : y.ca = s.ca) (hhm : y.hm = s.hm) :
    (setLimits x y).ca = (setLimits x s).ca := by
  unfold setLimits evalChargeSwitch
  simp only [State.modCa, hca, hhm]

theorem defaulted_state {t : State} (h : t = s.defaulted) :
    t =
      { s.grouped with
        hm := { s.hm with cal := defaultCalibration }
        ca := { (setLimits defaultLimits s).ca with table := defaultTable }
        hc := { s.hc with params := defaultHeater } } := by
  have ca : (setLimits defaultLimits s.grouped).ca = (setLimits defaultLimits s).ca := by
    rw [grouped_eq]
    exact setLimits_ca_congr _ rfl rfl
  have hc : s.grouped.hc = s.hc := by rw [grouped_eq]
  have hm : s.grouped.hm = s.hm := by rw [grouped_eq]
  rw [h, State.defaulted, setLimits_eq, ca, ← hc, ← hm]
  rfl

end

end Sys2Proof.Machine

/-! PROOFS. SETTINGS SAVE and SETTINGS DEFAULTS at their requests (R174, R188, R200, R202). -/

namespace Sys2Proof.Machine

section

variable {s : State}

/-- The charge after SETTINGS DEFAULTS (R148, R150). -/
theorem defaultCharge_eq {q : Int} {soc : Nat} {same : Bool} (hs : same = decide (s.ca.limits.capacityMah = 20000))
    (hq : q = min s.ca.q 72000000) (hsoc : soc = (q * 1000 / 72000000).toNat) :
    (setLimits defaultLimits s).ca =
      { s.ca with
        limits := defaultLimits, q := if same then s.ca.q else q, soc := if same then s.ca.soc else soc
        fullLatch := if same then s.ca.fullLatch else s.ca.fullLatch && decide (950 ≤ soc)
        estimated := if same then s.ca.estimated else true, chargeOn := (setLimits defaultLimits s).ca.chargeOn } := by
  rw [setLimits_ca]
  subst hsoc hq hs
  by_cases h : s.ca.limits.capacityMah = 20000
  · rw [if_pos (show defaultLimits.capacityMah = s.ca.limits.capacityMah from h.symm)]
    simp only [h, decide_true, if_true]
  · rw [if_neg (show ¬defaultLimits.capacityMah = s.ca.limits.capacityMah from fun e => h e.symm)]
    simp only [h, decide_false, Bool.false_eq_true, if_false]
    rfl

/-- A save that ends, and what it leaves for the last gasp to look at. -/
theorem exec_saveEnds {d : Elapsed} {agrees : Bool} {x : Settings} {u : State} (hp : s.powered = true) (hw : s.sm.writing = some x)
    (hu : u = (s.elapse d).saved agrees x) :
    exec (.settingsSaveComplete d agrees) s = .next (gaspCheck u) ∧ u.al = s.al ∧ u.pt = s.pt ∧ u.sm.writing = none ∧
      u.clk.watchRun = (s.elapse d).clk.watchRun ∧ u.tb = s.tb ∧ u.sl.flags = s.sl.flags := by
  subst hu
  exact ⟨by rw [exec_settingsSaveComplete d agrees hp, completeSave_writing (s := s.elapse d) hw], rfl, rfl, rfl, rfl, rfl, rfl⟩

/-- The filters after SETTINGS DEFAULTS, channel by channel (R202). -/
theorem defaultedContext (t : Tier) (x : Tri FilterContext) (c : Channel) :
    (⟨x.z.defaulted (enabledIn t .z), x.n.defaulted (enabledIn t .n), x.e.defaulted (enabledIn t .e)⟩ : Tri FilterContext).get c =
      if c ∈ enabledChannels t then
        match (x.get c).active with
        | .a => { x.get c with bankB := [32767], swapPending := true }
        | .b => { x.get c with bankA := [32767], swapPending := true }
      else
        match (x.get c).active with
        | .a => { x.get c with bankB := [32767], active := .b, swapPending := false }
        | .b => { x.get c with bankA := [32767], active := .a, swapPending := false } := by
  rw [show (⟨x.z.defaulted (enabledIn t .z), x.n.defaulted (enabledIn t .n), x.e.defaulted (enabledIn t .e)⟩ : Tri FilterContext).get c =
    (x.get c).defaulted (enabledIn t c) by cases c <;> rfl, defaulted_eq]
  exact if_congr (mem_enabledChannels t c).symm rfl rfl

/-- What SETTINGS DEFAULTS leaves of each part. -/
theorem applyDefaults_fields {t : State} (h : t = applyDefaults s) :
    (∃ u, u = s.defaulted ∧ t = { heaterDecide false u with fe := t.fe, sm := t.sm } ∧
      t.ws = u.ws ∧ t.al = u.al ∧ t.hm = u.hm ∧ t.ca = u.ca ∧ t.pt = u.pt ∧ t.sl = u.sl ∧
      (∃ q, t.tu = { u.tu with quietEnd := q }) ∧ t.hc.params = u.hc.params) ∧
      t.fe =
        { s.fe with
          ctx := ⟨s.fe.ctx.z.defaulted (enabledIn s.pt.tier .z), s.fe.ctx.n.defaulted (enabledIn s.pt.tier .n),
            s.fe.ctx.e.defaulted (enabledIn s.pt.tier .e)⟩ } ∧
      t.sm = { s.sm with defaultFlag := true } := by
  obtain ⟨u, hu⟩ : ∃ u, u = s.defaulted := ⟨_, rfl⟩
  have state := defaulted_state hu
  rw [grouped_eq] at state
  have fe : (heaterDecide false u).fe = s.fe := by rw [heaterDecide_fe, state]
  have tier : (heaterDecide false u).pt.tier = s.pt.tier := by rw [heaterDecide_pt, state]
  have sm : (heaterDecide false u).sm = s.sm := by rw [heaterDecide_sm, state]
  rw [applyDefaults_eq, defaultFilters_eq, ← hu, fe, tier] at h
  refine ⟨⟨u, hu, ?_, ?_, ?_, ?_, ?_, ?_, ?_, ?_, ?_⟩, ?_, ?_⟩
  all_goals rw [h]
  · rfl
  · exact heaterDecide_ws u false
  · exact heaterDecide_al u false
  · exact heaterDecide_hm u false
  · exact heaterDecide_ca u false
  · exact heaterDecide_pt u false
  · exact heaterDecide_sl u false
  · exact heaterDecide_tu u false
  · exact heaterDecide_params false u
  · rfl
  · show { (heaterDecide false u).sm with defaultFlag := true } = _
    rw [sm]

end

/-- Settles O53: SETTINGS SAVE, its completion, and SETTINGS DEFAULTS. -/
theorem settingsSaveAndDefaults : Obligations.SettingsSaveAndDefaults := by
  refine ⟨⟨fun d s pre r post bank h hk hp hbank => ?_, fun d s agrees hp => ⟨fun hw => ?_, fun x u hw hu => ⟨fun hg => ?_,
    fun limit ended hg ht hh hended => ⟨fun hno => ?_, fun hyes => ?_⟩⟩⟩⟩, fun d s pre r post h hk hp => ⟨fun hd => ?_, fun hd => ?_⟩⟩
  · have bank' : bank = FilterContext.activeBank := hbank
    have next : nextRequest (s.elapse d) = some r := (h.elapse d).next
    have run : settingsSave (s.elapse d) = beginSave (s.elapse d) := by
      unfold settingsSave
      rw [next]
      dsimp only
      exact (if_pos hk).trans (if_pos hp)
    refine (timed_powered s d settingsSave h.powered).trans ?_
    rw [run, beginSave, bank']
    have list : moveFirst .executing .nothing (s.elapse d).sl.list =
        pre ++ { r with progress := .executing, atEnd := .nothing } :: post := by
      rw [show (s.elapse d).sl.list = pre ++ r :: post from h.list]
      exact moveFirst_waiting _ _ h.executed h.waiting
    rw [← list]
    rfl
  · rw [exec_settingsSaveComplete d agrees hp, completeSave_idle agrees (s := s.elapse d) hw]
  · obtain ⟨run, -, pt, -⟩ := exec_saveEnds hp hw (u := u) hu
    rw [run, gaspCheck_of_none (by rw [pt, hg])]
  · obtain ⟨run, al, pt, -, watch, -⟩ := exec_saveEnds hp hw (u := u) hu
    rw [run, gaspCheck_stays]
    rw [al, pt, watch]
    by_cases ha : s.al.attempt = none
    · refine .inr (.inr (.inr ⟨limit, hg, ?_⟩))
      by_contra no
      refine hno (hended.mpr ⟨ha, ?_⟩)
      by_contra neither
      push Not at no neither
      obtain ⟨⟨x, hx, both⟩, before⟩ := neither
      exact no before x hx both.1 both.2
    · exact .inr (.inl ha)
  · obtain ⟨run, al, pt, writing, watch, tb, flags⟩ := exec_saveEnds hp hw (u := u) hu
    obtain ⟨ha, he⟩ := hended.mp hyes
    rw [run, gaspCheck_ends (limit := limit) (by rw [pt, hg]) (by rw [al, ha]) writing (by rw [al, watch]; exact he)]
    obtain ⟨held, iff, whole⟩ := endGasp_shed_whole (s := u) (by rw [pt, ht]) (by rw [pt, hh])
    rw [tb] at iff
    refine ⟨held, iff, ?_⟩
    rw [whole, al, pt, tb, flags]
  · refine h.answers_ofLength hk rfl (f := settingsDefaults) (congrArg List.length hp) ?_ rfl
    exact if_pos ((eventInProgress_iff s).mpr hd)
  · obtain ⟨t, ht⟩ : ∃ t, t = applyDefaults (s.elapse d) := ⟨_, rfl⟩
    obtain ⟨⟨u, hu, whole, ws, al, hm, ca, pt, sl, ⟨q, tu⟩, params⟩, fe, sm⟩ := applyDefaults_fields ht
    have state := defaulted_state hu
    rw [grouped_eq] at state
    have quiet : ¬eventInProgress (s.elapse d) = true := by
      rw [eventInProgress_iff]
      obtain hd | hd := hd <;> simp [hd]
    have run : settingsDefaults r.payload (s.elapse d) = ([stOk], t) := by
      rw [ht]
      exact if_neg quiet
    refine ⟨t, h.answers_ofLength hk rfl (f := settingsDefaults) (congrArg List.length hp) run (by rw [sl, state]; rfl), ?_, sm, ?_, ?_,
      fun c => ?_, fun k soc same hsame hk hsoc => ?_, ?_, ?_, ?_, fun v hv => ?_, ?_, ?_⟩
    · rw [ht]
      exact applyDefaults_changes _
    · rw [al, state]
      rfl
    · rw [tu, state]
      rfl
    · rw [fe]
      exact defaultedContext s.pt.tier s.fe.ctx c
    · have charge := defaultCharge_eq (s := s.elapse d) hsame hk hsoc
      have on : t.ca.chargeOn = (setLimits defaultLimits (s.elapse d)).ca.chargeOn := by rw [ca, state]
      rw [on, ca, state]
      exact congrArg (fun x : ChargeUnit => { x with table := defaultTable }) charge
    · have on : t.ca.chargeOn = (setLimits defaultLimits (s.elapse d)).ca.chargeOn := by rw [ca, state]
      have latch : t.ca.fullLatch = (setLimits defaultLimits (s.elapse d)).ca.fullLatch := by rw [ca, state]
      rw [on, latch, setLimits_chargeOn, chargeAllowed_iff, setLimits_limits]
      rfl
    · rw [hm, state]
      rfl
    · rw [params, state]
      rfl
    · have same : v = u := by
        rw [hv, tu, ws, al, hm, ca, pt, state]
        rfl
      rw [same]
      exact whole
    · rw [pt, state]
      rfl
    · rw [ws, state]
      rfl

end Sys2Proof.Machine

/-! PROOFS. The refutation of O41: a PWR entry in flight whose id the id counter holds leaves the queue when the change of tier opens an
event whose quake alert a full queue displaces at once. The statement assumes the ids of the queue distinct, but not that the id counter
stands at an id which no entry holds (R114, R115, R130); the displaced quake alert then takes the entry out with it. -/

namespace Sys2Proof.Machine

/-- The PWR entry of the attempt, under the id 1. -/
def pwrInFlight : Entry := ⟨1, .pwr, .tier .full, ⟨0, 0⟩, [], true, 0⟩

/-- A full queue: the PWR entry in flight, and 15 QUEUED quake alerts, which no Q2 entry displaces. -/
def fullQueue : List Entry := pwrInFlight :: (List.range 15).map fun i => ⟨i + 2, .q1, .event i, ⟨0, 0⟩, [], false, 0⟩

/-- FULL with channel Z alone TRIGGERED, so that the vote is unmet until the fall to SURVIVE leaves one channel enabled; a charge in the
band of SURVIVE; the full queue, and the id counter at the id of its PWR entry. -/
def idCollision : State :=
  { State.reset with
    clk := { State.reset.clk with watchRun := 32768 }
    tu := { State.reset.tu with
      chans := { State.reset.tu.chans with
        z := { State.reset.tu.chans.z with state := .triggered, onTime := some ⟨0, 0⟩, onDelivery := some 0 } } }
    ca := { State.reset.ca with q := 10800000, soc := 150, estimateMark := false }
    al := { State.reset.al with queue := fullQueue, idCounter := 1 } }

/-- A scan without a reading in range. -/
def blindScan : RawScan := ⟨0, 0, 0, 0, 0, 0⟩

/-- What a check on the next state answers after the scan of `idCollision`. -/
def afterCollision (check : State → Bool) : Bool :=
  match exec (.housekeepingScan ⟨0, 0⟩ blindScan) idCollision with
  | .next t => check t
  | _ => false

/-- The tier falls to SURVIVE. -/
theorem collision_falls : afterCollision (fun t => t.pt.tier == .survive) = true := by decide

/-- No entry of the id 1 is left. -/
theorem collision_loses : afterCollision (fun t => t.al.queue.all fun x => x.id != 1) = true := by decide

theorem find_pwrInFlight : fullQueue.find? (fun x => x.cls = .pwr) = some pwrInFlight := by decide

theorem pwrInFlight_unique : ∀ x ∈ fullQueue, x.id = pwrInFlight.id → x = pwrInFlight := by decide

/-- Refutes O41: at the fall from FULL to SURVIVE the PWR entry in flight leaves the queue with the displaced quake alert of the same
id. -/
theorem not_tierChangeEffects : ¬ Obligations.TierChangeEffects := by
  intro h
  have falls := collision_falls
  have loses := collision_loses
  unfold afterCollision at falls loses
  split at falls
  · next t run =>
    simp only [run] at loses
    have tier : t.pt.tier = .survive := beq_iff_eq.mp falls
    obtain ⟨-, -, -, -, -, inFlight, -⟩ := h ⟨0, 0⟩ blindScan idCollision t rfl (by decide) run (by decide) rfl (by rw [tier]; decide)
    obtain ⟨-, stays, -⟩ := inFlight pwrInFlight find_pwrInFlight rfl pwrInFlight_unique
    exact absurd (List.all_eq_true.mp loses _ stays) (by decide)
  · exact Bool.noConfusion falls

end Sys2Proof.Machine

/-! PROOFS. What the heater's decision looks at, and why a decision made again changes nothing (R155 to R163): the facts that a change
of tier needs, which decides more than once. -/

namespace Sys2Proof.Machine

/-! ## The decision as a function of what it looks at -/

/-- The heating demand and the cold guard of a decision (R156, R160). -/
def State.wants (s : State) : Bool × Bool := updateDemands s.hc.params (controlTemp s) s.hc.demand s.hc.coldGuard

/-- Whether a decision asks for heat (R157). -/
def State.asksHeat (s : State) : Bool := heaterDemand s.hc.params (controlTemp s) s.wants.1 s.wants.2

/-- The target of a decision (R157). -/
def State.aim (s : State) : HeaterState := heaterTarget s s.asksHeat s.wants.2

/-- HC with a decision's demands and target. -/
def State.judged (s : State) : Heater :=
  { s.hc with demand := s.wants.1, coldGuard := s.wants.2, target := s.aim }

/-- Whether a decision's change is applied and not deferred (R161, R162). -/
def State.switchesNow (s : State) : Bool :=
  isImmediate s.hc.params s.hc.state s.aim (controlTemp s) s.asksHeat s.wants.2 || !eventInProgress s || s.hc.params.deferLimit = 0 ||
    false

section

variable {s t : State}

theorem heaterDecide_fault (h : s.hc.state = .fault) : heaterDecide false s = { s with hc := s.judged } := if_pos h

theorem heaterDecide_same (hf : s.hc.state ≠ .fault) (h : s.aim = s.hc.state) :
    heaterDecide false s = { s with hc := { s.judged with change := none } } :=
  (if_neg hf).trans (if_pos h)

theorem heaterDecide_switch (hf : s.hc.state ≠ .fault) (h : s.aim ≠ s.hc.state) (hi : s.switchesNow = true) :
    heaterDecide false s =
      (switchHeater s.aim { s with hc := s.judged }).modHc fun h => { h with change := none } :=
  (if_neg hf).trans ((if_neg h).trans (if_pos hi))

theorem heaterDecide_defer (hf : s.hc.state ≠ .fault) (h : s.aim ≠ s.hc.state) (hi : ¬s.switchesNow = true) :
    heaterDecide false s = deferChange s.aim { s with hc := s.judged } :=
  (if_neg hf).trans ((if_neg h).trans (if_neg hi))

/-- HC after a deferral: the record of the change keeps the instant and the deadline that it has. -/
def State.deferred (s : State) : Option PendingChange :=
  some (match s.hc.change with
    | some r => { r with wanted := s.aim }
    | none => ⟨s.aim, s.now, s.clk.watchRun + s.hc.params.deferLimit * ticksPerSec⟩)

theorem heaterDecide_defer_hc (hf : s.hc.state ≠ .fault) (h : s.aim ≠ s.hc.state) (hi : ¬s.switchesNow = true) :
    (heaterDecide false s).hc = { s.judged with change := s.deferred } := by
  rw [heaterDecide_defer hf h hi]
  unfold deferChange State.deferred State.judged
  cases hc : s.hc.change <;> simp [hc, State.modHc, State.now]

theorem heaterDecide_switch_hc (hf : s.hc.state ≠ .fault) (h : s.aim ≠ s.hc.state) (hi : s.switchesNow = true) :
    (heaterDecide false s).hc = { s.judged with state := s.aim, lastSwitch := some s.now, lowRun := 0, change := none } := by
  rw [heaterDecide_switch hf h hi, State.modHc_hc, switchHeater_hc]
  rfl

/-- A decision that leaves the heater's state meets no switching instant. -/
theorem heaterDecide_eq_of_state (h : (heaterDecide false s).hc.state = s.hc.state) :
    heaterDecide false s = { s with hc := (heaterDecide false s).hc } := by
  by_cases hf : s.hc.state = .fault
  · rw [heaterDecide_fault hf]
  by_cases ha : s.aim = s.hc.state
  · rw [heaterDecide_same hf ha]
  by_cases hi : s.switchesNow = true
  · rw [heaterDecide_switch_hc hf ha hi] at h
    exact absurd h ha
  · rw [heaterDecide_defer hf ha hi]
    rfl

/-- A decision sets the heat mark when the state changes while the main clock runs, and nothing else of SI (R29, R163). -/
theorem heaterDecide_si_eq :
    (heaterDecide false s).si =
      { s.si with heatMark := s.si.heatMark || decide (s.tb.clock = .main ∧ (heaterDecide false s).hc.state ≠ s.hc.state) } := by
  by_cases hs : (heaterDecide false s).hc.state = s.hc.state
  · rw [heaterDecide_eq_of_state hs]
    simp [hs]
  have hf : s.hc.state ≠ .fault := fun hf => hs (by rw [heaterDecide_fault hf]; rfl)
  have ha : s.aim ≠ s.hc.state := fun ha => hs (by rw [heaterDecide_same hf ha]; rfl)
  have hi : s.switchesNow = true := by
    by_contra hi
    exact hs (by rw [heaterDecide_defer_hc hf ha hi]; rfl)
  have other : decide (s.tb.clock = .main ∧ (heaterDecide false s).hc.state ≠ s.hc.state) = decide (s.tb.clock = .main) := by
    simp [hs]
  rw [other, heaterDecide_switch hf ha hi]
  by_cases hm : s.tb.clock = .main
  · rw [switchHeater_running (s := { s with hc := s.judged }) hm]
    simp [State.modHc, hm]
  · rw [switchHeater_stopped (s := { s with hc := s.judged }) (decide_eq_false hm)]
    simp [State.modHc, hm]

/-! ## What a decision looks at -/

/-- The two states look alike to the heater: readings, charge, tier, an event in progress, and the clocks. -/
structure SameHeat (s t : State) : Prop where
  readings : t.hm.readings = s.hm.readings
  ca : t.ca = s.ca
  tier : t.pt.tier = s.pt.tier
  event : eventInProgress t = eventInProgress s
  clk : t.clk = s.clk

theorem SameHeat.trans {u : State} (h : SameHeat s t) (k : SameHeat t u) : SameHeat s u :=
  ⟨k.readings.trans h.readings, k.ca.trans h.ca, k.tier.trans h.tier, k.event.trans h.event, k.clk.trans h.clk⟩

theorem SameHeat.controlTemp_eq (h : SameHeat s t) : controlTemp t = controlTemp s := by
  unfold controlTemp
  rw [h.readings]

theorem SameHeat.heaterTarget_eq (h : SameHeat s t) (hp : t.hc.params = s.hc.params) (want guard : Bool) :
    heaterTarget t want guard = heaterTarget s want guard := by
  unfold heaterTarget sourceAvailable batteryHeatPermitted
  rw [h.readings, h.ca, h.tier, hp]

/-- Two states that look alike have the same judgement of their heaters when these have the same demands. -/
theorem SameHeat.wants_aim (h : SameHeat s t) (hp : t.hc.params = s.hc.params) (hw : t.wants = s.wants) :
    t.asksHeat = s.asksHeat ∧ t.aim = s.aim := by
  have asks : t.asksHeat = s.asksHeat := by
    unfold State.asksHeat
    rw [hp, h.controlTemp_eq, hw]
  refine ⟨asks, ?_⟩
  unfold State.aim
  rw [asks, hw, h.heaterTarget_eq hp]

theorem SameHeat.switchesNow_eq (h : SameHeat s t) (hp : t.hc.params = s.hc.params) (hs : t.hc.state = s.hc.state)
    (hw : t.wants = s.wants) : t.switchesNow = s.switchesNow := by
  obtain ⟨asks, aim⟩ := h.wants_aim hp hw
  unfold State.switchesNow
  rw [hp, hs, aim, asks, hw, h.controlTemp_eq, h.event]

/-- The decision depends on nothing else than the heater, what it looks at, and the time base's clock. -/
theorem SameHeat.heaterDecide_hc_eq (h : SameHeat s t) (hhc : t.hc = s.hc) (htb : t.tb = s.tb) :
    (heaterDecide false t).hc = (heaterDecide false s).hc := by
  have wants : t.wants = s.wants := by
    unfold State.wants
    rw [hhc, h.controlTemp_eq]
  have now : t.now = s.now := by
    unfold State.now
    rw [h.clk, htb]
  obtain ⟨-, aim⟩ := h.wants_aim (by rw [hhc]) wants
  have nowOrLater := h.switchesNow_eq (by rw [hhc]) (by rw [hhc]) wants
  have judged : t.judged = s.judged := by
    unfold State.judged
    rw [hhc, wants, aim]
  by_cases hf : s.hc.state = .fault
  · rw [heaterDecide_fault hf, heaterDecide_fault (by rwa [hhc])]
    exact judged
  have hf' : t.hc.state ≠ .fault := by rwa [hhc]
  by_cases ha : s.aim = s.hc.state
  · rw [heaterDecide_same hf ha, heaterDecide_same hf' (by rwa [aim, hhc])]
    dsimp only
    rw [judged]
  have ha' : t.aim ≠ t.hc.state := by rwa [aim, hhc]
  by_cases hi : s.switchesNow = true
  · rw [heaterDecide_switch_hc hf ha hi, heaterDecide_switch_hc hf' ha' (by rwa [nowOrLater]), judged, aim, now]
  · rw [heaterDecide_defer_hc hf ha hi, heaterDecide_defer_hc hf' ha' (by rwa [nowOrLater]), judged]
    unfold State.deferred
    rw [hhc, aim, now, h.clk]

/-! ## The decision made again -/

theorem heaterTarget_ne_fault (s : State) (want guard : Bool) : heaterTarget s want guard ≠ .fault := by
  rw [Machine.heaterTarget_eq]
  (repeat' split) <;> simp

theorem updateDemands_again (p : HeaterParams) (tc : Option Int) (demand guard : Bool) :
    updateDemands p tc (updateDemands p tc demand guard).1 (updateDemands p tc demand guard).2 = updateDemands p tc demand guard := by
  unfold updateDemands
  cases tc with
  | none => rfl
  | some x =>
    dsimp only
    (repeat' split) <;> simp_all

/-- A decision made again, with nothing that it looks at changed, changes nothing of HC. -/
theorem SameHeat.heaterDecide_again (h : SameHeat s t) (hhc : t.hc = (heaterDecide false s).hc) :
    (heaterDecide false t).hc = t.hc := by
  have params : t.hc.params = s.hc.params := by rw [hhc, heaterDecide_params]
  have demands : t.hc.demand = s.wants.1 ∧ t.hc.coldGuard = s.wants.2 := by
    rw [hhc]
    unfold heaterDecide deferChange
    dsimp only
    (repeat' split)
    · exact ⟨rfl, rfl⟩
    · exact ⟨rfl, rfl⟩
    · rw [State.modHc_hc, switchHeater_hc]
      exact ⟨rfl, rfl⟩
    · exact ⟨rfl, rfl⟩
  have wants : t.wants = s.wants := by
    have same : t.wants = updateDemands s.hc.params (controlTemp s) s.wants.1 s.wants.2 := by
      unfold State.wants
      rw [params, h.controlTemp_eq, demands.1, demands.2]
      rfl
    exact same.trans (updateDemands_again _ _ _ _)
  obtain ⟨-, aim⟩ := h.wants_aim params wants
  have judged : t.judged = { t.hc with demand := s.wants.1, coldGuard := s.wants.2, target := s.aim } := by
    unfold State.judged
    rw [wants, aim]
  by_cases hf : s.hc.state = .fault
  · have now := (congrArg State.hc (heaterDecide_fault hf))
    rw [← hhc] at now
    rw [heaterDecide_fault (by rw [now]; exact hf)]
    dsimp only
    rw [judged, now]
    rfl
  by_cases ha : s.aim = s.hc.state
  · have now := (congrArg State.hc (heaterDecide_same hf ha))
    rw [← hhc] at now
    have state : t.hc.state = s.hc.state := by rw [now]; rfl
    rw [heaterDecide_same (by rwa [state]) (by rw [aim, state, ha])]
    dsimp only
    rw [judged, now]
    rfl
  by_cases hi : s.switchesNow = true
  · have now := hhc.trans (heaterDecide_switch_hc hf ha hi)
    have state : t.hc.state = s.aim := by rw [now]
    have calm : s.aim ≠ .fault := heaterTarget_ne_fault _ _ _
    rw [heaterDecide_same (by rwa [state]) (by rw [aim, state])]
    dsimp only
    rw [judged, now]
    rfl
  · have now := hhc.trans (heaterDecide_defer_hc hf ha hi)
    have state : t.hc.state = s.hc.state := by rw [now]; rfl
    have change : t.deferred = s.deferred := by
      have kept : t.hc.change = s.deferred := by rw [now]
      unfold State.deferred at kept ⊢
      rw [kept, aim]
      cases s.hc.change <;> rfl
    rw [heaterDecide_defer_hc (by rwa [state]) (by rwa [aim, state]) (by rwa [h.switchesNow_eq params state wants]), judged, change, now]
    rfl

end

end Sys2Proof.Machine

/-! PROOFS. The heater and the sample interface through a change of tier: the decisions of a change come down to one, and the heat mark
tells whether it switched (R29, R32, R159, R163, R164, R171). -/

namespace Sys2Proof.Machine

/-! ## The stages of a change of tier -/

/-- The state of a change of tier when the detector has followed. -/
def State.detectorSet (s : State) (startUp : Bool) (new : Tier) : State := detectorForTier s.pt.tier new (s.railed startUp new)

/-- The state of a change of tier before the heater's decision: channels and patrol have followed. -/
def State.channelsSet (s : State) (startUp : Bool) (new : Tier) : State :=
  patrolForTier s.pt.tier new (applyEnabled s.pt.tier new (s.detectorSet startUp new))

section

variable {s : State} (startUp : Bool) (new : Tier)

theorem blocksAtTier_eq :
    s.blocksAtTier startUp new =
      if s.pt.tier = .full ∧ (new = .conserve ∨ new = .survive) then entryWindow (heaterDecide false (s.channelsSet startUp new))
      else heaterDecide false (s.channelsSet startUp new) := rfl

/-- What the rails leave alone of the blocks. -/
theorem railed_blocks :
    (s.railed startUp new).tu = s.tu ∧ (s.railed startUp new).hm = s.hm ∧ (s.railed startUp new).ca = s.ca ∧
      (s.railed startUp new).clk = s.clk ∧ (s.railed startUp new).tb = s.tb ∧ (s.railed startUp new).hc = s.hc ∧
      (s.railed startUp new).ws = s.ws ∧ (s.railed startUp new).fe = s.fe ∧ (s.railed startUp new).sm = s.sm := by
  unfold State.railed sensorForTier
  (repeat' split) <;> simp

theorem railed_tier : (s.railed startUp new).pt.tier = new := by
  unfold State.railed sensorForTier
  (repeat' split) <;> simp [announceTier_tier]

/-- The sensor rail that goes off abandons the window and carries its STEP mark over (R32). -/
theorem railed_si :
    (s.railed startUp new).si =
      if new = .hibernate ∧ s.pt.enSens = true then
        { s.si with
          rx := [], window := none, aligned := false, mismatchRun := 0
          stepCarry := s.si.stepCarry || decide (∃ w, s.si.window = some w ∧ w.step = true) }
      else s.si := by
  have sens : (announceTier startUp new s).pt.enSens = s.pt.enSens := by
    have settled := announceTier_settled s startUp new
    simp only [PowerTier.settled, Prod.mk.injEq] at settled
    exact settled.2.2.2.2.1
  unfold State.railed sensorForTier
  rw [sens]
  by_cases hn : new = .hibernate
  · rw [if_pos hn]
    by_cases he : s.pt.enSens = true
    · rw [if_pos he, if_pos ⟨hn, he⟩]
      unfold siRailOff
      simp only [State.modSi_si, State.modPt_si, announceTier_si]
      cases s.si.window <;> simp
    · rw [if_neg he, if_neg (by simp [he])]
      simp
  · rw [if_neg hn, if_neg (by simp [hn])]
    simp

theorem detectorSet_of_idle (hd : s.tu.det = .idle ∨ s.tu.det = .disarmed) (ho : s.pt.tier ≠ .hibernate) :
    s.detectorSet startUp new =
      if new = .hibernate then (s.railed startUp new).modTu fun t => { t with det := .disarmed, auxPending := false }
      else s.railed startUp new := by
  obtain ⟨tu, -⟩ := railed_blocks (s := s) startUp new
  unfold State.detectorSet detectorForTier
  by_cases hn : new = .hibernate
  · rw [if_pos hn, if_pos hn, truncateEvent_idle (by rwa [tu])]
  · rw [if_neg hn, if_neg hn, if_neg ho]

theorem detectorSet_above (hn : new ≠ .hibernate) (ho : s.pt.tier ≠ .hibernate) :
    s.detectorSet startUp new = s.railed startUp new := by
  unfold State.detectorSet detectorForTier
  rw [if_neg hn, if_neg ho]

theorem detectorSet_closing (hd : s.tu.det = .open ∨ s.tu.det = .post) :
    s.detectorSet startUp .hibernate =
      (closeEvent s.tu.lastSeen true .disarmed (s.railed startUp .hibernate)).modTu
        fun t => { t with det := .disarmed, auxPending := false } := by
  obtain ⟨tu, -⟩ := railed_blocks (s := s) startUp .hibernate
  unfold State.detectorSet detectorForTier
  rw [if_pos rfl, truncateEvent_running (by rwa [tu]), tu]

end

/-! ## The heater through the stages -/

section

variable {s t : State}

/-- A close ends with a decision of the heater, which meets the detector in its final state. -/
theorem closeEvent_decides (endTime : Option Time) (truncated : Bool) (final : DetectorState) (s : State) :
    ∃ c, closeEvent endTime truncated final s = heaterDecide false c ∧ c.tu.det = final ∧ c.pt.tier = s.pt.tier ∧ c.hm = s.hm ∧
      c.ca = s.ca ∧ c.clk = s.clk ∧ c.tb = s.tb ∧ c.hc = s.hc ∧ c.si = s.si := by
  unfold closeEvent
  dsimp only
  refine ⟨_, Eq.refl _, ?_, ?_, ?_, ?_, ?_, ?_, ?_, ?_⟩
  case refine_2 =>
    rw [raise_tier, State.modTu_pt, (storeClose_flagged _).woken.tier]
    split <;> rfl
  all_goals
    cases s.tu.current <;> simp

/-- The last gasp's end leaves the event table, and of AS the queue, as they are. -/
theorem gaspCheck_et_al (s : State) : (gaspCheck s).et = s.et ∧ ∃ w, (gaspCheck s).al = { s.al with windows := w } := by
  have watch (x : State) : (toWatchClock x).et = x.et ∧ (toWatchClock x).al = { x.al with windows := [] } := by
    rw [toWatchClock_eq]
    split <;> simp
  have ends : (endGasp s).et = s.et ∧ ∃ w, (endGasp s).al = { s.al with windows := w } := by
    obtain ⟨et, al⟩ := watch (syncModem (s.modPt fun p => { p with gasp := none }))
    unfold endGasp
    rw [et, al]
    simp
  obtain hg | ⟨limit, hg⟩ := Option.eq_none_or_eq_some s.pt.gasp
  · rw [gaspCheck_of_none hg]
    exact ⟨rfl, s.al.windows, rfl⟩
  · rw [gaspCheck_of_some hg]
    split
    · exact ends
    · exact ⟨rfl, s.al.windows, rfl⟩

theorem eventInProgress_congr (h : t.tu.det = s.tu.det) : eventInProgress t = eventInProgress s := by
  unfold eventInProgress
  rw [h]

/-- What the heater's decision of a change meets, and what comes after it, look alike. -/
theorem channelsSet_tail (startUp : Bool) (new : Tier) :
    SameHeat (s.channelsSet startUp new) (tierChange startUp new s) ∧
      (tierChange startUp new s).hc = (heaterDecide false (s.channelsSet startUp new)).hc ∧
      (tierChange startUp new s).si = (heaterDecide false (s.channelsSet startUp new)).si ∧
      (tierChange startUp new s).tu =
        { (heaterDecide false (s.channelsSet startUp new)).tu with
          quietEnd := if new = .hibernate then none else (heaterDecide false (s.channelsSet startUp new)).tu.quietEnd } ∧
      (tierChange startUp new s).ws = (s.channelsSet startUp new).ws ∧
      (tierChange startUp new s).fe = (s.channelsSet startUp new).fe ∧
      (tierChange startUp new s).et = (heaterDecide false (s.channelsSet startUp new)).et := by
  have tier : (tierChange startUp new s).pt.tier = (s.channelsSet startUp new).pt.tier := by
    have patrol (y : State) : Flagged y (patrolForTier s.pt.tier new y) := .same (by simp) (by simp)
    have flagged : Flagged (s.railed startUp new) (s.channelsSet startUp new) :=
      ((detectorForTier_flagged (s.railed startUp new) s.pt.tier new).trans (applyEnabled_flagged _ s.pt.tier new)).trans (patrol _)
    rw [tierChange_tier, flagged.woken.tier, railed_tier]
  have entered (x : State) : (enterHibernate x).hm = x.hm ∧ (enterHibernate x).ca = x.ca ∧ (enterHibernate x).clk = x.clk ∧
      (enterHibernate x).hc = x.hc ∧ (enterHibernate x).si = x.si ∧ (enterHibernate x).tu = { x.tu with quietEnd := none } ∧
      (enterHibernate x).ws = x.ws ∧ (enterHibernate x).fe = x.fe ∧ (enterHibernate x).et = x.et :=
    ⟨rfl, rfl, rfl, rfl, rfl, rfl, rfl, rfl, rfl⟩
  rw [tierChange_eq, blocksAtTier_eq] at tier ⊢
  generalize s.channelsSet startUp new = p at tier ⊢
  have windowed : ∃ w, (if s.pt.tier = .full ∧ (new = .conserve ∨ new = .survive) then entryWindow (heaterDecide false p)
      else heaterDecide false p) = w ∧ w.hm = p.hm ∧ w.ca = p.ca ∧ w.clk = p.clk ∧ w.hc = (heaterDecide false p).hc ∧
      w.si = (heaterDecide false p).si ∧ w.tu = (heaterDecide false p).tu ∧ w.ws = p.ws ∧ w.fe = p.fe ∧
      w.et = (heaterDecide false p).et := by
    refine ⟨_, Eq.refl _, ?_⟩
    split <;> simp
  obtain ⟨w, hw, hm, ca, clk, hc, si, tu, ws, fe, et⟩ := windowed
  rw [hw] at tier ⊢
  have out : ∃ e, (if new = .hibernate then enterHibernate w else w) = e ∧ e.hm = w.hm ∧ e.ca = w.ca ∧ e.clk = w.clk ∧ e.hc = w.hc ∧
      e.si = w.si ∧ e.tu = { w.tu with quietEnd := if new = .hibernate then none else w.tu.quietEnd } ∧ e.ws = w.ws ∧ e.fe = w.fe ∧
      e.et = w.et := by
    refine ⟨_, Eq.refl _, ?_⟩
    by_cases hn : new = .hibernate
    · simp only [if_pos hn]
      exact entered w
    · simp only [if_neg hn]
      simp
  obtain ⟨e, he, hmE, caE, clkE, hcE, siE, tuE, wsE, feE, etE⟩ := out
  rw [he] at tier ⊢
  refine ⟨⟨?_, ?_, tier, eventInProgress_congr ?_, ?_⟩, ?_, ?_, ?_, ?_, ?_, ?_⟩
  · rw [gaspCheck_hm, syncModem_hm, hmE, hm]
  · rw [gaspCheck_ca, syncModem_ca, caE, ca]
  · rw [gaspCheck_tu, syncModem_tu, tuE, tu]
    exact heaterDecide_det p false
  · rw [gaspCheck_clk, syncModem_clk, clkE, clk]
  · rw [gaspCheck_hc, syncModem_hc, hcE, hc]
  · rw [gaspCheck_si, syncModem_si, siE, si]
  · rw [gaspCheck_tu, syncModem_tu, tuE, tu]
  · rw [gaspCheck_ws, syncModem_ws, wsE, ws]
  · rw [gaspCheck_fe, syncModem_fe, feE, fe]
  · rw [(gaspCheck_et_al _).1, syncModem_et, etE, et]

/-- What the channels leave alone after the detector has followed. -/
theorem channelsSet_blocks (startUp : Bool) (new : Tier) :
    (s.channelsSet startUp new).hm = (s.detectorSet startUp new).hm ∧ (s.channelsSet startUp new).ca = (s.detectorSet startUp new).ca ∧
      (s.channelsSet startUp new).clk = (s.detectorSet startUp new).clk ∧ (s.channelsSet startUp new).hc = (s.detectorSet startUp new).hc ∧
      (s.channelsSet startUp new).tb = (s.detectorSet startUp new).tb ∧ (s.channelsSet startUp new).si = (s.detectorSet startUp new).si ∧
      (s.channelsSet startUp new).pt.tier = (s.detectorSet startUp new).pt.tier := by
  unfold State.channelsSet
  refine ⟨by simp, by simp, by simp, by simp, by simp, by simp, ?_⟩
  have patrol (y : State) : (patrolForTier s.pt.tier new y).pt = y.pt := by simp
  rw [patrol, (applyEnabled_flagged _ _ _).woken.tier]

/-- Before the channels follow, a close or nothing has decided; the change's own decision then adds none that switches. -/
theorem channelsSet_decision (startUp : Bool) {new : Tier} (ho : s.pt.tier ≠ .hibernate) {p : State} (hp : p = s.channelsSet startUp new) :
    ∃ c, SameHeat c p ∧ c.hc = s.hc ∧ c.tb = s.tb ∧ c.si = (s.railed startUp new).si ∧
      (heaterDecide false p).hc = (heaterDecide false c).hc ∧ (heaterDecide false p).si = (heaterDecide false c).si := by
  obtain ⟨-, hm, ca, clk, tb, hc, -, -, -⟩ := railed_blocks (s := s) startUp new
  obtain ⟨hmP, caP, clkP, hcP, tbP, siP, tierP⟩ := channelsSet_blocks (s := s) startUp new
  rw [← hp] at hmP caP clkP hcP tbP siP tierP
  by_cases closing : new = .hibernate ∧ (s.tu.det = .open ∨ s.tu.det = .post)
  · obtain ⟨rfl, running⟩ := closing
    rw [detectorSet_closing startUp running] at hmP caP clkP hcP tbP siP tierP
    have disarmed : p.tu.det = .disarmed := by
      have patrol (y : State) : (patrolForTier s.pt.tier .hibernate y).tu = y.tu := by simp
      rw [hp, State.channelsSet, patrol]
      refine applyEnabled_disarmed _ _ ?_
      rw [detectorSet_closing startUp running]
      rfl
    obtain ⟨c, close, det, tierC, hmC, caC, clkC, tbC, hcC, siC⟩ :=
      closeEvent_decides s.tu.lastSeen true .disarmed (s.railed startUp .hibernate)
    rw [close] at hmP caP clkP hcP tbP siP tierP
    have look : SameHeat c p :=
      ⟨by rw [hmP, State.modTu_hm, heaterDecide_hm], by rw [caP, State.modTu_ca, heaterDecide_ca],
        by rw [tierP, State.modTu_pt, heaterDecide_pt], eventInProgress_congr (by rw [disarmed, det]),
        by rw [clkP, State.modTu_clk, heaterDecide_clk]⟩
    have again : (heaterDecide false p).hc = p.hc := look.heaterDecide_again hcP
    refine ⟨c, look, by rw [hcC, hc], by rw [tbC, tb], siC, again.trans hcP, ?_⟩
    rw [heaterDecide_eq_of_state (by rw [again])]
    exact siP
  · have quiet : ∃ f, s.detectorSet startUp new = (s.railed startUp new).modTu f := by
      by_cases hn : new = .hibernate
      · have idle : s.tu.det = .idle ∨ s.tu.det = .disarmed := by
          cases hd : s.tu.det <;> simp_all
        rw [detectorSet_of_idle startUp new idle ho, if_pos hn]
        exact ⟨_, rfl⟩
      · rw [detectorSet_above startUp new hn ho]
        exact ⟨id, rfl⟩
    obtain ⟨f, hf⟩ := quiet
    rw [hf] at hcP tbP siP
    exact ⟨p, ⟨rfl, rfl, rfl, rfl, rfl⟩, by rw [hcP, State.modTu_hc, hc], by rw [tbP, State.modTu_tb, tb], by rw [siP]; rfl, rfl, rfl⟩

/-- A change of tier from above HIBERNATE and the scan's decision after it come down to one decision `c`; no second one switches. -/
theorem tierChange_heater (startUp : Bool) {new : Tier} (ho : s.pt.tier ≠ .hibernate)
    (ht : t = heaterDecide false (tierChange startUp new s)) :
    (∃ c, SameHeat c t ∧ c.hc = s.hc ∧ c.tb = s.tb ∧ t.hc = (heaterDecide false c).hc) ∧
      t.si =
        { (s.railed startUp new).si with
          heatMark := (s.railed startUp new).si.heatMark || decide (s.tb.clock = .main ∧ t.hc.state ≠ s.hc.state) } ∧
      t = tierChange startUp new s := by
  obtain ⟨p, hp⟩ : ∃ p, p = s.channelsSet startUp new := ⟨_, rfl⟩
  obtain ⟨c, look, hcC, tbC, siC, hcP, siP⟩ := channelsSet_decision startUp ho hp
  obtain ⟨tail, hcG, siG, -⟩ := channelsSet_tail (s := s) startUp new
  rw [← hp] at tail hcG siG
  have again : (heaterDecide false (tierChange startUp new s)).hc = (tierChange startUp new s).hc := tail.heaterDecide_again hcG
  have stands : t = tierChange startUp new s := by
    rw [ht, heaterDecide_eq_of_state (by rw [again]), again]
  rw [← stands] at tail hcG siG
  refine ⟨⟨c, look.trans tail, hcC, tbC, hcG.trans hcP⟩, ?_, stands⟩
  rw [siG, siP, heaterDecide_si_eq, siC, tbC, hcC, hcG, hcP]

/-! ## The low-current test before it -/

theorem lowCurrentTest_cases (s : State) :
    (∃ n, lowCurrentTest s = s.modHc fun h => { h with lowRun := n }) ∨
      (s.hc.state = .onSrc ∨ s.hc.state = .onBat) ∧ lowCurrentTest s = enterFault s := by
  by_cases hon : s.hc.state = .onSrc ∨ s.hc.state = .onBat
  · cases hl : s.currentLow with
    | false => exact .inl ⟨_, lowCurrentTest_clear (.inr hl)⟩
    | true =>
      rw [lowCurrentTest_low hon hl]
      split
      · exact .inr ⟨hon, rfl⟩
      · exact .inl ⟨_, rfl⟩
  · exact .inl ⟨_, lowCurrentTest_clear (.inl (by tauto))⟩

/-- The test depends on nothing else than the heater, the readings and the time. -/
theorem lowCurrentTest_hc_congr (hhc : t.hc = s.hc) (hr : t.hm.readings = s.hm.readings) (hn : t.now = s.now) :
    (lowCurrentTest t).hc = (lowCurrentTest s).hc := by
  have low : t.currentLow = s.currentLow := by
    unfold State.currentLow
    rw [hr]
  by_cases hon : s.hc.state = .onSrc ∨ s.hc.state = .onBat
  · cases hl : s.currentLow with
    | false =>
      rw [lowCurrentTest_clear (.inr hl), lowCurrentTest_clear (.inr (low.trans hl)), State.modHc_hc, State.modHc_hc, hhc]
    | true =>
      rw [lowCurrentTest_low hon hl, lowCurrentTest_low (by rwa [hhc]) (low.trans hl), hhc]
      split
      · rw [enterFault_hc, enterFault_hc, hhc, hn]
      · rw [State.modHc_hc, State.modHc_hc, hhc]
  · have off : s.hc.state ≠ .onSrc ∧ s.hc.state ≠ .onBat := by tauto
    rw [lowCurrentTest_clear (.inl off), lowCurrentTest_clear (.inl (by rwa [hhc])), State.modHc_hc, State.modHc_hc, hhc]

/-- A FAULT of the test is a switching instant (R163, R164). -/
theorem lowCurrentTest_si_eq :
    (lowCurrentTest s).si =
      { s.si with heatMark := s.si.heatMark || decide (s.tb.clock = .main ∧ (lowCurrentTest s).hc.state ≠ s.hc.state) } := by
  obtain ⟨n, h⟩ | ⟨hon, h⟩ := lowCurrentTest_cases s
  · rw [h]
    simp [State.modHc]
  · have other : (enterFault s).hc.state ≠ s.hc.state := by
      rw [enterFault_hc]
      obtain on | on := hon <;> simp [on]
    have switched : decide (s.tb.clock = .main ∧ (lowCurrentTest s).hc.state ≠ s.hc.state) = decide (s.tb.clock = .main) := by
      rw [h]
      simp [other]
    rw [switched, h]
    unfold enterFault
    by_cases hm : s.tb.clock = .main
    · rw [switchHeater_running hm]
      simp [State.modHc, hm]
    · rw [switchHeater_stopped (decide_eq_false hm)]
      simp [State.modHc, hm]

end

end Sys2Proof.Machine

/-! PROOFS. The waveform store of a reset: one empty filling page for each ring, on its own page, and every other page free
(R71, R74, R80, R93). -/

namespace Sys2Proof.Machine

/-- The page that a reset gives a channel's ring. -/
def homePage : Channel → PageId
  | .z => 0
  | .n => 1
  | .e => 2

/-- A channel's part of the store after a reset, with its ring or without. -/
def freshChannel (on : Bool) (c : Channel) : StoreChannel :=
  if on then ⟨.ring, [], some (homePage c), none, 0⟩ else emptyStoreChannel

/-- The channel whose home a page is. -/
def homeOf (p : PageId) : Option Channel := channels.find? fun c => homePage c = p

/-- A page after a reset: the filling page of the ring whose home it is, or free. -/
def freshPage (on : Channel → Bool) (p : PageId) : Page :=
  ((homeOf p).filter on).elim freePage fun c => ⟨.ring c, true, none, 0, 0, false⟩

/-- The store of a reset in which the channels of `on` have their rings. -/
def freshStore (on : Channel → Bool) (array : PageArray) (p : StoreParams) (due : Option Nat) : WaveStore :=
  { resetStore array p with pages := Vector.ofFn (freshPage on), chans := Tri.ofFn fun c => freshChannel (on c) c, patrolDue := due }

section

variable {on : Channel → Bool} {array : PageArray} {p : StoreParams} {due : Option Nat}

theorem WaveStore.ext_of {v w : WaveStore} (hp : ∀ q, v.page q = w.page q) (hc : ∀ c, v.chan c = w.chan c)
    (h : { v with pages := w.pages, chans := w.chans } = w) : v = w := by
  have pages : v.pages = w.pages := Vector.ext fun i hi => hp ⟨i, hi⟩
  have chans : v.chans = w.chans := by
    have z := hc .z
    have n := hc .n
    have e := hc .e
    revert z n e
    unfold WaveStore.chan
    cases v.chans
    cases w.chans
    exact fun z n e => by simp_all [Tri.get]
  rw [← h, ← pages, ← chans]

@[simp] theorem freshStore_page (q : PageId) : (freshStore on array p due).page q = freshPage on q := by
  simp [freshStore, WaveStore.page]

@[simp] theorem freshStore_chan (c : Channel) : (freshStore on array p due).chan c = freshChannel (on c) c := by
  cases c <;> rfl

theorem resetStore_fresh : resetStore array p = freshStore (fun _ => false) array p none := by
  refine WaveStore.ext_of (fun q => ?_) (fun c => ?_) rfl
  · rw [freshStore_page]
    simp [resetStore, WaveStore.page, freshPage]
  · rw [freshStore_chan]
    cases c <;> rfl

theorem homeOf_home (c : Channel) : homeOf (homePage c) = some c := by cases c <;> rfl

theorem homePage_of_homeOf {q : PageId} {c : Channel} (h : homeOf q = some c) : homePage c = q := by
  simpa using List.find?_some h

theorem freshPage_home (c : Channel) : freshPage on (homePage c) = if on c then ⟨.ring c, true, none, 0, 0, false⟩ else freePage := by
  unfold freshPage
  rw [homeOf_home]
  cases h : on c <;> simp [Option.filter, h]

theorem freshPage_other {q : PageId} (h : homeOf q = none) : freshPage on q = freePage := by
  unfold freshPage
  rw [h]
  rfl

theorem freshPage_of_ne {c : Channel} {b : Bool} {q : PageId} (h : q ≠ homePage c) :
    freshPage (Function.update on c b) q = freshPage on q := by
  unfold freshPage
  cases hq : homeOf q with
  | none => rfl
  | some k =>
    have other : k ≠ c := fun e => h (by rw [← homePage_of_homeOf hq, e])
    simp [Option.filter, Function.update_of_ne other]

/-! ## A channel that joins or leaves -/

/-- A free home that no free page stands before is the page of the next ring's need. -/
theorem freshStore_lowestFree {c : Channel} (hc : on c = false) (below : ∀ q, q < homePage c → ∃ k, on k = true ∧ homePage k = q) :
    (freshStore on array p due).lowestFree = some (homePage c) := by
  refine WaveStore.lowestFree_eq ⟨?_, fun q hq => ?_⟩
  · show ((freshStore on array p due).page (homePage c)).state = .free
    rw [freshStore_page, freshPage_home, hc]
    rfl
  · obtain ⟨k, hk, rfl⟩ := below q hq
    show ((freshStore on array p due).page (homePage k)).state ≠ .free
    rw [freshStore_page, freshPage_home, hk]
    simp

/-- A channel that joins a reset's store takes its home page. -/
theorem storeJoin_fresh {s : State} {c : Channel} (hs : s.ws = freshStore on array p due) (hc : on c = false)
    (below : ∀ q, q < homePage c → ∃ k, on k = true ∧ homePage k = q) :
    storeJoin c s = { s with ws := freshStore (Function.update on c true) array p due } := by
  have free : ((s.modWs fun w => w.modChan c fun ch => { ch with route := .ring, ring := [], filling := none, pair := none }).ws).lowestFree =
      some (homePage c) := by
    have same : (s.modWs fun w => w.modChan c fun ch => { ch with route := .ring, ring := [], filling := none, pair := none }).ws.lowestFree =
        s.ws.lowestFree := rfl
    rw [same, hs, freshStore_lowestFree hc below]
  have store : ((s.ws.modChan c fun ch => { ch with route := .ring, ring := [], filling := none, pair := none }).allocate (homePage c)
      (.ring c)).modChan c (fun ch => { ch with route := .ring, filling := some (homePage c) }) =
      freshStore (Function.update on c true) array p due := by
    rw [hs]
    refine WaveStore.ext_of (fun q => ?_) (fun k => ?_) ?_
    · rw [freshStore_page, WaveStore.page_modChan, WaveStore.allocate, WaveStore.page_modPage]
      by_cases hq : q = homePage c
      · rw [if_pos hq, hq, WaveStore.page_modChan, freshStore_page, freshPage_home, freshPage_home, hc, Function.update_self]
        rfl
      · rw [if_neg hq, WaveStore.page_modChan, freshStore_page, freshPage_of_ne hq]
    · rw [freshStore_chan]
      by_cases hk : k = c
      · rw [hk, WaveStore.chan_modChan_same, WaveStore.allocate, WaveStore.chan_modPage, WaveStore.chan_modChan_same, freshStore_chan, hc,
          Function.update_self]
        rfl
      · rw [WaveStore.chan_modChan_of_ne _ _ _ _ hk, WaveStore.allocate, WaveStore.chan_modPage, WaveStore.chan_modChan_of_ne _ _ _ _ hk,
          freshStore_chan, Function.update_of_ne hk]
    · rfl
  unfold storeJoin
  rw [ringNeed_of_free free]
  unfold State.ringTakes
  simp only [State.modWs, store]

/-- A channel that leaves a reset's store gives its home page back. -/
theorem storeLeave_fresh {c : Channel} (hc : on c = true) :
    storeLeave c (freshStore on array p due) = freshStore (Function.update on c false) array p due := by
  have chan : (freshStore on array p due).chan c = ⟨.ring, [], some (homePage c), none, 0⟩ := by
    rw [freshStore_chan, hc]
    rfl
  have flush : (freshStore on array p due).flushPair c = freshStore on array p due := by
    unfold WaveStore.flushPair
    rw [chan]
  have close : (freshStore on array p due).closeFilling c =
      ((freshStore on array p due).modPage (homePage c) fun g => { g with filling := false }).modChan c
        fun _ => ⟨.ring, [homePage c], none, none, 0⟩ := by
    unfold WaveStore.closeFilling
    rw [chan]
    dsimp only
    rw [flush]
    unfold WaveStore.modChan
    rw [WaveStore.chan_modPage, chan]
    rfl
  unfold storeLeave
  rw [chan]
  dsimp only
  rw [close, WaveStore.chan_modChan_same]
  refine WaveStore.ext_of (fun q => ?_) (fun k => ?_) ?_
  · rw [freshStore_page, WaveStore.page_modChan]
    show (WaveStore.release _ (homePage c)).page q = _
    rw [WaveStore.release, WaveStore.page_modPage]
    by_cases hq : q = homePage c
    · rw [if_pos hq, hq, WaveStore.page_modChan, WaveStore.page_modPage_same, freshStore_page, freshPage_home, freshPage_home, hc,
        Function.update_self]
      rfl
    · rw [if_neg hq, WaveStore.page_modChan, WaveStore.page_modPage_of_ne _ _ _ _ hq, freshStore_page, freshPage_of_ne hq]
  · rw [freshStore_chan]
    by_cases hk : k = c
    · rw [hk, WaveStore.chan_modChan_same, Function.update_self]
      show ({ (WaveStore.release _ (homePage c)).chan c with route := .off, ring := [], filling := none, pair := none } : StoreChannel) = _
      rw [WaveStore.release, WaveStore.chan_modPage, WaveStore.chan_modChan_same]
      rfl
    · rw [WaveStore.chan_modChan_of_ne _ _ _ _ hk, Function.update_of_ne hk]
      show (WaveStore.release _ (homePage c)).chan k = _
      rw [WaveStore.release, WaveStore.chan_modPage, WaveStore.chan_modChan_of_ne _ _ _ _ hk, WaveStore.chan_modPage, freshStore_chan]
  · rfl

/-! ## The start of the store -/

/-- The patrol timer of a fresh patrol (R89). -/
def State.patrolAt (s : State) (interval : Nat) : Option Nat :=
  if interval ≠ 0 ∧ (s.pt.tier = .full ∨ s.pt.tier = .conserve) then some (s.clk.mainRun + interval * 40000000) else none

theorem freshStore_congr {f g : Channel → Bool} (h : ∀ c, f c = g c) : freshStore f array p due = freshStore g array p due := by
  rw [funext h]

theorem storeJoin_first {s : State} (hs : s.ws = freshStore (fun _ => false) array p due) :
    storeJoin .z s = { s with ws := freshStore (fun c => c = .z) array p due } := by
  rw [storeJoin_fresh hs rfl fun q hq => absurd (Fin.lt_def.mp hq) (Nat.not_lt_zero _),
    freshStore_congr (g := fun c => c = .z) fun c => by cases c <;> rfl]

/-- N and E join behind Z. -/
theorem storeJoin_rest {s : State} (hs : s.ws = freshStore (fun c => c = .z) array p due) :
    storeJoin .e (storeJoin .n s) = { s with ws := freshStore (fun _ => true) array p due } := by
  obtain ⟨t, ht⟩ : ∃ t, t = storeJoin .n s := ⟨_, rfl⟩
  have first := ht.trans (storeJoin_fresh hs (c := .n) rfl fun q hq => ⟨.z, rfl, by
    have below : q.val < 1 := Fin.lt_def.mp hq
    exact Fin.ext (Nat.lt_one_iff.mp below).symm⟩)
  have ws : t.ws = freshStore (Function.update (fun c => decide (c = .z)) .n true) array p due := by rw [first]
  have second := storeJoin_fresh ws (c := .e) rfl fun q hq => by
    have below : q.val < 2 := Fin.lt_def.mp hq
    by_cases zero : q.val = 0
    · exact ⟨.z, rfl, Fin.ext zero.symm⟩
    · exact ⟨.n, rfl, Fin.ext (show 1 = q.val by omega)⟩
  rw [freshStore_congr (g := fun _ => true) fun c => by cases c <;> rfl] at second
  rw [← ht, second, first]

/-- The rings of the enabled channels start on their home pages (R71, R80). -/
theorem startStore_fresh {s : State} (hs : s.ws = resetStore array p) :
    startStore s = { s with ws := freshStore (enabledIn s.pt.tier) array p (s.patrolAt p.interval) } := by
  have joined : (enabledChannels s.pt.tier).foldl (fun s c => storeJoin c s) s =
      { s with ws := freshStore (enabledIn s.pt.tier) array p none } := by
    rw [resetStore_fresh] at hs
    have first := storeJoin_first hs
    have all : storeJoin .e (storeJoin .n (storeJoin .z s)) = { s with ws := freshStore (fun _ => true) array p none } := by
      obtain ⟨t, ht⟩ : ∃ t, t = storeJoin .z s := ⟨_, rfl⟩
      have ws : t.ws = freshStore (fun c => c = .z) array p none := by rw [ht, first]
      rw [← ht, storeJoin_rest ws, ht, first]
    cases ht : s.pt.tier with
    | hibernate =>
      have list : enabledChannels .hibernate = [] := rfl
      rw [freshStore_congr (f := enabledIn .hibernate) (g := fun _ => false) fun c => by cases c <;> rfl, ← hs, list, List.foldl_nil]
    | survive =>
      have list : enabledChannels .survive = [.z] := rfl
      rw [freshStore_congr (f := enabledIn .survive) (g := fun c => c = .z) fun c => by cases c <;> rfl, list, List.foldl_cons,
        List.foldl_nil, first]
    | full =>
      have list : enabledChannels .full = [.z, .n, .e] := rfl
      rw [freshStore_congr (f := enabledIn .full) (g := fun _ => true) fun c => by cases c <;> rfl, list, List.foldl_cons,
        List.foldl_cons, List.foldl_cons, List.foldl_nil, all]
    | conserve =>
      have list : enabledChannels .conserve = [.z, .n, .e] := rfl
      rw [freshStore_congr (f := enabledIn .conserve) (g := fun _ => true) fun c => by cases c <;> rfl, list, List.foldl_cons,
        List.foldl_cons, List.foldl_cons, List.foldl_nil, all]
  unfold startStore
  rw [joined, freshPatrol_eq]
  unfold State.patrolAt
  rfl

/-- The store of a reset, read page by page and channel by channel. -/
theorem freshStore_reads :
    (∀ c q, (c, q) ∈ [(Channel.z, (0 : PageId)), (.n, 1), (.e, 2)] →
      (freshStore on array p due).chans.get c = (if on c then ⟨.ring, [], some q, none, 0⟩ else ⟨.off, [], none, none, 0⟩) ∧
        (freshStore on array p due).pages.get q =
          (if on c then ⟨.ring c, true, none, 0, 0, false⟩ else ⟨.free, false, none, 0, 0, false⟩)) ∧
      ∀ q : PageId, 3 ≤ q.val → (freshStore on array p due).pages.get q = ⟨.free, false, none, 0, 0, false⟩ := by
  refine ⟨fun c q hq => ?_, fun q hq => ?_⟩
  · have home : q = homePage c := by
      simp only [List.mem_cons, Prod.mk.injEq, List.not_mem_nil, or_false] at hq
      obtain ⟨rfl, rfl⟩ | ⟨rfl, rfl⟩ | ⟨rfl, rfl⟩ := hq <;> rfl
    subst home
    exact ⟨freshStore_chan c, (freshStore_page _).trans (freshPage_home c)⟩
  · refine (freshStore_page q).trans (freshPage_other ?_)
    cases h : homeOf q with
    | none => rfl
    | some c =>
      have home := homePage_of_homeOf h
      cases c <;> subst home <;> simp [homePage] at hq

end

end Sys2Proof.Machine

/-! PROOFS. What a decision of the heater leaves of the trigger unit and the event table outside an event, and the readings and the
charge of the scan of a reset (R139, R140, R144 to R148, R152). -/

namespace Sys2Proof.Machine

section

variable {s : State}

/-! ## A decision outside an event -/

/-- A decision that changes the heater's state is a switch. -/
theorem heaterDecide_of_change (h : (heaterDecide false s).hc.state ≠ s.hc.state) :
    heaterDecide false s = (switchHeater s.aim { s with hc := s.judged }).modHc fun h => { h with change := none } := by
  have hf : s.hc.state ≠ .fault := fun hf => h (by rw [heaterDecide_fault hf]; rfl)
  have ha : s.aim ≠ s.hc.state := fun ha => h (by rw [heaterDecide_same hf ha]; rfl)
  have hi : s.switchesNow = true := by
    by_contra hi
    exact h (by rw [heaterDecide_defer_hc hf ha hi]; rfl)
  exact heaterDecide_switch hf ha hi

/-- The quiet window that a switch starts (R53). -/
theorem heaterDecide_tu_eq :
    (heaterDecide false s).tu =
      { s.tu with
        quietEnd :=
          if (s.tb.clock = .main ∧ (heaterDecide false s).hc.state ≠ s.hc.state) ∧ s.tu.params.quietWindow ≠ 0 then
            some ((s.tu.delivery + s.tu.params.quietWindow * 100) % 4294967296)
          else s.tu.quietEnd } := by
  by_cases hs : (heaterDecide false s).hc.state = s.hc.state
  · rw [heaterDecide_tu_of_state hs, if_neg (fun h => h.1.2 hs)]
  rw [if_congr (show _ ↔ s.tb.clock = .main ∧ s.tu.params.quietWindow ≠ 0 from by simp [hs]) rfl rfl]
  rw [heaterDecide_of_change hs]
  by_cases hm : s.tb.clock = .main
  · rw [switchHeater_running (s := { s with hc := s.judged }) hm]
    by_cases hq : s.tu.params.quietWindow = 0 <;> simp [State.modHc, hm, hq]
  · rw [switchHeater_stopped (s := { s with hc := s.judged }) (decide_eq_false hm)]
    simp [State.modHc, hm]

theorem heaterDecide_et_of_none (h : s.tu.current = none) : (heaterDecide false s).et = s.et := by
  by_cases hs : (heaterDecide false s).hc.state = s.hc.state
  · rw [heaterDecide_eq_of_state hs]
  rw [heaterDecide_of_change hs]
  by_cases hm : s.tb.clock = .main
  · rw [switchHeater_running (s := { s with hc := s.judged }) hm]
    simp [State.modHc, h]
  · rw [switchHeater_stopped (s := { s with hc := s.judged }) (decide_eq_false hm)]
    rfl

/-- Outside an event no decision defers a change (R161). -/
theorem heaterDecide_change_of_idle (h : eventInProgress s = false) (hc : s.hc.change = none) :
    (heaterDecide false s).hc.change = none := by
  by_cases hf : s.hc.state = .fault
  · rw [heaterDecide_fault hf]
    exact hc
  by_cases ha : s.aim = s.hc.state
  · rw [heaterDecide_same hf ha]
  · rw [heaterDecide_switch_hc hf ha (by simp [State.switchesNow, h])]

end

/-! ## The scan of a reset -/

/-- A reading of the scan of a reset (R139, R140). -/
def firstReading (c : Calibration) (lo hi : Int) (v : Fin 4096) : Reading :=
  if 0 < v.val ∧ v.val < 4095 then ⟨some (max lo (min (((v.val : Int) - c.offset) * c.gain / 4096) hi)), true, 0⟩
  else ⟨none, false, 1⟩

theorem scanReading_first (c : Calibration) (lo hi : Int) (v : Fin 4096) :
    scanReading c lo hi v.val noReading = firstReading c lo hi v := scanReading_eq _ _ _ _ _

/-- The readings of the scan of a reset. -/
def firstReadings (cal : Six Calibration) (raw : RawScan) : Six Reading :=
  { vbat := firstReading cal.vbat 0 65535 raw.vbat, ibat := firstReading cal.ibat (-32768) 32767 raw.ibat
    tbat := firstReading cal.tbat (-600) 1000 raw.tbat, tenc := firstReading cal.tenc (-600) 1000 raw.tenc
    vsrc := firstReading cal.vsrc 0 65535 raw.vsrc, ihtr := firstReading cal.ihtr (-32768) 32767 raw.ihtr }

theorem scanReadings_first (cal : Six Calibration) (raw : RawScan) : scanReadings cal raw noReadings = firstReadings cal raw := by
  unfold scanReadings firstReadings noReadings
  simp only [scanReading_first]

theorem Reading.val_eq_some {r : Reading} {v : Int} : r.val = some v ↔ r.valid = true ∧ r.value = some v := by
  unfold Reading.val
  cases r.valid <;> simp

theorem showsFull_iff {l : BatteryLimits} {r : Six Reading} :
    showsFull l r.vbat.val r.ibat.val = true ↔
      ∃ v i, r.vbat.valid = true ∧ r.vbat.value = some v ∧ r.ibat.valid = true ∧ r.ibat.value = some i ∧
        (l.vFull : Int) ≤ v ∧ 0 < i ∧ i ≤ l.iTaper := by
  have shows : showsFull l r.vbat.val r.ibat.val = true ↔
      ∃ v i, r.vbat.val = some v ∧ r.ibat.val = some i ∧ (l.vFull : Int) ≤ v ∧ 0 < i ∧ i ≤ l.iTaper := by
    unfold showsFull
    cases r.vbat.val <;> cases r.ibat.val <;> simp [and_assoc]
  simp only [shows, Reading.val_eq_some, and_assoc]

theorem showsEmpty_iff {l : BatteryLimits} {r : Six Reading} :
    showsEmpty l r.vbat.val = true ↔ ∃ v, r.vbat.valid = true ∧ r.vbat.value = some v ∧ v ≤ l.vEmpty := by
  have shows : showsEmpty l r.vbat.val = true ↔ ∃ v, r.vbat.val = some v ∧ v ≤ l.vEmpty := by
    unfold showsEmpty
    cases r.vbat.val <;> simp
  simp only [shows, Reading.val_eq_some, and_assoc]

/-- The charge unit after the scan of a reset: both resync runs start at 0, so that none resyncs, and the switch follows the readings. -/
theorem resyncStep_first {now : Time} {r : Six Reading} {c u : ChargeUnit} (hf : c.fullRun = 0) (he : c.emptyRun = 0)
    (hu : u = { resyncStep now r c with chargeOn := chargeAllowed (resyncStep now r c) r }) :
    u = { c with fullRun := u.fullRun, emptyRun := u.emptyRun, chargeOn := u.chargeOn } ∧ u.fullRun ≤ 1 ∧ u.emptyRun ≤ 1 ∧
      (u.fullRun = 1 ↔ showsFull c.limits r.vbat.val r.ibat.val = true) ∧ (u.emptyRun = 1 ↔ showsEmpty c.limits r.vbat.val = true) ∧
      (u.chargeOn = true ↔ chargeAllowed c r = true) := by
  have step := resyncStep_below (now := now) (r := r) (c := c) (by omega) (by omega)
  have allowed : chargeAllowed (resyncStep now r c) r = chargeAllowed c r := by rw [step]; rfl
  rw [allowed, step] at hu
  subst hu
  rw [hf, he]
  refine ⟨rfl, ?_, ?_, ?_, ?_, Iff.rfl⟩
  all_goals dsimp only
  all_goals split <;> simp_all

end Sys2Proof.Machine

/-! PROOFS. Power-on sets every block (R23, R44, R45, R71, R93, R111, R137, R152, R153, R167, R184, R198, R199; O54). -/

namespace Sys2Proof.Machine

section

variable {s : State} {raw : RawScan}

/-! ## The scan of power-on -/

theorem bootScanned_fields {u : State} (hu : u = bootScanned raw s) {x : Settings} (hx : x = loadedSettings s.sm) :
    u.powered = true ∧ u.clk = ⟨⟨0, 0⟩, 0, ⟨0, 0⟩, 0, 0⟩ ∧ u.tb = bootTimeBase x.drift ∧ u.hc = resetHeater x.heater ∧
      u.pt = bootPower x.tier ∧
      u.hm = { readings := firstReadings x.cal raw, cal := x.cal, scanDue := 0, interval := 1, scanCount := 1 } ∧
      u.ws = s.ws ∧ u.sm = s.sm ∧
      ∃ now, ∃ c, c = startCharge (firstReadings x.cal raw).vbat.val (bootCharge x) ∧
        u.ca = { resyncStep now (firstReadings x.cal raw) c with
          chargeOn := chargeAllowed (resyncStep now (firstReadings x.cal raw) c) (firstReadings x.cal raw) } := by
  have readings := scanReadings_first x.cal raw
  subst hx
  rw [← readings, hu]
  exact ⟨rfl, rfl, rfl, rfl, rfl, rfl, rfl, rfl, _, _, rfl, rfl⟩

/-- The charge after the scan of power-on, before its resync runs (R144, R146, R152). -/
theorem startCharge_fields {x : Settings} {v : Option Int} {c : ChargeUnit} (hc : c = startCharge v (bootCharge x)) :
    c.limits = x.limits ∧ c.table = x.table ∧ c.estimated = true ∧ c.fullLatch = false ∧ c.uncounted = 0 ∧ c.lastFull = none ∧
      c.lastEmpty = none ∧ c.fullRun = 0 ∧ c.emptyRun = 0 ∧
      (∀ y, v = some y → c.q = estimateSoc x.table y * (x.limits.capacityMah * 3600 : Nat) / 1000 ∧ c.estimateMark = false) ∧
      (v = none → c.q = (x.limits.capacityMah * 3600 / 2 : Nat) ∧ c.estimateMark = true) ∧
      c.soc = (c.q * 1000 / (x.limits.capacityMah * 3600 : Nat)).toNat := by
  subst hc
  cases v with
  | none => exact ⟨rfl, rfl, rfl, rfl, rfl, rfl, rfl, rfl, rfl, fun _ h => by simp at h, fun _ => ⟨rfl, rfl⟩, rfl⟩
  | some y =>
    refine ⟨rfl, rfl, rfl, rfl, rfl, rfl, rfl, rfl, rfl, fun z h => ?_, fun h => by simp at h, rfl⟩
    obtain rfl := Option.some.inj h
    exact ⟨rfl, rfl⟩

/-- The first tier (R168, R184). -/
theorem bootTier_eq {u : State} :
    bootTier u =
      if u.hm.readings.vbat.valid = true ∧ (∃ v, u.hm.readings.vbat.value = some v ∧ v ≤ u.pt.params.vCut) then .hibernate
      else if u.pt.params.conserveBelow ≤ u.ca.soc then .full
      else if u.pt.params.surviveBelow ≤ u.ca.soc then .conserve
      else if u.pt.params.hibernateBelow ≤ u.ca.soc then .survive
      else .hibernate := by
  have forced : cutForced u = true ↔
      u.hm.readings.vbat.valid = true ∧ ∃ v, u.hm.readings.vbat.value = some v ∧ v ≤ u.pt.params.vCut := by
    unfold cutForced Reading.val
    cases u.hm.readings.vbat.valid <;> cases u.hm.readings.vbat.value <;> simp
  unfold bootTier bandOf
  exact if_congr forced rfl rfl

/-- The first alert of a reset: the queue's one entry, under the id 1 (R111). -/
theorem offerAlert_first {b : State} {j : Subject} {q : UplinkParams} {time : Time} (hal : b.al = resetAlerts q time)
    (het : b.et = resetEvents) :
    offerAlert .pwr j b =
      { b with al := { resetAlerts q time with queue := [⟨1, .pwr, j, b.now, [], false, 0⟩], idCounter := 2 } } := by
  have create : offerAlert .pwr j b = createEntry .pwr j [] b := by
    unfold offerAlert
    rw [hal]
    rfl
  have same : ({ b with et := resetEvents } : State) = b := by rw [← het]
  have none : alertWritten j .queued .pwr [] = [] := by cases j <;> rfl
  rw [create, createEntry_room _ _ _ (by rw [hal]; exact Nat.zero_lt_succ _)]
  unfold newEntry nextId
  rw [hal, het]
  show ({ b with al := _, et := { resetEvents with records := alertWritten j .queued .pwr [] } } : State) = _
  rw [none, ← same]
  rfl

/-- The store and the alert scheduler of a reset start (R71, R111). -/
theorem startStore_announced {b : State} {j : Subject} {q : UplinkParams} {time : Time} {array : PageArray} {p : StoreParams}
    (hws : b.ws = resetStore array p) (hal : b.al = resetAlerts q time) (het : b.et = resetEvents) :
    offerAlert .pwr j (startStore b) =
      { b with
        ws := freshStore (enabledIn b.pt.tier) array p (b.patrolAt p.interval)
        al := { resetAlerts q time with queue := [⟨1, .pwr, j, b.now, [], false, 0⟩], idCounter := 2 } } := by
  have store := startStore_fresh hws
  obtain ⟨c, hc⟩ : ∃ c, c = startStore b := ⟨_, rfl⟩
  rw [← hc] at store ⊢
  rw [offerAlert_first (b := c) (by rw [store]; exact hal) (by rw [store]; exact het), store]
  rfl

/-! ## The blocks of power-on -/

/-- The state of power-on when its blocks are set, before HC decides. -/
def State.booted (s : State) (raw : RawScan) : State :=
  let u := bootScanned raw s
  let t := bootTier u
  let x := loadedSettings s.sm
  { u with
    si := resetSample, fe := resetFilter x.filters, tu := resetTrigger x.detect t
    ws := freshStore (enabledIn t) s.ws.array x.store
      (if x.store.interval ≠ 0 ∧ (t = .full ∨ t = .conserve) then some (x.store.interval * 40000000) else none)
    et := resetEvents
    al := { resetAlerts x.uplink ⟨0, 0⟩ with queue := [⟨1, .pwr, .tier t, ⟨0, 0⟩, [], false, 0⟩], idCounter := 2 }
    pt := { bootPower x.tier with
      tier := t, host := bootHost t, silenceFrom := if (bootHost t).isOn then some 0 else none, enSens := t != .hibernate }
    sl := resetLink, sm := loadMemory s.sm }

theorem powerOn_eq :
    powerOn raw s =
      endScan 0 (gaspCheck (syncModem
        (if bootTier (bootScanned raw s) = .hibernate then enterHibernate (heaterDecide false (s.booted raw))
        else heaterDecide false (s.booted raw)))) := by
  obtain ⟨u, hu⟩ : ∃ u, u = bootScanned raw s := ⟨_, rfl⟩
  obtain ⟨powered, clk, tb, hc, pt, hm, ws, sm, -⟩ := bootScanned_fields hu rfl
  obtain ⟨t, ht⟩ : ∃ t, t = bootTier u := ⟨_, rfl⟩
  obtain ⟨b, hb⟩ : ∃ b, b = bootRails t { resetBlocks (loadedSettings s.sm) t u with hm := u.hm } := ⟨_, rfl⟩
  have rails : b = { resetBlocks (loadedSettings s.sm) t u with
      hm := u.hm
      pt := { bootPower (loadedSettings s.sm).tier with
        tier := t, host := bootHost t, silenceFrom := if (bootHost t).isOn then some 0 else none, enSens := t != .hibernate } } := by
    have now : State.now { resetBlocks (loadedSettings s.sm) t u with hm := u.hm } = ⟨0, 0⟩ := by
      show (if u.tb.clock = .main then u.clk.time else u.clk.watch.toTime) = _
      rw [clk, tb]
      rfl
    rw [hb, bootRails_eq, now]
    simp only [State.modPt, resetBlocks, pt]
    cases t <;> simp [setHostRail, hostRailOn, bootPower, bootHost, HostRail.isOn, State.modPt, State.modSl, resetLink, clk]
  have now : u.now = ⟨0, 0⟩ := by
    unfold State.now
    rw [clk, tb]
    rfl
  have patrol : b.patrolAt (loadedSettings s.sm).store.interval =
      if (loadedSettings s.sm).store.interval ≠ 0 ∧ (t = .full ∨ t = .conserve) then
        some ((loadedSettings s.sm).store.interval * 40000000)
      else none := by
    have run : b.clk.mainRun = 0 := by rw [rails]; exact congrArg Clocks.mainRun clk
    have tier : b.pt.tier = t := by rw [rails]
    unfold State.patrolAt
    rw [run, tier, Nat.zero_add]
  have offered : offerAlert .pwr (.tier t) (startStore b) = s.booted raw := by
    have nowB : b.now = ⟨0, 0⟩ := by
      rw [rails]
      exact now
    rw [startStore_announced (array := s.ws.array) (p := (loadedSettings s.sm).store) (q := (loadedSettings s.sm).uplink) (time := ⟨0, 0⟩)
      (by rw [rails, ← ws]; rfl) (by rw [rails, ← now]; rfl) (by rw [rails]; rfl), patrol, nowB, rails]
    unfold State.booted
    dsimp only
    rw [← hu, ← ht]
    unfold resetBlocks
    rw [sm]
  have test : lowCurrentTest (s.booted raw) = s.booted raw := by
    have off : (s.booted raw).hc = resetHeater (loadedSettings s.sm).heater := (congrArg State.hc hu).symm.trans hc
    rw [lowCurrentTest_clear (.inl (by rw [off]; simp [resetHeater]))]
    have same : (s.booted raw).hc = { (s.booted raw).hc with lowRun := 0 } := by rw [off]; rfl
    rw [State.modHc, ← same]
  unfold powerOn
  dsimp only
  rw [← hu, ← ht, ← hb, offered, test]

end

end Sys2Proof.Machine

/-! PROOFS. What power-on leaves in every block, whole (O54). -/

namespace Sys2Proof.Machine

section

variable {s t b : State} {raw : RawScan} {tier : Tier}

/-- The fields of the booted state that the rest of power-on reads. -/
theorem booted_fields (hb : b = s.booted raw) (hu : tier = bootTier (bootScanned raw s)) {x : Settings} (hx : x = loadedSettings s.sm) :
    b.powered = true ∧ b.clk = ⟨⟨0, 0⟩, 0, ⟨0, 0⟩, 0, 0⟩ ∧ b.tb = bootTimeBase x.drift ∧ b.si = resetSample ∧
      b.tu = resetTrigger x.detect tier ∧ b.hc = resetHeater x.heater ∧
      b.pt = { bootPower x.tier with
        tier := tier, host := bootHost tier, silenceFrom := if (bootHost tier).isOn then some 0 else none, enSens := tier != .hibernate } ∧
      b.al = { resetAlerts x.uplink ⟨0, 0⟩ with queue := [⟨1, .pwr, .tier tier, ⟨0, 0⟩, [], false, 0⟩], idCounter := 2 } ∧
      b.hm = { readings := firstReadings x.cal raw, cal := x.cal, scanDue := 0, interval := 1, scanCount := 1 } ∧
      b.sm = loadMemory s.sm := by
  obtain ⟨u, hu'⟩ : ∃ u, u = bootScanned raw s := ⟨_, rfl⟩
  obtain ⟨powered, clk, tb, hc, pt, hm, ws, sm, -⟩ := bootScanned_fields hu' hx
  subst hx
  rw [hb, hu]
  unfold State.booted
  dsimp only
  rw [← hu']
  exact ⟨powered, clk, tb, rfl, rfl, hc, rfl, rfl, hm, rfl⟩

/-- After the blocks are set, power-on is HC's decision, the entry to HIBERNATE, the modem rail's demand, and the scan's end. -/
theorem powerOn_ends (ht : t = powerOn raw s) (hb : b = s.booted raw) (hu : tier = bootTier (bootScanned raw s)) :
    t = endScan 0 (syncModem (if tier = .hibernate then enterHibernate (heaterDecide false b) else heaterDecide false b)) := by
  obtain ⟨-, clk, -, -, -, -, pt, al, -, sm⟩ := booted_fields hb hu rfl
  rw [ht, powerOn_eq, ← hb, ← hu]
  by_cases hib : tier = .hibernate
  · rw [if_pos hib]
    refine congrArg (endScan 0) (gaspCheck_stays (.inr (.inr (.inr ⟨3932160, ?_, ?_, ⟨1, .pwr, .tier tier, ⟨0, 0⟩, [], false, 0⟩, ?_, rfl, ?_⟩))))
    · rw [syncModem_gasp]
      show some ((heaterDecide false b).clk.watchRun + gaspTicks) = _
      rw [heaterDecide_clk, clk]
      rfl
    · rw [syncModem_clk]
      show (heaterDecide false b).clk.watchRun < _
      rw [heaterDecide_clk, clk]
      decide
    · rw [syncModem_al]
      show _ ∈ (heaterDecide false b).al.queue
      rw [heaterDecide_al, al]
      exact List.mem_singleton_self _
    · rw [hib]
  · rw [if_neg hib, gaspCheck_of_none]
    rw [syncModem_gasp, heaterDecide_pt, pt]
    rfl

/-- What the end of power-on makes of each block. -/
theorem powerOn_blocks (ht : t = powerOn raw s) (hb : b = s.booted raw) (hu : tier = bootTier (bootScanned raw s)) :
    t.powered = b.powered ∧ t.clk = b.clk ∧ t.tb = b.tb ∧ t.si = (heaterDecide false b).si ∧ t.fe = b.fe ∧
      t.tu = { (heaterDecide false b).tu with quietEnd := if tier = .hibernate then none else (heaterDecide false b).tu.quietEnd } ∧
      t.ws = b.ws ∧ t.et = b.et ∧ t.al = b.al ∧
      t.hm = { b.hm with interval := if tier = .hibernate then 60 else 1, scanDue := (if tier = .hibernate then 60 else 1) * 32768 } ∧
      t.ca = b.ca ∧ t.hc = (heaterDecide false b).hc ∧
      t.pt = { b.pt with
        gasp := if tier = .hibernate then some 3932160 else none, enModem := t.pt.enModem, modemOnAt := t.pt.modemOnAt } ∧
      (t.pt.enModem = true ↔ tier = .full ∨ tier = .hibernate) ∧ t.sl = b.sl ∧ t.sm = b.sm := by
  obtain ⟨-, clk, -, -, -, -, pt, al, -, -⟩ := booted_fields hb hu rfl
  have ends := powerOn_ends ht hb hu
  have et : (heaterDecide false b).et = b.et := heaterDecide_et_of_none (by
    obtain ⟨-, -, -, -, tu, -⟩ := booted_fields hb hu rfl
    rw [tu]
    rfl)
  obtain ⟨y, hy⟩ : ∃ y, y =
      if tier = .hibernate then enterHibernate (heaterDecide false b) else heaterDecide false b := ⟨_, rfl⟩
  have fields : y = { heaterDecide false b with
      tu := { (heaterDecide false b).tu with quietEnd := if tier = .hibernate then none else (heaterDecide false b).tu.quietEnd }
      pt := { b.pt with gasp := if tier = .hibernate then some 3932160 else none } } := by
    have gasp : (heaterDecide false b).clk.watchRun = 0 := by rw [heaterDecide_clk, clk]
    have ptB : (heaterDecide false b).pt = b.pt := heaterDecide_pt b false
    by_cases hib : tier = .hibernate
    · rw [hy, if_pos hib, if_pos hib, if_pos hib, ← ptB]
      unfold enterHibernate
      rw [gasp]
      rfl
    · have none : b.pt.gasp = none := by rw [pt]; rfl
      rw [hy, if_neg hib, if_neg hib, if_neg hib, ← none, ← ptB]
  obtain ⟨demand, hd⟩ : ∃ demand, modemDemand y = demand := ⟨_, rfl⟩
  have asks : demand = true ↔ tier = .full ∨ tier = .hibernate := by
    rw [← hd, modemDemand_iff, fields, pt]
    dsimp only
    rw [heaterDecide_al, al]
    cases tier <;> simp [resetAlerts]
  rw [← hy, syncModem_eq hd, fields] at ends
  have tierB : b.pt.tier = tier := by rw [pt]
  have interval : scanInterval b.pt.tier = if tier = .hibernate then 60 else 1 := by rw [tierB]; rfl
  rw [ends]
  refine ⟨heaterDecide_powered b false, heaterDecide_clk b false, heaterDecide_tb b false, rfl, heaterDecide_fe b false, rfl,
    heaterDecide_ws b false, et, heaterDecide_al b false, ?_, heaterDecide_ca b false, rfl, rfl, asks, heaterDecide_sl b false,
    heaterDecide_sm b false⟩
  show ({ (heaterDecide false b).hm with
    interval := scanInterval b.pt.tier, scanDue := 0 + scanInterval b.pt.tier * ticksPerSec } : Housekeeping) = _
  rw [heaterDecide_hm, interval, Nat.zero_add]
  rfl

/-- The charge of power-on (R144 to R148, R152). -/
theorem powerOn_charge {u : State} (hu : u = bootScanned raw s) {x : Settings} (hx : x = loadedSettings s.sm) {c : ChargeUnit}
    {r : Six Reading} (hc : c = u.ca) (hr : r = firstReadings x.cal raw) :
    c.limits = x.limits ∧ c.table = x.table ∧ c.estimated = true ∧ c.fullLatch = false ∧ c.uncounted = 0 ∧ c.lastFull = none ∧
      c.lastEmpty = none ∧ c.fullRun ≤ 1 ∧ c.emptyRun ≤ 1 ∧
      (c.fullRun = 1 ↔
        ∃ v i, r.vbat.valid = true ∧ r.vbat.value = some v ∧ r.ibat.valid = true ∧ r.ibat.value = some i ∧
          x.limits.vFull ≤ v ∧ 0 < i ∧ i ≤ x.limits.iTaper) ∧
      (c.emptyRun = 1 ↔ ∃ v, r.vbat.valid = true ∧ r.vbat.value = some v ∧ v ≤ x.limits.vEmpty) ∧
      (c.chargeOn = true ↔
        (∃ v, r.vsrc.valid = true ∧ r.vsrc.value = some v ∧ x.limits.vSrcMin ≤ v) ∧
          ∃ v, r.tbat.valid = true ∧ r.tbat.value = some v ∧ x.limits.chgTmin ≤ v ∧ v ≤ x.limits.chgTmax) ∧
      (∀ v, r.vbat.valid = true → r.vbat.value = some v →
        c.q = estimateSoc x.table v * (x.limits.capacityMah * 3600 : Nat) / 1000 ∧ c.estimateMark = false) ∧
      (r.vbat.valid = false → c.q = (x.limits.capacityMah * 3600 / 2 : Nat) ∧ c.estimateMark = true) ∧
      c.soc = (c.q * 1000 / (x.limits.capacityMah * 3600 : Nat)).toNat := by
  obtain ⟨-, -, -, -, -, -, -, -, now, k, hk, ca⟩ := bootScanned_fields hu hx
  rw [← hr] at hk ca
  rw [← hc] at ca
  obtain ⟨limits, table, estimated, latch, uncounted, full, empty, fullRun, emptyRun, valid, invalid, soc⟩ := startCharge_fields hk
  obtain ⟨same, fullLe, emptyLe, fullIff, emptyIff, charge⟩ := resyncStep_first fullRun emptyRun ca
  rw [limits, showsFull_iff] at fullIff
  rw [limits, showsEmpty_iff] at emptyIff
  rw [chargeAllowed_iff, limits, latch] at charge
  generalize c.fullRun = f at *
  generalize c.emptyRun = e at *
  generalize c.chargeOn = on at *
  subst same
  refine ⟨limits, table, estimated, latch, uncounted, full, empty, fullLe, emptyLe, fullIff, emptyIff, ?_, fun v hv hx => ?_, fun hv => ?_,
    soc⟩
  · exact charge.trans (by simp)
  · exact valid v (val_of_valid hv hx)
  · exact invalid (val_of_invalid hv)

/-- HC's first decision (R167): with the heater off, no event in progress and no change pending. -/
theorem powerOn_heater (hb : b = s.booted raw) (hu : tier = bootTier (bootScanned raw s)) {x : Settings} (hx : x = loadedSettings s.sm)
    {h : Heater} (hh : h = (heaterDecide false b).hc) :
    h.params = x.heater ∧ h.faults = 0 ∧ h.change = none ∧ h.state ≠ .fault := by
  obtain ⟨-, -, -, -, tu, hc, -⟩ := booted_fields hb hu hx
  have calm : b.hc.state ≠ .fault := by rw [hc]; simp [resetHeater]
  have idle : eventInProgress b = false := by
    unfold eventInProgress resetTrigger at *
    rw [tu]
    cases tier <;> rfl
  by_cases ha : b.aim = b.hc.state
  · have now : h = { b.judged with change := none } := hh.trans (congrArg State.hc (heaterDecide_same calm ha))
    subst now
    unfold State.judged
    rw [hc]
    exact ⟨rfl, rfl, rfl, by simp [resetHeater]⟩
  · have now := hh.trans (heaterDecide_switch_hc calm ha (by simp [State.switchesNow, idle]))
    subst now
    unfold State.judged
    rw [hc]
    exact ⟨rfl, rfl, rfl, heaterTarget_ne_fault _ _ _⟩

end

/-- Settles O54. -/
theorem powerOnSetsEveryBlock : Obligations.PowerOnSetsEveryBlock := by
  intro d raw s x hx
  have hx' : x = loadedSettings s.sm := hx
  obtain ⟨u, hu⟩ : ∃ u, u = bootScanned raw s := ⟨_, rfl⟩
  obtain ⟨tier, ht⟩ : ∃ tier, tier = bootTier u := ⟨_, rfl⟩
  obtain ⟨b, hb⟩ : ∃ b, b = s.booted raw := ⟨_, rfl⟩
  obtain ⟨t, hT⟩ : ∃ t, t = powerOn raw s := ⟨_, rfl⟩
  have tier' : tier = bootTier (bootScanned raw s) := by rw [ht, hu]
  obtain ⟨powered, clk, tb, si, fe, tu, ws, et, al, hm, ca, hc, pt, modem, sl, sm⟩ := powerOn_blocks hT hb tier'
  obtain ⟨poweredB, clkB, tbB, siB, tuB, hcB, ptB, alB, hmB, smB⟩ := booted_fields hb tier' hx'
  have feB : b.fe = resetFilter x.filters := by rw [hb, hx']; rfl
  have wsB : b.ws = freshStore (enabledIn tier) s.ws.array x.store
      (if x.store.interval ≠ 0 ∧ (tier = .full ∨ tier = .conserve) then some (x.store.interval * 40000000) else none) := by
    rw [hb, hx', ht, hu]
    rfl
  have readings : t.hm.readings = firstReadings x.cal raw := by rw [hm, hmB]
  have tierT : t.pt.tier = tier := by rw [pt, ptB]
  have charge := powerOn_charge hu hx' (c := t.ca) (r := t.hm.readings) (by rw [ca, hb, hu]; rfl) readings
  obtain ⟨limits, table, estimated, latch, uncounted, lastFull, lastEmpty, fullLe, emptyLe, fullIff, emptyIff, charges, valid, invalid,
    soc⟩ := charge
  obtain ⟨params, faults, change, calm⟩ := powerOn_heater hb tier' hx' hc
  obtain ⟨reads, free⟩ := freshStore_reads (on := enabledIn tier) (array := s.ws.array) (p := x.store)
    (due := if x.store.interval ≠ 0 ∧ (tier = .full ∨ tier = .conserve) then some (x.store.interval * 40000000) else none)
  have switched : (b.tb.clock = .main ∧ (heaterDecide false b).hc.state ≠ b.hc.state) ↔ t.hc.state ≠ .off := by
    rw [tbB, hc, hcB]
    exact and_iff_right rfl
  have tuT : t.tu =
      { resetTrigger x.detect tier with
        quietEnd :=
          if tier = .hibernate ∨ t.hc.state = .off ∨ x.detect.quietWindow = 0 then none
          else some (x.detect.quietWindow * 100 % 4294967296) } := by
    rw [tu, heaterDecide_tu_eq, if_congr (and_congr_left' switched) rfl rfl, tuB]
    refine congrArg (fun q => { resetTrigger x.detect tier with quietEnd := q }) ?_
    show (if tier = .hibernate then none
      else if t.hc.state ≠ .off ∧ x.detect.quietWindow ≠ 0 then some ((0 + x.detect.quietWindow * 100) % 4294967296) else none) = _
    rw [Nat.zero_add]
    by_cases h1 : tier = .hibernate <;> by_cases h2 : t.hc.state = .off <;> by_cases h3 : x.detect.quietWindow = 0 <;>
      simp [h1, h2, h3]
  have soh : (resetAlerts x.uplink ⟨0, 0⟩).lastSoh = if x.uplink.sohInterval = 0 then none else some 0 := by
    show latestSoh x.uplink.sohInterval 0 = _
    unfold latestSoh
    rw [Nat.zero_div, Nat.zero_mul]
  rw [← tierT] at modem
  refine ⟨t, by rw [hT]; exact exec_powerOnReset d raw s, powered.trans poweredB, clk.trans clkB, tb.trans tbB, ?_, fun c => ?_,
    by rw [fe, feB]; rfl, ?_, fun c st hst => ?_, ?_, fun c q hq => ?_, fun q hq => by rw [ws, wsB]; exact free q hq, ?_, ?_,
    fun reading hreading => ?_, limits, table, estimated, latch, uncounted, lastFull, lastEmpty, fullLe, emptyLe, fullIff, emptyIff, charges,
    valid, invalid, soc, fun v hv => ?_, params, faults, change, calm, ?_, ?_, ?_, ?_, ?_, ?_, ?_, ?_, ?_, modem, ?_, ?_, ?_⟩
  · rw [si, heaterDecide_si_eq, siB, decide_eq_decide.mpr switched]
    rfl
  · rw [fe, feB]
    cases c <;> rfl
  · rw [tuT, tierT]
    rfl
  · have chan : t.tu.chans.get c = resetTriggerChannel (enabledIn tier c) := by
      rw [tuT]
      cases c <;> rfl
    rw [chan, hst, tierT]
    unfold resetTriggerChannel
    simp only [mem_enabledChannels, Bool.decide_eq_true]
  · rw [ws, wsB, tierT]
    rfl
  · rw [ws, wsB, tierT]
    simp only [mem_enabledChannels]
    exact reads c q hq
  · rw [et, hb]
    rfl
  · rw [al, alB, tierT, ← soh]
    rfl
  · rw [hm, hmB, tierT, hreading]
    rfl
  · have look : SameHeat b v := by
      rw [hv]
      refine ⟨by rw [readings, hmB], ca, by rw [tierT, ptB], eventInProgress_congr ?_, clk⟩
      rw [tuT, tuB]
    rw [hc, look.heaterDecide_hc_eq (by rw [hv, hcB]; rfl) (by rw [hv, tb])]
  · rw [pt, ptB]
    rfl
  · rw [pt, ptB]
    rfl
  · rw [pt, ptB]
    rfl
  · rw [pt, ptB]
    rfl
  · rw [pt, ptB]
    rfl
  · rw [pt, ptB]
    rfl
  · have eval := bootTier_eq (u := u)
    obtain ⟨-, -, -, -, ptU, hmU, -⟩ := bootScanned_fields hu hx'
    have caU : u.ca = t.ca := by rw [ca, hb, hu]; rfl
    rw [ptU, hmU, caU] at eval
    rw [tierT, ht, eval, readings]
    rfl
  · rw [tierT, pt, ptB]
    cases tier <;> rfl
  · rw [tierT, pt, ptB]
    simp
  · rw [tierT, pt]
  · rw [sl, hb]
    rfl
  · rw [sm, smB]
    unfold loadMemory
    cases s.sm.image <;> rfl

end Sys2Proof.Machine

/-! PROOFS. Pin reset up to the scan's low-current test: what it loads, and what its scan reads (R24, R45, R71, R93, R111, R137, R152, R154,
R185, R198, R199). -/

namespace Sys2Proof.Machine

section

variable {s m : State} {raw : RawScan}

theorem exec_pinReset (d : Elapsed) (hp : s.powered = true) : exec (.pinReset d raw) s = .next (pinReset raw (s.elapse d)) :=
  timed_powered s d (pinReset raw) hp

/-- The state of pin reset that the low-current test of its scan meets. -/
def State.pinned (s : State) (raw : RawScan) : State := chargeWork id (takeScan raw (pinLoaded s))

theorem pinReset_eq :
    pinReset raw s = endScan s.clk.watchRun (heaterDecide false (pinTierScan (lowCurrentTest (s.pinned raw)))) := rfl

/-- The time of pin reset, whatever clock is in use. -/
theorem now_of_watch (h : m.clk.time = m.clk.watch.toTime) : m.now = m.clk.watch.toTime := by
  unfold State.now
  rw [h, ite_self]

/-- What pin reset loads. -/
theorem pinLoaded_fields {x : Settings} (hx : x = loadedSettings s.sm) {l : State} (hl : l = pinLoaded s) {w : Time}
    (hw : w = s.clk.watch.toTime) :
    l.powered = s.powered ∧ l.clk = { s.clk with time := w, frac := 0 } ∧ l.tb = pinTimeBase s.pt.tier s.clk.watchRun s.tb ∧
      l.si = resetSample ∧ l.fe = resetFilter x.filters ∧ l.tu = resetTrigger x.detect s.pt.tier ∧
      l.ws = freshStore (enabledIn s.pt.tier) s.ws.array x.store (s.patrolAt x.store.interval) ∧ l.et = resetEvents ∧
      l.al = resetAlerts x.uplink w ∧ l.hm = resetMonitor x.cal ∧ l.ca = pinCharge x s.ca ∧
      l.hc = { s.hc with params := x.heater, change := none } ∧
      l.pt = { pinPower x.tier s.clk.watchRun s.pt with enModem := decide (s.pt.tier = .full), modemOnAt := l.pt.modemOnAt } ∧
      l.sl = resetLink ∧ l.sm = loadMemory s.sm := by
  obtain ⟨y, hy⟩ : ∃ y : State, y =
      { s.setTime s.clk.watch.toTime with
        tb := pinTimeBase s.pt.tier s.clk.watchRun s.tb, ca := pinCharge x s.ca
        hc := { s.hc with params := x.heater, change := none }, pt := pinPower x.tier s.clk.watchRun s.pt } := ⟨_, rfl⟩
  have now : y.now = w := by
    rw [now_of_watch (by rw [hy]; rfl), hw, hy]
    rfl
  obtain ⟨z, hz⟩ : ∃ z, z = resetBlocks x s.pt.tier y := ⟨_, rfl⟩
  have ws : z.ws = resetStore s.ws.array x.store := by rw [hz, hy]; rfl
  have run : l = syncModem (startStore z) := by rw [hl, hz, hy, hx]; rfl
  rw [startStore_fresh ws] at run
  obtain ⟨v, hv⟩ : ∃ v : State, v = { z with ws := freshStore (enabledIn z.pt.tier) s.ws.array x.store (z.patrolAt x.store.interval) } :=
    ⟨_, rfl⟩
  have demand : modemDemand v = decide (s.pt.tier = .full) := by
    rw [Bool.eq_iff_iff, modemDemand_iff, decide_eq_true_eq, hv, hz, hy]
    show (match s.pt.tier with
      | .full => True
      | .conserve | .survive => ([] : List Nat) ≠ [] ∨ (none : Option Attempt) ≠ none
      | .hibernate => (none : Option Nat) ≠ none) ↔ _
    cases s.pt.tier <;> simp
  rw [← hv, syncModem_eq demand, hv] at run
  rw [run, hz]
  unfold resetBlocks
  rw [now, hy]
  exact ⟨rfl, by rw [hw]; rfl, rfl, rfl, rfl, rfl, rfl, rfl, rfl, rfl, rfl, rfl, rfl, rfl, rfl⟩

/-- What the low-current test of a pin reset's scan meets. -/
theorem pinned_fields {x : Settings} (hx : x = loadedSettings s.sm) (hm : m = s.pinned raw) {w : Time} (hw : w = s.clk.watch.toTime) :
    m.powered = s.powered ∧ m.clk = { s.clk with time := w, frac := 0 } ∧ m.tb = pinTimeBase s.pt.tier s.clk.watchRun s.tb ∧
      m.si = resetSample ∧ m.fe = resetFilter x.filters ∧ m.tu = resetTrigger x.detect s.pt.tier ∧
      m.ws = freshStore (enabledIn s.pt.tier) s.ws.array x.store (s.patrolAt x.store.interval) ∧ m.et = resetEvents ∧
      m.al = resetAlerts x.uplink w ∧
      m.hm = { readings := firstReadings x.cal raw, cal := x.cal, scanDue := 0, interval := 1, scanCount := 1 } ∧
      (∃ now, m.ca = { resyncStep now (firstReadings x.cal raw) (pinCharge x s.ca) with
        chargeOn := chargeAllowed (resyncStep now (firstReadings x.cal raw) (pinCharge x s.ca)) (firstReadings x.cal raw) }) ∧
      m.hc = { s.hc with params := x.heater, change := none } ∧
      m.pt = { pinPower x.tier s.clk.watchRun s.pt with enModem := decide (s.pt.tier = .full), modemOnAt := m.pt.modemOnAt } ∧
      m.sl = resetLink ∧ m.sm = loadMemory s.sm := by
  obtain ⟨l, hl⟩ : ∃ l, l = pinLoaded s := ⟨_, rfl⟩
  obtain ⟨powered, clk, tb, si, fe, tu, ws, et, al, hmL, ca, hc, pt, sl, sm⟩ := pinLoaded_fields hx hl hw
  have run : m = chargeWork id (takeScan raw l) := by rw [hm, hl]; rfl
  have readings := scanReadings_first x.cal raw
  have hmM : (takeScan raw l).hm = { readings := firstReadings x.cal raw, cal := x.cal, scanDue := 0, interval := 1, scanCount := 1 } := by
    show ({ l.hm with readings := scanReadings l.hm.cal raw l.hm.readings, scanCount := inc32 l.hm.scanCount } : Housekeeping) = _
    rw [hmL, ← readings]
    rfl
  have caM : m.ca = { resyncStep l.now (takeScan raw l).hm.readings l.ca with
      chargeOn := chargeAllowed (resyncStep l.now (takeScan raw l).hm.readings l.ca) (takeScan raw l).hm.readings } := by
    rw [run]
    rfl
  rw [hmM, ca] at caM
  refine ⟨?_, ?_, ?_, ?_, ?_, ?_, ?_, ?_, ?_, ?_, ⟨_, caM⟩, ?_, ?_, ?_, ?_⟩
  all_goals rw [run]
  · exact powered
  · exact clk
  · exact tb
  · exact si
  · exact fe
  · exact tu
  · exact ws
  · exact et
  · exact al
  · exact hmM
  · exact hc
  · exact pt
  · exact sl
  · exact sm

end

end Sys2Proof.Machine

/-! PROOFS. A change of tier at the scan of a reset, where the channels and the store are fresh and no event can open (R49, R80, R89,
R170 to R173, R185). -/

namespace Sys2Proof.Machine

section

variable {y : State} {c : Channel} {on : Channel → Bool} {array : PageArray} {p : StoreParams} {due : Option Nat} {banks : Tri (List Int)}

/-! ## One channel -/

theorem feDisable_fresh (hf : y.fe = resetFilter banks) : feDisable c y = y := by
  have same : (feDisable c y).fe = y.fe := by
    unfold feDisable modContext
    simp only [State.modFe_fe, hf]
    cases c <;> rfl
  have rest : feDisable c y = { y with fe := (feDisable c y).fe } := rfl
  rw [rest, same]

theorem feEnable_fresh (hf : y.fe = resetFilter banks) : feEnable c y = y := by
  have same : (feEnable c y).fe = y.fe := by
    unfold feEnable modContext
    simp only [State.modFe_fe, hf]
    cases c <;> rfl
  have rest : feEnable c y = { y with fe := (feEnable c y).fe } := rfl
  rw [rest, same]

theorem addPeakPart_none (h : y.tu.current = none) : addPeakPart c y = y := by
  unfold addPeakPart
  rw [h]

/-- A channel follows the tier in a fresh store: its trigger channel, and its ring on its home page. -/
theorem channelAtTier_fresh {old new : Tier} (hc : y.tu.current = none) (hf : y.fe = resetFilter banks)
    (hs : y.ws = freshStore on array p due) (ho : on c = enabledIn old c)
    (below : enabledIn new c = true → ∀ q, q < homePage c → ∃ k, on k = true ∧ homePage k = q) :
    channelAtTier old new y c =
      { y with
        tu := { y.tu with chans := (channelAtTier old new y c).tu.chans }
        ws := freshStore (Function.update on c (enabledIn new c)) array p due } := by
  by_cases leaves : enabledIn old c = true ∧ enabledIn new c = false
  · obtain ⟨was, not⟩ := leaves
    have run : channelAtTier old new y c =
        { updChannel c (fun ch => { ch with state := .disabled }) y with
          ws := freshStore (Function.update on c (enabledIn new c)) array p due } := by
      have gone := storeLeave_fresh (array := array) (p := p) (due := due) (ho.trans was)
      unfold channelAtTier channelLeaves
      rw [if_pos (by simp [was, not]), feDisable_fresh (y := updChannel c _ y) hf, not, ← gone, ← hs]
      rfl
    rw [run]
    rfl
  by_cases joins : enabledIn old c = false ∧ enabledIn new c = true
  · obtain ⟨was, is⟩ := joins
    have run : channelAtTier old new y c =
        { updChannel c enterWarmup y with ws := freshStore (Function.update on c (enabledIn new c)) array p due } := by
      unfold channelAtTier channelJoins
      rw [if_neg (by simp [was]), if_pos (by simp [was, is]), addPeakPart_none (y := updChannel c _ y) hc,
        feEnable_fresh (y := updChannel c _ y) hf, storeJoin_fresh (s := updChannel c _ y) hs (ho.trans was) (below is), is]
    rw [run]
    rfl
  · have same : enabledIn new c = on c := by
      rw [ho]
      revert leaves joins
      cases enabledIn old c <;> cases enabledIn new c <;> simp
    have run : channelAtTier old new y c = y := by
      unfold channelAtTier
      rw [if_neg (by simpa using leaves), if_neg (by simpa using joins)]
    rw [run, same, Function.update_eq_self, ← hs]

/-! ## All channels -/

/-- The pages before the home of an enabled channel are the homes of enabled channels. -/
theorem enabled_below {t : Tier} (h : enabledIn t .n = true ∨ enabledIn t .e = true) : ∀ c, enabledIn t c = true := by
  intro c
  cases t <;> cases c <;> simp_all [enabledIn]

theorem channelsAtTier_fresh {old new : Tier} (hc : y.tu.current = none) (hf : y.fe = resetFilter banks)
    (hs : y.ws = freshStore (enabledIn old) array p due) {v : State} (hv : v = channels.foldl (channelAtTier old new) y) :
    v = { y with tu := { y.tu with chans := v.tu.chans }, ws := freshStore (enabledIn new) array p due } := by
  obtain ⟨a, ha⟩ : ∃ a, a = channelAtTier old new y .z := ⟨_, rfl⟩
  obtain ⟨b, hb⟩ : ∃ b, b = channelAtTier old new a .n := ⟨_, rfl⟩
  have hv' : v = channelAtTier old new b .e := by rw [hv, hb, ha]; rfl
  have first := ha.trans (channelAtTier_fresh hc hf hs rfl fun _ q hq => absurd (Fin.lt_def.mp hq) (Nat.not_lt_zero _))
  rw [← ha] at first
  have wsA : a.ws = freshStore (Function.update (enabledIn old) .z (enabledIn new .z)) array p due := congrArg State.ws first
  have feA : a.fe = resetFilter banks := (congrArg State.fe first).trans hf
  have currentA : a.tu.current = none := (congrArg (·.tu.current) first).trans hc
  have second := hb.trans (channelAtTier_fresh currentA feA wsA rfl fun is q hq => ⟨.z, enabled_below (.inl is) .z, by
    have below : q.val < 1 := Fin.lt_def.mp hq
    exact Fin.ext (Nat.lt_one_iff.mp below).symm⟩)
  rw [← hb] at second
  have wsB : b.ws = freshStore (Function.update (Function.update (enabledIn old) .z (enabledIn new .z)) .n (enabledIn new .n)) array p due :=
    congrArg State.ws second
  have feB : b.fe = resetFilter banks := (congrArg State.fe second).trans feA
  have currentB : b.tu.current = none := (congrArg (·.tu.current) second).trans currentA
  have third := hv'.trans (channelAtTier_fresh currentB feB wsB rfl fun is q hq => by
    have below : q.val < 2 := Fin.lt_def.mp hq
    by_cases zero : q.val = 0
    · exact ⟨.z, enabled_below (.inr is) .z, Fin.ext zero.symm⟩
    · exact ⟨.n, enabled_below (.inr is) .n, Fin.ext (show 1 = q.val by omega)⟩)
  rw [← hv', freshStore_congr (g := enabledIn new) fun c => by cases c <;> rfl] at third
  rw [third, second, first]

end

end Sys2Proof.Machine

/-! PROOFS. A change of tier at the scan of a reset, whole: rails, channels, store, the one alert, and the rail window (R49, R80, R89, R111,
R124, R170 to R173, R177, R185). -/

namespace Sys2Proof.Machine

section

variable {l t : State} {new : Tier} {array : PageArray} {p : StoreParams} {due : Option Nat} {banks : Tri (List Int)}
  {q : UplinkParams} {w : Time}

/-- What a reset has left before the tier is evaluated, as far as a change of tier reads it. -/
structure Fresh (l : State) (array : PageArray) (p : StoreParams) (due : Option Nat) (banks : Tri (List Int)) (q : UplinkParams)
    (w : Time) : Prop where
  fe : l.fe = resetFilter banks
  ws : l.ws = freshStore (enabledIn l.pt.tier) array p due
  et : l.et = resetEvents
  al : l.al = resetAlerts q w
  sl : l.sl = resetLink
  current : l.tu.current = none
  det : l.tu.det = if l.pt.tier = .hibernate then .disarmed else .idle
  calm : ∀ c, (l.tu.chans.get c).state ≠ .triggered
  vote : l.tu.params.vote ≠ 0
  writing : l.sm.writing = none
  gasp : l.pt.gasp = none

/-! ## The rails -/

theorem hostRailForTier_resetLink {s : State} (old : Tier) (h : s.sl = resetLink) : (hostRailForTier old new s).sl = resetLink := by
  have rail (r : HostRail) (x : State) (hx : x.sl = resetLink) : (setHostRail r x).sl = resetLink := by
    unfold setHostRail hostRailOff hostRailOn
    simp only [State.modPt, State.modSl]
    (repeat' split) <;> rw [hx] <;> rfl
  unfold hostRailForTier railByTier wakeHost
  (repeat' split) <;> simp [rail, h]

theorem hostRailForTier_rest (old : Tier) (s : State) :
    (hostRailForTier old new s).al = s.al ∧ (hostRailForTier old new s).et = s.et ∧ (hostRailForTier old new s).now = s.now := by
  unfold State.now
  simp

/-- The rails and the alert of a change of tier at the scan of a reset. -/
theorem railed_fresh (h : Fresh l array p due banks q w) :
    (l.railed true new).al = { resetAlerts q w with queue := [⟨1, .pwr, .tier new, l.now, [], false, 0⟩], idCounter := 2 } ∧
      (l.railed true new).et = resetEvents ∧ (l.railed true new).sl = resetLink := by
  obtain ⟨y, hy⟩ : ∃ y, y = hostRailForTier l.pt.tier new (l.modPt fun p => { p with tier := new, tierTime := l.now }) := ⟨_, rfl⟩
  obtain ⟨al, et, now⟩ := hostRailForTier_rest (new := new) l.pt.tier (l.modPt fun p => { p with tier := new, tierTime := l.now })
  have sl := hostRailForTier_resetLink (new := new) l.pt.tier (s := l.modPt fun p => { p with tier := new, tierTime := l.now }) h.sl
  rw [← hy] at al et now sl
  have announced : announceTier true new l = offerAlert .pwr (.tier new) y := by rw [hy]; rfl
  have offered := offerAlert_first (j := .tier new) (al.trans h.al) (et.trans h.et)
  rw [now] at offered
  unfold State.railed sensorForTier siRailOff
  rw [announced, offered]
  (repeat' split) <;> exact ⟨rfl, et.trans h.et, sl⟩

/-! ## Detector, channels and patrol -/

/-- In HIBERNATE the detector is disarmed; else it stands. -/
theorem detectorSet_fresh (h : Fresh l array p due banks q w) (ho : l.pt.tier ≠ .hibernate) :
    l.detectorSet true new =
      { l.railed true new with
        tu := { l.tu with
          det := if new = .hibernate then .disarmed else .idle
          auxPending := if new = .hibernate then false else l.tu.auxPending } } := by
  obtain ⟨tu, -⟩ := railed_blocks (s := l) true new
  have idle : l.tu.det = .idle := h.det.trans (if_neg ho)
  rw [detectorSet_of_idle true new (.inl idle) ho]
  by_cases hn : new = .hibernate
  · simp only [if_pos hn, State.modTu, tu]
  · simp only [if_neg hn, ← idle, ← tu]

/-- No channel that a change of tier leaves or joins is TRIGGERED, so that the vote stays unmet. -/
theorem evalVote_fresh {v : State} (hd : v.tu.det = .idle ∨ v.tu.det = .disarmed) (ht : v.pt.tier ≠ .hibernate)
    (hc : ∀ c, (v.tu.chans.get c).state ≠ .triggered) (hv : v.tu.params.vote ≠ 0) : evalVote v = v := by
  obtain idle | disarmed := hd
  · refine evalVote_stays (.inr ⟨.inl idle, fun met => ?_⟩)
    have none : (channels.countP fun c => (v.tu.chans.get c).state = .triggered) = 0 :=
      List.countP_eq_zero.mpr fun c _ => by simpa using hc c
    rw [voteMet_iff, none] at met
    have some : (enabledChannels v.pt.tier).length ≠ 0 := mt enabledCount_eq_zero.mp ht
    omega
  · exact evalVote_off (.inr disarmed)

theorem atTier_calm {ch : TriggerChannel} (h : ch.state ≠ .triggered) (was is : Bool) : (ch.atTier was is).state ≠ .triggered := by
  unfold TriggerChannel.atTier enterWarmup
  (repeat' split) <;> simp [h]

/-- The blocks of a change of tier at the scan of a reset, before HC decides. -/
theorem channelsSet_fresh (h : Fresh l array p due banks q w) (ho : l.pt.tier ≠ .hibernate)
    (hp : due = l.patrolAt p.interval) {v : State} (hv : v = l.channelsSet true new) :
    v = { l.railed true new with
      tu := { l.tu with
        chans := v.tu.chans, det := if new = .hibernate then .disarmed else .idle
        auxPending := if new = .hibernate then false else l.tu.auxPending }
      ws := freshStore (enabledIn new) array p v.ws.patrolDue } ∧
    v.ws.patrolDue = v.patrolAt p.interval := by
  obtain ⟨tu, hm, ca, clk, tb, hc, ws, fe, sm⟩ := railed_blocks (s := l) true new
  obtain ⟨y, hy⟩ : ∃ y, y = l.detectorSet true new := ⟨_, rfl⟩
  have set := hy.trans (detectorSet_fresh h ho)
  have tierY : y.pt.tier = new := by rw [set]; exact railed_tier (s := l) true new
  obtain ⟨f, hf⟩ : ∃ f, f = channels.foldl (channelAtTier l.pt.tier new) y := ⟨_, rfl⟩
  have followed := channelsAtTier_fresh (old := l.pt.tier) (new := new) (array := array) (p := p) (due := due) (banks := banks)
    (by rw [set]; exact h.current) (by rw [set]; exact fe.trans h.fe) (by rw [set]; exact ws.trans h.ws) hf
  have tierF : f.pt.tier = new := (congrArg (·.pt.tier) followed).trans tierY
  have chan (c : Channel) : f.tu.chans.get c = (l.tu.chans.get c).atTier (enabledIn l.pt.tier c) (enabledIn new c) := by
    have chans : y.tu.chans = l.tu.chans := by rw [set]
    rw [hf, ← chans]
    simp only [channels, List.foldl, channelAtTier_chans]
    cases c <;> rfl
  have vote : evalVote f = f := by
    by_cases hn : new = .hibernate
    · exact evalVote_off (.inl (tierF.trans hn))
    · have det : f.tu.det = .idle := by
        rw [followed, set]
        exact if_neg hn
      refine evalVote_fresh (.inl det) (by rwa [tierF]) (fun c => ?_) ?_
      · rw [chan]
        exact atTier_calm (h.calm c) _ _
      · rw [followed, set]
        exact h.vote
  have applied : applyEnabled l.pt.tier new y = f := by
    unfold applyEnabled
    rw [← hf]
    dsimp only
    rw [vote, ite_self]
  have run : v = patrolForTier l.pt.tier new f := by rw [hv, State.channelsSet, ← hy, applied]
  have base : f = { l.railed true new with
      tu := { l.tu with
        chans := f.tu.chans, det := if new = .hibernate then .disarmed else .idle
        auxPending := if new = .hibernate then false else l.tu.auxPending }
      ws := freshStore (enabledIn new) array p due } := by
    rw [followed, set]
  have wsF : f.ws = freshStore (enabledIn new) array p due := congrArg State.ws base
  have clkF : f.clk = l.clk := (congrArg State.clk base).trans clk
  unfold patrolForTier at run
  by_cases high : (l.pt.tier = .full ∨ l.pt.tier = .conserve) ∧ (new = .full ∨ new = .conserve)
  · rw [if_pos high] at run
    subst run
    have same : v.ws.patrolDue = due := congrArg WaveStore.patrolDue wsF
    refine ⟨by rw [same]; exact base, ?_⟩
    rw [same, hp]
    unfold State.patrolAt
    rw [tierF, clkF, if_congr (and_congr_right' (iff_of_true high.1 high.2)) rfl rfl]
  · rw [if_neg high, freshPatrol_eq, tierF, wsF] at run
    refine ⟨?_, ?_⟩
    · rw [run, base]
      rfl
    · rw [run]
      unfold State.patrolAt
      rw [tierF]
      rfl

end

end Sys2Proof.Machine

/-! PROOFS. What a change of tier at the scan of a reset leaves in every block (R49, R124, R170 to R173, R177, R185). -/

namespace Sys2Proof.Machine

section

variable {l t : State} {new : Tier} {array : PageArray} {p : StoreParams} {due : Option Nat} {banks : Tri (List Int)}
  {q : UplinkParams} {w : Time}

/-! ## The rail window at the change from FULL -/

/-- The frame whose window opens at a time (R124). -/
def windowFrame (now : Time) : Nat := if now.toNs < now.sec / 60 * 60000000000 + 100000000 then now.sec / 60 else now.sec / 60 + 1

theorem entryWindow_fresh {u : State} {j : Subject} {time : Time}
    (hal : u.al = { resetAlerts q w with queue := [⟨1, .pwr, j, time, [], false, 0⟩], idCounter := 2 })
    (ht : u.pt.tier = .conserve ∨ u.pt.tier = .survive) :
    entryWindow u = { u with al := { u.al with windows := [windowFrame u.now] } } := by
  have some : (headSelectable u).isSome = true := by
    refine headSelectable_isSome_iff.mpr ⟨⟨1, .pwr, j, time, [], false, 0⟩, by rw [hal]; exact List.mem_singleton_self _, rfl, ?_, fun _ => .inr rfl⟩
    obtain ht | ht := ht <;> rw [ht]
    · exact AlertClass.noConfusion
    · exact .inr rfl
  have undecided (f : Nat) : (awaitsIssue u.al f).isSome = false := by
    unfold awaitsIssue
    rw [hal]
    rfl
  have opens (f : Nat) : openWindow f u = { u with al := { u.al with windows := [f] } } := by
    have none : u.al.windows = [] := by rw [hal]; rfl
    unfold openWindow
    simp [State.modAl, none]
  unfold entryWindow windowFrame
  rw [if_pos some]
  simp only [undecided, Bool.or_false, opens, decisionNs_eq, decide_eq_true_eq]
  split <;> rfl

/-- The settings of PT and its count of power cycles through a change of tier. -/
theorem tierChange_settled (startUp : Bool) (new : Tier) (s : State) :
    (tierChange startUp new s).pt.params = s.pt.params ∧ (tierChange startUp new s).pt.powerCycles = s.pt.powerCycles := by
  have woken := (tierChange_woken startUp new s).settled
  have announced := announceTier_settled s startUp new
  simp only [PowerTier.settled, Prod.mk.injEq] at woken announced
  obtain ⟨-, -, params, cycles, -, -⟩ := woken
  obtain ⟨-, -, paramsA, cyclesA, -, -⟩ := announced
  have sensed (x : State) : (sensorForTier new x).pt.params = x.pt.params ∧ (sensorForTier new x).pt.powerCycles = x.pt.powerCycles := by
    unfold sensorForTier siRailOff
    (repeat' split) <;> exact ⟨rfl, rfl⟩
  exact ⟨params.trans ((sensed _).1.trans paramsA), cycles.trans ((sensed _).2.trans cyclesA)⟩

/-- After the blocks have followed the tier, a change of tier at the scan of a reset enters HIBERNATE or follows the demand of the modem
rail; its PWR alert holds the last gasp. -/
theorem tierChange_ends {b : State} (hal : ∃ ws, b.al = { resetAlerts q w with
      queue := [⟨1, .pwr, .tier new, l.now, [], false, 0⟩], idCounter := 2, windows := ws })
    (hb : b = l.blocksAtTier true new) (hg : b.pt.gasp = none) (ht : t = tierChange true new l) :
    t = syncModem (if new = .hibernate then enterHibernate b else b) := by
  obtain ⟨windows, al⟩ := hal
  rw [ht, tierChange_eq, ← hb]
  by_cases hib : new = .hibernate
  · rw [if_pos hib]
    refine gaspCheck_stays (.inr (.inr (.inr ⟨b.clk.watchRun + gaspTicks, ?_, ?_, ⟨1, .pwr, .tier new, l.now, [], false, 0⟩, ?_, rfl, ?_⟩)))
    · rw [syncModem_gasp]
      rfl
    · rw [syncModem_clk]
      exact Nat.lt_add_of_pos_right (by decide)
    · rw [syncModem_al]
      show _ ∈ b.al.queue
      rw [al]
      exact List.mem_singleton_self _
    · rw [hib]
  · rw [if_neg hib, gaspCheck_of_none]
    rw [syncModem_gasp, hg]

theorem tierChange_fresh (h : Fresh l array p due banks q w) (ho : l.pt.tier ≠ .hibernate) (hp : due = l.patrolAt p.interval)
    (ht : t = tierChange true new l) :
    (t.powered = l.powered ∧ t.clk = l.clk ∧ t.tb = l.tb ∧ t.hm = l.hm ∧ t.ca = l.ca ∧ t.sm = l.sm) ∧
      (t.fe = resetFilter banks ∧ t.ws = freshStore (enabledIn new) array p (t.patrolAt p.interval) ∧ t.et = resetEvents ∧
        t.sl = resetLink) ∧
      t.al = { resetAlerts q w with
        queue := [⟨1, .pwr, .tier new, l.now, [], false, 0⟩], idCounter := 2
        windows := if l.pt.tier = .full ∧ (new = .conserve ∨ new = .survive) then [windowFrame l.now] else [] } ∧
      t.tu = { l.tu with
        chans := t.tu.chans, det := if new = .hibernate then .disarmed else .idle
        auxPending := if new = .hibernate then false else l.tu.auxPending
        quietEnd := if new = .hibernate then none else (heaterDecide false (l.channelsSet true new)).tu.quietEnd } ∧
      (new ≠ .hibernate → (t.pt.enModem = true ↔ new = .full ∨ t.al.windows ≠ [])) ∧
      (new = .hibernate → t.pt.enModem = true ∧ t.pt.gasp = some (l.clk.watchRun + 3932160)) := by
  obtain ⟨v, hv⟩ : ∃ v, v = l.channelsSet true new := ⟨_, rfl⟩
  obtain ⟨set, patrol⟩ := channelsSet_fresh h ho hp hv
  obtain ⟨tuR, hmR, caR, clkR, tbR, hcR, wsR, feR, smR⟩ := railed_blocks (s := l) true new
  obtain ⟨alR, etR, slR⟩ := railed_fresh (new := new) h
  have poweredR : (l.railed true new).powered = l.powered := by
    unfold State.railed sensorForTier
    (repeat' split) <;> simp
  have tierV : v.pt.tier = new := (congrArg (·.pt.tier) set).trans (railed_tier (s := l) true new)
  have clkV : v.clk = l.clk := (congrArg State.clk set).trans clkR
  have tbV : v.tb = l.tb := (congrArg State.tb set).trans tbR
  obtain ⟨u, hu⟩ : ∃ u, u = heaterDecide false v := ⟨_, rfl⟩
  have nowU : u.now = l.now := by
    unfold State.now
    rw [hu, heaterDecide_clk, heaterDecide_tb, clkV, tbV]
  have alU : u.al = { resetAlerts q w with queue := [⟨1, .pwr, .tier new, l.now, [], false, 0⟩], idCounter := 2 } := by
    rw [hu, heaterDecide_al, set, alR]
  have etU : u.et = resetEvents := by
    rw [hu, heaterDecide_et_of_none (by rw [set]; exact h.current), set, etR]
  obtain ⟨b, hb⟩ : ∃ b, b = l.blocksAtTier true new := ⟨_, rfl⟩
  have gasp : b.pt.gasp = none := by rw [hb, (blocksAtTier_flagged true new l).gasp, railed_gasp, h.gasp]
  have blocks : b = { u with
      al := { resetAlerts q w with
        queue := [⟨1, .pwr, .tier new, l.now, [], false, 0⟩], idCounter := 2
        windows := if l.pt.tier = .full ∧ (new = .conserve ∨ new = .survive) then [windowFrame l.now] else [] } } := by
    rw [hb, blocksAtTier_eq, ← hv, ← hu]
    by_cases window : l.pt.tier = .full ∧ (new = .conserve ∨ new = .survive)
    · have tierU : u.pt.tier = new := by rw [hu, heaterDecide_pt, tierV]
      rw [if_pos window, if_pos window, entryWindow_fresh alU (by rw [tierU]; exact window.2), alU, nowU]
    · rw [if_neg window, if_neg window]
      exact (congrArg (fun a => { u with al := a }) alU : ({ u with al := u.al } : State) = _)
  have ends := tierChange_ends (q := q) (w := w) ⟨_, congrArg State.al blocks⟩ hb gasp ht
  obtain ⟨e, he⟩ : ∃ e, e = if new = .hibernate then enterHibernate b else b := ⟨_, rfl⟩
  have clkB : b.clk = l.clk := by rw [blocks, hu, heaterDecide_clk, clkV]
  have entered : e = { b with
      tu := { b.tu with quietEnd := if new = .hibernate then none else b.tu.quietEnd }
      pt := { b.pt with gasp := if new = .hibernate then some (l.clk.watchRun + 3932160) else none } } := by
    by_cases hib : new = .hibernate
    · rw [he, if_pos hib, if_pos hib, if_pos hib, ← clkB]
      rfl
    · rw [he, if_neg hib, if_neg hib, if_neg hib, ← gasp]
  obtain ⟨demand, hd⟩ : ∃ demand, modemDemand e = demand := ⟨_, rfl⟩
  have ptB : b.pt = v.pt := by rw [blocks, hu, heaterDecide_pt]
  have asks : demand = true ↔ (match new with
      | .full => True
      | .conserve | .survive => b.al.windows ≠ []
      | .hibernate => True) := by
    have attempt : b.al.attempt = none := by rw [blocks]; rfl
    rw [← hd, modemDemand_iff, entered]
    dsimp only
    rw [attempt, ptB, tierV]
    cases new <;> simp
  rw [← he, syncModem_eq hd] at ends
  have tierT : t.pt.tier = new := by rw [ht, tierChange_tier]
  have clkT : t.clk = l.clk := by rw [ht, tierChange_clk]
  have alT : t.al = b.al := by rw [ends, entered]
  have ws : t.ws = freshStore (enabledIn new) array p (t.patrolAt p.interval) := by
    have due2 : t.patrolAt p.interval = v.ws.patrolDue := by
      rw [patrol]
      unfold State.patrolAt
      rw [tierT, tierV, clkT, clkV]
    rw [due2, ends, entered, blocks, hu]
    show (heaterDecide false v).ws = _
    rw [heaterDecide_ws]
    exact congrArg State.ws set
  have through : t.powered = u.powered ∧ t.tb = u.tb ∧ t.hm = u.hm ∧ t.ca = u.ca ∧ t.sm = u.sm ∧ t.fe = u.fe ∧ t.et = u.et ∧ t.sl = u.sl ∧
      t.tu = { u.tu with quietEnd := if new = .hibernate then none else u.tu.quietEnd } := by
    rw [ends, entered, blocks]
    exact ⟨rfl, rfl, rfl, rfl, rfl, rfl, rfl, rfl, rfl⟩
  obtain ⟨powered, tb, hm, ca, sm, fe, et, sl, tu⟩ := through
  rw [hu] at powered tb hm ca sm fe sl
  refine ⟨⟨?_, clkT, ?_, ?_, ?_, ?_⟩, ⟨?_, ws, et.trans etU, ?_⟩, ?_, ?_, fun hn => ?_, fun hn => ?_⟩
  · rw [powered, heaterDecide_powered, set, poweredR]
  · rw [tb, heaterDecide_tb, tbV]
  · rw [hm, heaterDecide_hm, set, hmR]
  · rw [ca, heaterDecide_ca, set, caR]
  · rw [sm, heaterDecide_sm, set, smR]
  · rw [fe, heaterDecide_fe, set, feR, h.fe]
  · rw [sl, heaterDecide_sl, set, slR]
  · rw [alT, blocks]
  · have tuU : u.tu = { v.tu with quietEnd := u.tu.quietEnd } := by
      obtain ⟨x, hx⟩ := heaterDecide_tu v false
      rw [hu, hx]
    have tuV := congrArg State.tu set
    have whole : t.tu = { v.tu with quietEnd := if new = .hibernate then none else u.tu.quietEnd } := by rw [tu, tuU]
    have chans : t.tu.chans = v.tu.chans := by rw [whole]
    rw [chans, ← hv, ← hu, whole, tuV]
  · have on : t.pt.enModem = demand := by rw [ends]
    rw [on, asks, alT]
    cases new
    case hibernate => exact absurd rfl hn
    all_goals simp
  · have on : t.pt.enModem = demand := by rw [ends]
    rw [on, asks, hn]
    refine ⟨trivial, ?_⟩
    rw [ends, entered]
    exact if_pos hn

end

end Sys2Proof.Machine

/-! PROOFS. The tier's evaluation at a pin reset's scan and HC's decision after it, with the tier kept and with it changed (R24, R154, R164,
R167, R185). -/

namespace Sys2Proof.Machine

section

variable {l z : State} {array : PageArray} {p : StoreParams} {due : Option Nat} {banks : Tri (List Int)} {q : UplinkParams} {w : Time}

/-! ## The low-current test outside an event -/

theorem lowCurrentTest_tu_eq (s : State) :
    (lowCurrentTest s).tu =
      { s.tu with
        quietEnd :=
          if (s.tb.clock = .main ∧ (lowCurrentTest s).hc.state ≠ s.hc.state) ∧ s.tu.params.quietWindow ≠ 0 then
            some ((s.tu.delivery + s.tu.params.quietWindow * 100) % 4294967296)
          else s.tu.quietEnd } := by
  obtain ⟨n, h⟩ | ⟨hon, h⟩ := lowCurrentTest_cases s
  · rw [h]
    simp [State.modHc]
  · have other : (enterFault s).hc.state ≠ s.hc.state := by
      rw [enterFault_hc]
      obtain on | on := hon <;> simp [on]
    rw [h, if_congr (and_congr_left' (and_iff_left other)) rfl rfl]
    unfold enterFault
    by_cases hm : s.tb.clock = .main
    · rw [switchHeater_running hm]
      by_cases hq : s.tu.params.quietWindow = 0 <;> simp [State.modHc, hm, hq]
    · rw [switchHeater_stopped (decide_eq_false hm)]
      simp [State.modHc, hm]

theorem lowCurrentTest_et_of_none {s : State} (h : s.tu.current = none) : (lowCurrentTest s).et = s.et := by
  obtain ⟨n, run⟩ | ⟨-, run⟩ := lowCurrentTest_cases s
  · rw [run]
    rfl
  · rw [run]
    unfold enterFault
    by_cases hm : s.tb.clock = .main
    · rw [switchHeater_running hm]
      simp [State.modHc, h]
    · rw [switchHeater_stopped (decide_eq_false hm)]
      rfl

/-! ## The tier and the decision -/

/-- What a reset has left before the tier is evaluated, with the clock, the modem rail, the quiet window and SI as a pin reset has them. -/
structure Pinned (l : State) (array : PageArray) (p : StoreParams) (due : Option Nat) (banks : Tri (List Int)) (q : UplinkParams)
    (w : Time) : Prop extends Fresh l array p due banks q w where
  due : due = l.patrolAt p.interval
  time : l.clk.time = w
  watch : l.clk.watch.toTime = w
  modem : l.pt.enModem = decide (l.pt.tier = .full)
  clock : l.pt.tier = .hibernate ↔ l.tb.clock ≠ .main
  quiet : l.pt.tier = .hibernate → l.tu.quietEnd = none
  aux : l.tu.auxPending = false
  si : l.si = { resetSample with heatMark := l.si.heatMark }

/-- From `l` to `z` the tier has been evaluated and HC has decided. -/
structure Followed (l z : State) (array : PageArray) (p : StoreParams) (banks : Tri (List Int)) (q : UplinkParams) (w : Time) :
    Prop where
  powered : z.powered = l.powered
  clk : z.clk = l.clk
  hm : z.hm = l.hm
  ca : z.ca = l.ca
  sm : z.sm = l.sm
  tb : z.tb = { l.tb with clock := z.tb.clock }
  fe : z.fe = resetFilter banks
  ws : z.ws = freshStore (enabledIn z.pt.tier) array p (z.patrolAt p.interval)
  et : z.et = resetEvents
  sl : z.sl = resetLink
  al : z.al = { resetAlerts q w with
    queue := [⟨1, .pwr, .tier z.pt.tier, w, [], false, 0⟩], idCounter := 2
    windows := if l.pt.tier = .full ∧ (z.pt.tier = .conserve ∨ z.pt.tier = .survive) then [windowFrame w] else [] }
  chan : ∀ c, z.tu.chans.get c = (l.tu.chans.get c).atTier (enabledIn l.pt.tier c) (enabledIn z.pt.tier c)
  tu : z.tu = { l.tu with
    chans := z.tu.chans, det := if z.pt.tier = .hibernate then .disarmed else .idle
    quietEnd :=
      if z.pt.tier = .hibernate then none
      else if (l.tb.clock = .main ∧ z.hc.state ≠ l.hc.state) ∧ l.tu.params.quietWindow ≠ 0 then
        some ((l.tu.delivery + l.tu.params.quietWindow * 100) % 4294967296)
      else l.tu.quietEnd }
  si : z.si = { resetSample with heatMark := l.si.heatMark || decide (l.tb.clock = .main ∧ z.hc.state ≠ l.hc.state) }
  heat : ∃ c, SameHeat c z ∧ c.hc = l.hc ∧ c.tb = z.tb ∧ z.hc = (heaterDecide false c).hc
  params : z.pt.params = l.pt.params
  cycles : z.pt.powerCycles = l.pt.powerCycles
  modem : z.pt.tier ≠ .hibernate → (z.pt.enModem = true ↔ z.pt.tier = .full ∨ z.al.windows ≠ [])

/-- The scan of a pin reset that keeps the tier offers its PWR alert, and in HIBERNATE it may begin the exit (R111, R175, R185). -/
theorem pinTierScan_kept (h : Pinned l array p due banks q w) (ht : (tierScan true l).pt.tier = l.pt.tier) :
    ∃ y, (y = l ∨ l.pt.tier = .hibernate ∧ l.tb.clock = .watch ∧ y = beginExit l) ∧
      pinTierScan l =
        { y with al := { resetAlerts q w with queue := [⟨1, .pwr, .tier l.pt.tier, w, [], false, 0⟩], idCounter := 2 } } := by
  have run : pinTierScan l = offerAlert .pwr (.tier l.pt.tier) (tierScan true l) := if_pos ht
  have offered (y : State) (al : y.al = l.al) (et : y.et = l.et) (clk : y.clk = l.clk) :
      offerAlert .pwr (.tier l.pt.tier) y =
        { y with al := { resetAlerts q w with queue := [⟨1, .pwr, .tier l.pt.tier, w, [], false, 0⟩], idCounter := 2 } } := by
    have now : y.now = w := by
      rw [now_of_watch (by rw [clk, h.time, h.watch]), clk, h.watch]
    rw [offerAlert_first (al.trans h.al) (et.trans h.et), now]
  rw [run]
  obtain same | ⟨hib, watch, begins⟩ := tierScan_same ht
  · rw [same]
    exact ⟨l, .inl rfl, offered l rfl rfl rfl⟩
  · rw [begins]
    exact ⟨beginExit l, .inr ⟨hib, watch, rfl⟩, offered _ rfl rfl rfl⟩

/-- A scan of a pin reset that changes the tier starts above HIBERNATE, as no last gasp holds. -/
theorem pinTierScan_changed (h : Pinned l array p due banks q w) (ht : (tierScan true l).pt.tier ≠ l.pt.tier) :
    ∃ new, new ≠ l.pt.tier ∧ l.pt.tier ≠ .hibernate ∧ pinTierScan l = tierChange true new l := by
  have run : pinTierScan l = tierScan true l := if_neg ht
  rw [run]
  unfold tierScan at ht ⊢
  by_cases hib : l.pt.tier = .hibernate
  · refine absurd ?_ ht
    rw [if_pos hib]
    unfold hibernateScan
    rw [h.gasp]
    (repeat' split)
    · next some => exact absurd some (by simp)
    all_goals rfl
  · rw [if_neg hib] at ht ⊢
    dsimp only at ht ⊢
    generalize (if cutForced l = true then Tier.hibernate else evaluatedTier l.pt.params l.ca.soc l.pt.tier) = new at ht ⊢
    by_cases hn : new = l.pt.tier
    · rw [if_pos hn] at ht
      exact absurd rfl ht
    · rw [if_neg hn]
      exact ⟨new, hn, hib, rfl⟩

theorem atTier_same (ch : TriggerChannel) (b : Bool) : ch.atTier b b = ch := by
  unfold TriggerChannel.atTier
  cases b <;> rfl

theorem followed_kept (h : Pinned l array p due banks q w) (ht : (tierScan true l).pt.tier = l.pt.tier)
    (hz : z = heaterDecide false (pinTierScan l)) :
    Followed l z array p banks q w ∧ z.pt.tier = l.pt.tier ∧ (z.pt = l.pt ∨ z.pt = { l.pt with exitMark := true }) ∧
      (z.tb = l.tb ∨ l.tb.clock = .watch ∧ z.tb = { l.tb with clock := .settle (l.clk.watchRun + settleTicks) }) := by
  obtain ⟨y, hy, hk⟩ := pinTierScan_kept h ht
  obtain ⟨k, hkk⟩ : ∃ k, k = pinTierScan l := ⟨_, rfl⟩
  rw [← hkk] at hz hk
  have rest : y = { l with pt := y.pt, tb := y.tb } ∧ y.pt = { l.pt with exitMark := y.pt.exitMark } ∧
      y.tb = { l.tb with clock := y.tb.clock } ∧ (y.tb.clock = .main ↔ l.tb.clock = .main) := by
    obtain rfl | ⟨-, watch, rfl⟩ := hy
    · exact ⟨rfl, rfl, rfl, Iff.rfl⟩
    · refine ⟨rfl, rfl, rfl, ?_⟩
      rw [watch]
      exact ⟨fun h => by simp [beginExit] at h, fun h => by simp at h⟩
  obtain ⟨same, pt, tb, main⟩ := rest
  have fields : k.powered = l.powered ∧ k.clk = l.clk ∧ k.hm = l.hm ∧ k.ca = l.ca ∧ k.sm = l.sm ∧ k.fe = l.fe ∧ k.ws = l.ws ∧
      k.et = l.et ∧ k.sl = l.sl ∧ k.tu = l.tu ∧ k.si = l.si ∧ k.hc = l.hc ∧ k.tb = y.tb ∧ k.pt = y.pt := by
    rw [hk, same]
    exact ⟨rfl, rfl, rfl, rfl, rfl, rfl, rfl, rfl, rfl, rfl, rfl, rfl, rfl, rfl⟩
  obtain ⟨poweredK, clkK, hmK, caK, smK, feK, wsK, etK, slK, tuK, siK, hcK, tbK, ptK⟩ := fields
  have ptZ : z.pt = y.pt := by rw [hz, heaterDecide_pt, ptK]
  have tbZ : z.tb = y.tb := by rw [hz, heaterDecide_tb, tbK]
  have clkZ : z.clk = l.clk := by rw [hz, heaterDecide_clk, clkK]
  have tier : z.pt.tier = l.pt.tier := by rw [ptZ, pt]
  have alZ : z.al = { resetAlerts q w with queue := [⟨1, .pwr, .tier l.pt.tier, w, [], false, 0⟩], idCounter := 2 } := by
    rw [hz, heaterDecide_al, hk]
  have stays : ¬(l.pt.tier = .full ∧ (l.pt.tier = .conserve ∨ l.pt.tier = .survive)) := by
    rintro ⟨full, other⟩
    simp [full] at other
  have switched : (k.tb.clock = .main ∧ (heaterDecide false k).hc.state ≠ k.hc.state) ↔ (l.tb.clock = .main ∧ z.hc.state ≠ l.hc.state) := by
    rw [tbK, hcK, hz, main]
  have tuZ : z.tu = { l.tu with
      quietEnd :=
        if (l.tb.clock = .main ∧ z.hc.state ≠ l.hc.state) ∧ l.tu.params.quietWindow ≠ 0 then
          some ((l.tu.delivery + l.tu.params.quietWindow * 100) % 4294967296)
        else l.tu.quietEnd } := by
    rw [hz, heaterDecide_tu_eq, if_congr (and_congr_left' switched) rfl rfl, tuK, hz]
  refine ⟨?_, tier, ?_, ?_⟩
  · refine ⟨by rw [hz, heaterDecide_powered, poweredK], clkZ, by rw [hz, heaterDecide_hm, hmK], by rw [hz, heaterDecide_ca, caK],
      by rw [hz, heaterDecide_sm, smK], by rw [tbZ]; exact tb, by rw [hz, heaterDecide_fe, feK, h.fe], ?_,
      by rw [hz, heaterDecide_et_of_none (by rw [tuK]; exact h.current), etK, h.et], by rw [hz, heaterDecide_sl, slK, h.sl], ?_, fun c => ?_,
      ?_, ?_, ⟨k, ?_, hcK, by rw [tbK, tbZ], by rw [hz]⟩, by rw [ptZ, pt], by rw [ptZ, pt], fun hn => ?_⟩
    · have due' : z.patrolAt p.interval = due := by
        rw [h.due]
        unfold State.patrolAt
        rw [tier, clkZ]
      rw [due', tier, hz, heaterDecide_ws, wsK, h.ws]
    · rw [alZ, tier, if_neg stays]
      rfl
    · rw [tier, atTier_same, tuZ]
    · have chans : z.tu.chans = l.tu.chans := by rw [tuZ]
      rw [chans, tuZ, tier, ← h.det]
      by_cases hib : l.pt.tier = .hibernate
      · rw [if_pos hib, if_neg fun hq => h.clock.mp hib hq.1.1, h.quiet hib]
      · rw [if_neg hib]
    · have siZ := heaterDecide_si_eq (s := k)
      rw [decide_eq_decide.mpr switched, siK, ← hz] at siZ
      generalize (l.si.heatMark || decide (l.tb.clock = .main ∧ z.hc.state ≠ l.hc.state)) = mark at siZ ⊢
      exact siZ.trans (congrArg (fun i : SampleInterface => { i with heatMark := mark }) h.si)
    · exact ⟨by rw [hz, heaterDecide_hm], by rw [hz, heaterDecide_ca], by rw [hz, heaterDecide_pt],
        eventInProgress_congr (by rw [hz, heaterDecide_det]), by rw [hz, heaterDecide_clk]⟩
    · rw [ptZ, pt, alZ, h.modem]
      simp [resetAlerts]
  · rw [ptZ]
    obtain rfl | ⟨-, -, rfl⟩ := hy
    · exact .inl rfl
    · exact .inr rfl
  · rw [tbZ]
    obtain rfl | ⟨-, watch, rfl⟩ := hy
    · exact .inl rfl
    · exact .inr ⟨watch, rfl⟩

theorem followed_changed (h : Pinned l array p due banks q w) (ht : (tierScan true l).pt.tier ≠ l.pt.tier)
    (hz : z = heaterDecide false (pinTierScan l)) :
    Followed l z array p banks q w ∧ z.pt.tier ≠ l.pt.tier ∧ l.pt.tier ≠ .hibernate ∧ z.tb = l.tb ∧
      (z.pt.tier = .hibernate → z.pt.enModem = true ∧ z.pt.gasp = some (l.clk.watchRun + 3932160)) := by
  obtain ⟨new, hn, ho, run⟩ := pinTierScan_changed h ht
  rw [run] at hz
  obtain ⟨⟨c, look, hcC, tbC, hcZ⟩, siZ, stands⟩ := tierChange_heater true ho hz
  have tier : z.pt.tier = new := by rw [stands, tierChange_tier]
  obtain ⟨⟨powered, clk, tb, hm, ca, sm⟩, ⟨fe, ws, et, sl⟩, al, tu, modem, gasp⟩ :=
    tierChange_fresh h.toFresh ho h.due stands
  obtain ⟨params, cycles⟩ := tierChange_settled true new l
  have now : l.now = w := by rw [now_of_watch (by rw [h.time, h.watch]), h.watch]
  rw [← stands] at params cycles
  rw [now, ← tier] at al
  rw [← tier] at ws modem gasp
  obtain ⟨v, hv⟩ : ∃ v, v = l.channelsSet true new := ⟨_, rfl⟩
  obtain ⟨set, -⟩ := channelsSet_fresh h.toFresh ho h.due hv
  refine ⟨⟨powered, clk, hm, ca, sm, by rw [tb], fe, ws, et, sl, al, fun k => ?_, ?_, ?_, ⟨c, look, hcC, tbC.trans tb.symm, hcZ⟩, params,
    cycles, modem⟩, by rwa [tier], ho, tb, gasp⟩
  · rw [tier, stands, tierChange_chan]
  · obtain ⟨-, hcG, -⟩ := channelsSet_tail (s := l) true new
    rw [← stands, ← hv] at hcG
    obtain ⟨-, -, -, -, tbR, hcR, -⟩ := railed_blocks (s := l) true new
    have tbV : v.tb = l.tb := (congrArg State.tb set).trans tbR
    have hcV : v.hc = l.hc := (congrArg State.hc set).trans hcR
    have params : v.tu.params = l.tu.params := congrArg (·.tu.params) set
    have delivery : v.tu.delivery = l.tu.delivery := congrArg (·.tu.delivery) set
    have quiet : v.tu.quietEnd = l.tu.quietEnd := congrArg (·.tu.quietEnd) set
    have ends : (heaterDecide false v).tu.quietEnd =
        if (l.tb.clock = .main ∧ z.hc.state ≠ l.hc.state) ∧ l.tu.params.quietWindow ≠ 0 then
          some ((l.tu.delivery + l.tu.params.quietWindow * 100) % 4294967296)
        else l.tu.quietEnd := by
      rw [heaterDecide_tu_eq, ← hcG, tbV, hcV, params, delivery, quiet]
    rw [← hv, ends, h.aux, ite_self, ← h.aux, ← tier] at tu
    exact tu
  · have railed : (l.railed true new).si = l.si := by
      rw [railed_si]
      split
      · rw [h.si]
        simp [resetSample]
      · rfl
    rw [railed] at siZ
    generalize (l.si.heatMark || decide (l.tb.clock = .main ∧ z.hc.state ≠ l.hc.state)) = mark at siZ ⊢
    exact siZ.trans (congrArg (fun i : SampleInterface => { i with heatMark := mark }) h.si)

end

end Sys2Proof.Machine

/-! PROOFS. Pin reset whole (R18, R24, R44, R45, R71, R93, R111, R124, R137, R139, R148, R152, R154, R164, R167, R185, R198, R199,
R201; O55). -/

namespace Sys2Proof.Machine

section

variable {s m l z t : State} {raw : RawScan} {x : Settings} {w : Time}

/-! ## The low-current test of a pin reset -/

/-- What the low-current test leaves of HC: the settings, and no pending change; and it changes the state to FAULT only. -/
theorem lowCurrentTest_hc (m : State) :
    (lowCurrentTest m).hc.params = m.hc.params ∧ (m.hc.change = none → (lowCurrentTest m).hc.change = none) ∧
      ((lowCurrentTest m).hc.state ≠ m.hc.state → (lowCurrentTest m).hc.state = .fault) := by
  obtain ⟨n, h⟩ | ⟨-, h⟩ := lowCurrentTest_cases m
  · rw [h]
    exact ⟨rfl, id, fun hne => absurd rfl hne⟩
  · rw [h, enterFault_hc]
    exact ⟨rfl, fun _ => rfl, fun _ => rfl⟩

theorem pinClock_main (t : Tier) (c : ClockInUse) (now : Nat) : t = .hibernate ↔ pinClock t c now ≠ .main := by
  unfold pinClock
  by_cases h : t = .hibernate
  · rw [if_pos h]
    cases c <;> simp [h]
  · simp [h]

/-- What the scan of a pin reset evaluates the tier in. -/
theorem pinned_tested (hx : x = loadedSettings s.sm) (hv : x.detect.vote ≠ 0) (hm : m = s.pinned raw) (hl : l = lowCurrentTest m)
    (hw : w = s.clk.watch.toTime) :
    Pinned l s.ws.array x.store (s.patrolAt x.store.interval) x.filters x.uplink w := by
  obtain ⟨powered, clk, tb, si, fe, tu, ws, et, al, hmM, ca, hc, pt, sl, sm⟩ := pinned_fields hx hm hw
  have ptL : l.pt = m.pt := by rw [hl, lowCurrentTest_pt]
  have tbL : l.tb = m.tb := by rw [hl, lowCurrentTest_tb]
  have clkL : l.clk = m.clk := by rw [hl, lowCurrentTest_clk]
  have tier : l.pt.tier = s.pt.tier := by rw [ptL, pt]; rfl
  have tuL := lowCurrentTest_tu_eq m
  have siL := lowCurrentTest_si_eq (s := m)
  rw [← hl] at tuL siL
  have rest : l.tu = { resetTrigger x.detect s.pt.tier with quietEnd := l.tu.quietEnd } := by rw [tuL, tu]
  have clock : l.pt.tier = .hibernate ↔ l.tb.clock ≠ .main := by
    rw [tier, tbL, tb]
    exact pinClock_main _ _ _
  refine ⟨⟨?_, ?_, ?_, ?_, ?_, ?_, ?_, fun c => ?_, ?_, ?_, ?_⟩, ?_, ?_, ?_, ?_, clock, fun hib => ?_, ?_, ?_⟩
  · rw [hl, lowCurrentTest_fe, fe]
  · rw [hl, lowCurrentTest_ws, ws, ← hl, tier]
  · rw [hl, lowCurrentTest_et_of_none (by rw [tu]; rfl), et]
  · rw [hl, lowCurrentTest_al, al]
  · rw [hl, lowCurrentTest_sl, sl]
  · rw [rest]
    rfl
  · rw [rest, tier]
    rfl
  · have chan : l.tu.chans.get c = resetTriggerChannel (enabledIn s.pt.tier c) := by
      rw [rest]
      cases c <;> rfl
    rw [chan]
    unfold resetTriggerChannel
    cases enabledIn s.pt.tier c <;> simp
  · rw [rest]
    exact hv
  · rw [hl, lowCurrentTest_sm, sm]
    rfl
  · rw [ptL, pt]
    rfl
  · unfold State.patrolAt
    rw [tier, clkL, clk]
  · rw [clkL, clk]
  · rw [clkL, clk, hw]
  · rw [tier, ptL, pt]
  · rw [tuL]
    have off : m.tb.clock ≠ .main := by rw [← tbL]; exact clock.mp hib
    rw [if_neg fun h => off h.1.1, tu]
    rfl
  · rw [rest]
    rfl
  · rw [siL, si]

/-! ## The heater of a pin reset -/

/-- The test and the decision together: one of them switches at most. -/
theorem pin_switches (hl : l = lowCurrentTest m) {c : State} (hc : c.hc = l.hc) (hz : z.hc = (heaterDecide false c).hc) :
    (l.hc.state ≠ m.hc.state ∨ z.hc.state ≠ l.hc.state ↔ z.hc.state ≠ m.hc.state) ∧
      (l.hc.state ≠ m.hc.state → z.hc.state = l.hc.state) := by
  have fault : l.hc.state ≠ m.hc.state → z.hc.state = l.hc.state := fun hne => by
    have state : l.hc.state = .fault := by
      rw [hl] at hne ⊢
      exact (lowCurrentTest_hc m).2.2 hne
    rw [hz, heaterDecide_fault (by rw [hc, state])]
    show c.hc.state = l.hc.state
    rw [hc]
  refine ⟨?_, fault⟩
  by_cases same : l.hc.state = m.hc.state
  · simp [same]
  · simp [same, fault same]

/-- The heat mark and the quiet window of a pin reset (R29, R53, R163). -/
theorem pin_marks (hx : x = loadedSettings s.sm) (hm : m = s.pinned raw) (hl : l = lowCurrentTest m) (hw : w = s.clk.watch.toTime)
    (hF : Followed l z s.ws.array x.store x.filters x.uplink w) (hib : s.pt.tier = .hibernate → z.pt.tier = .hibernate) :
    z.si = { resetSample with heatMark := decide (s.pt.tier ≠ .hibernate ∧ z.hc.state ≠ s.hc.state) } ∧
      z.tu = { resetTrigger x.detect z.pt.tier with
        chans := z.tu.chans
        quietEnd :=
          if z.pt.tier = .hibernate ∨ z.hc.state = s.hc.state ∨ x.detect.quietWindow = 0 then none
          else some (x.detect.quietWindow * 100 % 4294967296) } := by
  obtain ⟨-, -, tb, si, -, tu, -, -, -, -, -, hc, -, -, -⟩ := pinned_fields hx hm hw
  obtain ⟨c, -, hcC, -, hcZ⟩ := hF.heat
  obtain ⟨either, fault⟩ := pin_switches hl hcC hcZ
  have stateM : m.hc.state = s.hc.state := by rw [hc]
  rw [stateM] at either fault
  have main : m.tb.clock = .main ↔ s.pt.tier ≠ .hibernate := by
    rw [tb]
    exact (not_congr (pinClock_main s.pt.tier s.tb.clock s.clk.watchRun)).trans not_not |>.symm
  have tbL : l.tb = m.tb := by rw [hl, lowCurrentTest_tb]
  have siL := lowCurrentTest_si_eq (s := m)
  have tuL := lowCurrentTest_tu_eq m
  rw [← hl, stateM] at siL tuL
  have mark : (l.si.heatMark || decide (l.tb.clock = .main ∧ z.hc.state ≠ l.hc.state)) =
      decide (s.pt.tier ≠ .hibernate ∧ z.hc.state ≠ s.hc.state) := by
    rw [siL, tbL, si, Bool.eq_iff_iff]
    simp only [resetSample, Bool.false_or, Bool.or_eq_true, decide_eq_true_eq, main, ← and_or_left, either]
  have quiet : (if z.pt.tier = .hibernate then none
      else if (l.tb.clock = .main ∧ z.hc.state ≠ l.hc.state) ∧ l.tu.params.quietWindow ≠ 0 then
        some ((l.tu.delivery + l.tu.params.quietWindow * 100) % 4294967296)
      else l.tu.quietEnd) =
      if z.pt.tier = .hibernate ∨ z.hc.state = s.hc.state ∨ x.detect.quietWindow = 0 then none
      else some (x.detect.quietWindow * 100 % 4294967296) := by
    by_cases hibZ : z.pt.tier = .hibernate
    · rw [if_pos hibZ, if_pos (.inl hibZ)]
    have runs : m.tb.clock = .main := main.mpr (mt hib hibZ)
    have params : l.tu.params.quietWindow = x.detect.quietWindow := by rw [tuL, tu]; rfl
    have delivery : l.tu.delivery = 0 := by rw [tuL, tu]; rfl
    have first : l.tu.quietEnd =
        if l.hc.state ≠ s.hc.state ∧ x.detect.quietWindow ≠ 0 then some (x.detect.quietWindow * 100 % 4294967296) else none := by
      rw [tuL, tu, if_congr (and_congr_left' (and_iff_right runs)) rfl rfl]
      show (if l.hc.state ≠ s.hc.state ∧ x.detect.quietWindow ≠ 0 then some ((0 + x.detect.quietWindow * 100) % 4294967296) else none) = _
      rw [Nat.zero_add]
    rw [if_neg hibZ, params, delivery, first, Nat.zero_add, tbL, if_congr (and_congr_left' (and_iff_right runs)) rfl rfl]
    by_cases zl : z.hc.state = l.hc.state
    · by_cases q0 : x.detect.quietWindow = 0 <;> by_cases ls : l.hc.state = s.hc.state <;> simp [hibZ, zl, q0, ls]
    · have zs : z.hc.state ≠ s.hc.state := either.mp (.inr zl)
      have ls : l.hc.state = s.hc.state := by
        by_contra ls
        exact zl (fault ls)
      by_cases q0 : x.detect.quietWindow = 0 <;> simp [hibZ, zs, ls, q0]
  refine ⟨?_, ?_⟩
  · have whole := hF.si
    rwa [mark] at whole
  · have whole := hF.tu
    rw [quiet] at whole
    generalize z.tu.chans = chans at whole ⊢
    rw [whole, tuL, tu]
    rfl

end

end Sys2Proof.Machine

/-! PROOFS. Pin reset: its charge, its heater, and the whole of it (O55). -/

namespace Sys2Proof.Machine

section

variable {s m l z t : State} {raw : RawScan} {x : Settings} {w : Time}

/-- The charge that a pin reset keeps (R152, R154). -/
theorem pinCharge_fields (x : Settings) (k : ChargeUnit) {c : ChargeUnit} (hc : c = pinCharge x k) :
    (x.limits.capacityMah = k.limits.capacityMah →
        c.q = k.q ∧ c.soc = k.soc ∧ c.fullLatch = k.fullLatch ∧ c.estimated = k.estimated) ∧
      (x.limits.capacityMah ≠ k.limits.capacityMah → c.q = min k.q (x.limits.capacityMah * 3600 : Nat) ∧ c.estimated = true) ∧
      c.estimateMark = k.estimateMark ∧ c.uncounted = k.uncounted ∧ c.lastFull = k.lastFull ∧ c.lastEmpty = k.lastEmpty ∧
      c.limits = x.limits ∧ c.table = x.table ∧ c.fullRun = 0 ∧ c.emptyRun = 0 := by
  have capacity : x.limits.capacity = k.limits.capacity ↔ x.limits.capacityMah = k.limits.capacityMah := by
    unfold BatteryLimits.capacity
    omega
  unfold pinCharge at hc
  by_cases same : x.limits.capacityMah = k.limits.capacityMah
  · rw [if_pos (capacity.mpr same)] at hc
    subst hc
    exact ⟨fun _ => ⟨rfl, rfl, rfl, rfl⟩, fun hne => absurd same hne, rfl, rfl, rfl, rfl, rfl, rfl, rfl, rfl⟩
  · rw [if_neg (mt capacity.mp same)] at hc
    subst hc
    exact ⟨fun h => absurd h same, fun _ => ⟨rfl, rfl⟩, rfl, rfl, rfl, rfl, rfl, rfl, rfl, rfl⟩

/-- HC after a pin reset: the test and one decision (R164, R167). -/
theorem pin_heater (hx : x = loadedSettings s.sm) (hm : m = s.pinned raw) (hl : l = lowCurrentTest m) (hw : w = s.clk.watch.toTime)
    (hF : Followed l z s.ws.array x.store x.filters x.uplink w) :
    (∀ v : State, SameHeat z v → v.hc = { s.hc with params := x.heater, change := none } → v.tb = z.tb →
        z.hc = (heaterDecide false (lowCurrentTest v)).hc) ∧
      z.hc.params = x.heater ∧ z.hc.change = none := by
  obtain ⟨-, clk, -, -, -, -, -, -, -, hmM, -, hc, -, -, -⟩ := pinned_fields hx hm hw
  obtain ⟨c, look, hcC, tbC, hcZ⟩ := hF.heat
  obtain ⟨params, change, -⟩ := lowCurrentTest_hc m
  rw [← hl] at params change
  have clkZ : z.clk = m.clk := by rw [hF.clk, hl, lowCurrentTest_clk]
  have hmZ : z.hm = m.hm := by rw [hF.hm, hl, lowCurrentTest_hm]
  have watch : m.clk.time = m.clk.watch.toTime := by rw [clk, hw]
  refine ⟨fun v hv hcV tbV => ?_, ?_, ?_⟩
  · have hcEq : (lowCurrentTest v).hc = c.hc := by
      rw [hcC, hl]
      refine lowCurrentTest_hc_congr (by rw [hcV, hc]) (by rw [hv.readings, hmZ]) ?_
      rw [now_of_watch watch, now_of_watch (by rw [hv.clk, clkZ, watch]), hv.clk, clkZ]
    have test : SameHeat v (lowCurrentTest v) := by
      refine ⟨by simp, by simp, by simp, eventInProgress_congr ?_, by simp⟩
      rw [lowCurrentTest_tu_eq]
    rw [hcZ]
    exact ((look.trans (hv.trans test)).heaterDecide_hc_eq hcEq (by rw [lowCurrentTest_tb, tbV, tbC])).symm
  · rw [hcZ, heaterDecide_params, hcC, params, hc]
  · have idle : eventInProgress c = false := by
      rw [← look.event]
      unfold eventInProgress
      rw [hF.tu]
      cases z.pt.tier <;> rfl
    rw [hcZ]
    exact heaterDecide_change_of_idle idle (by rw [hcC]; exact change (by rw [hc]))

/-- Grade and uncertainty after a pin reset (R24). -/
theorem pinGrade_eq (g : Grade) (u : Nat) :
    pinGrade g u =
      (if g = .unset then .unset
        else if g = .free ∨ 10000000 < min 4294967295 (u + 1000000) then .free
        else .hold,
        if g = .unset ∨ g = .free then u else min 4294967295 (u + 1000000)) := by
  have limit : freeLimit = 10000000 := rfl
  have top : max32 = 4294967295 := rfl
  unfold pinGrade
  cases g <;> simp [limit, top]

/-- How a pin reset leaves the power tier, from a tier kept or changed, and in HIBERNATE (R176, R185). -/
theorem pin_tier (hx : x = loadedSettings s.sm) (hv : x.detect.vote ≠ 0) (hm : m = s.pinned raw) (hl : l = lowCurrentTest m)
    (hw : w = s.clk.watch.toTime) (hz : z = heaterDecide false (pinTierScan l)) :
    Followed l z s.ws.array x.store x.filters x.uplink w ∧
      (s.pt.tier ≠ .hibernate → z.tb.clock = .main) ∧
      (s.pt.tier = .hibernate → z.pt.tier = .hibernate ∧ z.tb.clock ≠ .main ∧ z.pt.enModem = false ∧ z.pt.gasp = none ∧
        ∀ due, s.tb.clock = .settle due → z.tb.clock = .settle (s.clk.watchRun + 4096)) ∧
      (s.pt.tier ≠ .hibernate → z.pt.tier = .hibernate → z.pt.enModem = true ∧ z.pt.gasp = some (s.clk.watchRun + 3932160)) ∧
      (z.pt.tier = s.pt.tier →
        z.pt.tierTime = s.pt.tierTime ∧ z.pt.host = s.pt.host ∧ z.pt.wakeTime = s.pt.wakeTime ∧ z.pt.lastWake = s.pt.lastWake ∧
          z.pt.enSens = s.pt.enSens ∧ z.pt.silenceFrom = if s.pt.host.isOn then some s.clk.watchRun else none) ∧
      (s.pt.exitMark = true → s.pt.tier = .hibernate → z.pt.exitMark = true) := by
  have pinned := pinned_tested hx hv hm hl hw
  obtain ⟨-, clk, tb, -, -, -, -, -, -, -, -, -, pt, -, -⟩ := pinned_fields hx hm hw
  have ptL : l.pt = m.pt := by rw [hl, lowCurrentTest_pt]
  have tbL : l.tb = m.tb := by rw [hl, lowCurrentTest_tb]
  have runL : l.clk.watchRun = s.clk.watchRun := by rw [hl, lowCurrentTest_clk, clk]
  have tierL : l.pt.tier = s.pt.tier := by rw [ptL, pt]; rfl
  have clockL : l.tb.clock = pinClock s.pt.tier s.tb.clock s.clk.watchRun := by rw [tbL, tb]; rfl
  have runs : s.pt.tier ≠ .hibernate → l.tb.clock = .main := fun ho => by rw [clockL]; exact if_neg ho
  by_cases kept : (tierScan true l).pt.tier = l.pt.tier
  · obtain ⟨hF, tier, ptZ, tbZ⟩ := followed_kept pinned kept hz
    have same : z.pt = { l.pt with exitMark := z.pt.exitMark } := by
      obtain h | h := ptZ
      · rw [h]
      · rw [h]
    refine ⟨hF, fun ho => ?_, fun hib => ⟨by rw [tier, tierL, hib], ?_, ?_, ?_, fun due settle => ?_⟩, fun ho hib => ?_, fun _ => ?_,
      fun mark _ => ?_⟩
    · obtain h | ⟨watch, -⟩ := tbZ
      · rw [h, runs ho]
      · rw [runs ho] at watch
        simp at watch
    · obtain h | ⟨-, h⟩ := tbZ
      · rw [h]
        exact pinned.clock.mp (tierL.trans hib)
      · rw [h]
        simp
    · rw [same, pinned.modem, tierL, hib]
      rfl
    · rw [same, pinned.gasp]
    · have settling : l.tb.clock = .settle (s.clk.watchRun + 4096) := by
        rw [clockL, settle, hib]
        rfl
      obtain h | ⟨watch, -⟩ := tbZ
      · rw [h, settling]
      · rw [settling] at watch
        simp at watch
    · exact absurd (tierL.symm.trans (tier.symm.trans hib)) ho
    · rw [same, ptL, pt]
      exact ⟨rfl, rfl, rfl, rfl, rfl, rfl⟩
    · obtain h | h := ptZ
      · rw [h, ptL, pt]
        exact mark
      · rw [h]
  · obtain ⟨hF, tier, ho, tbZ, gasp⟩ := followed_changed pinned kept hz
    rw [tierL] at tier ho
    exact ⟨hF, fun _ => by rw [tbZ, runs ho], fun hib => absurd hib ho, fun _ hib => by rw [← runL]; exact gasp hib,
      fun h => absurd h tier, fun _ hib => absurd hib ho⟩

end

end Sys2Proof.Machine

/-! PROOFS. Pin reset keeps time, charge and the tier's record, and sets the other blocks (O55). -/

namespace Sys2Proof.Machine

section

variable {s m l z t : State} {raw : RawScan} {x : Settings} {w : Time}

/-- The time base of a pin reset (R24). -/
theorem pinTimeBase_eq (hl : l.tb = pinTimeBase s.pt.tier s.clk.watchRun s.tb) (hz : z.tb = { l.tb with clock := z.tb.clock }) :
    z.tb =
      { clock := z.tb.clock
        grade :=
          if s.tb.grade = .unset then .unset
          else if s.tb.grade = .free ∨ 10000000 < min 4294967295 (s.tb.u + 1000000) then .free
          else .hold
        u := if s.tb.grade = .unset ∨ s.tb.grade = .free then s.tb.u else min 4294967295 (s.tb.u + 1000000)
        integral := s.tb.integral, steer := s.tb.steer, drift := s.tb.drift, labelRx := [], label := none, lastPulse := none
        lastTheta := none, lossTimer := none, goodRun := 0, rejectRun := 0, usedCount := 0, rejectedCount := 0
        outOfWindowCount := 0, unlabelledCount := 0, stepCount := 0, lastStrobe := none, movedTo := none, strobeSeq := 0
        stepPending := false, freeRecovery := false } := by
  have grade := pinGrade_eq s.tb.grade s.tb.u
  generalize z.tb.clock = clock at hz ⊢
  rw [hz, hl]
  unfold pinTimeBase
  rw [grade]
  rfl

/-- The charge of a pin reset after its scan (R139, R144 to R148, R152, R154). -/
theorem pin_charge (hx : x = loadedSettings s.sm) (hm : m = s.pinned raw) {c : ChargeUnit} {r : Six Reading} (hc : c = m.ca)
    (hr : r = firstReadings x.cal raw) :
    (x.limits.capacityMah = s.ca.limits.capacityMah →
        c.q = s.ca.q ∧ c.soc = s.ca.soc ∧ c.fullLatch = s.ca.fullLatch ∧ c.estimated = s.ca.estimated) ∧
      (x.limits.capacityMah ≠ s.ca.limits.capacityMah → c.q = min s.ca.q (x.limits.capacityMah * 3600 : Nat) ∧ c.estimated = true) ∧
      c.estimateMark = s.ca.estimateMark ∧ c.uncounted = s.ca.uncounted ∧ c.lastFull = s.ca.lastFull ∧ c.lastEmpty = s.ca.lastEmpty ∧
      c.limits = x.limits ∧ c.table = x.table ∧ c.fullRun ≤ 1 ∧ c.emptyRun ≤ 1 ∧
      (c.fullRun = 1 ↔
        ∃ v i, r.vbat.valid = true ∧ r.vbat.value = some v ∧ r.ibat.valid = true ∧ r.ibat.value = some i ∧
          x.limits.vFull ≤ v ∧ 0 < i ∧ i ≤ x.limits.iTaper) ∧
      (c.emptyRun = 1 ↔ ∃ v, r.vbat.valid = true ∧ r.vbat.value = some v ∧ v ≤ x.limits.vEmpty) ∧
      (c.chargeOn = true ↔
        (∃ v, r.vsrc.valid = true ∧ r.vsrc.value = some v ∧ x.limits.vSrcMin ≤ v) ∧
          (∃ v, r.tbat.valid = true ∧ r.tbat.value = some v ∧ x.limits.chgTmin ≤ v ∧ v ≤ x.limits.chgTmax) ∧
          c.fullLatch = false) := by
  obtain ⟨-, -, -, -, -, -, -, -, -, -, ⟨now, ca⟩, -⟩ := pinned_fields hx hm rfl
  rw [← hr, ← hc] at ca
  obtain ⟨k, hk⟩ : ∃ k, k = pinCharge x s.ca := ⟨_, rfl⟩
  rw [← hk] at ca
  obtain ⟨same, other, mark, uncounted, lastFull, lastEmpty, limits, table, fullRun, emptyRun⟩ := pinCharge_fields x s.ca hk
  obtain ⟨whole, fullLe, emptyLe, fullIff, emptyIff, charge⟩ := resyncStep_first fullRun emptyRun ca
  rw [limits, showsFull_iff] at fullIff
  rw [limits, showsEmpty_iff] at emptyIff
  rw [chargeAllowed_iff, limits] at charge
  generalize c.fullRun = f at *
  generalize c.emptyRun = e at *
  generalize c.chargeOn = on at *
  subst whole
  exact ⟨same, other, mark, uncounted, lastFull, lastEmpty, limits, table, fullLe, emptyLe, fullIff, emptyIff, charge⟩

theorem endScan_eq (due : Nat) (z : State) :
    endScan due z =
      { z with hm := { z.hm with
          interval := if z.pt.tier = .hibernate then 60 else 1
          scanDue := due + (if z.pt.tier = .hibernate then 60 else 1) * 32768 } } := rfl

end

/-- Settles O55. -/
theorem pinResetKeepsTimeAndCharge : Obligations.PinResetKeepsTimeAndCharge := by
  intro d raw s x hp hx hv
  obtain ⟨e, he⟩ : ∃ e, e = s.elapse d := ⟨_, rfl⟩
  have kept : e.tb = s.tb ∧ e.ca = s.ca ∧ e.hc = s.hc ∧ e.pt = s.pt ∧ e.sm = s.sm ∧ e.ws = s.ws := by
    rw [he]
    exact ⟨rfl, rfl, rfl, rfl, rfl, rfl⟩
  obtain ⟨tbE, caE, hcE, ptE, smE, wsE⟩ := kept
  have hxE : x = loadedSettings e.sm := by rw [smE]; exact hx
  obtain ⟨w, hw⟩ : ∃ w, w = e.clk.watch.toTime := ⟨_, rfl⟩
  obtain ⟨m, hm⟩ : ∃ m, m = e.pinned raw := ⟨_, rfl⟩
  obtain ⟨l, hl⟩ : ∃ l, l = lowCurrentTest m := ⟨_, rfl⟩
  obtain ⟨z, hz⟩ : ∃ z, z = heaterDecide false (pinTierScan l) := ⟨_, rfl⟩
  obtain ⟨t, ht⟩ : ∃ t, t = endScan e.clk.watchRun z := ⟨_, rfl⟩
  have run : exec (.pinReset d raw) s = .next t := by
    rw [exec_pinReset d hp, ht, hz, hl, hm, he, pinReset_eq]
  obtain ⟨hF, main, hib, entered, sameTier, exitMark⟩ := pin_tier hxE hv hm hl hw hz
  obtain ⟨-, clkM, tbM, -, feM, tuM, wsM, -, -, hmM, -, -, ptM, -, smM⟩ := pinned_fields hxE hm hw
  obtain ⟨si, tu⟩ := pin_marks hxE hm hl hw hF fun h => (hib h).1
  obtain ⟨heat, heaterParams, change⟩ := pin_heater hxE hm hl hw hF
  have readings : z.hm.readings = firstReadings x.cal raw := by rw [hF.hm, hl, lowCurrentTest_hm, hmM]
  have ca : z.ca = m.ca := by rw [hF.ca, hl, lowCurrentTest_ca]
  obtain ⟨same, other, mark, uncounted, lastFull, lastEmpty, limits, table, fullLe, emptyLe, fullIff, emptyIff, charge⟩ :=
    pin_charge hxE hm (c := z.ca) (r := z.hm.readings) ca readings
  have tb := pinTimeBase_eq (s := e) (l := l) (z := z) (by rw [hl, lowCurrentTest_tb, tbM]) hF.tb
  rw [endScan_eq] at ht
  have whole : t.hm.readings = z.hm.readings ∧ t.ca = z.ca ∧ t.tb = z.tb ∧ t.pt = z.pt ∧ t.clk = z.clk ∧ t.hc = z.hc ∧ t.si = z.si ∧
      t.fe = z.fe ∧ t.tu = z.tu ∧ t.ws = z.ws ∧ t.et = z.et ∧ t.al = z.al ∧ t.sl = z.sl ∧ t.sm = z.sm := by
    rw [ht]
    exact ⟨rfl, rfl, rfl, rfl, rfl, rfl, rfl, rfl, rfl, rfl, rfl, rfl, rfl, rfl⟩
  obtain ⟨readingsT, caT, tbT, ptT, clkT, hcT, siT, feT, tuT, wsT, etT, alT, slT, smT⟩ := whole
  refine ⟨t, run, ?_⟩
  have tierL : l.pt.tier = e.pt.tier := by rw [hl, lowCurrentTest_pt, ptM]; rfl
  have patrol : z.patrolAt x.store.interval =
      if x.store.interval ≠ 0 ∧ (z.pt.tier = .full ∨ z.pt.tier = .conserve) then some (e.clk.mainRun + x.store.interval * 40000000)
      else none := by
    unfold State.patrolAt
    rw [hF.clk, hl, lowCurrentTest_clk, clkM]
  have ws := hF.ws
  rw [patrol] at ws
  obtain ⟨reads, free⟩ := freshStore_reads (on := enabledIn z.pt.tier) (array := e.ws.array) (p := x.store)
    (due := if x.store.interval ≠ 0 ∧ (z.pt.tier = .full ∨ z.pt.tier = .conserve) then
      some (e.clk.mainRun + x.store.interval * 40000000) else none)
  rw [← ws] at reads free
  have onset : z.tu.onset = ⟨0, 0⟩ ∧ z.tu.onsetDelivery = 0 ∧ z.tu.postEnd = 0 := by
    rw [tu]
    exact ⟨rfl, rfl, rfl⟩
  obtain ⟨onset, onsetDelivery, postEnd⟩ := onset
  rw [← he, ← tbE, ← caE, ← hcE, ← ptE, ← smE, ← wsE]
  refine ⟨?_, ?_, ?_, ?_, ?_, ?_, ?_, ?_, ?_, ?_, ?_, ?_, ?_, ?_, ?_, ?_, ?_, ?_, ?_, ?_, ?_, ?_, ?_, ?_, ?_, ?_, ?_, ?_, ?_, ?_, ?_, ?_, ?_,
    ?_, ?_, ?_, ?_, ?_, ?_⟩
  · rw [clkT, hF.clk, hl, lowCurrentTest_clk, clkM, hw]
  · rw [tbT]
    exact tb
  · rw [tbT]
    exact main
  · rw [tbT, ptT]
    exact hib
  · rw [caT]
    exact same
  · rw [caT]
    exact other
  · rw [caT]
    exact mark
  · rw [caT]
    exact uncounted
  · rw [caT]
    exact lastFull
  · rw [caT]
    exact lastEmpty
  · rw [caT]
    exact limits
  · rw [caT]
    exact table
  · rw [caT]
    exact fullLe
  · rw [caT]
    exact emptyLe
  · rw [caT, readingsT]
    exact fullIff
  · rw [caT, readingsT]
    exact emptyIff
  · rintro reading rfl
    have hmT : t.hm = { z.hm with
        interval := if z.pt.tier = .hibernate then 60 else 1
        scanDue := e.clk.watchRun + (if z.pt.tier = .hibernate then 60 else 1) * 32768 } := by rw [ht]
    rw [hmT, hF.hm, hl, lowCurrentTest_hm, hmM, ptT]
    rfl
  · rw [caT, readingsT]
    exact charge
  · intro v hv
    have look : SameHeat z v := by
      rw [hv]
      exact ⟨readingsT, caT, by rw [ptT], eventInProgress_congr (by rw [tuT]), clkT⟩
    rw [hcT]
    exact heat v look (by rw [hv]) (by rw [hv, tbT])
  · rw [hcT]
    exact heaterParams
  · rw [hcT]
    exact change
  · rw [etT]
    exact hF.et
  · rw [siT, hcT]
    exact si
  · intro c
    rw [feT, hF.fe]
    cases c <;> rfl
  · rw [feT, hF.fe]
    rfl
  · rw [tuT, ptT, hcT, onset, onsetDelivery, postEnd]
    exact tu
  · intro c
    have chan : l.tu.chans.get c = resetTriggerChannel (enabledIn e.pt.tier c) := by
      rw [hl, lowCurrentTest_tu_eq, tuM]
      cases c <;> rfl
    rw [tuT, ptT, hF.chan, chan, tierL]
    simp only [mem_enabledChannels]
    cases enabledIn e.pt.tier c <;> cases enabledIn z.pt.tier c <;> rfl
  · rw [wsT, ptT, ws]
    rfl
  · intro c q hq
    rw [wsT, ptT]
    simp only [mem_enabledChannels]
    exact reads c q hq
  · rw [wsT]
    exact free
  · rintro sec f rfl rfl
    rw [alT, hF.al, ptT, tierL, ← hw]
    rfl
  · rw [ptT, alT]
    exact hF.modem
  · rw [ptT]
    exact entered
  · rw [slT]
    exact hF.sl
  · rw [smT, hF.sm, hl, lowCurrentTest_sm, smM]
    unfold loadMemory
    cases e.sm.image <;> rfl
  · rw [ptT, hF.params, hl, lowCurrentTest_pt, ptM]
    rfl
  · rw [ptT, hF.cycles, hl, lowCurrentTest_pt, ptM]
    rfl
  · rw [ptT]
    exact sameTier
  · rw [ptT]
    exact exitMark

end Sys2Proof.Machine
